-- ==== Sys2Proof/Word.lean ====
section
/-! DEFINITION. The word, the byte, the tag of R12 and the tagged word of R34, which the whole model shares. -/

namespace Sys2Proof

/-- A 32-bit word of the fabric or of a register (R5, R34). -/
abbrev Word := BitVec 32

/-- One byte. -/
abbrev Byte := BitVec 8

/-- The 16-bit tag that travels with every value (R12). -/
structure Tag where
  /-- quality code, 0 good to 7 bad, not initialised (R13) -/
  q : BitVec 3
  /-- class: false timed, true placed -/
  c : Bool
  /-- forced -/
  f : Bool
  /-- history incomplete -/
  h : Bool
  /-- tier cycles since the last fresh update, saturating at 15 -/
  age : BitVec 4
  /-- of safety origin -/
  s : Bool
  /-- ORIGIN, 0 field to 10 supervisor -/
  origin : BitVec 5
deriving DecidableEq, Repr, Inhabited

/-- A value with its tag (R34). -/
structure TWord where
  val : Word
  tag : Tag
deriving DecidableEq, Repr, Inhabited

end Sys2Proof
end

