-- ==== Sys2Proof/Config.lean ====
section
/-! DEFINITION. What one module fixes at manufacture, and the free values: constants with no body, so that no proof can
see what they are (assumption log 1, 2). -/

namespace Sys2Proof.Config

/-- STN.HW.ISSUE, the hardware issue of the module, fixed at the factory (assumption log 2). -/
opaque hwIssue : BitVec 16
/-- STN.SERIAL, the serial number of the module, fixed at the factory (assumption log 2). -/
opaque serial : BitVec 64
/-- STN.FW, the firmware version word (assumption log 2). -/
opaque fw : Word
/-- NET.MAC, the MAC address of the module, fixed at the factory (assumption log 2). -/
opaque mac : BitVec 48

/-- Key ID of entry 0 of the key table, set at the factory (R330; assumption log 2). -/
opaque keyId : Byte
/-- The 256-bit secret of entry 0 of the key table, set at the factory (R330; assumption log 2). -/
opaque keySecret : List Byte

/-- A byte the spec leaves open; the argument is the draw's number (assumption log 1). -/
opaque freeByte : Nat → Byte
/-- A word the spec leaves open; the argument is the draw's number (assumption log 1). -/
opaque freeWord : Nat → Word
/-- A truth value the spec leaves open; the argument is the draw's number (assumption log 1). -/
opaque freeBool : Nat → Bool
/-- A signed amount the spec leaves open; the argument is the draw's number (assumption log 1). -/
opaque freeInt : Nat → Int

/-- Sign and payload of the quiet NaN that a binary32 or binary64 operation on two operand patterns yields; the first
argument is the number of payload bits (assumption log 3). -/
opaque nanBits : Nat → Nat → Nat → Bool × Nat

/-- The crossbar slots one port uses in a T0 period under an image, which the tool's slot tables fix and no section of
the image carries (R47 check 1; assumption log 4). -/
opaque xbarPeak : List Byte → Nat
/-- Whether the tool's slot tables use a port twice in one slot (R47 check 2; assumption log 4). -/
opaque xbarClash : List Byte → Bool
/-- The timed bits on the busiest Sash lane and the busiest Transom port in a T0 period (R47 check 7; assumption log 4). -/
opaque linkBits : List Byte → Nat × Nat
/-- The port, the clashing port, and the Sash lane or Transom port that the checks 1, 2 and 7 report (R48; assumption log 4). -/
opaque slotObject : List Byte → Nat × Nat × Nat
/-- ns from an instant of the tier reference, taken within 100 ms, to the next window of the timed schedule on the Sash link (0) or
Transom port q (1 + q), 0 inside a window (R49; assumption log 4). -/
opaque linkGap : List Byte → Nat → Nat → Nat
/-- The KiB of on-die SRAM that a byte string of sections takes as timed data beside its solver slots (R47 check 9, R361;
assumption log 4). -/
opaque timedKib : List Byte → Nat

/-- The 4 KiB pages that a resynchronisation sends of a running image and of the partitions, which have no layout (R275; assumption log 16,
35). -/
opaque syncPages : List Byte → Nat

/-- Which way a FREQ quotient rounds when it falls midway between two mHz: operands are the edges and the span in ns
(R218; assumption log 1). -/
opaque freqTie : Nat → Nat → Bool
/-- Which way a PWM on time rounds when it falls midway on the 20 ns grid: duty and period (R221; assumption log 1). -/
opaque pwmTie : Nat → Nat → Bool

/-- The integer a binary64 pattern that is not finite rounds to (R198; assumption log 1). -/
opaque nanRound : Nat → Int

/-- The period in ns that the sender of a receive telegram declares, which no record of the receiver's image carries (R326
point 5; assumption log 4). -/
opaque senderNs : List Byte → Nat → Nat

end Sys2Proof.Config
end

