-- ==== Sys2Proof/Machine/Bits.lean ====
section
/-! DEFINITION. Bit fields of register words, saturating counts, byte order, and the two list shapes the state uses
(a vector changed at one place, an association list with rising keys). -/

namespace Sys2Proof.Machine
open Sys2Proof

/-- The field of `width` bits at bit `lo` of a register word, as a number. -/
def fld (w : Word) (lo width : Nat) : Nat := (w.toNat >>> lo) % 2 ^ width

/-- Bit `i` of a register word. -/
def bit (w : Word) (i : Nat) : Bool := w.getLsbD i

/-- A truth value as a number. -/
def b2n (b : Bool) : Nat := if b then 1 else 0

/-- A register word from its fields, each given as (low bit, width, value); bits not named read 0 (R6). -/
def pack (fs : List (Nat × Nat × Nat)) : Word :=
  BitVec.ofNat 32 (fs.foldl (fun a f => a + (f.2.2 % 2 ^ f.2.1) <<< f.1) 0)

/-- The word `w` with the field of `width` bits at `lo` replaced by `v`. -/
def setFld (w : Word) (lo width v : Nat) : Word :=
  let m : Word := BitVec.ofNat 32 ((2 ^ width - 1) <<< lo)
  (w &&& ~~~m) ||| (BitVec.ofNat 32 ((v % 2 ^ width) <<< lo))

/-- Two's-complement sign extension of the low `width` bits of a number. -/
def sext (width n : Nat) : Int :=
  let m := n % 2 ^ width
  if m < 2 ^ (width - 1) then (m : Int) else (m : Int) - (2 ^ width : Nat)

/-- A count that stops at its largest value. -/
def satInc {n : Nat} (c : BitVec n) : BitVec n := if c = BitVec.allOnes n then c else c + 1#n

/-- A saturating count advanced by `k`. -/
def satAdd {n : Nat} (c : BitVec n) (k : Nat) : BitVec n := BitVec.ofNat n (min (c.toNat + k) (2 ^ n - 1))

/-- A number clipped to the width of the field that shows it. -/
def satNat (n v : Nat) : BitVec n := BitVec.ofNat n (min v (2 ^ n - 1))

/-- The vector `v` with the element at `i` changed by `f`. -/
def vmod {α : Type} {n : Nat} (v : Vector α n) (i : Fin n) (f : α → α) : Vector α n := v.set i (f v[i])

/-- The vector `v` with the element at index `i` changed by `f`, unchanged where no such element is. -/
def vmodN {α : Type} {n : Nat} (v : Vector α n) (i : Nat) (f : α → α) : Vector α n :=
  if h : i < n then v.set i (f v[i]) else v

/-- The element at index `i`, or `d` where no such element is. -/
def vget {α : Type} {n : Nat} (v : Vector α n) (i : Nat) (d : α) : α := if h : i < n then v[i] else d

/-- The indices 0 to n − 1. -/
def allFin (n : Nat) : List (Fin n) := List.finRange n

/-- The value a key has in an association list. -/
def aget {α : Type} : List (Nat × α) → Nat → Option α
  | [], _ => none
  | (k, v) :: r, i => if k = i then some v else aget r i

/-- The association list with key `i` set to `v`; keys stay strictly rising. -/
def aset {α : Type} : List (Nat × α) → Nat → α → List (Nat × α)
  | [], i, v => [(i, v)]
  | (k, w) :: r, i, v => if k = i then (i, v) :: r else if i < k then (i, v) :: (k, w) :: r else (k, w) :: aset r i v

/-- The association list without key `i`. -/
def adel {α : Type} (l : List (Nat × α)) (i : Nat) : List (Nat × α) := l.filter (fun p => p.1 ≠ i)

/-- `k` bytes of a number, least significant first (R5, R336). -/
def leN : Nat → Nat → List Byte
  | 0, _ => []
  | k + 1, v => BitVec.ofNat 8 v :: leN k (v / 256)

/-- The number that little-endian bytes spell. -/
def ofLe : List Byte → Nat
  | [] => 0
  | b :: r => b.toNat + 256 * ofLe r

/-- The number that big-endian bytes spell. -/
def ofBe (l : List Byte) : Nat := l.foldl (fun a b => a * 256 + b.toNat) 0

/-- `k` bytes of a number, most significant first. -/
def beN (k v : Nat) : List Byte := (leN k v).reverse

/-- `n` bytes of `l` from offset `o`; short where `l` ends. -/
def sub (l : List Byte) (o n : Nat) : List Byte := (l.drop o).take n

/-- The little-endian number of `n` bytes at offset `o`. -/
def rd (l : List Byte) (o n : Nat) : Nat := ofLe (sub l o n)

/-- The 32-bit little-endian word at offset `o`. -/
def rdW (l : List Byte) (o : Nat) : Word := BitVec.ofNat 32 (rd l o 4)

/-- A word's four bytes, least significant first (R5). -/
def wB (w : Word) : List Byte := leN 4 w.toNat

/-- `l` cut or filled with zeros to `n` bytes. -/
def fit (n : Nat) (l : List Byte) : List Byte := (l ++ List.replicate n 0#8).take n

/-- Whether every byte is 0. -/
def allZero (l : List Byte) : Bool := l.all (· == 0#8)

/-- The little-endian words of a byte list. -/
def wordsOf (l : List Byte) : List Word :=
  (List.range (l.length / 4)).map (fun i => rdW l (4 * i))

/-- Pieces of `n` bytes. -/
def chunks (n : Nat) (l : List Byte) : List (List Byte) :=
  if n = 0 then [] else (List.range ((l.length + n - 1) / n)).map (fun i => sub l (n * i) n)

/-- ⌈a ÷ b⌉. -/
def cdiv (a b : Nat) : Nat := (a + b - 1) / b

/-- The tag as its 16 bits (R12). -/
def tagBits (t : Tag) : BitVec 16 :=
  t.q ++ BitVec.ofBool t.c ++ BitVec.ofBool t.f ++ BitVec.ofBool t.h ++ t.age ++ BitVec.ofBool t.s ++ t.origin

/-- The tag that 16 bits spell (R12). -/
def tagOf (b : BitVec 16) : Tag :=
  { q := b.extractLsb' 13 3, c := b.getLsbD 12, f := b.getLsbD 11, h := b.getLsbD 10,
    age := b.extractLsb' 6 4, s := b.getLsbD 5, origin := b.extractLsb' 0 5 }

/-- The larger of two bit vectors read as numbers. -/
def bmax {n : Nat} (a b : BitVec n) : BitVec n := if a.toNat < b.toNat then b else a

/-- The tag with its quality raised to at least `n`. -/
def tagAtLeast (t : Tag) (n : BitVec 3) : Tag := { t with q := bmax t.q n }

/-- A tag with quality, history and origin only. -/
def mkTag (q : BitVec 3) (h : Bool) (age : BitVec 4) (s : Bool) (origin : BitVec 5) : Tag :=
  { q := q, c := false, f := false, h := h, age := age, s := s, origin := origin }

/-- The tag of a fresh good value of a block (R35). -/
def goodTag (origin : BitVec 5) : Tag := mkTag 0 false 0 false origin

/-- The tag of a value nothing has written since load or cold reset (R39). -/
def initTag (c : Bool) (origin : BitVec 5) : Tag :=
  { q := 7, c := c, f := false, h := true, age := 15, s := false, origin := origin }

/-- What an undefined DATA index reads as (R41). -/
def undefData : TWord := { val := 0, tag := { q := 6, c := false, f := false, h := true, age := 15, s := false, origin := 10 } }

/-- Combination of two operands' tags (R14); C and ORIGIN are those of the block that combines. -/
def combine (a b : Tag) (c : Bool) (origin : BitVec 5) : Tag :=
  { q := bmax a.q b.q, c := c, f := false, h := a.h || b.h, age := bmax a.age b.age, s := a.s && b.s, origin := origin }

/-- AGE one higher, saturating at 15 (R37). -/
def tagOlder (t : Tag) : Tag := { t with age := satInc t.age }

end Sys2Proof.Machine
end

