-- ==== Sys2Proof/Machine/AngState.lean ====
section
/-! DEFINITION. Plain-data state of the angle sources and the event scheduler (chapter 8). -/

namespace Sys2Proof.Machine
open Sys2Proof

/-- A counted edge: its timestamp in ns of the tier reference and its unwrapped angle in 2^−32 turn (R198). -/
structure AEdge where
  t : Nat
  th : Int
deriving DecidableEq, Repr

/-- One angle source (R190–R203). -/
structure ASrc where
  cfg : Word
  span : Word
  still : Word
  zeroOfs : Word
  /-- declared top speed in the units of VEL (R201) -/
  topSpeed : Int
  /-- bindings of ANGLE, TURNS, VEL, ACC and STATE -/
  binds : Vector Word 5
  /-- 0 not synchronised, 1 seeking, 2 synchronised -/
  sync : BitVec 2
  stillF : Bool
  rev : Bool
  filled : Bool
  loss : Bool
  cause : BitVec 3
  overspeed : Bool
  /-- published values -/
  angle : Word
  turns : Word
  vel : Word
  acc : Word
  /-- STATE as published last (R190) -/
  pst : Word
  /-- tag of the values published last -/
  tag : Tag
  /-- ANGLE, TURNS, VEL and ACC by the station's own estimator at the last boundary, while it is a standby (R208) -/
  own : Vector Word 4
  edgeCnt : Word
  errCnt : BitVec 16
  resync : Bool
  /-- count position of the last edge, unwrapped since synchronisation (R193, R194, R195) -/
  pos : Int
  /-- some edge has a position since synchronisation -/
  placed : Bool
  /-- counted edges since the estimate restarted, newest first, at most 2K + 1 (R198) -/
  edges : List AEdge
  /-- consecutive edges against the present direction (R202) -/
  against : Nat
  /-- toothed wheel: timestamp of the last edge that was not ignored -/
  lastT : Option Nat
  /-- T_ref as a fraction of ns (R194) -/
  refN : Nat
  refD : Nat
  /-- a gap candidate has been seen, and the edges since it, all of them normal teeth -/
  gapSeen : Bool
  sinceGap : Nat
  /-- corrected or erroneous periods within the present turn -/
  turnErr : Nat
  /-- electrical: the last crossing and how many valid ones stand in a row (R195) -/
  lastX : Option (Fin 6)
  validX : Nat
deriving DecidableEq, Repr

/-- One scheduled event (R204–R207). -/
structure AEvt where
  cfg : Word
  tgt : Word
  adv : BitVec 27
  vmin : Word
  vmax : Word
  tgtB : Word
  advB : Word
  ctrlB : Word
  /-- the control word -/
  mode : BitVec 2
  seq : BitVec 8
  armed : Bool
  /-- MODE under which it was armed: 1 once, 2 every pass -/
  armMode : BitVec 2
  late : Bool
  inhib : Bool
  seqTaken : BitVec 8
  fireCnt : BitVec 16
  lastT : Word
  /-- coverage mark as a binary64 pattern, none when coverage restarts (R206) -/
  mark : Option Nat
  /-- instant in ns of the tier reference at which the present window fires it -/
  due : Option Nat
deriving DecidableEq, Repr

/-- One VS set (R195). -/
structure VsSet where
  vnom : BitVec 16
  used : Bool
  rms : Vector (BitVec 16) 3
  freq : BitVec 24
  present : BitVec 3
  seqErr : Bool
  /-- the last crossing of the set (R195) -/
  last : Option (Fin 6)
deriving DecidableEq, Repr

/-- State of ANG. -/
structure AngBlk where
  src : Vector ASrc 8
  evt : Vector AEvt 128
  vs : Vector VsSet 2
  /-- boundary at which the present values were published, in ns of the tier reference -/
  bNs : Nat
  /-- boundary whose window the scheduler evaluates next; after a lost cycle it lies behind `bNs` by more (R206, R267) -/
  winB : Nat
  /-- RUN has started since power-on (R205) -/
  ran : Bool
deriving DecidableEq, Repr

/-- An unused source with its registers at their reset values. -/
def ASrc.unused : ASrc :=
  { cfg := 0, span := 0, still := 0, zeroOfs := 0, topSpeed := 0, binds := Vector.replicate 5 0xFFFFFFFF, sync := 0
    stillF := false, rev := false, filled := false, loss := false, cause := 0, overspeed := false, angle := 0, turns := 0
    vel := 0, acc := 0, pst := 0, tag := initTag false 6, own := Vector.replicate 4 0, edgeCnt := 0, errCnt := 0, resync := false, pos := 0, placed := false
    edges := [], against := 0, lastT := none, refN := 0, refD := 1, gapSeen := false, sinceGap := 0, turnErr := 0
    lastX := none, validX := 0 }

/-- An unused event with its registers at their reset values. -/
def AEvt.unused : AEvt :=
  { cfg := 0, tgt := 0, adv := 0, vmin := 0, vmax := 0, tgtB := 0xFFFFFFFF, advB := 0xFFFFFFFF, ctrlB := 0xFFFFFFFF
    mode := 0, seq := 0, armed := false, armMode := 0, late := false, inhib := false, seqTaken := 0, fireCnt := 0
    lastT := 0, mark := none, due := none }

/-- ANG at reset. -/
def AngBlk.reset : AngBlk :=
  { src := Vector.replicate 8 .unused, evt := Vector.replicate 128 .unused
    vs := Vector.replicate 2 { vnom := 0, used := false, rms := Vector.replicate 3 0, freq := 0, present := 0, seqErr := false, last := none }
    bNs := 0, winB := 0, ran := false }

end Sys2Proof.Machine
end

