-- ==== Sys2Proof/Machine/CanState.lean ====
section
/-! DEFINITION. Plain-data state of the CAN controllers (chapter 13). -/

namespace Sys2Proof.Machine
open Sys2Proof

/-- A CAN frame on a bus. -/
structure CanFrame where
  id : BitVec 29
  ide : Bool
  fdf : Bool
  /-- remote frame -/
  rtr : Bool
  brs : Bool
  esi : Bool
  /-- the DLC code; up to 8 it is the number of data bytes of a data frame -/
  dlc : BitVec 4
  data : List Byte
deriving DecidableEq, Repr, Inhabited

/-- A signal of an object (R301). -/
structure CanSig where
  start : Nat
  bitNo : Nat
  /-- 0 a bit, otherwise 1, 2 or 4 bytes -/
  size : Nat
  be : Bool
  signed : Bool
  var : Word
deriving DecidableEq, Repr, Inhabited

/-- A receive object (index 0…127) or transmit object (128…191) (R300, R303, R350). -/
structure CanObj where
  idx : Nat
  id : Word
  mask : Word
  ide : Bool
  /-- 0 classical, 1 FD, 2 either -/
  fdf : Nat
  brs : Bool
  oneShot : Bool
  txBad : Bool
  len : Nat
  /-- 0 receive, 1 MATRIX, 2 CYCLIC, 3 ON_CHANGE -/
  kind : Nat
  rep : Nat
  trig : Word
  ack : Word
  sigs : List CanSig
deriving DecidableEq, Repr, Inhabited

/-- A window of the matrix (R306, R350). -/
structure CanWin where
  cycle : Nat
  /-- 0 reference, 1 exclusive, 2 arbitrating -/
  kind : Nat
  start : Nat
  len : Nat
  /-- object index, 0xFFFF for none -/
  obj : Nat
deriving DecidableEq, Repr, Inhabited

/-- A pending request in its place: object, data, and the boundary that made it, in ns on the tier reference (R303). -/
structure CanReq where
  obj : Nat
  data : List Byte
  since : Nat
deriving DecidableEq, Repr, Inhabited

/-- One controller. -/
structure CanCtl where
  cfg : Word
  nbt : Word
  dbt : Word
  sjw : Word
  wakeCfg : Word
  wakeId : Word
  wakeIdm : Word
  wakeDm : BitVec 64
  refId : Word
  refOfs : Nat
  /-- basic-cycle length in NTU -/
  bcLen : Nat
  objs : List CanObj
  wins : List CanWin
  /-- STATUS.STATE -/
  state : BitVec 3
  lec : BitVec 3
  dlec : BitVec 3
  pxe : Bool
  tdcv : BitVec 7
  ttSync : Bool
  ttMaster : Bool
  conflict : Bool
  /-- lost the place of time master to another (R306) -/
  demoted : Bool
  cycle : BitVec 6
  tec : BitVec 9
  recv : BitVec 8
  boffReq : Bool
  sleepReq : Bool
  wakeReq : Bool
  rxCnt : Word
  txCnt : Word
  boffCnt : BitVec 8
  oneshot : BitVec 8
  pxeCnt : BitVec 8
  winMiss : BitVec 8
  overwrite : BitVec 16
  replace : BitVec 16
  lenErr : BitVec 8
  capOvf : BitVec 8
  tdcErr : BitVec 8
  rfLate : BitVec 8
  /-- capture FIFO, oldest first, at most 64 (R300): reception time and frame -/
  cap : List (BitVec 64 × CanFrame)
  /-- pending requests in their places (R303) -/
  reqs : List CanReq
  /-- transmit buffers: the data that each object last asked to send (R271, R303) -/
  bufs : List (Nat × List Byte)
  /-- data received since the last boundary of the object's tier (R302) -/
  rx : List (Nat × List Byte)
  /-- objects whose reception window closed empty since the last boundary of their tier (R302) -/
  missed : List Nat
  /-- the window that stands open, and whether a valid frame has come in it -/
  win : Option Nat
  winHit : Bool
  /-- trigger variables at the previous boundary (R303) -/
  prev : List (Nat × Word)
  /-- RUN has started at this boundary, which compares no trigger (R303) -/
  runNew : Bool
  /-- completed transmissions of objects (R303), and the objects whose count is new -/
  acks : List (Nat × Word)
  ackNew : List Nat
  /-- the dominant time-out holds the transmitter off the bus (R296) -/
  txdOff : Bool
  /-- woken and waiting for a T1 boundary; integration is complete (R311) -/
  waking : Bool
  integ : Bool
  /-- FD frames that the transceiver counted as errors in bus sleep (R311) -/
  xcvErr : Nat
deriving DecidableEq, Repr

/-- State of CAN. -/
structure CanBlk where
  ctl : Vector CanCtl 8
deriving DecidableEq, Repr

/-- A controller at cold reset. -/
def CanCtl.reset : CanCtl :=
  { cfg := 0, nbt := 0, dbt := 0, sjw := 0, wakeCfg := 0, wakeId := 0, wakeIdm := 0, wakeDm := 0, refId := 0,
    refOfs := 0, bcLen := 0, objs := [], wins := [], state := 0, lec := 0, dlec := 0, pxe := false, tdcv := 0,
    ttSync := false, ttMaster := false, conflict := false, demoted := false, cycle := 0, tec := 0, recv := 0,
    boffReq := false, sleepReq := false, wakeReq := false, rxCnt := 0, txCnt := 0, boffCnt := 0, oneshot := 0,
    pxeCnt := 0, winMiss := 0, overwrite := 0, replace := 0, lenErr := 0, capOvf := 0, tdcErr := 0, rfLate := 0,
    cap := [], reqs := [], bufs := [], rx := [], missed := [], win := none, winHit := false, prev := [], runNew := false, acks := [], ackNew := [],
    txdOff := false, waking := false, integ := false, xcvErr := 0 }

/-- CAN at cold reset. -/
def CanBlk.reset : CanBlk := { ctl := Vector.replicate 8 .reset }

end Sys2Proof.Machine
end

