-- ==== Sys2Proof/Machine/FabState.lean ====
section
/-! DEFINITION. Plain-data state of the placed-class fabric: packets that wait at an arbiter and packets outstanding
toward a target (R45, R46, R51, R53–R55). -/

namespace Sys2Proof.Machine
open Sys2Proof

/-- The arbiters of placed packets (R53). -/
inductive PlTarget
  /-- crossbar-to-fabric port of a requester port: 0 SUP, 1 LOG, 2 QP, 3 NET -/
  | xport (p : Fin 4)
  /-- solver intake -/
  | solver
  /-- the queue of requests from stack peers -/
  | peers
  | sram
  | dram
  | flash
  | mram
  /-- egress of the Sash link -/
  | sash
  /-- egress of a Transom port -/
  | transom (q : Fin 3)
deriving DecidableEq, Repr

/-- The header of a transfer (R45). -/
structure Hdr where
  placed : Bool
  soon : Bool
  srcBlk : Nat
  dstBlk : Nat
  srcStn : Nat
  dstStn : Nat
  /-- tagged words, 1…64 -/
  words : Nat
  /-- 0…4 of a timed transfer, 7 of a placed one -/
  tier : Nat
  /-- in units of 8 ns -/
  age : Nat
  /-- tier reference at the deadline, in ns -/
  deadline : Nat
deriving DecidableEq, Repr

/-- HDR0, HDR1 and HDR2 of a header (R45). -/
def Hdr.bits (h : Hdr) : Vector Word 3 :=
  #v[pack [(0, 1, b2n h.placed), (1, 1, b2n h.soon), (3, 5, h.srcBlk), (8, 5, h.dstBlk), (13, 7, h.srcStn), (20, 7, h.dstStn)],
     pack [(0, 6, h.words - 1), (6, 3, h.tier), (9, 23, min h.age 0x7FFFFF)],
     BitVec.ofNat 32 (h.deadline / 2)]

/-- A placed transfer that a requester port wants to make. One of more than 64 words is cut into packets (R45). -/
structure PlReq where
  /-- 0 SUP, 1 LOG, 2 QP, 3 NET (R55) -/
  port : Fin 4
  /-- the arbiters it passes before its target, and the target's (R53) -/
  via : List PlTarget
  tgt : PlTarget
  soon : Bool
  /-- destination block, where the target is the egress of a link (R45) -/
  dstBlk : Nat
  /-- destination station, 127 for this one (R45) -/
  dst : Nat
  words : Nat
  /-- KiB of a buffer that the target's grant places, 0 none (R51) -/
  kib : Nat
  /-- a buffer placed earlier, freed when the transfer is complete (R51) -/
  release : Option Nat
deriving DecidableEq, Repr

/-- A placed packet. -/
structure PlPkt where
  /-- the input it comes from: requester port 0…3, 4 the Sash link, 5 + q Transom port q -/
  port : Fin 8
  via : List PlTarget
  tgt : PlTarget
  soon : Bool
  /-- SRC_BLK, SRC_STN, DST_BLK and DST_STN of its header (R45) -/
  srcBlk : Nat
  srcStn : Nat
  dstBlk : Nat
  dst : Nat
  words : Nat
  /-- AGE at its issue, or on its arrival from a link (R54) -/
  age0 : Nat
  /-- station time of that instant in ns -/
  issued : Nat
  /-- its deadline as station time in ns, set at its issue by the station that issued it (R46) -/
  deadline : Nat
  kib : Nat
  release : Option Nat
  /-- its AGE has saturated and been counted (R54) -/
  sat : Bool
deriving DecidableEq, Repr

/-- The arbiter a packet stands before. -/
def PlPkt.at_ (p : PlPkt) : PlTarget := p.via.headD p.tgt

/-- A buffer of placed data (R51). -/
structure PlBuf where
  num : Nat
  kib : Nat
  inSram : Bool
deriving DecidableEq, Repr

/-- State of the placed fabric. -/
structure FabBlk where
  /-- packets that their requester ports have not issued yet, oldest first (R55) -/
  queue : List PlPkt
  /-- packets before an arbiter -/
  wait : List PlPkt
  /-- packets that their target's arbiter has granted and that are not complete -/
  out : List PlPkt
  /-- the input that each arbiter granted last (R53) -/
  last : List (PlTarget × Fin 8)
  bufs : List PlBuf
  /-- number of the next buffer -/
  next : Nat
deriving DecidableEq, Repr

/-- The placed fabric at the power-on reset. -/
def FabBlk.reset : FabBlk := { queue := [], wait := [], out := [], last := [], bufs := [], next := 0 }

end Sys2Proof.Machine
end

