-- ==== Sys2Proof/Machine/FldState.lean ====
section
/-! DEFINITION. Plain-data state of the field points and banks (chapter 9). -/

namespace Sys2Proof.Machine
open Sys2Proof

/-- One field point (R211–R225). -/
structure Pt where
  cfg : Word
  safeVal : Word
  pwmPeriod : Word
  cmp : Word
  /-- binding of the input or command variable -/
  var : Word
  /-- binding of the readback variable -/
  rbVar : Word
  /-- last delivered input sample, or last latched command; the register VALUE shows its value -/
  smp : TWord
  /-- output readback at the last T0 boundary -/
  rb : TWord
  /-- diagnostic state bits OPEN, SHORT, OVER, RB_MIS, SUPPLY (R224) -/
  diag : BitVec 5
  /-- latched diagnostic bits in the same order (R225) -/
  diagL : BitVec 5
  /-- latched off: 0 not, 1 by the shut-off of R219, 2 by the bank overload of R223 -/
  prot : Nat
  diagCnt : BitVec 16
  /-- level passed on by the stable-time filter, and consecutive sampler reads of the other level (R214) -/
  level : Bool
  run : Nat
  /-- the filter has seen its first read since it started -/
  started : Bool
  /-- station time at which the filter or gate started (R214, R218) -/
  since : BitVec 64
  /-- COUNT and FREQ: age in ns, at the last T0 boundary, of a front-end change that the filter has not passed on yet (R218) -/
  cand : Option Nat
  /-- edges passed on less than 3 µs before the last T0 boundary, which the next count includes (R218) -/
  late : Nat
  /-- conversions of the window, newest first (R216) -/
  conv : List Int
  /-- ages in ns of the edges inside the gate, newest first (R218) -/
  edges : List Nat
  /-- edge count (R218) -/
  count : Word
  /-- what the point drives while its bank drives: none de-energised, otherwise level, duty or value (R222, R229) -/
  eff : Option Word
  /-- tier-reference instant from which the field shows `eff`, and what it shows before (R27, R222) -/
  showAt : Nat
  shown : Option Word
  /-- a command latched after the bank opened waits for its T0 boundary to start the PWM periods (R221) -/
  pwmDue : Bool
  /-- PWM periods run (R221), the duty of the present period and its on time in ns -/
  pwmRun : Bool
  duty : Word
  onNs : Nat
  /-- absent from the image in force: the registers read 0 and the point holds the safe state of the image before (R363) -/
  gone : Bool
deriving DecidableEq, Repr

/-- One bank (R210, R223–R232). -/
structure Bank where
  cfg : Word
  tmo : BitVec 16
  open_ : Bool
  /-- an image has been admitted since the bank's last refresh (R72) -/
  adm : Bool
  drive : Bool
  aoWait : Bool
  closeCnt : BitVec 16
  /-- the field side works: converter output and barrier link are there (R226) -/
  fsOk : Bool
  /-- the field side is powered; without the barrier link alone it goes on holding its outputs (R226) -/
  fsPow : Bool
  /-- 0 absent, 1 low, 2 good -/
  lp : BitVec 2
  ovl : Bool
  volt : BitVec 16
  curr : BitVec 16
deriving DecidableEq, Repr

/-- State of FLD. -/
structure FldBlk where
  banks : Vector Bank 8
  pts : Vector Pt 96
  /-- samples and readbacks that the standby has received in the distributed input set, by point (R262) -/
  dist : List (Nat × TWord)
  distRb : List (Nat × TWord)
  /-- the diagnostics likewise -/
  distDiag : List (Nat × BitVec 5)
deriving DecidableEq, Repr

/-- A point that the image leaves unused, as at reset. -/
def Pt.unused : Pt :=
  { cfg := 0, safeVal := 0, pwmPeriod := 0, cmp := 0, var := 0xFFFFFFFF, rbVar := 0xFFFFFFFF
    smp := { val := 0, tag := initTag false 0 }, rb := { val := 0, tag := initTag false 0 }, diag := 0, diagL := 0
    prot := 0, diagCnt := 0, level := false, run := 0, started := false, since := 0, cand := none, late := 0, conv := [], edges := [], count := 0
    eff := none, showAt := 0, shown := none, pwmDue := false, pwmRun := false, duty := 0, onNs := 0, gone := false }

/-- A bank at reset. -/
def Bank.reset : Bank :=
  { cfg := 0, tmo := 0, open_ := false, adm := false, drive := false, aoWait := false, closeCnt := 0, fsOk := false, fsPow := false, lp := 0,
    ovl := false, volt := 0, curr := 0 }

/-- FLD at reset. -/
def FldBlk.reset : FldBlk := { banks := Vector.replicate 8 .reset, pts := Vector.replicate 96 .unused, dist := [], distRb := [], distDiag := [] }

end Sys2Proof.Machine
end

