-- ==== Sys2Proof/Machine/LeState.lean ====
section
/-! DEFINITION. Plain-data state of the logic engines and the SLE (chapters 3, 4 and R238–R242). -/

namespace Sys2Proof.Machine
open Sys2Proof

/-- A tag inside an engine; none is the constant mark of R92. -/
abbrev MTag := Option Tag

/-- Operation of an open branch (R95). -/
inductive BrOp | and | or | xor
deriving DecidableEq, Repr

/-- An entry of the branch stack (R95, R102). -/
inductive StackEnt
  | branch (la : Bool) (lt : MTag) (op : BrOp)
  | ret (next : Nat)
deriving DecidableEq, Repr

/-- Where a task run stands (R58, R76). -/
inductive Phase
  /-- no run -/
  | idle
  /-- snapshot frozen, waiting for the execution window -/
  | ready
  | run
  /-- ended, output buffer waiting for handover -/
  | done
  /-- frozen at a breakpoint in the middle of the scan -/
  | held
  /-- released from the breakpoint, waiting for the next execution window -/
  | resume
deriving DecidableEq, Repr

/-- The register set and run context of one task (R85, R90, R103). -/
structure TaskRun where
  phase : Phase
  pc : Nat
  la : Bool
  lt : MTag
  wa : Word
  ta : MTag
  wb : Word
  tb : MTag
  xr : BitVec 16
  /-- branch stack, top first, at most 16 entries (R96) -/
  stack : List StackEnt
  arith : Bool
  idxErr : Bool
  /-- the first out-of-range access of this run has been logged (R101) -/
  idxLogged : Bool
  /-- tier count at the boundary of the snapshot (R103) -/
  nNow : Word
  /-- FIRST_SCAN of this run (R80) -/
  first : Bool
  /-- S:3 … S:9 as frozen with the snapshot (R90) -/
  sMode : Word
  sCnt : Vector Word 5
  sProf : BitVec 2
  /-- the frozen input image, by DATA index (R58) -/
  snap : List (Nat × TWord)
  /-- the output buffer, by DATA index; an unbound export entry q stands at 0x100000 + q -/
  out : List (Nat × TWord)
  /-- M and W words that this run has stored to, a W word `i` as 0x10000 + i (R58, R93) -/
  mStored : List Nat
  /-- fabric cycles of this run (R112) -/
  cost : Nat
deriving DecidableEq, Repr

/-- A timer, counter or edge instance (R103, R105, R107, R108). -/
structure Inst where
  /-- 1 TON, 2 TOF, 3 TP, 4 C, 5 E (R348) -/
  kind : Nat
  num : Nat
  /-- 32-bit instance ID (R122) -/
  id : Word
  retain : Bool
  stamp : Word
  first : Bool
  firstU : Bool
  firstD : Bool
  inPrev : Bool
  upPrev : Bool
  dnPrev : Bool
  et : Word
  run : Bool
  /-- preset, preset in tier cycles and tier period in µs at the last evaluation (R104) -/
  pt : Word
  ptc : Word
  pus : Nat
  cv : Word
  out : Bool
  tag : Tag
deriving DecidableEq, Repr

/-- One logic engine, or the SLE. -/
structure Engine where
  used : Bool
  /-- LE.CFG.TIER: 0 no cyclic task, 1…4 -/
  tier : BitVec 3
  nEvt : BitVec 3
  entry : Option Nat
  evtEntry : Vector (Option Nat) 4
  evtId : Vector Byte 4
  /-- declared sizes of I, Q, M, W, T, C, E and K -/
  sizes : Vector Nat 8
  code : List Word
  imports : List Word
  exports : List Word
  consts : List Word
  bounds : List (Nat × Nat)
  /-- (space, word index, DATA index) -/
  mwmap : List (Nat × Nat × Nat)
  insts : List Inst
  /-- M and W words changed since they were in their initial state (R89) -/
  m : List (Nat × TWord)
  w : List (Nat × TWord)
  cyc : TaskRun
  evt : Vector TaskRun 4
  /-- EVT_i is triggered and not yet started (EVT_STAT.PENDING) -/
  pending : Vector Bool 4
  /-- an event-task run of this T1 cycle has executed an instruction (R86) -/
  evtBegun : Bool
  /-- the engine runs tasks (not stopped) -/
  running : Bool
  /-- a boundary of the tier has opened a cycle whose window has not begun -/
  window : Bool
  frozen : Bool
  frozenBy : BitVec 2
  /-- frozen, but RELEASE has been carried: it resumes in its next window and no longer makes the station HOLD (R69, R75) -/
  released : Bool
  /-- FREEZE taken: freeze at the end of the current scan (R76) -/
  freezeReq : Bool
  /-- STEP taken: freeze again after the next scan (R76) -/
  stepOne : Bool
  /-- the next run of the cyclic task, and of each event task, is its first scan (R80) -/
  firstCyc : Bool
  firstEvt : Vector Bool 4
  /-- STATUS.FIRST_SCAN -/
  firstFlag : Bool
  overrun : Bool
  fault : Bool
  merged : Bool
  scanLast : BitVec 26
  scanMax : BitVec 26
  budget : BitVec 26
  scanCnt : Word
  bkptAddr : BitVec 16
  bkptEn : Bool
  holdCmd : BitVec 2
  pcHold : BitVec 16
  mergeCnt : BitVec 8
  restart : Bool
deriving DecidableEq, Repr

/-- A task run before any run: the start state of R85. -/
def TaskRun.fresh : TaskRun :=
  { phase := .idle, pc := 0, la := false, lt := none, wa := 0, ta := none, wb := 0, tb := none, xr := 0, stack := [],
    arith := false, idxErr := false, idxLogged := false, nNow := 0, first := false, sMode := 0,
    sCnt := Vector.replicate 5 0, sProf := 0, snap := [], out := [], mStored := [], cost := 0 }

/-- An unused engine with its registers at their reset values. -/
def Engine.unused : Engine :=
  { used := false, tier := 0, nEvt := 0, entry := none, evtEntry := Vector.replicate 4 none,
    evtId := Vector.replicate 4 0, sizes := Vector.replicate 8 0, code := [], imports := [], exports := [], consts := [],
    bounds := [], mwmap := [], insts := [], m := [], w := [], cyc := .fresh, evt := Vector.replicate 4 .fresh,
    pending := Vector.replicate 4 false, evtBegun := false, running := false, window := false, frozen := false,
    frozenBy := 0, released := false, freezeReq := false, stepOne := false, firstCyc := false, firstEvt := Vector.replicate 4 false,
    firstFlag := false, overrun := false, fault := false, merged := false, scanLast := 0, scanMax := 0, budget := 0,
    scanCnt := 0, bkptAddr := 0, bkptEn := false, holdCmd := 0, pcHold := 0, mergeCnt := 0, restart := false }

/-- The initialised state of an instance (R110). -/
def Inst.initial (kind num : Nat) (id : Word) (retain : Bool) : Inst :=
  { kind := kind, num := num, id := id, retain := retain, stamp := 0, first := true, firstU := true, firstD := true,
    inPrev := false, upPrev := false, dnPrev := false, et := 0, run := false, pt := 0, ptc := 0, pus := 100, cv := 0,
    out := false, tag := { q := 7, c := false, f := false, h := true, age := 15, s := false, origin := 3 } }

end Sys2Proof.Machine
end

