-- ==== Sys2Proof/Machine/LoopState.lean ====
section
/-! DEFINITION. Plain-data state of the loop engines (chapter 6). -/

namespace Sys2Proof.Machine
open Sys2Proof

/-- A coefficient: mantissa and right shift (R139). -/
structure Coef where
  k : Int
  s : Nat
deriving DecidableEq, Repr

/-- A friction or cogging table (R146). -/
structure LTable where
  src : Nat
  mult : Nat
  signMode : Nat
  ents : List Int
deriving DecidableEq, Repr

/-- What the LOOP section fixes for one loop (R129, R130, R349). -/
structure LoopCfg where
  cfg : Word
  cfg2 : Word
  /-- OUT_DLY in 100 ns (R133) -/
  outDly : Nat
  /-- bindings (R130) -/
  (pv sp ext ff sched ctl man out : Word)
  (outMin outMax spMin spMax spOfs rateUp rateDn initOut safeOut stopRate : Int)
  (kExt kTrim biasDecay : Coef)
  /-- scheduled coefficients of each region (R141, R142) -/
  coefs : List (List Coef)
  /-- b_k, h_k and w_k of each boundary (R143) -/
  bounds : List (Int × Int × Int)
  tables : List LTable
  /-- cost of a sample in fabric cycles (R137) -/
  cost : Nat
deriving DecidableEq, Repr

/-- Histories of a second-order section: z1, z2, y1 and y2 (R142). -/
structure Sos where
  z1 : Int
  z2 : Int
  y1 : Int
  y2 : Int
deriving DecidableEq, Repr

/-- The loop state of R134: what a sample reads and, when it completes, replaces. -/
structure LoopSt where
  yf : Int
  xi : Int
  xd : Int
  edPrev : Int
  sos : List Sos
  xs : List Int
  bias : Int
  /-- set-point w (R149) -/
  w : Int
  /-- the target last formed from good sources (R148) -/
  target : Option Int
  /-- region index r, and λ with the boundary it blends, none outside a band (R143) -/
  region : Nat
  lambda : Nat
  blend : Option Nat
  /-- mode last set by a good CTL_VAR: 0 AUTO, 1 MANUAL, 2 HOLD (R150) -/
  ctl : Nat
  /-- previous output, none before the first one -/
  u : Option Int
  /-- samples still to carry H after the last initialisation (R151) -/
  hLeft : Nat
  /-- the previous completed sample: 1 MANUAL or HOLD, 2 with a bad PV under HOLD or STOP, 0 neither (R150, R152) -/
  held : Nat
  /-- w was frozen by the stop behaviour CONTINUE and is kept at the next initialisation (R153) -/
  keepW : Bool
deriving DecidableEq, Repr

/-- Where a sample stands (R133, R134). -/
inductive SPhase | taken | released | running | done
deriving DecidableEq, Repr

/-- One sample of a loop: its inputs as taken, and its result once complete. -/
structure LSample where
  phase : SPhase
  /-- sample instant in ns of the tier reference -/
  t0 : Nat
  /-- ns by which its release and its output instant lie later than R133 states (R267) -/
  late : Nat
  /-- STATE at the sample instant when a stop behaviour or FAULT acts then, 0 when the loop runs -/
  stop : Nat
  /-- the sample initialises the loop (R153) -/
  init : Bool
  /-- an event after the sample instant asks for another initialisation -/
  stale : Bool
  pv : TWord
  sp : TWord
  ext : TWord
  ff : TWord
  sched : TWord
  ctl : TWord
  man : TWord
  /-- readback of the output as delivered at the sample instant -/
  rb : TWord
  /-- angle word, velocity sign and tag of each table's source (R146) -/
  tabs : List (Word × Int × Tag)
  /-- result, meaningful when done -/
  res : TWord
deriving DecidableEq, Repr

/-- One loop. -/
structure Loop where
  used : Bool
  c : LoopCfg
  st : LoopSt
  /-- RUN has started since the loop's state was last discarded (R153) -/
  started : Bool
  /-- LOOP_l.STATUS.STATE -/
  state : BitVec 3
  /-- the loop must initialise at its next sample (R153) -/
  initDue : Bool
  /-- set-point frozen at entry into the stop behaviour CONTINUE (R154) -/
  stopW : Int
  miss : Bool
  sat : Bool
  lim : Bool
  pvBad : Bool
  spBad : Bool
  ffOff : Bool
  initFlag : Bool
  faultCause : BitVec 2
  stall : Bool
  /-- T2 boundaries since the last sample (R156) -/
  noSample : Nat
  out : Word
  /-- tag of the last output -/
  outTag : Tag
  pvReg : Word
  missCnt : BitVec 16
  consec : BitVec 8
  skipCnt : BitVec 16
  sampleCnt : Word
  /-- LOOP_l.CTRL.RESTART -/
  restart : Bool
  /-- a T1 boundary has carried the RESTART; it acts at the first sample once this is set (R158) -/
  restartReady : Bool
  /-- the T1 boundary that carried a RESTART after a fault of cause 2, in ns of the tier reference (R158) -/
  restartT : Option Nat
  /-- the reload after a fault of cause 2 is in progress (R158) -/
  reload : Bool
  /-- output instant of the last sample taken, in ns of the tier reference (R136) -/
  outAt : Nat
  /-- samples not yet written out, oldest first -/
  samples : List LSample
deriving DecidableEq, Repr

/-- Registers of one loop engine. -/
structure LoopEng where
  miss : BitVec 8
  sat : BitVec 8
  memErr : Bool
  minSlack : BitVec 20
deriving DecidableEq, Repr

/-- State of the loop engines. -/
structure LoopBlk where
  eng : Vector LoopEng 24
  loops : Vector Loop 192
  /-- values of loop-written variables at the last tier boundary, which angle samples take (R131) -/
  frozen : List (Nat × TWord)
deriving DecidableEq, Repr

/-- A zero coefficient. -/
def Coef.zero : Coef := { k := 0, s := 0 }

/-- The configuration of an unused loop. -/
def LoopCfg.none : LoopCfg :=
  { cfg := 0, cfg2 := 0, outDly := 0, pv := 0xFFFFFFFF, sp := 0xFFFFFFFF, ext := 0xFFFFFFFF, ff := 0xFFFFFFFF,
    sched := 0xFFFFFFFF, ctl := 0xFFFFFFFF, man := 0xFFFFFFFF, out := 0xFFFFFFFF, outMin := 0, outMax := 0, spMin := 0,
    spMax := 0, spOfs := 0, rateUp := 0, rateDn := 0, initOut := 0, safeOut := 0, stopRate := 0, kExt := .zero,
    kTrim := .zero, biasDecay := .zero, coefs := [], bounds := [], tables := [], cost := 0 }

/-- Loop state discarded: what power-on, a reset, a wake, an image load or a profile switch leaves (R148, R153). -/
def LoopSt.fresh : LoopSt :=
  { yf := 0, xi := 0, xd := 0, edPrev := 0, sos := [], xs := [], bias := 0, w := 0, target := none, region := 0,
    lambda := 0, blend := none, ctl := 0, u := none, hLeft := 0, held := 0, keepW := false }

/-- An unused loop with its registers at their reset values. -/
def Loop.unused : Loop :=
  { used := false, c := .none, st := .fresh, started := false, state := 0, initDue := false, stopW := 0, miss := false, sat := false,
    lim := false, pvBad := false, spBad := false, ffOff := false, initFlag := false, faultCause := 0, stall := false,
    noSample := 0, out := 0, outTag := initTag false 4, pvReg := 0, missCnt := 0, consec := 0, skipCnt := 0,
    sampleCnt := 0, restart := false, restartReady := false, restartT := none, reload := false, outAt := 0, samples := [] }

/-- The loop engines at reset, with nothing loaded. -/
def LoopBlk.reset : LoopBlk :=
  { eng := Vector.replicate 24 { miss := 0, sat := 0, memErr := false, minSlack := 0xFFFFF },
    loops := Vector.replicate 192 .unused, frozen := [] }

end Sys2Proof.Machine
end

