-- ==== Sys2Proof/Machine/NetState.lean ====
section
/-! DEFINITION. Plain-data state of the plant network and the engineering protocol (chapter 14). -/

namespace Sys2Proof.Machine
open Sys2Proof

/-- The content of a telegram but for LEAF and CRC, in which its two copies differ (R316, R317). -/
structure TelCopy where
  ver : Byte
  kind : Byte
  telId : BitVec 16
  src : BitVec 16
  dst : BitVec 16
  seq : Word
  len : Byte
  rsv : BitVec 16
  words : List TWord
deriving DecidableEq, Repr, Inhabited

/-- A telegram on one leaf: the addresses, IEEE 802.1Q tag and EtherType of its Ethernet frame, and its payload (R316). -/
structure TelFrame where
  /-- destination and source MAC address -/
  mac : BitVec 48
  from_ : BitVec 48
  tci : BitVec 16
  etype : BitVec 16
  tel : TelCopy
  leaf : Byte
  crc : Word
deriving DecidableEq, Repr, Inhabited

/-- Why an arriving frame is dropped: its length in bytes, its IP protocol or UDP port, a fragment, or IPv4 options (R313, R314). -/
inductive DropWhy
  | length (n : Nat)
  | protocol
  | fragment
  | options
deriving DecidableEq, Repr

/-- An arriving frame that is dropped, and its port. -/
structure DropFrame where
  port : Fin 3
  why : DropWhy
deriving DecidableEq, Repr

/-- A transmit telegram (R317, R350). -/
structure TxTel where
  telId : BitVec 16
  kind : Nat
  tier : Nat
  rep : Nat
  dst : BitVec 16
  ofs : Nat
  mac : Nat
  binds : List Word
  /-- SEQ last sent -/
  seq : Word
  /-- values taken at a boundary, to be sent at TX_OFS after it -/
  due : Option (List TWord)
deriving DecidableEq, Repr, Inhabited

/-- An SEQ that a receiver holds undecided (R318): the copy of each leaf and the arrival of its first copy. -/
structure HeldSeq where
  seq : Word
  a : Option TelCopy
  b : Option TelCopy
  at_ : BitVec 64
deriving DecidableEq, Repr, Inhabited

/-- What a decision leaves to enter at the telegram's next boundary. -/
inductive TelIn
  /-- an accepted telegram; `both` says that one was accepted with both copies, `ended` that this ended a discard's safe values -/
  | vals (both ended : Bool) (ws : List TWord)
  /-- the safe values of a discard -/
  | safe
deriving DecidableEq, Repr

/-- A receive telegram (R318–R321, R350). -/
structure RxTel where
  telId : BitVec 16
  kind : Nat
  tier : Nat
  src : BitVec 16
  len : Nat
  cmpNs : Nat
  wdg : Nat
  /-- binding and safe value of each word -/
  binds : List (Word × Word)
  held : List HeldSeq
  degraded : Bool
  diff : Bool
  wdgExp : Bool
  /-- safe values stand after a discard (R319) -/
  discarded : Bool
  left : BitVec 16
  /-- the watchdog restarts at this boundary, which does not count (R321) -/
  fresh : Bool
  /-- SEQ last decided, none before the first telegram -/
  last : Option Word
  /-- SEQs accepted with one copy: SEQ, whether leaf B's copy came, and it (R320) -/
  ones : List (Word × Bool × TelCopy)
  /-- a late copy differed: the safety reaction follows at the next boundary (R320) -/
  lateDiff : Bool
  enter : Option TelIn
  missA : BitVec 8
  missB : BitVec 8
  errA : BitVec 8
  errB : BitVec 8
  late : BitVec 8
  gap : BitVec 8
  diffCnt : BitVec 8
  expCnt : BitVec 8
deriving DecidableEq, Repr

/-- A placed frame that waits at a port (R315). -/
inductive NetFrame
  | arp
  | echo
  /-- an engineering response: address, OP, STATUS, SESSION, SEQ, payload, MAC (R327) -/
  | resp (ip : Word) (op : Byte) (status : Nat) (sess seq : Word) (payload mac : List Byte)
deriving DecidableEq, Repr

/-- A port (R313). -/
structure NetPort where
  link : Bool
  downCnt : BitVec 8
  qdrop : BitVec 8
  /-- IPv4 address, mask, gateway and the address with PAIR_ID high (R350) -/
  ip : Word
  mask : Word
  gw : Word
  ipHigh : Word
  /-- placed frames, oldest first, at most 64 -/
  queue : List NetFrame
  /-- station times of the echo requests answered in the last second, newest first (R314) -/
  echoes : List (BitVec 64)
deriving DecidableEq, Repr

/-- An open session (R328, R329). -/
structure Sess where
  id : Word
  keyId : Byte
  /-- 0 READ, 1 OPERATE, 2 ENGINEER, 3 ADMIN -/
  role : Nat
  key : List Byte
  /-- SEQ of the last request -/
  last : Option Word
  /-- the stored response: OP, STATUS and payload -/
  resp : Option (Byte × Nat × List Byte)
deriving DecidableEq, Repr

/-- A CHALLENGE that waits for its PROOF (R328). -/
structure Chal where
  id : Word
  ip : Word
  keyId : Byte
  nc : List Byte
  ns : List Byte
deriving DecidableEq, Repr

/-- An entry of the key table (R330). -/
structure KeyEnt where
  keyId : Byte
  role : Nat
  secret : List Byte
deriving DecidableEq, Repr

/-- The open image transfer (R333). -/
structure Transfer where
  /-- 0…3 a profile, 4 a change package -/
  target : Nat
  total : Nat
  /-- chunks in arrival order -/
  chunks : List (Nat × List Byte)
deriving DecidableEq, Repr

/-- A LOG_CLEAR challenge (R382). -/
structure ClearChal where
  /-- index of its session -/
  sess : Nat
  nl : List Byte
  /-- NEXT as sent -/
  next : Word
deriving DecidableEq, Repr

/-- State of NET. -/
structure NetBlk where
  ports : Vector NetPort 3
  etype : BitVec 16
  vlan : BitVec 16
  stnId : BitVec 12
  groups : List Nat
  /-- the presence group address of a pair (R324, R351) -/
  presMac : Nat
  drop : Word
  tx : Vector (Option TxTel) 64
  rx : Vector (Option RxTel) 128
  sess : Vector (Option Sess) 4
  chals : List Chal
  authFail : BitVec 16
  /-- failed proofs: address and station time (R329) -/
  fails : List (Word × BitVec 64)
  lockouts : List Word
  /-- session secrets in MRAM (R330) -/
  keys : Vector (Option KeyEnt) 16
  transfer : Option Transfer
  /-- the LOG_CLEAR challenge that stands (R382) -/
  clearNonce : Option ClearChal
deriving DecidableEq, Repr

/-- A port at reset. -/
def NetPort.reset : NetPort :=
  { link := false, downCnt := 0, qdrop := 0, ip := 0, mask := 0, gw := 0, ipHigh := 0, queue := [], echoes := [] }

/-- NET at reset, with the key table `keys` of MRAM. -/
def NetBlk.reset (keys : Vector (Option KeyEnt) 16) : NetBlk :=
  { ports := Vector.replicate 3 .reset, etype := 0x88B5, vlan := 0, stnId := 0, groups := [], presMac := 0, drop := 0,
    tx := Vector.replicate 64 none, rx := Vector.replicate 128 none, sess := Vector.replicate 4 none, chals := [],
    authFail := 0, fails := [], lockouts := [], keys := keys, transfer := none, clearNonce := none }

end Sys2Proof.Machine
end

