-- ==== Sys2Proof/Machine/Memory.lean ====
section
/-! DEFINITION. The addressed memory of a solver slot (R164): a canonical list of bytes, and its reads and writes. An
address that the list does not name reads 0 (assumption log 15). -/

namespace Sys2Proof.Machine
open Sys2Proof

/-- A memory as (address, byte) pairs. -/
abbrev Mem := List Host.Cell

/-- The canonical form: addresses strictly rising and no byte 0 listed. -/
def Mem.wf (m : Mem) : Bool :=
  decide (m.Pairwise (fun a b => a.1 < b.1)) && m.all (fun c => c.2 != 0#8)

/-- The byte at an address. -/
def Mem.get (m : Mem) (a : Nat) : Byte :=
  match m.find? (fun c => c.1 == a) with
  | some c => c.2
  | none => 0

/-- The cells that hold a byte list from address `a`, zeros left out. -/
def Mem.cells : Nat → List Byte → Mem
  | _, [] => []
  | a, b :: r => if b = 0#8 then Mem.cells (a + 1) r else (a, b) :: Mem.cells (a + 1) r

/-- The bytes from address `a` replaced by a list. -/
def Mem.put (m : Mem) (a : Nat) (l : List Byte) : Mem :=
  m.filter (fun c => c.1 < a) ++ Mem.cells a l ++ m.filter (fun c => a + l.length ≤ c.1)

/-- `n` bytes from address `a`. -/
def Mem.bytes (m : Mem) (a n : Nat) : List Byte := (List.range n).map (fun i => m.get (a + i))

/-- The little-endian word at an address. -/
def Mem.word (m : Mem) (a : Nat) : Word := BitVec.ofNat 32 (ofLe (m.bytes a 4))

/-- A word written at an address. -/
def Mem.putWord (m : Mem) (a : Nat) (w : Word) : Mem := m.put a (wB w)

end Sys2Proof.Machine
end

