-- ==== Sys2Proof/Machine/QpState.lean ====
section
/-! DEFINITION. Plain-data state of the solver array (chapter 7). -/

namespace Sys2Proof.Machine
open Sys2Proof

/-- A placed request with its captured inputs (R184–R186). -/
structure PReq where
  /-- request value -/
  val : Word
  /-- tier-reference instant of its issue, or of its issue anew (R54, R186) -/
  t0 : Nat
  /-- captured entries of q, l and u, none for an image constant, and captured parameters -/
  ins : List (Option TWord)
  params : List TWord
  /-- its AGE has saturated while it waited, and has been counted (R54) -/
  sat : Bool
deriving DecidableEq, Repr

/-- Where a placed problem runs. -/
inductive PPlace
  | slot (p : Fin 64)
  | peer (station : Nat)
deriving DecidableEq, Repr

/-- Bindings of a slot or template (QBIND, R349). -/
structure QBind where
  /-- one word per entry of q, of l and of u -/
  ins : List Word
  xs : List Word
  ys : List Word
  merit : Word
  status : Word
deriving DecidableEq, Repr

/-- A placed template (R184). -/
structure QTmpl where
  soon : Bool
  tier : Nat
  req : Word
  /-- slot content from its byte 0x0000 -/
  content : List Byte
  bind : QBind
  /-- REQ_VAR in the previous snapshot of the requesting tier; none before the first one of RUN -/
  prev : Option Word
  /-- requests not yet started, oldest first -/
  wait : List PReq
  run : Option (PReq × PPlace)
  /-- outputs of a finished problem, until they are handed back (R185) -/
  res : Option (List (Word × TWord))
  /-- requests whose outputs have been handed back and await their boundary, with the instants of completion, oldest first (R50) -/
  deliver : List (PReq × Nat × List (Word × TWord))
  /-- number of the last issue; a result of an earlier one is discarded (R186) -/
  issue : Nat
deriving DecidableEq, Repr

/-- Where a slot's solve stands. -/
inductive QPhase | idle | taken | solving
deriving DecidableEq, Repr

/-- A problem that a stack peer has placed here (R52, R185). -/
structure PeerProb where
  station : Nat
  template : Nat
  /-- number of the issue, returned with its result -/
  issue : Nat
  content : List Byte
  req : PReq
  /-- AGE at its arrival (R54) -/
  age : Nat
deriving DecidableEq, Repr

/-- A peer's problem that waits at the solver intake (R52, R53). -/
structure PeerWait where
  prob : PeerProb
  /-- tier-reference instant of its arrival -/
  t0 : Nat
  /-- its AGE has saturated here, and has been counted (R54) -/
  sat : Bool
deriving DecidableEq, Repr

/-- One slot (R162–R180). -/
structure QSlot where
  /-- 0 unused, 1…4, 7 placed -/
  tier : BitVec 3
  mem : Mem
  /-- what the cached factor was formed from (R168) -/
  facKey : List Byte
  /-- the cached factor has floored pivots -/
  facFloored : Bool
  /-- signature under which the stored iterate was computed (R179) -/
  itSig : Word
  bind : QBind
  /-- RUN has started since the structure was loaded (R181) -/
  started : Bool
  phase : QPhase
  /-- entries of q, l and u taken at the boundary, none for an image constant, and parameters -/
  ins : List (Option TWord)
  params : List TWord
  /-- output buffer -/
  out : Option (List (Word × TWord))
  /-- CFG of the image -/
  status : BitVec 3
  wsRej : Bool
  cold : Bool
  pivotFixed : Bool
  refact : Bool
  iter : BitVec 12
  merit : Word
  rp : Word
  rd : Word
  used : Word
  solveCnt : Word
  deadlineCnt : BitVec 16
  infeasCnt : BitVec 8
  numericCnt : BitVec 8
  pivFirst : BitVec 6
  pivCount : BitVec 6
  evtMask : BitVec 8
  coldReq : Bool
  /-- a T1 boundary has carried the cold request (R187) -/
  coldCarried : Bool
  /-- the solve in progress starts cold by request -/
  coldNow : Bool
  template : BitVec 6
  remote : Bool
  reqEcho : BitVec 12
  supersede : BitVec 4
  /-- the peer problem running here -/
  peer : Option PeerProb
  /-- a NUMERIC, and a floored factor, have been reported since RUN started (R174, R176) -/
  numericSaid : Bool
  pivotSaid : Bool
  /-- the content is being reloaded (R189) -/
  reload : Bool
deriving DecidableEq, Repr

/-- One cluster's registers. -/
structure QClus where
  turns : Word
  memErr : Bool
  addr : BitVec 14
  slot : BitVec 3
deriving DecidableEq, Repr

/-- State of QP. -/
structure QpBlk where
  clus : Vector QClus 8
  slots : Vector QSlot 64
  tmpls : Vector (Option QTmpl) 64
  /-- the template whose request the solver intake took last (R53) -/
  lastT : Fin 64
  /-- problems of stack peers that wait for a free slot here, oldest first -/
  peers : List PeerWait
  /-- the station whose problem the queue of the peers gave last, and whether the solver intake took from that queue last (R53) -/
  lastStn : Nat
  lastPeer : Bool
  /-- number of the last issue of any template (R186) -/
  issued : Nat
deriving DecidableEq, Repr

/-- No bindings. -/
def QBind.none : QBind := { ins := [], xs := [], ys := [], merit := 0xFFFFFFFF, status := 0xFFFFFFFF }

/-- An unused slot with its registers at their reset values. -/
def QSlot.unused : QSlot :=
  { tier := 0, mem := [], facKey := [], facFloored := false, itSig := 0, bind := .none, started := false, phase := .idle
    ins := [], params := [], out := none, status := 0, wsRej := false, cold := false, pivotFixed := false, refact := false
    iter := 0, merit := 0, rp := 0, rd := 0, used := 0, solveCnt := 0, deadlineCnt := 0, infeasCnt := 0, numericCnt := 0
    pivFirst := 0, pivCount := 0, evtMask := 0b11111100, coldReq := false, coldCarried := false, coldNow := false
    template := 0, remote := false, reqEcho := 0, supersede := 0, peer := none, numericSaid := false, pivotSaid := false
    reload := false }

/-- QP at reset. -/
def QpBlk.reset : QpBlk :=
  { clus := Vector.replicate 8 { turns := 0, memErr := false, addr := 0, slot := 0 }
    slots := Vector.replicate 64 .unused, tmpls := Vector.replicate 64 none, lastT := 63, peers := [], lastStn := 63
    lastPeer := true, issued := 0 }

end Sys2Proof.Machine
end

