-- ==== Sys2Proof/Machine/SafState.lean ====
section
/-! DEFINITION. Plain-data state of the safety function (chapter 10). -/

namespace Sys2Proof.Machine
open Sys2Proof

/-- A pending channel-fault cause and how far its clearing condition has come (R247). -/
structure ChPend where
  /-- 1 pulse missing, 2 foreign pulse, 3 discrepancy, 4 source fault -/
  cause : Nat
  /-- ns for which the input has read OFF without a break, up to 10 ms -/
  offNs : Nat
  /-- those 10 ms are complete -/
  offSeen : Bool
  /-- own-pulse judgements passed in a row since -/
  passes : Nat
deriving DecidableEq, Repr

/-- One safety input (R243–R248). -/
structure SiCh where
  cfg : Word
  /-- binding of its value variable -/
  var : Word
  /-- level that the stable-time filter passes on, and consecutive sampler reads of the other level -/
  level : Bool
  run : Nat
  /-- masked since its own pulse, and the last unmasked level (R245) -/
  masked : Bool
  held : Bool
  /-- bit k: the input read ON just before TP_k's present pulse began -/
  before : BitVec 4
  /-- bit k: it read OFF at the judging instant of TP_k, another source's pulse -/
  offAt : BitVec 4
  /-- own pulses in a row at which it read ON -/
  stuck : Nat
  /-- pending causes, earliest first -/
  pend : List ChPend
  latched : Bool
  seenTp : BitVec 2
  cnt : BitVec 16
deriving DecidableEq, Repr

/-- One test-pulse source (R244). -/
structure TpSrc where
  high : Bool
  pulsing : Bool
  retry : Bool
  fault : Bool
  cause : BitVec 2
  latched : Bool
  curr : BitVec 16
  /-- ns for which the source has been free of its TP fault, up to 10 ms -/
  freeNs : Nat
deriving DecidableEq, Repr

/-- One safety output (R249–R253). -/
structure SoOut where
  cfg : Word
  /-- bindings of the enable request and of the reset bit -/
  req : Word
  rst : Word
  /-- 0 TRIPPED, 1 ON, 2 FAULT, 3 unused -/
  state : BitVec 2
  reqNow : Bool
  hs : Bool
  ls : Bool
  /-- dark test in progress: some false of the HS, some true of the LS -/
  dark : Option Bool
  /-- pending causes of R251, earliest first -/
  pend : List Nat
  /-- SO_k+ carried a foreign voltage at the last T0 boundary -/
  foreign : Bool
  rej : Bool
  latched : Bool
  curr : BitVec 16
  tripCnt : BitVec 16
  rejCnt : BitVec 16
  /-- previous reading of the reset source, none before the first one of a start (R253) -/
  prev : Option Bool
  /-- T1 count at which the present pulse began -/
  rise : Option Word
  /-- after a rejection the source must read 0 -/
  waitLow : Bool
deriving DecidableEq, Repr

/-- State of SAF. -/
structure SafBlk where
  cfg : Word
  sleFault : Bool
  sleCause : BitVec 3
  lp : BitVec 2
  /-- SL+ has been absent for 1 ms and has not come back (R249) -/
  lpGone : Bool
  budget : BitVec 16
  secId : BitVec 64
  si : Vector SiCh 16
  tp : Vector TpSrc 4
  so : Vector SoOut 8
  /-- the SLE starts at the next T1 boundary (R238) -/
  startReq : Bool
  /-- the watchdog runs, the count of its last accepted refresh, and it has expired (R241) -/
  wdOn : Bool
  wdLast : Word
  wdExpired : Bool
  /-- input values that the standby has received in the distributed input set (R255) -/
  dist : List (Nat × TWord)
deriving DecidableEq, Repr

/-- An unused safety input. -/
def SiCh.unused : SiCh :=
  { cfg := 0, var := 0xFFFFFFFF, level := false, run := 0, masked := false, held := false, before := 0, offAt := 0
    stuck := 0, pend := [], latched := false, seenTp := 0, cnt := 0 }

/-- An idle test-pulse source. -/
def TpSrc.idle : TpSrc :=
  { high := false, pulsing := false, retry := false, fault := false, cause := 0, latched := false, curr := 0
    freeNs := 10000000 }

/-- An unused safety output. -/
def SoOut.unused : SoOut :=
  { cfg := 0, req := 0xFFFFFFFF, rst := 0xFFFFFFFF, state := 3, reqNow := false, hs := false, ls := false, dark := none
    pend := [], foreign := false, rej := false, latched := false, curr := 0, tripCnt := 0, rejCnt := 0, prev := none
    rise := none, waitLow := false }

/-- SAF at reset. -/
def SafBlk.reset : SafBlk :=
  { cfg := 0, sleFault := false, sleCause := 0, lp := 0, lpGone := false, budget := 0, secId := 0, si := Vector.replicate 16 .unused
    tp := Vector.replicate 4 .idle, so := Vector.replicate 8 .unused, startReq := false, wdOn := false, wdLast := 0
    wdExpired := false, dist := [] }

end Sys2Proof.Machine
end

