-- ==== Sys2Proof/Machine/StkState.lean ====
section
/-! DEFINITION. Plain-data state of the stack and of the Transom ports (chapter 12). -/

namespace Sys2Proof.Machine
open Sys2Proof

/-- A timed stack transfer (R284, R351). -/
structure Xfer where
  /-- 0 remote input, 1 remote output, 2 exchange -/
  kind : Nat
  tier : Nat
  src : Nat
  dst : Nat
  bank : Nat
  /-- REM_LOSS_T0 (R287) -/
  loss : Nat
  /-- source and destination bindings -/
  words : List (Word × Word)
deriving DecidableEq, Repr, Inhabited

/-- Counts of a Transom port. -/
structure PortCnt where
  late : BitVec 16
  crc : BitVec 8
  down : BitVec 8
  /-- consecutive packets that have failed their CRC (R281) -/
  run : Nat
deriving DecidableEq, Repr, Inhabited

/-- A port's counts at 0. -/
def PortCnt.zero : PortCnt := { late := 0, crc := 0, down := 0, run := 0 }

/-- A barrier whose arrivals the master collects (R292). -/
structure Collect where
  id : BitVec 16
  /-- the pairs that have arrived -/
  bits : Word
  /-- tier-reference instant of the first arrival in ns -/
  t0 : Nat
deriving DecidableEq, Repr

/-- State of STK. Ports stand in the order UP, DOWN_A, DOWN_B. -/
structure StkBlk where
  member : Bool
  pairNum : BitVec 5
  single : Bool
  schedId : BitVec 16
  /-- STATUS.ROLE -/
  role : BitVec 3
  holdover : Bool
  synced : Bool
  up : Vector Bool 3
  /-- depth D of the reachable stack -/
  depth : BitVec 3
  mismatch : Bool
  /-- schedule ID of the master, as notices carry it (R284) -/
  masterSched : BitVec 16
  /-- the pairs that notices have named on each port, and those that the partner reaches on its tree (R288) -/
  heard : Vector Word 3
  mirror : Word
  members : Word
  ofs : BitVec 64
  /-- the stack time here is one that the stack carries, and not the own station's alone (R283) -/
  carried : Bool
  /-- a timing packet of this T1 period waits for its answer (R282) -/
  asked : Bool
  snapId : BitVec 16
  snapState : BitVec 2
  /-- t_s in stack time -/
  snapT : BitVec 64
  /-- what the last snapshot latched in DRAM, and its station time (R293) -/
  snapData : List (Nat × TWord)
  snapTime : BitVec 64
  /-- at a master: the sets of the last snapshot collected in its DRAM pool, by station (R293) -/
  snapSets : List (Nat × BitVec 64 × List (Nat × TWord))
  barId : BitVec 16
  barState : BitVec 2
  /-- at a master: the barriers whose arrivals it collects, the first one begun at the head (R292) -/
  cols : List Collect
  ports : Vector PortCnt 3
  peerLost : BitVec 16
  reroot : BitVec 16
  xfers : List Xfer
  snapList : List Nat
  /-- transfers received since the boundary that took the last ones: index, the cycle of the transfer's tier in which it came, and the
  words (R285) -/
  rx : List (Nat × Nat × List TWord)
  /-- consecutive T0 boundaries without a valid command, by remote output point (R287) -/
  miss : List (Nat × Nat)
  /-- remote output points in their safe state (R287) -/
  remSafe : List Nat
deriving DecidableEq, Repr

/-- The station takes part in a stack. -/
def StkBlk.inStack (k : StkBlk) : Bool := k.member && (k.role == 1#3 || k.role == 2#3 || k.role == 3#3 || k.role == 4#3)

/-- STK at reset. -/
def StkBlk.reset : StkBlk :=
  { member := false, pairNum := 0, single := false, schedId := 0, role := 0, holdover := false, synced := false,
    up := Vector.replicate 3 false, depth := 0, mismatch := false, masterSched := 0
    heard := Vector.replicate 3 0, mirror := 0, members := 0, ofs := 0, carried := false, asked := false, snapId := 0, snapState := 0
    snapT := 0, snapData := [], snapTime := 0, snapSets := [], barId := 0, barState := 0, cols := []
    ports := Vector.replicate 3 PortCnt.zero, peerLost := 0, reroot := 0, xfers := [],
    snapList := [], rx := [], miss := [], remSafe := [] }

end Sys2Proof.Machine
end

