-- ==== Sys2Proof/Machine/StnState.lean ====
section
/-! DEFINITION. Plain-data state of the STN block, the process image, the logs, the event router and IMG. -/

namespace Sys2Proof.Machine
open Sys2Proof

/-- Mode of STN.MODE.MODE. -/
inductive Mode | stop | run | hold
deriving DecidableEq, Repr

/-- One variable of the process image (R29, R347) with what was handed over last. -/
structure Var where
  /-- DATA index -/
  idx : Nat
  /-- 32-bit variable ID -/
  id : Word
  /-- type code 1 BOOL … 5 DWORD (R347) -/
  ty : Byte
  retain : Bool
  /-- operator-writable (R42) -/
  opw : Bool
  /-- stale limit (R38) -/
  stale : BitVec 4
  /-- writing block, coded as ORIGIN (R12) -/
  wblk : Nat
  /-- writing instance -/
  winst : Nat
  /-- writing tier 0…4, 7 none -/
  tier : Nat
  /-- initial value -/
  init : Word
  /-- value and tag handed over at the most recent handover -/
  cur : TWord
  /-- the unforced value and tag, meaningful while forced (R124) -/
  unf : TWord
  /-- a force stands and has taken effect (R124) -/
  forced : Bool
  /-- written since the last handover of its tier (R37) -/
  wrote : Bool
  /-- class C of what its writer writes (R35, R39) -/
  placed : Bool
deriving DecidableEq, Repr, Inhabited

/-- One entry of the force table (R123). -/
structure Force where
  id : Word
  idx : Nat
  value : Word
deriving DecidableEq, Repr

/-- A half of the MRAM retain area (R81). -/
structure RetHalf where
  /-- its CRC is right -/
  valid : Bool
  seq : Word
  /-- number and generation of the directory copy it follows -/
  dir : Bool
  gen : Word
  ents : List TWord
deriving DecidableEq, Repr, Inhabited

/-- A copy of the RETAIN directory (R81). -/
structure RetDir where
  /-- its CRC is right -/
  valid : Bool
  imageId : Nat
  gen : Word
  /-- variable ID and type code, in ascending variable-ID order -/
  ents : List (Word × Byte)
deriving DecidableEq, Repr, Inhabited

/-- A command accepted by the active station, which travels in the distributed input set of the next T1 boundary
(R42, R69, R79, R83, R117, R124, R158, R179, R202, R205, R262, R269, R305, R311, R359). -/
inductive DistCmd
  | mode (cmd : BitVec 3) (sess : Nat)
  | bkpt (e : Fin 16) (addr : BitVec 16) (en : Bool)
  /-- `at_` is the tier-reference instant of acceptance, from which the hold timer runs (R77) -/
  | hold (e : Fin 16) (cmd : BitVec 2) (at_ : Nat)
  | engRestart (e : Fin 16)
  | write (idx : Nat) (val : Word)
  | commit
  | forceSet (idx : Nat) (val : Word)
  | forceRemove (idx : Nat)
  | forceRemoveAll
  | loopRestart (l : Fin 192)
  | coldReq (p : Fin 64)
  | resync (a : Fin 8)
  | evtCtrl (n : Fin 128) (mode : BitVec 2) (seq : BitVec 8)
  | switchover
  | boffRec (k : Fin 8)
  | canSleep (k : Fin 8)
  | canWake (k : Fin 8)
  | profile (target : BitVec 2) (byCmd : Bool)
  | prepared (id : Nat)
  | evtTask (e : Fin 16) (i : Fin 4)
  | holdPermitStop
deriving DecidableEq, Repr

/-- Registers and hidden state of the STN block (R17–R24, R43, R47, R49, R54, R64–R83, R116–R127). -/
structure Stn where
  /-- station time in ns (R17) -/
  time : BitVec 64
  /-- tier reference in ns (R21, R22) -/
  tierRef : BitVec 64
  /-- tier-reference instant of the last boundary in ns (R21) -/
  lastB : Nat
  aligned : Bool
  slewing : Bool
  /-- ns by which the boundaries still have to move onto the new tier reference while slewing, ahead when positive (R23) -/
  slewLeft : Int
  /-- ns of station time, under 2 µs, that have passed since the last ns gained or lost by slewing (R23) -/
  slewRem : Nat
  /-- TIER_CNT_T0…T4 (R24) -/
  cnt : Vector Word 5
  refOk : Bool
  pllLock : Bool
  refLoss : Bool
  admCode : BitVec 8
  admTier : BitVec 3
  admObj : BitVec 20
  peakSlots : BitVec 12
  timedLate : BitVec 16
  lateCnt : BitVec 16
  satCnt : BitVec 8
  timedKib : BitVec 16
  placedFree : BitVec 16
  dramFree : Word
  dwVar : BitVec 20
  dwReason : BitVec 4
  mode : Mode
  faultStop : Bool
  stopCause : BitVec 4
  ovrEngine : BitVec 4
  ovrEvent : Bool
  lastStart : BitVec 2
  commissioning : Bool
  holdPermit : Bool
  /-- pending mode command (STN.MODE_CMD) and the session that wrote it -/
  modeCmd : BitVec 3
  modeSess : Nat
  /-- the pending RUN command has been carried by its T1 boundary and waits for a T4 boundary (R69) -/
  runCarried : Bool
  /-- start kind that the image's start mode still asks for (R72): 0 none, 1 cold, 2 warm -/
  autoStart : Nat
  holdTmo : BitVec 6
  /-- station time at which the running hold timer last started from zero (R77) -/
  holdT0 : BitVec 64
  /-- HOLD_PERMIT fell while the station was in HOLD and HOLD has lasted since (R78) -/
  permitCount : Bool
  retainVars : BitVec 17
  retHalf : Bool
  restoreFail : Bool
  retainSeq : Word
  halves : Vector RetHalf 2
  dirs : Vector RetDir 2
  /-- the directory copy that lists the RETAIN variables of the running image -/
  retDir : Bool
  olcCmd : BitVec 2
  olcState : BitVec 3
  persisted : Bool
  olcResult : BitVec 4
  /-- session that gave the PREPARE in progress (R367) -/
  olcSess : Nat
  olcCount : Word
  olcTier : BitVec 3
  olcKept : BitVec 16
  olcNew : BitVec 16
  olcDelInst : BitVec 16
  olcDelVars : BitVec 16
  olcGen : BitVec 16
  olcForceDrop : BitVec 11
  /-- the staged change package (R115) -/
  staged : List Byte
  /-- the standby synchronised at this moment has passed the checks of PREPARE too (R116 code 10, R128) -/
  olcPartner : Bool
  /-- DATA indices that operator writes named while a COMMIT was pending (R119) -/
  olcWrites : List Nat
  /-- COMMIT was accepted and its T1 boundary has fixed the commit boundary (R117) -/
  olcFixed : Bool
  forceVar : BitVec 20
  forceAct : BitVec 2
  forceVal : Word
  forceRes : BitVec 3
  forceIdx : BitVec 10
  forces : List Force
  forcePermit : Bool
  /-- commands accepted since the last T1 boundary, oldest first -/
  accepted : List DistCmd
  /-- levels of WAKE_0…WAKE_3 and of the debounced straps (STN.STATUS) -/
  wakePins : BitVec 4
  stackRoot : Bool
  pairIdPin : Bool
deriving DecidableEq, Repr

/-- A Daybook entry (R368). -/
structure DbEntry where
  stamp : BitVec 64
  num : Word
  code : BitVec 16
  source : BitVec 16
  sev : BitVec 3
  ledger : Bool
  lostBefore : Bool
  /-- 12 payload bytes -/
  payload : List Byte
deriving DecidableEq, Repr, Inhabited

/-- A Ledger record without its CRC (R371). -/
structure LgRec where
  seq : Word
  pcyc : BitVec 24
  acrossSleep : Bool
  fromDaybook : Bool
  lostBefore : Bool
  standby : Bool
  unclean : Bool
  opms : BitVec 44
  sev : BitVec 3
  code : BitVec 16
  source : BitVec 16
  /-- 36 payload bytes -/
  payload : List Byte
  stimeLo : Word
deriving DecidableEq, Repr, Inhabited

/-- What an MRAM slot of the Ledger holds when it is not empty (R371, R379). -/
inductive Slot
  /-- a record whose CRC is right -/
  | good (r : LgRec)
  /-- bytes with a wrong CRC; the bytes are free values drawn with this number -/
  | bad (n : Nat)
deriving DecidableEq, Repr

/-- A Daybook entry or Ledger record on its way to LOG within one fabric cycle (R370, R372). -/
structure LogItem where
  code : BitVec 16
  source : BitVec 16
  sev : BitVec 3
  /-- a required Ledger record (second case of R372); otherwise a Daybook entry -/
  ledger : Bool
  /-- up to 36 payload bytes -/
  payload : List Byte
  stamp : BitVec 64
  /-- a LOG-generated record, whose failed flush makes no further record (R376) -/
  own : Bool
deriving DecidableEq, Repr

/-- Kind of flush that LG_STATUS.FLUSH shows (R374). -/
inductive FlushKind | idle | fault | fill | powerFail | command | sleepEntry
deriving DecidableEq, Repr

/-- State of LOG (R365–R383). -/
structure LogBlk where
  dbSevMin : BitVec 3
  dbNext : Word
  dbDrop : BitVec 16
  /-- entries were dropped since the last stored one (R370) -/
  dbLost : Bool
  /-- stored entries, newest first, at most 16,384 -/
  ring : List DbEntry
  /-- the 64-entry intake queue, oldest first -/
  intake : List LogItem
  /-- items handed to LOG in the present command, oldest first -/
  fresh : List LogItem
  lgNext : Word
  /-- buffered records, oldest SEQ first, at most 256; true marks a LOG-generated record -/
  buf : List (LgRec × Bool)
  flush : FlushKind
  /-- how many records at the front of the buffer the flush in progress still covers -/
  flushLeft : Nat
  /-- how many of them the latest LOG.CTRL.FLUSH covers; FLUSH reads 1 until they are written (R7, R374) -/
  cmdLeft : Nat
  /-- records dropped since the last LOST record (R375) -/
  dropped : Nat
  /-- the next record carries LOST_BEFORE -/
  lgLost : Bool
  acrossSleep : Bool
  unclean : Bool
  mramErr : Bool
  pcyc : BitVec 24
  opms : BitVec 44
  /-- ns of station time since OP_MS last advanced (R377) -/
  opNs : Nat
  lost : BitVec 16
  torn : BitVec 8
  corrupt : BitVec 8
  failCnt : BitVec 16
  perm : List (Nat × Slot)
  circ : List (Nat × Slot)
  hist : List LgRec
  /-- the time word in MRAM: PCYC, OP_MS and the clean-shutdown mark (R378) -/
  twPcyc : BitVec 24
  twOpms : BitVec 44
  twClean : Bool
  /-- step of a clear in progress (R383): 0 none, 2 flushing up to the CLEAR record, 3 zeroing -/
  clearStep : Nat
  clearSeq : Word
  /-- a clear is refused while the lock-out lasts, and the station time at which it began (R382) -/
  lockout : Bool
  lockT0 : BitVec 64
  /-- station times of the refusals for reason 2 (R382), newest first -/
  hmacFails : List (BitVec 64)
deriving DecidableEq, Repr

/-- State of EVR (R406–R411). -/
structure Evr where
  routes : Vector Word 512
  raised : Vector Word 16
  raiseCnt : Vector Word 512
  sel : BitVec 9
  drop : BitVec 16
  /-- the supervisor queue: (source, PRIO), oldest first, at most 128 (R410) -/
  queue : List (Nat × Nat)
  /-- sources raised in the present command, which count once (R409) -/
  now : List Nat
  /-- raises routed to the stack master that have still to be issued as placed transfers: source, PRIO, station time of the raise (R409) -/
  out : List (Nat × Nat × Nat)
deriving DecidableEq, Repr

/-- The newest valid commit record of a profile (R354). -/
structure Commit where
  seq : Word
  bank : Bool
  totalLen : Nat
  imageId : Nat
  /-- first 32 bytes of the SHA-512 digest -/
  digest : List Byte
  commissioning : Bool
  /-- records in the current half of the commit area -/
  used : Nat
  /-- which half is current -/
  half : Bool
deriving DecidableEq, Repr

/-- The write marker of R355. -/
structure Marker where
  profile : BitVec 2
  bank : Bool
  imageId : Nat
  /-- the write persists an on-line change (R120) -/
  olc : Bool
deriving DecidableEq, Repr

/-- State of IMG (R353–R364). -/
structure Img where
  actProf : BitVec 2
  /-- bytes of the running image; none when no admitted image is in force -/
  running : Option (List Byte)
  pinProf : BitVec 2
  selCmd : Bool
  same : BitVec 4
  loadCode : BitVec 4
  loadSect : BitVec 4
  loadProf : BitVec 2
  fromFlash : Bool
  wState : BitVec 3
  wProf : BitVec 2
  wBank : Bool
  wProgress : BitVec 7
  /-- image being written -/
  wBytes : List Byte
  /-- images that wait for the write in progress, oldest first: profile, whether it persists an on-line change, bytes (R355) -/
  wWait : List (BitVec 2 × Bool × List Byte)
  /-- one of the two writes of a pair is complete, the other awaited (R128, R356) -/
  wOwnDone : Bool
  /-- the write persists an on-line change (R120) -/
  wOlc : Bool
  swCmdProf : BitVec 2
  swReq : Bool
  swState : BitVec 3
  swTarget : BitVec 2
  swSrc : Bool
  swResult : BitVec 4
  /-- a request has been accepted and waits for its T1 boundary or for S (R359) -/
  swPending : Bool
  swT4 : Word
  swDone : BitVec 16
  swRefused : BitVec 16
  /-- the two flash banks of the four profiles, bank k of profile p at 2p + k (R353) -/
  banks : Vector (List Byte) 8
  commits : Vector (Option Commit) 4
  writeLost : BitVec 4
  marker : Option Marker
  /-- the image that the preparation of a profile switch has loaded and checked (R360) -/
  prepared : Option (List Byte)
  /-- profile word of MRAM: profile, selected by a command, pin state (R364) -/
  profWord : Option (BitVec 2 × Bool × BitVec 2)
  imgKeys : Vector (List Byte) 4
  safKeys : Vector (List Byte) 2
deriving DecidableEq, Repr

/-- STN at the power-on reset; the halves and directory copies of MRAM hold no valid save (assumption log 17). -/
def Stn.reset : Stn :=
  { time := 0, tierRef := 0, lastB := 0, aligned := true, slewing := false, slewLeft := 0, slewRem := 0, cnt := Vector.replicate 5 0, refOk := false,
    pllLock := false, refLoss := false, admCode := 0, admTier := 7, admObj := 0, peakSlots := 0, timedLate := 0,
    lateCnt := 0, satCnt := 0, timedKib := 0, placedFree := 0x1E00, dramFree := 0x200000, dwVar := 0, dwReason := 0,
    mode := .stop, faultStop := false, stopCause := 1, ovrEngine := 0, ovrEvent := false, lastStart := 0,
    commissioning := false, holdPermit := false, modeCmd := 0, modeSess := 0, runCarried := false, autoStart := 0,
    holdTmo := 0x3C, holdT0 := 0, permitCount := false, retainVars := 0, retHalf := false, restoreFail := false,
    retainSeq := 0, halves := Vector.replicate 2 { valid := false, seq := 0, dir := false, gen := 0, ents := [] },
    dirs := Vector.replicate 2 { valid := false, imageId := 0, gen := 0, ents := [] }, retDir := false, olcCmd := 0,
    olcState := 0, persisted := true, olcResult := 0, olcSess := 0, olcCount := 0, olcTier := 7, olcKept := 0, olcNew := 0,
    olcDelInst := 0, olcDelVars := 0, olcGen := 0, olcForceDrop := 0, staged := [], olcPartner := false, olcWrites := [],
    olcFixed := false, forceVar := 0, forceAct := 0, forceVal := 0, forceRes := 0, forceIdx := 0, forces := [],
    forcePermit := false, accepted := [], wakePins := 0, stackRoot := false, pairIdPin := false }

/-- LOG at the power-on reset; the Ledger of MRAM is empty (assumption log 17). -/
def LogBlk.reset : LogBlk :=
  { dbSevMin := 0, dbNext := 0, dbDrop := 0, dbLost := false, ring := [], intake := [], fresh := [], lgNext := 0,
    buf := [], flush := .idle, flushLeft := 0, cmdLeft := 0, dropped := 0, lgLost := false, acrossSleep := false, unclean := false,
    mramErr := false, pcyc := 0, opms := 0, opNs := 0, lost := 0, torn := 0, corrupt := 0, failCnt := 0, perm := [],
    circ := [], hist := [], twPcyc := 0, twOpms := 0, twClean := false, clearStep := 0, clearSeq := 0,
    lockout := false, lockT0 := 0, hmacFails := [] }

/-- EVR at the power-on reset. -/
def Evr.reset : Evr :=
  { routes := Vector.replicate 512 0, raised := Vector.replicate 16 0, raiseCnt := Vector.replicate 512 0, sel := 0,
    drop := 0, queue := [], now := [], out := [] }

/-- IMG at the power-on reset; flash and the key area of MRAM are empty (assumption log 17). -/
def Img.reset : Img :=
  { actProf := 0, running := none, pinProf := 0, selCmd := false, same := 0, loadCode := 0, loadSect := 0, loadProf := 0,
    fromFlash := false, wState := 0, wProf := 0, wBank := false, wProgress := 0, wBytes := [], wWait := [], wOwnDone := false, wOlc := false,
    swCmdProf := 0, swReq := false, swState := 0, swTarget := 0, swSrc := false, swResult := 0, swPending := false,
    swT4 := 0, swDone := 0, swRefused := 0, banks := Vector.replicate 8 [], commits := Vector.replicate 4 none,
    writeLost := 0, marker := none, prepared := none, profWord := none, imgKeys := Vector.replicate 4 (List.replicate 32 0),
    safKeys := Vector.replicate 2 (List.replicate 32 0) }

end Sys2Proof.Machine
end

