-- ==== Sys2Proof/Machine/Inputs.lean ====
section
/-! DEFINITION. Operand types of the commands: what the outside world measures, receives or asks (assumption log 5). -/

namespace Sys2Proof.Machine
open Sys2Proof

/-- Kind of an engine fault (R65; the codes of the FAULT_STOP entry in R367). -/
inductive EngFault | ecc | opcode | branchStack
deriving DecidableEq, Repr

/-- What the field side of a point has read since the last T0 boundary. -/
inductive RawIn
  /-- sampler reads of a DI point, oldest first, one each 2 µs (R214) -/
  | levels (l : List Bool)
  /-- conversions of an AI point in value units, oldest first (R216) -/
  | conv (l : List Int)
  /-- changes of the front end of a COUNT or FREQ point, oldest first: age in ns at the boundary, and the level that began (R218) -/
  | edges (l : List (Nat × Bool))
  /-- measured terminal quantity of an output point (R212) -/
  | readback (w : Word)
deriving DecidableEq, Repr

/-- A point diagnostic (R224), in the order of the DIAG register. -/
inductive Diag | openWire | short | over | rbMis | supply
deriving DecidableEq, Repr

/-- An edge that an angle sensor delivers (R192–R194). -/
inductive EdgeIn
  /-- one encoder transition, in the forward quadrature direction or against it -/
  | quad (fwd : Bool)
  /-- an encoder transition in which A and B change together -/
  | both
  /-- a rising edge of Z -/
  | index
  /-- a tooth of a toothed wheel -/
  | tooth
deriving DecidableEq, Repr

/-- A hardware cause of SLE fault (R242): what the shadow checker compares is the main result and the coded one of word address
`a`; what a read decodes is the value and the code stored at `a` (R240). -/
inductive SleCause
  | checker (main coded : Word) (a : Nat)
  | code (v c : Word) (a : Nat)
  | overrun
  | ecc
deriving DecidableEq, Repr

/-- What the output field side measures at a safety output (R250, R251). -/
structure SoRead where
  /-- SO_k+ is at 5 V or above -/
  plusHigh : Bool
  /-- both terminals are within 1 V of their rails -/
  railsOk : Bool
  /-- load current in mA -/
  ma : Nat
deriving DecidableEq, Repr

/-- Which placed problem starts (R52, R185). -/
inductive PlacedSrc
  /-- the waiting request of a template, with the stations of the stack that offer a free placed slot -/
  | own (t : Fin 64) (offers : List Nat)
  /-- a waiting problem that a stack peer has sent here -/
  | fromPeer (x : PeerProb)
deriving DecidableEq, Repr

/-- What loses arbitration (R304, R306). -/
inductive ArbLoser
  /-- the frame of a transmit object -/
  | object (i : Fin 64)
  /-- the reference message, to another reference message or to a frame of another kind -/
  | reference (toRef : Bool)
deriving DecidableEq, Repr

/-- How one bus error moves the error counters by the rules of ISO 11898-1 (R305). -/
inductive ErrStep
  /-- the transmitter's counter rises by 8 -/
  | tx8
  /-- the receiver's counter rises by 1 -/
  | rx1
  /-- the receiver's counter rises by 8 -/
  | rx8
  /-- the standard makes an exception and neither rises -/
  | none
deriving DecidableEq, Repr

/-- What the field side gives at a T0 boundary: what its points, safety inputs and safety outputs have read since the last
one, and which present diagnostics no longer hold. -/
structure BoundaryIn where
  /-- diagnostics whose conditions have lapsed (R224) -/
  lapsed : List (Fin 96 × Diag)
  fieldIn : List (Fin 96 × RawIn)
  /-- sampler reads of the safety inputs, oldest first (R244) -/
  siIn : List (Fin 16 × List Bool)
  soIn : List (Fin 8 × SoRead)
  /-- current of the test-pulse sources in mA (R245) -/
  tpMa : List (Fin 4 × Nat)
deriving DecidableEq, Repr, Inhabited

/-- What one lane of the Sash link has given of a packet: a copy whose CRC-32C is right, none, or a copy that fails it (R259). -/
inductive LaneRx | ok | none | crc
deriving DecidableEq, Repr

/-- A packet of the Sash link as the two lanes have given it (R259). -/
structure SashPkt (α : Type) where
  a : LaneRx
  b : LaneRx
  body : α
deriving DecidableEq, Repr

/-- The link on which a packet of the stack has come: a Transom port, or the partner's lanes (R259, R280). -/
inductive PktIn
  | port (q : Fin 3)
  | sash (a b : LaneRx)
deriving DecidableEq, Repr

/-- The bank whose field side fails: its converter output (`conv`), or only the link across its barrier (R226). -/
structure SideLoss where
  bank : Fin 8
  conv : Bool
deriving DecidableEq, Repr

/-- The end of PREPARE's checks: the standby's verdict, and at a standby the package that it was sent (R128). -/
structure PrepareEnd where
  partnerOk : Bool
  pkg : Option (List Byte)
deriving DecidableEq, Repr

/-- A FORCE_CTRL write of a session that removes every force, with the variable that its VAR names (R123). -/
structure RemoveAll where
  sess : Fin 4
  var : BitVec 20
deriving DecidableEq, Repr

/-- What a Transom packet, or a packet of the stack on the Sash link, carries (R185, R282–R284, R288, R291–R293, R409). -/
inductive TPkt
  /-- a timed transfer, by its index in this pair's STACK section -/
  | xfer (i : Nat) (vals : List TWord)
  /-- a timing exchange with the parent: the correction in ns that it measures; in the packet that asks for one it is 0 -/
  | timing (ns : Int)
  /-- a notice: the pairs that the sender reaches on its own tree, the schedule ID of the master, and the stack time that the sender
  carries, if it does, as it is on arrival -/
  | members (m : Word) (sched : BitVec 16) (time : Option (BitVec 64))
  | barArrive (pair : Fin 32) (id : BitVec 16)
  | barRelease (id : BitVec 16) (failed : Bool)
  | snapAnnounce (id : BitVec 16) (ts : BitVec 64)
  /-- the set that a station latched: station, ID of the snapshot, station time, values -/
  | snapSet (stn : Fin 64) (id : BitVec 16) (t : BitVec 64) (d : List (Nat × TWord))
  /-- a raise routed to the stack master -/
  | raised (source : Fin 512) (prio : Fin 4)
  /-- a placed problem that a stack peer sends here -/
  | problem (x : PeerProb)
  /-- a timed packet for another pair, which leaves on this port -/
  | transit (port : Fin 3)
  /-- a placed packet for another pair, with its header and its transit time over the hop in ns (R45, R54) -/
  | placedTransit (port : Fin 3) (h : Hdr) (ns : Nat)
deriving DecidableEq, Repr

/-- What the station finds at its connectors when its main domain starts: feeds, L+_b and SL+ in mV, straps and pins. -/
structure PowerIn where
  feedA : Nat
  feedB : Nat
  lp : Vector Nat 8
  sl : Nat
  stackRoot : Bool
  pairId : Bool
  prof : BitVec 2
  wake : BitVec 4
  permit : Bool
deriving DecidableEq, Repr

/-- An engineering request datagram: port, sender, and the header fields and payload of R327. -/
structure Dgram where
  port : Fin 3
  ip : Word
  sess : Word
  seq : Word
  payload : List Byte
  mac : List Byte
deriving DecidableEq, Repr

/-- One item of the distributed input set (R262). -/
inductive SetItem
  | sample (n : Fin 96) (w : TWord)
  | readback (n : Fin 96) (w : TWord)
  | diag (n : Fin 96) (d : BitVec 5)
  /-- ANGLE, TURNS, VEL, ACC, STATE and the tag published for a source -/
  | angle (a : Fin 8) (w : Vector Word 5) (tag : Tag)
  | safety (n : Fin 16) (w : TWord)
  /-- a CAN, NET or stack value for a variable, by DATA index -/
  | var (n : Nat) (w : TWord)
  /-- the command of a remote output point (R286) -/
  | point (n : Fin 96) (w : TWord)
  | cmd (c : DistCmd)
  | pins (prof : BitVec 2) (permit : Bool)
  /-- decision state of a receive telegram (R323) -/
  | tel (r : Fin 128) (x : RxTel)
  /-- requests of a template whose results have not been delivered (R186) -/
  | placed (t : Fin 64) (wait : List PReq) (run : Option (PReq × PPlace)) (done : List (PReq × Nat × List (Word × TWord))) (issue : Nat)
  /-- stack time at the boundary, and the barriers of the stack's global operations (R282, R290) -/
  | stack (t : BitVec 64) (barId : BitVec 16) (barState : BitVec 2) (cols : List Collect)
deriving DecidableEq, Repr

/-- What step 5 of R275 hands over: every partition of R271, the retain halves, the force table and the running image. -/
structure SyncSet where
  stn : Stn
  vars : List Var
  le : Vector Engine 17
  lp : LoopBlk
  qp : QpBlk
  ang : AngBlk
  fld : FldBlk
  saf : SafBlk
  can : CanBlk
  tx : Vector (Option TxTel) 64
  rx : Vector (Option RxTel) 128
  evr : Evr
  image : List Byte
  /-- the profile switch under way: target, whether a command asked for it, and the ID of the image once its preparation is complete -/
  sw : Option (BitVec 2 × Bool × Option Nat)
  /-- resend passes of step 4 -/
  passes : BitVec 8
deriving DecidableEq, Repr

end Sys2Proof.Machine
end

