-- ==== Sys2Proof/Syntax.lean ====
section
/-! DEFINITION. The commands of the block: one constructor per row of the opcode table, with the operands its rule
names (assumption log 5). `e` is an engine (16 the SLE), `k` its task (0 cyclic, 1…4 EVT_0…EVT_3). -/

namespace Sys2Proof
open Sys2Proof.Machine

/-- A command of the block. -/
inductive Instr where
  /-- TIER_BOUNDARY (R25): A boundary of one or more tiers falls on the tier reference; the station hands over output images, latches field outputs and freezes input images. -/
  | tierBoundary (inp : BoundaryIn)
  /-- REMOTE_OUTPUT_LOSS (R287): A remote output point without a valid command for REM_LOSS_T0 T0 boundaries takes its safe state. -/
  | remoteOutputLoss (p : Fin 96)
  /-- SCAN_START (R58): At the opening of its execution window a cyclic task begins its scan on the frozen snapshot. -/
  | scanStart (e : Fin 17)
  /-- TASK_OVERRUN (R64): A task not finished at the end of its execution window overruns and the station enters fault STOP. -/
  | taskOverrun (l : List (Fin 16×Fin 5))
  /-- ENGINE_FAULT (R65): An ECC error, undefined opcode or branch-stack overflow sets FAULT and puts the station into fault STOP. -/
  | engineFault (e : Fin 16) (kind : EngFault)
  /-- NOP (R94): No operation. -/
  | nop (e : Fin 17) (k : Fin 5)
  /-- LD (R94): Loads a bit into LA with its tag. -/
  | ld (e : Fin 17) (k : Fin 5) (ix : Bool) (sp : BitVec 4) (ad : BitVec 20)
  /-- LDN (R94): Loads the inverted bit into LA with its tag. -/
  | ldn (e : Fin 17) (k : Fin 5) (ix : Bool) (sp : BitVec 4) (ad : BitVec 20)
  /-- AND (R94): ANDs a bit into LA and combines the tags. -/
  | and (e : Fin 17) (k : Fin 5) (ix : Bool) (sp : BitVec 4) (ad : BitVec 20)
  /-- ANDN (R94): ANDs the inverted bit into LA and combines the tags. -/
  | andn (e : Fin 17) (k : Fin 5) (ix : Bool) (sp : BitVec 4) (ad : BitVec 20)
  /-- OR (R94): ORs a bit into LA and combines the tags. -/
  | or (e : Fin 17) (k : Fin 5) (ix : Bool) (sp : BitVec 4) (ad : BitVec 20)
  /-- ORN (R94): ORs the inverted bit into LA and combines the tags. -/
  | orn (e : Fin 17) (k : Fin 5) (ix : Bool) (sp : BitVec 4) (ad : BitVec 20)
  /-- XOR (R94): XORs a bit into LA and combines the tags. -/
  | xor (e : Fin 17) (k : Fin 5) (ix : Bool) (sp : BitVec 4) (ad : BitVec 20)
  /-- XORN (R94): XORs the inverted bit into LA and combines the tags. -/
  | xorn (e : Fin 17) (k : Fin 5) (ix : Bool) (sp : BitVec 4) (ad : BitVec 20)
  /-- NOT (R94): Inverts LA and leaves its tag unchanged. -/
  | not (e : Fin 17) (k : Fin 5)
  /-- ST (R94): Stores LA into a Q or M bit. -/
  | st (e : Fin 17) (k : Fin 5) (ix : Bool) (sp : BitVec 4) (ad : BitVec 20)
  /-- STN (R94): Stores NOT LA into a Q or M bit. -/
  | stn (e : Fin 17) (k : Fin 5) (ix : Bool) (sp : BitVec 4) (ad : BitVec 20)
  /-- SET (R94): Sets a Q or M bit when LA = 1. -/
  | set (e : Fin 17) (k : Fin 5) (ix : Bool) (sp : BitVec 4) (ad : BitVec 20)
  /-- RST (R94): Clears a Q or M bit when LA = 1. -/
  | rst (e : Fin 17) (k : Fin 5) (ix : Bool) (sp : BitVec 4) (ad : BitVec 20)
  /-- AND_OPEN (R95): AND( pushes a branch entry holding LA, LT and AND. -/
  | andOpen (e : Fin 17) (k : Fin 5)
  /-- OR_OPEN (R95): OR( pushes a branch entry holding LA, LT and OR. -/
  | orOpen (e : Fin 17) (k : Fin 5)
  /-- XOR_OPEN (R95): XOR( pushes a branch entry holding LA, LT and XOR. -/
  | xorOpen (e : Fin 17) (k : Fin 5)
  /-- BRANCH_CLOSE (R95): ) pops a branch entry and combines it with LA and LT. -/
  | branchClose (e : Fin 17) (k : Fin 5)
  /-- LW (R97): Moves WA to WB and loads the operand into WA. -/
  | lw (e : Fin 17) (k : Fin 5) (ix : Bool) (sp : BitVec 4) (ad : BitVec 20)
  /-- SW (R97): Stores WA into a Q, M or W word. -/
  | sw (e : Fin 17) (k : Fin 5) (ix : Bool) (sp : BitVec 4) (ad : BitVec 20)
  /-- SWAP (R97): Exchanges WA and WB together with their tags. -/
  | swap (e : Fin 17) (k : Fin 5)
  /-- LXR (R97): Loads XR from WA, or 0xFFFF when WA is out of range. -/
  | lxr (e : Fin 17) (k : Fin 5)
  /-- ADD (R97): WA := WB + WA, saturating. -/
  | add (e : Fin 17) (k : Fin 5)
  /-- SUB (R97): WA := WB - WA, saturating. -/
  | sub (e : Fin 17) (k : Fin 5)
  /-- MUL (R97): WA := WB x WA, saturating. -/
  | mul (e : Fin 17) (k : Fin 5)
  /-- DIV (R97): WA := WB / WA rounded toward zero, with the exceptions of R98. -/
  | div (e : Fin 17) (k : Fin 5)
  /-- MOD (R97): WA := remainder of WB / WA, taking the sign of WB. -/
  | mod (e : Fin 17) (k : Fin 5)
  /-- NEG (R97): WA := -WA, saturating. -/
  | neg (e : Fin 17) (k : Fin 5)
  /-- ABS (R97): WA := |WA|, saturating. -/
  | abs (e : Fin 17) (k : Fin 5)
  /-- ADDF (R97): Binary32 addition of WB and WA. -/
  | addf (e : Fin 17) (k : Fin 5)
  /-- SUBF (R97): Binary32 subtraction WB - WA. -/
  | subf (e : Fin 17) (k : Fin 5)
  /-- MULF (R97): Binary32 multiplication of WB and WA. -/
  | mulf (e : Fin 17) (k : Fin 5)
  /-- DIVF (R97): Binary32 division WB / WA. -/
  | divf (e : Fin 17) (k : Fin 5)
  /-- NEGF (R97): Flips the sign bit of WA. -/
  | negf (e : Fin 17) (k : Fin 5)
  /-- ABSF (R97): Clears the sign bit of WA. -/
  | absf (e : Fin 17) (k : Fin 5)
  /-- SQRTF (R97): Binary32 square root of WA. -/
  | sqrtf (e : Fin 17) (k : Fin 5)
  /-- ITOF (R97): Converts integer WA to binary32. -/
  | itof (e : Fin 17) (k : Fin 5)
  /-- FTOI (R99): Converts binary32 WA to an integer, rounding to nearest even and saturating. -/
  | ftoi (e : Fin 17) (k : Fin 5)
  /-- ANDW (R97): Bitwise WA := WB AND WA. -/
  | andw (e : Fin 17) (k : Fin 5)
  /-- ORW (R97): Bitwise WA := WB OR WA. -/
  | orw (e : Fin 17) (k : Fin 5)
  /-- XORW (R97): Bitwise WA := WB XOR WA. -/
  | xorw (e : Fin 17) (k : Fin 5)
  /-- NOTW (R97): Bitwise WA := NOT WA. -/
  | notw (e : Fin 17) (k : Fin 5)
  /-- SHL (R97): Shifts WA left by n. -/
  | shl (e : Fin 17) (k : Fin 5) (n : BitVec 5)
  /-- SHR (R97): Shifts WA right by n, filling with 0. -/
  | shr (e : Fin 17) (k : Fin 5) (n : BitVec 5)
  /-- SAR (R97): Shifts WA right by n, filling with bit 31. -/
  | sar (e : Fin 17) (k : Fin 5) (n : BitVec 5)
  /-- EQ (R97): LA := WB = WA, signed. -/
  | eq (e : Fin 17) (k : Fin 5)
  /-- NE (R97): LA := WB != WA, signed. -/
  | ne (e : Fin 17) (k : Fin 5)
  /-- GT (R97): LA := WB > WA, signed. -/
  | gt (e : Fin 17) (k : Fin 5)
  /-- GE (R97): LA := WB >= WA, signed. -/
  | ge (e : Fin 17) (k : Fin 5)
  /-- LT (R97): LA := WB < WA, signed. -/
  | lt (e : Fin 17) (k : Fin 5)
  /-- LE (R97): LA := WB <= WA, signed. -/
  | le (e : Fin 17) (k : Fin 5)
  /-- EQF (R97): Binary32 comparison WB = WA into LA. -/
  | eqf (e : Fin 17) (k : Fin 5)
  /-- NEF (R99): Binary32 comparison WB != WA into LA, 1 on NaN. -/
  | nef (e : Fin 17) (k : Fin 5)
  /-- GTF (R97): Binary32 comparison WB > WA into LA. -/
  | gtf (e : Fin 17) (k : Fin 5)
  /-- GEF (R97): Binary32 comparison WB >= WA into LA. -/
  | gef (e : Fin 17) (k : Fin 5)
  /-- LTF (R97): Binary32 comparison WB < WA into LA. -/
  | ltf (e : Fin 17) (k : Fin 5)
  /-- LEF (R97): Binary32 comparison WB <= WA into LA. -/
  | lef (e : Fin 17) (k : Fin 5)
  /-- MIN (R97): WA := the smaller of WB and WA. -/
  | min (e : Fin 17) (k : Fin 5)
  /-- MAX (R97): WA := the larger of WB and WA. -/
  | max (e : Fin 17) (k : Fin 5)
  /-- SEL (R97): Keeps WA when LA = 1, otherwise takes WB. -/
  | sel (e : Fin 17) (k : Fin 5)
  /-- LTAG (R100): Loads the operand's tag into WA. -/
  | ltag (e : Fin 17) (k : Fin 5) (ix : Bool) (sp : BitVec 4) (ad : BitVec 20)
  /-- QCHK (R100): LA := 1 when the operand's Q <= 1. -/
  | qchk (e : Fin 17) (k : Fin 5) (ix : Bool) (sp : BitVec 4) (ad : BitVec 20)
  /-- SETQ (R100): Sets the Q field of WA's tag. -/
  | setq (e : Fin 17) (k : Fin 5) (q : BitVec 3)
  /-- JMP (R102): Jumps to the target. -/
  | jmp (e : Fin 17) (k : Fin 5) (target : BitVec 16)
  /-- JC (R102): Jumps when LA = 1. -/
  | jc (e : Fin 17) (k : Fin 5) (target : BitVec 16)
  /-- JCN (R102): Jumps when LA = 0. -/
  | jcn (e : Fin 17) (k : Fin 5) (target : BitVec 16)
  /-- LOOP (R102): Decrements WA and jumps while the new WA is above 0. -/
  | loop (e : Fin 17) (k : Fin 5) (target : BitVec 16)
  /-- CALL (R102): Pushes a return entry and jumps to a subroutine. -/
  | call (e : Fin 17) (k : Fin 5) (target : BitVec 16)
  /-- RET (R102): Pops the return entry and continues at its index. -/
  | ret (e : Fin 17) (k : Fin 5)
  /-- END (R102): Ends the task run. -/
  | end_ (e : Fin 17) (k : Fin 5)
  /-- EVT (R102): Raises the engine's program event when LA = 1. -/
  | evt (e : Fin 17) (k : Fin 5)
  /-- TON (R105): Evaluates an on-delay timer instance. -/
  | ton (e : Fin 17) (k : Fin 5) (ad : BitVec 20)
  /-- TOF (R105): Evaluates an off-delay timer instance. -/
  | tof (e : Fin 17) (k : Fin 5) (ad : BitVec 20)
  /-- TP (R106): Evaluates a pulse timer instance. -/
  | tp (e : Fin 17) (k : Fin 5) (ad : BitVec 20)
  /-- CTU (R107): Counts up on a rising LA. -/
  | ctu (e : Fin 17) (k : Fin 5) (ad : BitVec 20)
  /-- CTD (R107): Counts down on a rising LA. -/
  | ctd (e : Fin 17) (k : Fin 5) (ad : BitVec 20)
  /-- CRST (R107): Resets the count when LA = 1. -/
  | crst (e : Fin 17) (k : Fin 5) (ad : BitVec 20)
  /-- CLD (R107): Loads the count from WA when LA = 1. -/
  | cld (e : Fin 17) (k : Fin 5) (ad : BitVec 20)
  /-- REDGE (R108): Detects a rising edge of LA. -/
  | redge (e : Fin 17) (k : Fin 5) (ad : BitVec 20)
  /-- FEDGE (R108): Detects a falling edge of LA. -/
  | fedge (e : Fin 17) (k : Fin 5) (ad : BitVec 20)
  /-- HOLD_TIMEOUT (R77): The hold timer reaches HOLD_TMO_S and the station enters fault STOP with cause 5. -/
  | holdTimeout
  /-- HOLD_PERMIT_CHANGE (R78): The debounced HOLD_PERMIT pin changes level. -/
  | holdPermitChange (level : Bool)
  /-- HOLD_PERMIT_WITHDRAWN (R78): HOLD_PERMIT has been deasserted for 10 ms throughout HOLD, and commanded STOP with cause 6 follows at the next T1 boundary. -/
  | holdPermitWithdrawn
  /-- LOOP_SAMPLE_RELEASE (R133): A loop sample is released for computation at its sample instant plus the release offset. -/
  | loopSampleRelease (n : Fin 192)
  /-- LOOP_SAMPLE_COMPLETE (R134): A loop sample completes and its shadow state replaces the loop state. -/
  | loopSampleComplete (n : Fin 192) (slack : Nat)
  /-- LOOP_SAMPLE_MISS (R135): A sample not complete by its completion deadline is abandoned and counted as a miss. -/
  | loopSampleMiss (n : Fin 192)
  /-- LOOP_OUTPUT (R133): At the output instant the loop's output is latched into the bank or written to its OUT variable. -/
  | loopOutput (n : Fin 192)
  /-- LOOP_STALL (R156): An angle-sampled loop stalls after STALL_T2 T2 boundaries without a sample. -/
  | loopStall (n : Fin 192)
  /-- LOOP_MEM_ERR (R155): An uncorrectable ECC error in loop memory puts the loop into FAULT with cause 2. -/
  | loopMemErr (n : Fin 192)
  /-- LOOP_RELOAD_DONE (R158): The reload of a faulted loop's coefficients and tables completes. -/
  | loopReloadDone (n : Fin 192)
  /-- SOLVE_RELEASE (R181): A timed slot's solve is released at the rotation start after its boundary. -/
  | solveRelease (p : Fin 64)
  /-- SOLVE_COMPLETE (R172): A solve ends with a status and its results are written to the output buffer. -/
  | solveComplete (p : Fin 64)
  /-- PLACED_PROBLEM_START (R52): A waiting placed problem starts on a free placed slot, local or on a stack peer. -/
  | placedProblemStart (src : PlacedSrc)
  /-- PLACED_RESULT (R185): A placed result is handed back and enters the next input set of the requesting tier. -/
  | placedResult (t : Fin 64) (remote : Option (Nat×List TWord))
  /-- SLOT_MEM_ERR (R189): An uncorrectable ECC error in slot memory ends the solve with NUMERIC and reloads the slot. -/
  | slotMemErr (p : Fin 64) (ofs : BitVec 16)
  /-- SLOT_RELOAD_DONE (R189): The reload of a slot's content from the active image completes. -/
  | slotReloadDone (p : Fin 64)
  /-- ANGLE_EDGE (R193): An encoder or toothed-wheel edge arrives and is timestamped and classified. -/
  | angleEdge (a : Fin 8) (k : EdgeIn) (t : Nat)
  /-- VS_CROSSING (R195): A zero crossing of a VS phase is found and timestamped. -/
  | vsCrossing (v : Fin 2) (k : Fin 6) (t : Nat) (rms : Vector (BitVec 16) 3) (mhz : Nat)
  /-- LINE_FAULT (R193): An open or shorted encoder line pair is detected, a loss with cause 1. -/
  | lineFault (a : Fin 8)
  /-- STANDSTILL (R202): No counted edge for STILL.TMO puts the source into standstill. -/
  | standstill (a : Fin 8)
  /-- LOSS_RECOVERY (R202): A loss of cause 1, 5 or 7 ends after its condition has been absent for 10 ms. -/
  | lossRecovery (a : Fin 8)
  /-- ANGLE_WINDOW (R206): At ws = b + 4 us the scheduler evaluates each armed event over its window. -/
  | angleWindow
  /-- ANGLE_EVENT_FIRE (R207): An event fires at its predicted instant and switches a point, samples loops or raises its router source. -/
  | angleEventFire (n : Fin 128) (raw : List (Fin 96×TWord))
  /-- DIAG_DETECT (R224): A point diagnostic condition lasts its detection time and sets its state and latched bits. -/
  | diagDetect (n : Fin 96) (d : Diag)
  /-- SHORT_CIRCUIT_SHUTOFF (R219): A DO point at its current limit for 200 us, or over-temperature, switches off and latches off. -/
  | shortCircuitShutoff (n : Fin 96)
  /-- BANK_OVERLOAD (R223): Bank output current above 4.0 A for 20 ms latches every DO and PWM point off. -/
  | bankOverload (b : Fin 8)
  /-- LPLUS_CHANGE (R226): L+_b changes class between absent, low and good. -/
  | lplusChange (b : Fin 8) (mv : Nat) (ma : Nat)
  /-- FIELD_SIDE_FAIL (R226): A bank's field side loses its converter or barrier link for 100 us. -/
  | fieldSideFail (x : SideLoss)
  /-- FIELD_SIDE_RECOVER (R226): A failed field side recovers and the bank starts as after power-on. -/
  | fieldSideRecover (b : Fin 8)
  /-- SHUTTER_EXPIRE (R229): No refresh within SHUT_TMO closes the bank and its outputs take their safe states. -/
  | shutterExpire (b : Fin 8)
  /-- AO_WAIT_EXPIRE (R232): After a takeover with the partner silent, AO points drive once their wait has elapsed. -/
  | aoWaitExpire (b : Fin 8)
  /-- PWM_PERIOD_START (R221): A PWM period starts and applies the latched duty. -/
  | pwmPeriodStart (n : Fin 96)
  /-- FIELD_DISAGREE (R236): A field-reading disagreement lasts CMP.T0N boundaries and starts a self-check. -/
  | fieldDisagree (n : Fin 112)
  /-- TP_PULSE_START (R244): A test-pulse source begins its pulse at its T3 offset, or a retry when faulted. -/
  | tpPulseStart (k : Fin 4) (reads : BitVec 16)
  /-- TP_PULSE_END (R245): A test pulse ends and each assigned input is judged at its last sampler read. -/
  | tpPulseEnd (k : Fin 4) (reads : BitVec 16)
  /-- TP_MASK_END (R245): The input mask ends 200 us after a pulse and the delivered value follows the input again. -/
  | tpMaskEnd (k : Fin 4) (reads : BitVec 16)
  /-- TP_FAULT (R244): A source whose switch conducts during a pulse, or whose limit acts for 1 ms, switches off with a TP fault. -/
  | tpFault (k : Fin 4) (overload : Bool)
  /-- DISCREPANCY (R246): Paired channels disagree for longer than DISC and take channel fault cause 3. -/
  | discrepancy (p : Fin 8)
  /-- SLE_WATCHDOG_EXPIRE (R241): SWD_TMO passes without an accepted refresh and every SO and TP switches off. -/
  | sleWatchdogExpire
  /-- SLE_FAULT (R242): The SLE halts on a checker mismatch, code error, overrun, ECC error, watchdog or program fault, and every SO goes to FAULT. -/
  | sleFault (c : SleCause)
  /-- SLPLUS_LOSS (R249): SL+ absent for 1 ms trips every output in ON. -/
  | slplusLoss
  /-- DARK_TEST (R250): A switch of an ON output is switched off for a 300 us dark test. -/
  | darkTest (k : Fin 8) (ls : Bool)
  /-- DARK_TEST_END (R250): The dark test ends and a switch still conducting is judged stuck. -/
  | darkTestEnd (k : Fin 8) (ls : Bool) (conducting : Bool)
  /-- SO_SHUTOFF (R251): An output at its current limit for 500 us goes to FAULT with cause 4. -/
  | soShutoff (k : Fin 8)
  /-- HEARTBEAT_SEND (R264): A station sends a heartbeat on both lanes at every 5 us instant. -/
  | heartbeatSend
  /-- HEARTBEAT_RECEIVE (R264): A partner heartbeat arrives, carrying its STATE, FAULT, RELEASED and CLK_REC. -/
  | heartbeatReceive (w : Word) (a : LaneRx) (b : LaneRx) (id : Bool) (depart : Bool)
  /-- INPUT_SET_RECEIVE (R262): A part of the distributed input set arrives at the standby. -/
  | inputSetReceive (rest : Bool) (items : SashPkt (List SetItem))
  /-- DUE_MISS (R264): A heartbeat or input-set part is not received valid by its due instant. -/
  | dueMiss (k : Fin 3)
  /-- OWN_FAULT_REPORT (R265): An active station that detects its own fault releases its banks and sends a fault heartbeat. -/
  | ownFaultReport
  /-- SEEKING_TIMEOUT (R261): A seeking member hears nothing for 1 s or 3 s and becomes ACTIVE_SOLO. -/
  | seekingTimeout
  /-- LANE_DOWN (R259): A Sash lane goes down after 1 us without signal or three bad packets. -/
  | laneDown (l : Fin 2)
  /-- LANE_UP (R259): A Sash lane comes back up after 100 ms without error. -/
  | laneUp (l : Fin 2)
  /-- PRESENCE_SEND (R325): A pair member sends a presence telegram at every T2 boundary + 500 us. -/
  | presenceSend
  /-- PRESENCE_RECEIVE (R268): A partner presence telegram arrives; a dual-active conflict sends the station to ISOLATED. -/
  | presenceReceive (st : BitVec 3) (driving : Bool) (id : Bool)
  /-- PRESENCE_LAPSE (R325): No valid presence telegram arrives for 3 ms and PRESENCE clears. -/
  | presenceLapse
  /-- DIGEST_COMPUTED (R272): Each station completes its partition digests by b + 500 us and the active sends them. -/
  | digestComputed
  /-- DIGEST_RECEIVE (R272): The standby receives the active's digests, compares them and returns the mismatch mask. -/
  | digestReceive (l : SashPkt (List (BitVec 64)))
  /-- MISMATCH_MASK_RECEIVE (R272): The active receives the mismatch mask and both stations start self-checks on diverging partitions. -/
  | mismatchMaskReceive (m : SashPkt (BitVec 10))
  /-- SELF_CHECK_OUTCOME (R272): At b + 2 ms the self-check outcome makes a station FAULTY, switches over or resynchronises. -/
  | selfCheckOutcome (ownFails : Bool) (partnerFails : Bool)
  /-- RESYNC_MARK_RECEIVE (R275): The end-of-stream mark arrives at a T4 boundary and the joining station enters STANDBY. -/
  | resyncMarkReceive (x : SashPkt SyncSet)
  /-- TIER_ALIGNED (R23): Slewing ends once the boundaries lie within 50 ns of the new tier reference. -/
  | tierAligned
  /-- TRANSOM_PACKET_RECEIVE (R281): A Transom packet arrives, is CRC-checked and is forwarded or taken. -/
  | transomPacketReceive (q : PktIn) (crcOk : Bool) (p : TPkt)
  /-- PORT_DOWN (R281): A Transom port goes down after 1 us without signal or three bad packets. -/
  | portDown (q : Fin 3) (mirror : Word) (sched : BitVec 16) (told : Bool)
  /-- PORT_UP (R281): A Transom port comes back up after 100 ms without error. -/
  | portUp (q : Fin 3) (heard : Word) (sched : BitVec 16) (time : Option (BitVec 64))
  /-- BARRIER_TIMEOUT (R292): A barrier is released with STATE 3 when 10 ms pass after its first arrival. -/
  | barrierTimeout
  /-- SNAPSHOT_LATCH (R293): At t_s every station latches its snapshot list with its station time. -/
  | snapshotLatch
  /-- STACK_RESET_SYMBOL (R294): A station receives the stack-reset symbol, forwards it and enters warm reset. -/
  | stackResetSymbol (q : Fin 3)
  /-- TIMED_DEADLINE_MISS (R49): A timed transfer misses its deadline; its variables age with Q >= 5 and a MAJOR record is written. -/
  | timedDeadlineMiss (blk : Nat) (inst : Nat) (tier : Fin 5) (dl : Word) (vars : List Nat) (port : Option (Fin 3))
  /-- PLACED_PACKET_GRANT (R53): A placed-class arbiter grants the waiting request with the largest AGE. -/
  | placedPacketGrant (t : PlTarget) (new : List PlReq)
  /-- PLACED_PACKET_COMPLETE (R46): A placed packet completes, and a late one increments LATE_CNT. -/
  | placedPacketComplete (port : Fin 8) (t : PlTarget)
  /-- CAN_FRAME_RECEIVE (R300): A CAN frame is received and accepted by a receive object or captured. -/
  | canFrameReceive (k : Fin 8) (f : CanFrame) (res : Bool)
  /-- CAN_FRAME_SENT (R303): A transmit request completes on the bus. -/
  | canFrameSent (k : Fin 8) (obj : Option (Fin 64)) (tdcv : Nat)
  /-- CAN_ERROR (R305): A bus error updates TEC, REC, LEC and the error state. -/
  | canError (k : Fin 8) (kind : Fin 6) (dataPhase : Bool) (err : ErrStep) (obj : Option (Fin 64))
  /-- BOFF_RECOVERED (R305): The bus-off recovery sequence completes and the controller becomes error active. -/
  | boffRecovered (k : Fin 8)
  /-- CAN_REFERENCE_SEND (R306): A time master sends the reference message of a basic cycle at its instant. -/
  | canReferenceSend (k : Fin 8) (c : Fin 64) (late : Bool)
  /-- CAN_WINDOW_OPEN (R306): An exclusive or arbitrating transmit window of the matrix opens. -/
  | canWindowOpen (k : Fin 8) (w : Nat)
  /-- CAN_WINDOW_CLOSE (R302): A reception window closes, and without a valid frame WIN_MISS increments. -/
  | canWindowClose (k : Fin 8) (w : Nat)
  /-- TT_SYNC_LOSS (R307): A time slave loses synchronisation after a basic cycle plus 10 % without a reference message. -/
  | ttSyncLoss (k : Fin 8)
  /-- CAN_WAKE (R311): A sleeping bus detects a wake-up pattern or matching wake-up frame. -/
  | canWake (k : Fin 8) (f : Option CanFrame)
  /-- TXD_TIMEOUT (R296): The TXD dominant time-out releases the transmitter. -/
  | txdTimeout (k : Fin 8)
  /-- TELEGRAM_SEND (R317): A transmit telegram is sent on NET_A and NET_B at its boundary + TX_OFS. -/
  | telegramSend (t : Fin 64)
  /-- TELEGRAM_RECEIVE (R318): A telegram copy arrives and is held or discarded. -/
  | telegramReceive (leafB : Bool) (f : TelFrame)
  /-- TELEGRAM_WATCHDOG (R321): WDG_CYC boundaries pass without acceptance and the telegram's safe values stand. -/
  | telegramWatchdog (r : Fin 128)
  /-- ARP_REQUEST (R314): The station answers an ARP request. -/
  | arpRequest (p : Fin 3)
  /-- ICMP_ECHO (R314): The station answers an ICMP echo request, at most 10 per second per port. -/
  | icmpEcho (p : Fin 3)
  /-- NET_LINK_CHANGE (R313): An Ethernet port's link goes up or down. -/
  | netLinkChange (p : Fin 3) (up : Bool)
  /-- PLACED_FRAME_SEND (R315): A queued placed frame is sent when it fits before the next telegram. -/
  | placedFrameSend (p : Fin 3)
  /-- HELLO (R328): The tool opens a session, and the station answers with CHALLENGE. -/
  | hello (d : Dgram)
  /-- PROOF (R328): The tool proves the key, and the station answers with ACCEPT or counts a failed proof. -/
  | proof (d : Dgram)
  /-- CLOSE (R329): Closes the session. -/
  | close (d : Dgram)
  /-- READ (R331): Reads 1 to 256 consecutive registers. -/
  | read (d : Dgram)
  /-- WRITE (R331): Writes 1 to 64 consecutive registers, stopping at the first refused word. -/
  | write (d : Dgram)
  /-- KWRITE (R331): Writes up to 16 address-value pairs of one block inside a keyed window. -/
  | kwrite (d : Dgram)
  /-- IMG_OPEN (R333): Opens a transfer of a full image or a change package. -/
  | imgOpen (d : Dgram)
  /-- IMG_DATA (R333): Carries one chunk of an image transfer. -/
  | imgData (d : Dgram)
  /-- IMG_END (R333): Closes the transfer and passes the image to IMG or stages the change package. -/
  | imgEnd (d : Dgram)
  /-- MODE (R332): Writes a mode command through the STN keyed window in one step. -/
  | modeOp (d : Dgram)
  /-- LOG_READ (R334): Reads Daybook entries, Ledger records or clear-history entries. -/
  | logRead (d : Dgram)
  /-- LOG_CLEAR_CHAL (R382): Returns a clear challenge, the serial number and NEXT. -/
  | logClearChal (d : Dgram)
  /-- LOG_CLEAR (R382): Authorises a clear of the circulating area or refuses it with a CLEAR_REFUSED record. -/
  | logClear (d : Dgram)
  /-- CAN_CAPTURE (R334): Removes up to 16 frames from a controller's capture FIFO. -/
  | canCapture (d : Dgram)
  /-- KEY_SET (R343): Writes a session secret, image key or safety key and a MAJOR record. -/
  | keySet (d : Dgram)
  /-- SESSION_TIMEOUT (R329): A session closes after 30 s without a valid datagram. -/
  | sessionTimeout (sess : Fin 4)
  /-- CHALLENGE_LAPSE (R328): A CHALLENGE not answered within 5 s lapses. -/
  | challengeLapse (id : Word)
  /-- HELLO_LOCKOUT_END (R329): The 60 s during which HELLO from an address is ignored end. -/
  | helloLockoutEnd (ip : Word)
  /-- TRANSFER_ABANDON (R333): An image transfer without a chunk for 30 s is abandoned. -/
  | transferAbandon
  /-- CLEAR_CHALLENGE_LAPSE (R382): A clear challenge lapses after 30 s. -/
  | clearChallengeLapse
  /-- CLEAR_LOCKOUT_END (R382): The 600 s clear lock-out ends. -/
  | clearLockoutEnd
  /-- IMAGE_WRITE_DONE (R355): A flash write of an image completes with its commit record. -/
  | imageWriteDone (ok : Bool)
  /-- PARTNER_WRITE_DONE (R356): The standby finishes writing an image and LOAD_RESULT takes its final code. -/
  | partnerWriteDone (ok : Bool)
  /-- IMAGE_LOAD (R357): After a reset or wake, IMG loads and checks the profile selected by the stable pins. -/
  | imageLoad
  /-- PROF_SEL_CHANGE (R359): A change of the profile pins, stable for 50 ms, requests a switch. -/
  | profSelChange (pins : BitVec 2)
  /-- SWITCH_PREPARED (R360): The preparation of a profile switch completes or is refused. -/
  | switchPrepared
  /-- PREPARE_DONE (R116): PREPARE's checks, at both stations of a pair, complete and the change reaches PREPARED or STAGED. -/
  | prepareDone (x : PrepareEnd)
  /-- OLC_PERSISTED (R120): The resulting image of a committed change is written to flash and STATE returns to IDLE. -/
  | olcPersisted (ok : Bool)
  /-- SUP_QUEUE_TAKE (R410): The firmware takes the next raise from the supervisor queue. -/
  | supQueueTake
  /-- FLUSH_RECORD_DONE (R374): A flush finishes writing and reading back one Ledger record. -/
  | flushRecordDone (ok : Bool)
  /-- CLEAR_DONE (R383): Step 3 of a clear completes and CLEARING reads 0. -/
  | clearDone
  /-- POWER_ON (R384): The power-on reset ends once a feed has been at or above 17.0 V for 20 ms. -/
  | powerOn (x : PowerIn)
  /-- FEED_CHANGE (R386): A feed changes class between absent, low and good. -/
  | feedChange (b : Bool) (mv : Nat)
  /-- POWER_FAIL (R387): Every feed is absent for 5 ms and the power-fail sequence starts. -/
  | powerFail
  /-- POWER_FAIL_FLUSH_DONE (R387): The power-fail flush completes and the station enters reset. -/
  | powerFailFlushDone
  /-- POWER_FAIL_RECOVERY (R388): A returned feed holds for 20 ms after the sequence and the station leaves reset with cause 7. -/
  | powerFailRecovery
  /-- HOLDUP_END (R387): The hold-up storage is exhausted and the station is OFF. -/
  | holdupEnd
  /-- NRESET (R389): nRESET low for at least 10 us starts a warm reset or wakes the station. -/
  | nreset
  /-- SUP_WATCHDOG (R389): The supervisor watchdog is not refreshed for 100 ms and a warm reset follows. -/
  | supWatchdog
  /-- LOCKSTEP_MISMATCH (R389): The two SUP cores disagree and a warm reset follows. -/
  | lockstepMismatch
  /-- WARM_RESET_END (R389): A warm reset ends after at least 1 ms and IMG loads the profile. -/
  | warmResetEnd
  /-- CLOCK_FAULT (R19): PLL loss of lock or a missing reference declares a clock fault and holds the station in warm reset. -/
  | clockFault
  /-- CLOCK_RECOVERED (R19): The reference has been present and the PLL locked for 10 ms, ending the clock-fault reset. -/
  | clockRecovered
  /-- SLEEP_VOTE_DONE (R392): Every block has voted; a refusal is recorded, otherwise phase 2 is scheduled. -/
  | sleepVoteDone
  /-- SLEEP_QUIESCE_SLOT (R394): A block's quiescing slot opens; it re-tests its condition and stops. -/
  | sleepQuiesceSlot
  /-- SLEEP_RESTORE (R395): After a phase-2 refusal the stopped blocks are restored in reverse slot order. -/
  | sleepRestore
  /-- WAKE_SOURCE (R399): A wake pin, CAN wake or nRESET wakes the station from SLEEP. -/
  | wakeSource (pins : BitVec 4) (can : BitVec 8) (nreset : Bool) (cnt : BitVec 64) (ok : Bool) (x : PowerIn)
  /-- TIME_LO_READ (R18): A read of STN.TIME_LO latches the upper half of station time for the requester. -/
  | timeLoRead (r : Fin 21)
  /-- STK_TIME_LO_READ (R18): A read of STK.TIME_LO latches the upper half of stack time for the requester. -/
  | stkTimeLoRead (r : Fin 21)
  /-- OPMS_LO_READ (R18): A read of LOG.OPMS_LO latches LOG.OPMS_HI for the requester. -/
  | opmsLoRead (r : Fin 21)
  /-- SLEEP_CNT_LO_READ (R18): A read of PWR.SLEEP_CNT_LO latches SLEEP_CNT_HI for the requester. -/
  | sleepCntLoRead (r : Fin 21)
  /-- DATA_VALUE_READ (R41): A read of a DATA value word latches its tag for the requester. -/
  | dataValueRead (r : Fin 21) (n : BitVec 20)
  /-- MEM_DATA_READ (R164): A read of QP.SC_c.MEM_DATA returns a slot memory word and increments MEM_ADDR.WORD. -/
  | memDataRead (c : Fin 8)
  /-- KEY_WRITE (R9): A write to a block's KEY register advances, disarms or opens that session's keyed window. -/
  | keyWrite (sess : Fin 4) (a : Word) (v : Word)
  /-- KEYED_WINDOW_CLOSE (R9): A keyed window closes at the end of its 64 fabric cycles. -/
  | keyedWindowClose (sess : Fin 4) (a : Word)
  /-- DATA_WRITE (R42): An operator write to a DATA value word is accepted or refused by R43. -/
  | dataWrite (sess : Fin 4) (n : BitVec 20) (isTag : Bool) (v : Word)
  /-- REGISTER_WRITE (R10): A write to a register without a row of its own, refused when it holds RWK fields outside the session's window. -/
  | registerWrite (sess : Fin 4) (a : Word) (v : Word)
  /-- STOP (R69): Mode command STOP, taking effect at the next T1 boundary. -/
  | stop (sess : Fin 4)
  /-- RUN_COLD (R69): Mode command RUN with a cold start at the next T4 boundary. -/
  | runCold (sess : Fin 4)
  /-- RUN_WARM (R69): Mode command RUN with a warm start at the next T4 boundary. -/
  | runWarm (sess : Fin 4)
  /-- RUN_HOT (R69): Mode command RUN with a hot start, allowed only after a commanded STOP of cause 2 or 6. -/
  | runHot (sess : Fin 4)
  /-- RELEASE (R69): Mode command RELEASE, resuming every frozen engine and clearing breakpoints. -/
  | release (sess : Fin 4)
  /-- BREAKPOINT_SET (R75): A write of LE.LE_e.BKPT enables or disables a breakpoint, taking effect at the next T1 boundary. -/
  | breakpointSet (sess : Fin 4) (e : Fin 16) (addr : BitVec 16) (en : Bool)
  /-- STEP (R76): Hold command STEP runs a frozen engine on by one scan. -/
  | step (sess : Fin 4) (e : Fin 16)
  /-- RESUME (R76): Hold command RESUME lets a frozen engine run freely. -/
  | resume (sess : Fin 4) (e : Fin 16)
  /-- FREEZE (R76): Hold command FREEZE freezes an engine at the end of its current scan. -/
  | freeze (sess : Fin 4) (e : Fin 16)
  /-- LE_CLR_STAT (R7): Clears SCAN_MAX and MERGE_CNT of a logic engine. -/
  | leClrStat (sess : Fin 4) (e : Fin 16)
  /-- ENGINE_RESTART (R83): Requests an engine restart, accepted only in STOP or HOLD. -/
  | engineRestart (sess : Fin 4) (e : Fin 16)
  /-- PREPARE (R116): Starts the checks of a staged on-line change. -/
  | prepare (sess : Fin 4)
  /-- COMMIT (R117): Repeats the commit checks and fixes the commit boundary. -/
  | commit (sess : Fin 4)
  /-- DISCARD (R119): Discards a change in STAGED or PREPARED. -/
  | discard (sess : Fin 4)
  /-- FORCE_SET (R123): Sets a force on a variable, checked in the order of R123. -/
  | forceSet (sess : Fin 4) (var : BitVec 20)
  /-- FORCE_REMOVE (R123): Removes the force from a variable. -/
  | forceRemove (sess : Fin 4) (var : BitVec 20)
  /-- FORCE_REMOVE_ALL (R123): Removes every standing force. -/
  | forceRemoveAll (x : RemoveAll)
  /-- FAB_CLR_CNT (R7): Clears the timed-late, placed-late and age-saturation counts. -/
  | fabClrCnt (sess : Fin 4)
  /-- LOOP_ENG_CLR_STAT (R7): Sets a loop engine's MIN_SLACK to 0xF_FFFF. -/
  | loopEngClrStat (sess : Fin 4) (e : Fin 24)
  /-- LOOP_RESTART (R158): Requests a loop restart, acting at its first sample after the carrying T1 boundary. -/
  | loopRestart (sess : Fin 4) (n : Fin 192)
  /-- LOOP_CLR_CNT (R7): Clears a loop's MISS_CNT and SKIP_CNT. -/
  | loopClrCnt (sess : Fin 4) (n : Fin 192)
  /-- QP_CL_CLR_STAT (R7): Clears STAT_CNT and SUPERSEDE of every slot of a cluster. -/
  | qpClClrStat (sess : Fin 4) (c : Fin 8)
  /-- COLD_REQ (R179): Requests a cold start of a slot's next solve. -/
  | coldReq (sess : Fin 4) (p : Fin 64)
  /-- SLOT_CLR_CNT (R7): Clears a slot's STAT_CNT. -/
  | slotClrCnt (sess : Fin 4) (p : Fin 64)
  /-- ANG_CLR_STAT (R7): Clears ERR_CNT of every source and LATE and INHIB of every event. -/
  | angClrStat (sess : Fin 4)
  /-- RESYNC (R202): Drops a source's synchronisation at the next T1 boundary. -/
  | resync (sess : Fin 4) (a : Fin 8)
  /-- EVT_CTRL_WRITE (R205): A session writes an event's MODE and SEQ, taken at the next T1 boundary. -/
  | evtCtrlWrite (sess : Fin 4) (n : Fin 128) (mode : BitVec 2) (seq : BitVec 8)
  /-- CLR_DIAG (R225): Clears the latched diagnostic bits of every point of a bank. -/
  | clrDiag (sess : Fin 4) (b : Fin 8)
  /-- FLD_CLR_CNT (R7): Clears CLOSE_CNT and every DIAG_CNT of a bank. -/
  | fldClrCnt (sess : Fin 4) (b : Fin 8)
  /-- SAF_CLR_CNT (R7): Clears SLE_CYC.MAX and the safety counts. -/
  | safClrCnt (sess : Fin 4)
  /-- CLR_SO_FAULT (R251): Clears causes 4 and 5 of safety output faults whose condition is absent. -/
  | clrSoFault (sess : Fin 4)
  /-- SWITCH (R269): Requests a commanded switchover of the pair. -/
  | switch (sess : Fin 4)
  /-- REJOIN (R274): Makes a FAULTY or ISOLATED station rejoin through SEEKING. -/
  | rejoin (sess : Fin 4)
  /-- PAIR_CLR_CNT (R7): Clears the pair's lane, switch and field-comparison counts. -/
  | pairClrCnt (sess : Fin 4)
  /-- STACK_RESET (R294): At the master, resets every station of the stack. -/
  | stackReset (sess : Fin 4)
  /-- SNAP_REQ (R293): At the master, requests a stack snapshot and fixes t_s. -/
  | snapReq (sess : Fin 4)
  /-- STK_CLR_CNT (R7): Clears the Transom port counts and STK.COUNTS. -/
  | stkClrCnt (sess : Fin 4)
  /-- BARRIER_ARRIVE (R292): A pair arrives at a barrier by writing its ID to STK.BARRIER. -/
  | barrierArrive (sess : Fin 4) (id : BitVec 16)
  /-- BOFF_REC (R305): Requests bus-off recovery at the next T1 boundary. -/
  | boffRec (sess : Fin 4) (k : Fin 8)
  /-- CAN_SLEEP_REQ (R311): Puts one CAN bus to sleep at the next T1 boundary. -/
  | canSleepReq (sess : Fin 4) (k : Fin 8)
  /-- WAKE_REQ (R311): Wakes a sleeping CAN bus at the next T1 boundary. -/
  | wakeReq (sess : Fin 4) (k : Fin 8)
  /-- CAN_CLR_CNT (R7): Clears every count of a CAN controller. -/
  | canClrCnt (sess : Fin 4) (k : Fin 8)
  /-- NET_CLR_CNT (R7): Clears every count of the NET block. -/
  | netClrCnt (sess : Fin 4)
  /-- SW_CMD_REQ (R359): Requests a switch to the profile in SW_CMD.PROFILE. -/
  | swCmdReq (sess : Fin 4) (prof : BitVec 2)
  /-- LOG_FLUSH (R374): Starts a command flush of the Ledger buffer. -/
  | logFlush (sess : Fin 4)
  /-- LOG_CLR_CNT (R7): Clears DB_LOST.DROP, LG_LOST.LOST and CLR_FAIL.FAIL_CNT. -/
  | logClrCnt (sess : Fin 4)
  /-- WARM_RESET (R389): Requests a warm reset with cause 2 at the next T1 boundary after a retain save. -/
  | warmReset (sess : Fin 4)
  /-- SLEEP_REQ (R392): Requests that the station enter SLEEP. -/
  | sleepReq (sess : Fin 4)
  /-- PWR_CLR_CNT (R7): Clears FEED_CNT, WARM_CNT and REFUSE_CNT. -/
  | pwrClrCnt (sess : Fin 4)
  /-- EVR_CLR_CNT (R7): Clears DROP and every RAISE_CNT of the event router. -/
  | evrClrCnt (sess : Fin 4)
  /-- AGE_SATURATION (R54): A waiting placed request's AGE reaches its saturation value; the arbiter increments SAT_CNT and raises the age-saturation event. -/
  | ageSaturation (t : PlTarget)
  /-- SL_PLUS_CHANGE (R249): SL+ changes class between absent, low and good, updating SAF.STATUS.LP_STATE and raising the SL+ low or absent event. -/
  | slPlusChange (mv : Nat)
  /-- NO_VOLTAGE (R195): A VS phase falls below 10 % of V_NOM, or the phase RMS values differ by more than 30 %, and the electrical source is lost with cause 5. -/
  | noVoltage (v : Fin 2) (rms : Vector (BitVec 16) 3)
  /-- ARBITRATION_LOSS (R304): A CAN frame loses arbitration; a one-shot request ends with ONESHOT_FAIL, and a reference message that loses to another sets TT_CONFLICT. -/
  | arbitrationLoss (k : Fin 8) (x : ArbLoser)
  /-- CAN_INTEGRATED (R305): A controller sees 11 recessive bits and completes its integration, leaving bus monitoring or a protocol exception, or rejoining after a reset, to operate normally. -/
  | canIntegrated (k : Fin 8)
  /-- DIGEST_TRANSFER_MISSED (R272): The active's digest transfer is not received by its due instant at b + 600 µs, and three misses in a row count as a passed-passed mismatch of every partition. -/
  | digestTransferMissed
  /-- TP_RETRY_END (R244): A faulted test-pulse source ends its 1 ms retry, and the TP fault ends when the current limit did not act and the switch has not conducted while off. -/
  | tpRetryEnd (k : Fin 4) (limit : Bool) (conducted : Bool)
  /-- DROPPED_FRAME (R314): An arriving frame of another IP protocol or port, a fragment, a header with options or an oversized frame is dropped and counted in NET.DROP. -/
  | droppedFrame (x : DropFrame)
  /-- UNKNOWN_OPERATION (R334): An authenticated engineering datagram carries an OP that the protocol does not define and is answered with STATUS = 7. -/
  | unknownOperation (op : Byte) (d : Dgram)
deriving DecidableEq, Repr

end Sys2Proof
end

