-- ==== Sys2Proof/Decode.lean ====
section
/-! DEFINITION. The command that a word of the command table spells: the table gives none of its rows bits, so there is none. And the
32-bit word that a logic instruction is in the program memory of its engine (R88). -/

namespace Sys2Proof

/-- The command read from a word of `nbits` bits: none, since no row of the command table has an encoding. -/
def decodeTableWord (_nbits _w : Nat) : Option Instr := none

/-- An instruction word with an operand: OPCODE with bit 31 for the indexed form, SPACE and ADDR (R88, R101). -/
def opndWord (op : Nat) (ix : Bool) (sp : BitVec 4) (ad : BitVec 20) : Word :=
  BitVec.ofBool ix ++ BitVec.ofNat 7 op ++ sp ++ ad

/-- An instruction word without an operand: OPCODE, and what the instruction's table puts into ADDR (R88, R91). -/
def plainWord (op n : Nat) : Word := opndWord op false 0 (BitVec.ofNat 20 n)

/-- The word of a logic instruction, from the instruction tables (R88, R94, R95, R97, R100–R102, R106–R108); a command that is no logic
instruction has none. -/
def logicWord : Instr → Option Word
  | .nop _ _ => some (plainWord 0x00 0)
  | .ld _ _ ix sp ad => some (opndWord 0x01 ix sp ad)
  | .ldn _ _ ix sp ad => some (opndWord 0x02 ix sp ad)
  | .and _ _ ix sp ad => some (opndWord 0x03 ix sp ad)
  | .andn _ _ ix sp ad => some (opndWord 0x04 ix sp ad)
  | .or _ _ ix sp ad => some (opndWord 0x05 ix sp ad)
  | .orn _ _ ix sp ad => some (opndWord 0x06 ix sp ad)
  | .xor _ _ ix sp ad => some (opndWord 0x07 ix sp ad)
  | .xorn _ _ ix sp ad => some (opndWord 0x08 ix sp ad)
  | .not _ _ => some (plainWord 0x09 0)
  | .andOpen _ _ => some (plainWord 0x0C 0)
  | .orOpen _ _ => some (plainWord 0x0D 0)
  | .xorOpen _ _ => some (plainWord 0x0E 0)
  | .branchClose _ _ => some (plainWord 0x0F 0)
  | .st _ _ ix sp ad => some (opndWord 0x10 ix sp ad)
  | .stn _ _ ix sp ad => some (opndWord 0x11 ix sp ad)
  | .set _ _ ix sp ad => some (opndWord 0x12 ix sp ad)
  | .rst _ _ ix sp ad => some (opndWord 0x13 ix sp ad)
  | .redge _ _ ad => some (opndWord 0x14 false 6 ad)
  | .fedge _ _ ad => some (opndWord 0x15 false 6 ad)
  | .ton _ _ ad => some (opndWord 0x18 false 4 ad)
  | .tof _ _ ad => some (opndWord 0x19 false 4 ad)
  | .tp _ _ ad => some (opndWord 0x1A false 4 ad)
  | .ctu _ _ ad => some (opndWord 0x1C false 5 ad)
  | .ctd _ _ ad => some (opndWord 0x1D false 5 ad)
  | .crst _ _ ad => some (opndWord 0x1E false 5 ad)
  | .cld _ _ ad => some (opndWord 0x1F false 5 ad)
  | .lw _ _ ix sp ad => some (opndWord 0x20 ix sp ad)
  | .sw _ _ ix sp ad => some (opndWord 0x21 ix sp ad)
  | .swap _ _ => some (plainWord 0x22 0)
  | .lxr _ _ => some (plainWord 0x23 0)
  | .add _ _ => some (plainWord 0x28 0)
  | .sub _ _ => some (plainWord 0x29 0)
  | .mul _ _ => some (plainWord 0x2A 0)
  | .div _ _ => some (plainWord 0x2B 0)
  | .mod _ _ => some (plainWord 0x2C 0)
  | .neg _ _ => some (plainWord 0x2D 0)
  | .abs _ _ => some (plainWord 0x2E 0)
  | .addf _ _ => some (plainWord 0x30 0)
  | .subf _ _ => some (plainWord 0x31 0)
  | .mulf _ _ => some (plainWord 0x32 0)
  | .divf _ _ => some (plainWord 0x33 0)
  | .negf _ _ => some (plainWord 0x34 0)
  | .absf _ _ => some (plainWord 0x35 0)
  | .sqrtf _ _ => some (plainWord 0x36 0)
  | .itof _ _ => some (plainWord 0x38 0)
  | .ftoi _ _ => some (plainWord 0x39 0)
  | .andw _ _ => some (plainWord 0x40 0)
  | .orw _ _ => some (plainWord 0x41 0)
  | .xorw _ _ => some (plainWord 0x42 0)
  | .notw _ _ => some (plainWord 0x43 0)
  | .shl _ _ n => some (plainWord 0x44 n.toNat)
  | .shr _ _ n => some (plainWord 0x45 n.toNat)
  | .sar _ _ n => some (plainWord 0x46 n.toNat)
  | .eq _ _ => some (plainWord 0x48 0)
  | .ne _ _ => some (plainWord 0x49 0)
  | .gt _ _ => some (plainWord 0x4A 0)
  | .ge _ _ => some (plainWord 0x4B 0)
  | .lt _ _ => some (plainWord 0x4C 0)
  | .le _ _ => some (plainWord 0x4D 0)
  | .eqf _ _ => some (plainWord 0x50 0)
  | .nef _ _ => some (plainWord 0x51 0)
  | .gtf _ _ => some (plainWord 0x52 0)
  | .gef _ _ => some (plainWord 0x53 0)
  | .ltf _ _ => some (plainWord 0x54 0)
  | .lef _ _ => some (plainWord 0x55 0)
  | .min _ _ => some (plainWord 0x58 0)
  | .max _ _ => some (plainWord 0x59 0)
  | .sel _ _ => some (plainWord 0x5A 0)
  | .ltag _ _ ix sp ad => some (opndWord 0x60 ix sp ad)
  | .qchk _ _ ix sp ad => some (opndWord 0x61 ix sp ad)
  | .setq _ _ n => some (plainWord 0x62 n.toNat)
  | .jmp _ _ n => some (plainWord 0x70 n.toNat)
  | .jc _ _ n => some (plainWord 0x71 n.toNat)
  | .jcn _ _ n => some (plainWord 0x72 n.toNat)
  | .loop _ _ n => some (plainWord 0x73 n.toNat)
  | .call _ _ n => some (plainWord 0x74 n.toNat)
  | .ret _ _ => some (plainWord 0x75 0)
  | .evt _ _ => some (plainWord 0x77 0)
  | .end_ _ _ => some (plainWord 0x76 0)
  | _ => none

end Sys2Proof
end

