-- ==== Sys2Proof/Machine/Float.lean ====
section
/-! DEFINITION. IEEE 754 binary32 and binary64 with round to nearest, ties to even, subnormals kept and no traps (R99,
R173). An operation computes its exact result and rounds it once. -/

namespace Sys2Proof.Machine
open Sys2Proof

/-- A binary format: precision with the hidden bit, and exponent width. -/
structure Fmt where
  p : Nat
  ew : Nat
deriving DecidableEq, Repr

/-- IEEE 754 binary32. -/
def f32 : Fmt := { p := 24, ew := 8 }
/-- IEEE 754 binary64. -/
def f64 : Fmt := { p := 53, ew := 11 }

/-- What a bit pattern stands for: a finite value is (−1)^neg × m × 2^e. -/
inductive FVal
  | nan
  | inf (neg : Bool)
  | fin (neg : Bool) (m : Nat) (e : Int)
deriving DecidableEq, Repr

/-- Exponent of the unit in the last place of the subnormals. -/
def Fmt.emin (f : Fmt) : Int := 2 - (2 ^ (f.ew - 1) : Nat) - (f.p - 1 : Nat) + 0

/-- Bits below the sign. -/
def Fmt.mag (f : Fmt) (b : Nat) : Nat := b % 2 ^ (f.p - 1 + f.ew)
/-- The sign bit. -/
def Fmt.neg (f : Fmt) (b : Nat) : Bool := b.testBit (f.p - 1 + f.ew)
/-- The pattern of an infinity, sign aside. -/
def Fmt.infMag (f : Fmt) : Nat := (2 ^ f.ew - 1) * 2 ^ (f.p - 1)

/-- The value of a pattern. -/
def Fmt.dec (f : Fmt) (b : Nat) : FVal :=
  let m := f.mag b
  let ex := m / 2 ^ (f.p - 1)
  let fr := m % 2 ^ (f.p - 1)
  if ex = 2 ^ f.ew - 1 then (if fr = 0 then .inf (f.neg b) else .nan)
  else if ex = 0 then .fin (f.neg b) fr f.emin
  else .fin (f.neg b) (fr + 2 ^ (f.p - 1)) (f.emin + (ex - 1 : Nat))

/-- Sign and magnitude put together. -/
def Fmt.sgn (f : Fmt) (neg : Bool) (m : Nat) : Nat := if neg then 2 ^ (f.p - 1 + f.ew) + m else m

/-- The quiet NaN an operation on patterns `a` and `b` yields; sign and payload are free (assumption log 3). -/
def Fmt.nan (f : Fmt) (a b : Nat) : Nat :=
  let n := Config.nanBits (f.p - 2) a b
  f.sgn n.1 (f.infMag + 2 ^ (f.p - 2) + n.2 % 2 ^ (f.p - 2))

/-- Rounds m × 2^e, plus a part below the last bit of m when `sticky`, to nearest, ties to even. -/
def Fmt.round (f : Fmt) (neg : Bool) (m : Nat) (e : Int) (sticky : Bool) : Nat :=
  if m = 0 then f.sgn neg 0 else
  let u := max (e + (Nat.log2 m + 1 : Nat) - f.p) f.emin
  let q := if u ≤ e then m * 2 ^ (e - u).toNat else
    let sh := (u - e).toNat
    let q0 := m / 2 ^ sh
    let r := m % 2 ^ sh
    let half := 2 ^ (sh - 1)
    if r > half || (r == half && (sticky || q0 % 2 == 1)) then q0 + 1 else q0
  let bits := (u - f.emin).toNat * 2 ^ (f.p - 1) + q
  f.sgn neg (min bits f.infMag)

/-- Addition. -/
def Fmt.add (f : Fmt) (a b : Nat) : Nat :=
  match f.dec a, f.dec b with
  | .nan, _ => f.nan a b
  | _, .nan => f.nan a b
  | .inf s, .inf t => if s = t then f.sgn s f.infMag else f.nan a b
  | .inf s, _ => f.sgn s f.infMag
  | _, .inf t => f.sgn t f.infMag
  | .fin s m e, .fin t n g =>
    let k := min e g
    let x : Int := (if s then -1 else 1) * ((m * 2 ^ (e - k).toNat : Nat) : Int)
    let y : Int := (if t then -1 else 1) * ((n * 2 ^ (g - k).toNat : Nat) : Int)
    let z := x + y
    if z = 0 then f.sgn (s && t) 0 else f.round (z < 0) z.natAbs k false

/-- The pattern with its sign flipped. -/
def Fmt.flip (f : Fmt) (a : Nat) : Nat := f.sgn (!f.neg a) (f.mag a)

/-- Subtraction a − b. -/
def Fmt.subt (f : Fmt) (a b : Nat) : Nat :=
  match f.dec b with
  | .nan => f.nan a b
  | _ => match f.dec a with
    | .nan => f.nan a b
    | .inf s => if f.dec b = .inf s then f.nan a b else f.sgn s f.infMag
    | _ => f.add a (f.flip b)

/-- Multiplication. -/
def Fmt.mul (f : Fmt) (a b : Nat) : Nat :=
  match f.dec a, f.dec b with
  | .nan, _ => f.nan a b
  | _, .nan => f.nan a b
  | .inf s, .inf t => f.sgn (s != t) f.infMag
  | .inf s, .fin t n _ => if n = 0 then f.nan a b else f.sgn (s != t) f.infMag
  | .fin s m _, .inf t => if m = 0 then f.nan a b else f.sgn (s != t) f.infMag
  | .fin s m e, .fin t n g => f.round (s != t) (m * n) (e + g) false

/-- Division a ÷ b. -/
def Fmt.div (f : Fmt) (a b : Nat) : Nat :=
  match f.dec a, f.dec b with
  | .nan, _ => f.nan a b
  | _, .nan => f.nan a b
  | .inf _, .inf _ => f.nan a b
  | .inf s, .fin t _ _ => f.sgn (s != t) f.infMag
  | .fin s _ _, .inf t => f.sgn (s != t) 0
  | .fin s m e, .fin t n g =>
    if n = 0 then (if m = 0 then f.nan a b else f.sgn (s != t) f.infMag)
    else
      let k := 3 * f.p
      let x := m * 2 ^ k
      f.round (s != t) (x / n) (e - g - k) (x % n != 0)

/-- Integer square root by one bit of the result at a time, `k` bits. -/
def isqrtBits : Nat → Nat → Nat → Nat
  | 0, _, r => r
  | k + 1, n, r =>
    let c := r + 2 ^ k
    isqrtBits k n (if c * c ≤ n then c else r)

/-- ⌊√n⌋. -/
def isqrt (n : Nat) : Nat := isqrtBits (Nat.log2 n / 2 + 1) n 0

/-- Square root. -/
def Fmt.sqrt (f : Fmt) (a : Nat) : Nat :=
  match f.dec a with
  | .nan => f.nan a a
  | .inf s => if s then f.nan a a else f.infMag
  | .fin s m e =>
    if m = 0 then f.sgn s 0 else if s then f.nan a a else
      let odd : Int := e % 2
      let k : Nat := 2 * f.p
      let x := m * 2 ^ (2 * k + odd.toNat)
      let r := isqrt x
      f.round false r ((e - odd) / 2 - k) (r * r != x)

/-- a × b + c rounded once. -/
def Fmt.fma (f : Fmt) (a b c : Nat) : Nat :=
  match f.dec a, f.dec b, f.dec c with
  | .fin s m e, .fin t n g, .fin v o h =>
    let k := min (e + g) h
    let x : Int := (if s != t then -1 else 1) * ((m * n * 2 ^ (e + g - k).toNat : Nat) : Int)
    let y : Int := (if v then -1 else 1) * ((o * 2 ^ (h - k).toNat : Nat) : Int)
    let z := x + y
    if z = 0 then f.sgn ((s != t) && v) 0 else f.round (z < 0) z.natAbs k false
  | .fin _ _ _, .fin _ _ _, .inf v => f.sgn v f.infMag
  | .nan, _, _ => f.nan a b
  | _, .nan, _ => f.nan a b
  | _, _, .nan => f.nan a c
  | _, _, _ => f.add (f.mul a b) c

/-- Whether a pattern is a NaN. -/
def Fmt.isNan (f : Fmt) (a : Nat) : Bool := f.infMag < f.mag a
/-- Whether a pattern is a NaN or an infinity. -/
def Fmt.nonFinite (f : Fmt) (a : Nat) : Bool := f.infMag ≤ f.mag a

/-- A number in the order of the values of patterns that are not NaN; both zeros give 0. -/
def Fmt.key (f : Fmt) (a : Nat) : Int := if f.neg a then -(f.mag a : Int) else (f.mag a : Int)

/-- a = b; false on a NaN. -/
def Fmt.eq (f : Fmt) (a b : Nat) : Bool := !f.isNan a && !f.isNan b && f.key a == f.key b
/-- a < b; false on a NaN. -/
def Fmt.lt (f : Fmt) (a b : Nat) : Bool := !f.isNan a && !f.isNan b && f.key a < f.key b
/-- a ≤ b; false on a NaN. -/
def Fmt.le (f : Fmt) (a b : Nat) : Bool := !f.isNan a && !f.isNan b && f.key a ≤ f.key b

/-- An integer converted with one rounding. -/
def Fmt.ofInt (f : Fmt) (n : Int) : Nat := f.round (n < 0) n.natAbs 0 false

/-- A pattern of format `g` converted to format `f`, rounding where it must. -/
def Fmt.conv (f g : Fmt) (a : Nat) : Nat :=
  match g.dec a with
  | .nan => f.nan a a
  | .inf s => f.sgn s f.infMag
  | .fin s m e => f.round s m e false

/-- The nearest integer of a finite value, ties to even; none for a NaN; an infinity gives the limit of its sign. -/
def Fmt.toInt (f : Fmt) (a : Nat) : Option Int :=
  match f.dec a with
  | .nan => none
  | .inf s => some (if s then -(2 ^ 2000 : Nat) else ((2 ^ 2000 : Nat) : Int))
  | .fin s m e =>
    let n : Nat := if 0 ≤ e then m * 2 ^ e.toNat else
      let sh := (-e).toNat
      let q := m / 2 ^ sh
      let r := m % 2 ^ sh
      let half := 2 ^ (sh - 1)
      if r > half || (r == half && q % 2 == 1) then q + 1 else q
    some (if s then -(n : Int) else (n : Int))

/-- Integer saturated to signed 32 bits (R98, R99). -/
def satI32 (x : Int) : Word :=
  if x > 2147483647 then 0x7FFFFFFF#32 else if x < -2147483648 then 0x80000000#32 else BitVec.ofInt 32 x

/-- Whether an integer lies outside signed 32 bits. -/
def outI32 (x : Int) : Bool := x > 2147483647 || x < -2147483648

end Sys2Proof.Machine
end

