-- ==== Sys2Proof/Machine/AngMath.lean ====
section
/-! DEFINITION. The binary64 arithmetic of the angle estimator and the predictor (R193–R199, R206). -/

namespace Sys2Proof.Machine
open Sys2Proof

/-- Nanoseconds as binary64 seconds. -/
def secOf (ns : Int) : Nat := f64.div (f64.ofInt ns) (f64.ofInt 1000000000)

/-- An angle in 2^−32 turn as binary64 turns. -/
def angTurnsOf (th : Int) : Nat := f64.div (f64.ofInt th) (f64.ofInt 4294967296)

/-- Nearest integer, ties to even; a pattern that is not finite gives a free one (assumption log 1). -/
def roundI (x : Nat) : Int := if f64.nonFinite x then Config.nanRound x else (f64.toInt x).getD 0

/-- The exact value of a finite pattern. -/
def ratOf (x : Nat) : Rat :=
  match f64.dec x with
  | .fin n m e =>
    let v : Rat := if e ≥ 0 then (m * 2 ^ e.toNat : Nat) else (m : Rat) / (2 ^ (-e).toNat : Nat)
    if n then -v else v
  | _ => Config.nanRound x

/-- The floor of a pattern. -/
def floorI (x : Nat) : Int := (ratOf x).floor

/-- Half of a binary64 number. -/
def halfOf (x : Nat) : Nat := f64.div x (f64.ofInt 2)

/-- What the estimate of R198 gives at a boundary. -/
structure Est where
  /-- unwrapped angle in 2^−32 turn -/
  th : Int
  vel : Int
  acc : Int
  /-- |vel_b| is below the given number of 2^−16 turn/s -/
  slow : Bool
deriving DecidableEq, Repr

/-- Saturation to signed 32 bits. -/
def satS32 (x : Int) : Int := min (max x (-2147483648)) 2147483647

/-- The quadratic through three edges, evaluated at boundary `b` (R198); `still` is STILL.VEL. -/
def estimate (e0 e1 e2 : AEdge) (b : Nat) (still : Nat) : Est :=
  let t0 := secOf e0.t
  let t1 := secOf e1.t
  let t2 := secOf e2.t
  let h0 := angTurnsOf e0.th
  let h1 := angTurnsOf e1.th
  let h2 := angTurnsOf e2.th
  let sa := f64.div (f64.subt h0 h1) (f64.subt t0 t1)
  let sb := f64.div (f64.subt h1 h2) (f64.subt t1 t2)
  let ma := halfOf (f64.add t0 t1)
  let mb := halfOf (f64.add t1 t2)
  let acc := f64.div (f64.subt sa sb) (f64.subt ma mb)
  let vel0 := f64.add sa (f64.mul acc (f64.subt t0 ma))
  let dt := f64.subt (secOf b) t0
  let ang := f64.add (f64.add h0 (f64.mul vel0 dt)) (halfOf (f64.mul (f64.mul acc dt) dt))
  let vel := f64.add vel0 (f64.mul acc dt)
  let fl := floorI ang
  let frac := f64.subt ang (f64.ofInt fl)
  { th := fl * 4294967296 + roundI (f64.mul frac (f64.ofInt 4294967296))
    vel := satS32 (roundI (f64.mul vel (f64.ofInt 65536)))
    acc := satS32 (roundI (f64.mul acc (f64.ofInt 65536)))
    slow := f64.lt (f64.mul (f64.sgn false (f64.mag vel)) (f64.ofInt 65536)) (f64.ofInt still) }

/-- θ̂ of R199 at `dns` ns after the boundary, from the published TURNS, ANGLE, VEL and ACC. -/
def predict (turns angle vel acc : Word) (dns : Int) : Nat :=
  let d := secOf dns
  let a := f64.add (f64.ofInt turns.toInt) (angTurnsOf angle.toNat)
  let b := f64.add a (f64.mul (f64.div (f64.ofInt vel.toInt) (f64.ofInt 65536)) d)
  f64.add b (f64.mul (f64.div (f64.ofInt acc.toInt) (f64.ofInt 131072)) (f64.mul d d))

/-- The larger of two binary64 numbers. -/
def fmax (a b : Nat) : Nat := if f64.lt a b then b else a

/-- Unwrapped angle of a count position (R193, R194, R195, R197). -/
def edgeAngle (perTurn : Nat) (ofs : Word) (pos : Int) : Int := pos * 4294967296 / (perTurn : Int) + ofs.toNat

end Sys2Proof.Machine
end

