-- ==== Sys2Proof/Machine/PairState.lean ====
section
/-! DEFINITION. Plain-data state of the pair (chapter 11). -/

namespace Sys2Proof.Machine
open Sys2Proof

/-- Counts of a Sash lane. -/
structure Lane where
  miss : BitVec 16
  crc : BitVec 8
  down : BitVec 8
  /-- consecutive packets that failed their CRC (R259) -/
  bad : Nat
deriving DecidableEq, Repr, Inhabited

/-- A boundary that the standby holds, handed over and latched, until its input set is complete (R262, R263). -/
structure Await where
  /-- slowest tier of the boundary -/
  slow : Nat
  /-- the station's own readings, which serve when it composes the set itself (R266) -/
  own : BoundaryIn
  /-- the event tasks that its own sources would start (R60, R266) -/
  starts : List DistCmd
  /-- the T0 part, once received -/
  t0 : Option (List SetItem)
deriving DecidableEq, Repr

/-- What a pending self-check is about (R272, R273). -/
inductive Check
  | digest (mask : BitVec 10)
  /-- global point number, or 96 + n for SI_n -/
  | field (n : Nat)
deriving DecidableEq, Repr

/-- State of PAIR. -/
structure PairBlk where
  /-- the image declares a pair member (R258) -/
  member : Bool
  /-- STATUS.STATE (R260) -/
  state : BitVec 3
  partner : BitVec 3
  idConflict : Bool
  laneUp : Vector Bool 2
  presence : Bool
  /-- CTRL.SWITCH reads 1 -/
  switchReq : Bool
  /-- the command has been carried by its T1 boundary and waits for a T2 boundary (R269) -/
  switchArmed : Bool
  cause : BitVec 3
  released : Bool
  t0Lost : BitVec 2
  delayUs : BitVec 2
  takeoverT : Word
  mismatch : BitVec 10
  result : BitVec 3
  digCnt : BitVec 16
  lanes : Vector Lane 2
  progress : BitVec 8
  passes : BitVec 8
  /-- pages sent in steps 2 and 3 of R275, and sent pages that are marked as written since -/
  pages : Nat
  marked : Nat
  /-- OP_MS of the rejoins of the last hour (R274) -/
  rejoins : List (BitVec 44)
  switchCnt : BitVec 16
  resyncCnt : BitVec 16
  cmpCnt : BitVec 16
  cmpPoint : BitVec 7
  /-- SEQ of the last heartbeat sent, and the instant of the 5 µs grid it left at -/
  seq : BitVec 8
  hbT : Nat
  /-- a partner has been heard since SEEKING began -/
  heard : Bool
  /-- consecutive misses of due items (R264) -/
  misses : Nat
  /-- a part of an input set has been missed and the next due item is awaited (R263): true for the T0 part -/
  setMiss : Option Bool
  await : Option Await
  /-- tier-reference instants from which and before which T0 cycles are lost (R267) -/
  lostFrom : Nat
  lostUntil : Nat
  /-- the boundary that was composed last, and the ns by which its work starts late (R267) -/
  lateB : Nat
  lateNs : Nat
  /-- boundaries in a row at which a point, or 96 + n for SI_n, has differed from the active station's, and whether it counts already
  (R236) -/
  cmpRun : List (Nat × Nat × Bool)
  /-- PROF_SEL and HOLD_PERMIT of the active station, as the set carried them last (R262) -/
  pins : Option (BitVec 2 × Bool)
  /-- digests of the partitions as they stood after the handover of the last T2 boundary (R271) -/
  fresh : List (BitVec 64)
  check : Option Check
  digests : List (BitVec 64)
  missedDig : Nat
  /-- this station took over with the partner silent (R268) -/
  tookSilent : Bool
  /-- the warm reset in progress is that of a station declared faulty (R274) -/
  faulty : Bool
deriving DecidableEq, Repr

/-- PAIR at reset. -/
def PairBlk.reset : PairBlk :=
  { member := false, state := 0, partner := 0, idConflict := false, laneUp := Vector.replicate 2 false, presence := false,
    switchReq := false, switchArmed := false, cause := 0, released := false, t0Lost := 0, delayUs := 0, takeoverT := 0,
    mismatch := 0, result := 0, digCnt := 0, lanes := Vector.replicate 2 { miss := 0, crc := 0, down := 0, bad := 0 },
    progress := 0, passes := 0, pages := 0, marked := 0, rejoins := [], switchCnt := 0, resyncCnt := 0, cmpCnt := 0, cmpPoint := 0, seq := 0,
    hbT := 0, heard := false, misses := 0, setMiss := none, await := none, lostFrom := 0, lostUntil := 0, lateB := 0, lateNs := 0, cmpRun := [], pins := none, fresh := [], check := none, digests := [],
    missedDig := 0, tookSilent := false, faulty := false }

/-- A resynchronisation begins: no page has been sent (R275). -/
def PairBlk.noPages (p : PairBlk) : PairBlk := { p with progress := 0, passes := 0, pages := 0, marked := 0 }

/-- Every page has been sent and none is marked (R275 step 4). -/
def PairBlk.pagesDone (p : PairBlk) (total : Nat) : Bool := p.pages == total && p.marked == 0

/-- The placed work of one T1 cycle moves `n` more of the `total` pages; once all are sent it resends the marked ones, of which at most
as many are left, and streams every further write (R275 steps 2 to 4). -/
def PairBlk.pagesOn (p : PairBlk) (total n left : Nat) : PairBlk :=
  if p.pages < total then
    let k := min total (p.pages + n)
    { p with pages := k, marked := min left k, progress := BitVec.ofNat 8 (k * 100 / total) }
  else if p.marked = 0 then p
  else { p with marked := min left p.marked, passes := satInc p.passes }

end Sys2Proof.Machine
end

