-- ==== Sys2Proof/Machine/PwrState.lean ====
section
/-! DEFINITION. Plain-data state of power, resets and SLEEP (chapter 17). -/

namespace Sys2Proof.Machine
open Sys2Proof

/-- Power condition of the main domain. -/
inductive Power
  /-- the power-on reset is held -/
  | held
  | run
  /-- held in a warm reset -/
  | warm
  | sleep
  | off
deriving DecidableEq, Repr

/-- What retention SRAM holds (R402). -/
structure Retention where
  time : BitVec 64
  cnt : Vector Word 5
  faultStop : Bool
  stopCause : BitVec 4
  ovrEngine : BitVec 4
  ovrEvent : Bool
  lastStart : BitVec 2
  refLoss : Bool
  restoreFail : Bool
  holdTmo : BitVec 6
  drowse : Bool
  pinEn : BitVec 4
  pinPol : BitVec 4
  warmCnt : BitVec 8
  dropA : BitVec 8
  dropB : BitVec 8
  ride : BitVec 8
  pfCnt : BitVec 8
  /-- the controllers whose KIND is 1 or 2 -/
  can : Vector CanCtl 8
deriving DecidableEq, Repr

/-- Where a SLEEP entry stands (R392–R396). -/
inductive Entry
  | none
  /-- SLEEP_REQ waits for its T1 boundary -/
  | asked
  /-- the blocks vote -/
  | voting
  /-- all voted yes; phase 2 begins at the next T2 boundary -/
  | agreed
  /-- phase 2 runs: the next slot to quiesce -/
  | slots (next : Nat)
  /-- a block refused: blocks in slots below `n` are still to be restored -/
  | restore (n : Nat)
deriving DecidableEq, Repr

/-- State of PWR. -/
structure PwrBlk where
  power : Power
  feedA : BitVec 2
  feedB : BitVec 2
  aV : BitVec 16
  bV : BitVec 16
  pf : Bool
  /-- step 5 of R387 is done -/
  pfDone : Bool
  cause : BitVec 4
  warmCnt : BitVec 8
  warmReq : Bool
  sleepReq : Bool
  drowse : Bool
  slResult : BitVec 3
  slBlock : BitVec 5
  slReason : BitVec 4
  refuseCnt : BitVec 16
  pinEn : BitVec 4
  pinPol : BitVec 4
  wakePin : BitVec 4
  wakeCan : BitVec 8
  wakeReset : Bool
  sleepCnt : BitVec 64
  dropA : BitVec 8
  dropB : BitVec 8
  ride : BitVec 8
  pfCnt : BitVec 8
  entry : Entry
  /-- tier-reference instant b_s of phase 2 -/
  bs : Nat
  /-- blocks that have quiesced, by slot of R394 -/
  quiet : BitVec 15
  retention : Option Retention
deriving DecidableEq, Repr

/-- PWR while the power-on reset is held. -/
def PwrBlk.reset : PwrBlk :=
  { power := .held, feedA := 0, feedB := 0, aV := 0, bV := 0, pf := false, pfDone := false, cause := 0, warmCnt := 0,
    warmReq := false, sleepReq := false, drowse := true, slResult := 0, slBlock := 0, slReason := 0, refuseCnt := 0,
    pinEn := 0, pinPol := 0, wakePin := 0, wakeCan := 0, wakeReset := false, sleepCnt := 0, dropA := 0, dropB := 0,
    ride := 0, pfCnt := 0, entry := .none, bs := 0, quiet := 0, retention := none }

end Sys2Proof.Machine
end

