-- ==== Sys2Proof/Machine/Sent.lean ====
section
/-! DEFINITION. What the station puts out: frames, packets and pulses, as records in the state. -/

namespace Sys2Proof.Machine
open Sys2Proof

/-- One thing the station has put out. -/
inductive Sent
  /-- a raise sent to the stack master (R409) -/
  | stackRaise (source prio : Nat)
  /-- the outputs of a problem solved for a stack peer: station, template, number of the issue, values (R185) -/
  | peerResult (station template issue : Nat) (outs : List TWord)
  /-- a placed problem sent to a stack peer: the template's slot content with the captured inputs, and its AGE (R52, R185) -/
  | peerProblem (station template issue : Nat) (content : List Byte) (req : PReq) (age : Nat)
  /-- a CAN frame (R303, R306) -/
  | canFrame (k : Nat) (f : CanFrame)
  /-- one copy of a twin-leaf or presence telegram: leaf A on NET_A or leaf B on NET_B (R316, R317, R325) -/
  | telegram (leafB : Bool) (f : TelFrame)
  /-- a placed frame at a port (R315) -/
  | netFrame (port : Nat) (f : NetFrame)
  /-- a heartbeat; the truth value is the departure mark of R394 -/
  | heartbeat (w : Word) (depart : Bool)
  /-- a part of the distributed input set; true is the part due at + 4 µs (R262) -/
  | inputSet (rest : Bool) (items : List SetItem)
  /-- an angle-synchronous sample, distributed by the event instant + 2.8 µs (R217) -/
  | angSample (n : Nat) (w : TWord)
  /-- the running image, the pages and the stream of a resynchronisation, all of which is there at its last T4 boundary (R275) -/
  | syncSet (x : SyncSet)
  /-- the mark of a T4 boundary at the end of a resynchronisation's stream: the instant of the boundary (R275) -/
  | syncMark (b : Nat)
  /-- the headers of the timed packets in which the next thing put out leaves on a link (R45) -/
  | headers (l : List (Vector Word 3))
  /-- the staged change package, for the standby's checks (R128) -/
  | changePackage (p : List Byte)
  /-- the digests of a T2 boundary (R272) -/
  | digests (l : List (BitVec 64))
  /-- the mismatch mask returned by the standby (R272) -/
  | mask (m : BitVec 10)
  /-- a stack transfer relayed over the Sash link (R285) -/
  | sashXfer (i : Nat) (vals : List TWord)
  /-- a timed stack transfer (R284) -/
  | stackXfer (i : Nat) (vals : List TWord)
  /-- a message of the stack, on these ports, or on the Sash link where none is given (R282, R283, R288, R291–R293) -/
  | stack (to_ : List (Option (Fin 3))) (p : TPkt)
  /-- the latched set of a snapshot, placed background traffic to the master: ID, station time, values (R293) -/
  | snapSet (id : BitVec 16) (t : BitVec 64) (d : List (Nat × TWord))
  /-- the link-level symbol of a stack reset (R294) -/
  | resetSymbol
  /-- a Transom packet forwarded on port 0 UP, 1 DOWN_A or 2 DOWN_B (R280) -/
  | forward (port : Nat)
  /-- a placed packet that an arbiter has granted, with its header (R45, R53) -/
  | packet (t : PlTarget) (h : Vector Word 3)
deriving DecidableEq, Repr

end Sys2Proof.Machine
end

