-- ==== Sys2Proof/Machine/State.lean ====
section
/-! DEFINITION. The state of the station, the reasons a step can stop, and the state right after reset. -/

namespace Sys2Proof.Machine
open Sys2Proof

/-- Faults a step can end in. No command of this block is left without an effect by the spec, so none is raised; the
constructor is kept so that the type is inhabited. -/
inductive Fault
  /-- raised by no command -/
  | none
deriving DecidableEq, Repr

/-- Refusals a step can end in. -/
inductive Refusal
  /-- raised by an arm of `exec` whose command has no meaning yet; safe: the model stops where the hardware goes on -/
  | notModelled (mnemonic : String)
deriving DecidableEq, Repr

/-- What a requester's own latches hold (R18, R41): the upper halves of the four two-word counts, and the tag of the last
DATA value read with its variable index. -/
structure Latch where
  timeHi : Option Word
  stkHi : Option Word
  opmsHi : Option Word
  sleepHi : Option Word
  data : Option (Nat × Tag)
deriving DecidableEq, Repr

/-- The whole state of one station. -/
structure State where
  stn : Stn
  /-- the variable table of the admitted image, in ascending DATA index -/
  vars : List Var
  /-- LE_0…LE_15, and the SLE at 16 -/
  le : Vector Engine 17
  log : LogBlk
  evr : Evr
  img : Img
  fab : FabBlk
  lp : LoopBlk
  qp : QpBlk
  ang : AngBlk
  fld : FldBlk
  saf : SafBlk
  pair : PairBlk
  stk : StkBlk
  can : CanBlk
  net : NetBlk
  pwr : PwrBlk
  /-- latches of the supervisor (0), the four sessions (1…4) and the engines (5…20) -/
  latch : Vector Latch 21
  /-- open keyed windows: (session, address of the KEY register) (R9) -/
  windows : List (Nat × Nat)
  /-- armed key sequences: (session, address of the KEY register) (R9) -/
  armed : List (Nat × Nat)
  /-- what the station has put out, newest first -/
  sent : List Sent
  /-- the number of the next free value (the MODEL's own field; assumption log 1) -/
  free : Nat
  /-- the commands that wait, first in first out -/
  pending : List Instr
deriving DecidableEq, Repr

/-- A requester's latches when nothing is latched. -/
def Latch.empty : Latch := { timeHi := none, stkHi := none, opmsHi := none, sleepHi := none, data := none }

/-- The session secrets of a module as delivered: entry 0 is set at manufacture (R330; assumption log 2). -/
def factoryKeys : Vector (Option KeyEnt) 16 :=
  (Vector.replicate 16 none).set 0 (some { keyId := Config.keyId, role := 3, secret := Config.keySecret })

/-- The station while the power-on reset is held: every register at its reset value, and MRAM and flash as a module that
has stored nothing holds them (assumption log 17). -/
def State.reset : State :=
  { stn := .reset, vars := [], le := Vector.replicate 17 .unused, log := .reset, evr := .reset, img := .reset,
    fab := .reset, lp := .reset, qp := .reset, ang := .reset, fld := .reset, saf := .reset, pair := .reset, stk := .reset,
    can := .reset, net := .reset factoryKeys, pwr := .reset, latch := Vector.replicate 21 .empty, windows := [],
    armed := [], sent := [], free := 0, pending := [] }

end Sys2Proof.Machine
end

