-- ==== Sys2Proof/Machine/Ops.lean ====
section
/-! DEFINITION. The operations that every block shares: handing entries to LOG, raising event sources, the event tasks'
triggers, free values, the variable table, and what ends every command. -/

namespace Sys2Proof.Machine
open Sys2Proof

/-- The main domain is powered, clocked and out of reset. -/
def alive (s : State) : Bool := s.pwr.power == .run

/-- The station is the standby of a pair (STATE 4 of R260). -/
def isStandby (s : State) : Bool := s.pair.state == 4#3

/-- The station is in RUN or HOLD. -/
def inRunHold (s : State) : Bool := s.stn.mode == .run || s.stn.mode == .hold

/-- The station is in commanded STOP, the STOP of a start included (R69, R72): a STOP that is neither a fault STOP nor the
STOP without an image. -/
def inCmdStop (s : State) : Bool := s.stn.mode == .stop && !s.stn.faultStop && s.stn.stopCause != 7#4

/-! ### Free values -/

/-- A free byte, and the state with the draw counted (assumption log 1). -/
def drawByte (s : State) : Byte × State := (Config.freeByte s.free, { s with free := s.free + 1 })
/-- `n` free bytes. -/
def drawBytes : Nat → State → List Byte × State
  | 0, s => ([], s)
  | n + 1, s => let (b, s1) := drawByte s; let (r, s2) := drawBytes n s1; (b :: r, s2)
/-- A free truth value. -/
def drawBool (s : State) : Bool × State := (Config.freeBool s.free, { s with free := s.free + 1 })
/-- A free word. -/
def drawWord (s : State) : Word × State := (Config.freeWord s.free, { s with free := s.free + 1 })

/-! ### Time -/

/-- How far the tier reference gains on station time while at most `most` can be gained or lost: nothing unless it slews (R23). -/
def slewGain (n : Stn) (most : Nat) : Int := if n.slewing then max (-(most : Int)) (min (most : Int) n.slewLeft) else 0

/-- STN after `d` ns of station time, in whole fabric cycles: the tier reference advances with it, while slewing 1 ns in 2 µs faster or
slower (R17, R23; assumption log 66). -/
def Stn.pass (n : Stn) (d : Nat) : Stn :=
  let c := slewGain n ((n.slewRem + d) / 2000)
  { n with time := n.time + BitVec.ofNat 64 d, tierRef := n.tierRef + BitVec.ofInt 64 (d + c), slewLeft := n.slewLeft - c
           slewRem := if n.slewing then (n.slewRem + d) % 2000 else n.slewRem }

/-- `ns` of station time pass, in whole fabric cycles of 2 ns (R17); the tier reference advances with it, while slewing up to 500 ppm
faster or slower (R21, R23; assumption log 66); OP_MS counts whole milliseconds (R377). -/
def passTime (s : State) (ns : Nat) : State :=
  let d := ns + ns % 2
  let t := s.log.opNs + d
  { s with stn := s.stn.pass d,
           log := { s.log with opms := s.log.opms + BitVec.ofNat 44 (t / 1000000), opNs := t % 1000000 } }

/-- Time passes to the first fabric cycle at or after an instant of the tier reference that the spec fixes; none passes when it has
gone by. -/
def passTo (s : State) (ref : Nat) : State :=
  if ref ≤ s.stn.tierRef.toNat then s else
  let n := ref - s.stn.tierRef.toNat
  let most := (s.stn.slewRem + n) / (if s.stn.slewLeft < 0 then 1999 else 2001)
  passTime s ((n : Int) - slewGain s.stn most).toNat

/-- The distance from the boundaries of the station to those of another tier reference, within half a T4 period (R23). -/
def stepOff (target own : BitVec 64) : Int :=
  let r := ((target.toNat : Int) - (own.toNat : Int)) % 100000000
  if r > 50000000 then r - 100000000 else r

/-- The station changes to a tier reference whose boundaries lie `off` ns ahead of its own: it slews unless they lie within 50 ns
(R23). -/
def slewBy (s : State) (off : Int) : State :=
  if off.natAbs ≤ 50 then { s with stn := { s.stn with slewing := false, aligned := true, slewLeft := 0, slewRem := 0 } }
  else { s with stn := { s.stn with slewing := true, aligned := false, slewLeft := off, slewRem := 0 } }

/-- The instant of the tier reference as a number. -/
def refNow (s : State) : Nat := s.stn.tierRef.toNat

/-- ns by which the work of the boundary at `b` starts late: its set was composed after a takeover (R267). -/
def lateOf (s : State) (b : Nat) : Nat := if s.pair.lateB = b then s.pair.lateNs else 0

/-- A T0 cycle that a takeover has lost (R267). -/
def lostAt (s : State) (b : Nat) : Bool := s.pair.lostFrom ≤ b && b < s.pair.lostUntil

/-! ### Daybook and Ledger -/

/-- Hands LOG an item stamped with the present station time (R370, R372). -/
def logItem (s : State) (ledger own : Bool) (code source sev : Nat) (payload : List Byte) : State :=
  let it : LogItem := { code := BitVec.ofNat 16 code, source := BitVec.ofNat 16 source, sev := BitVec.ofNat 3 sev,
                        ledger := ledger, payload := payload, stamp := s.stn.time, own := own }
  { s with log := { s.log with fresh := s.log.fresh ++ [it] } }

/-- A Daybook entry (first case of R372 when it is MAJOR or CRITICAL). -/
def logEntry (s : State) (code source sev : Nat) (payload : List Byte) : State :=
  logItem s false false code source sev payload

/-- A required Ledger record (second case of R372). -/
def logLedger (s : State) (code source sev : Nat) (payload : List Byte) : State :=
  logItem s true false code source sev payload

/-- Source field when no instance applies (R366). -/
def noSrc : Nat := 0xFFFF

/-- Severities of R365. -/
def sevNotice : Nat := 1
/-- Severity MAJOR. -/
def sevMajor : Nat := 3
/-- Severity CRITICAL. -/
def sevCritical : Nat := 4

/-- Stores an entry in the Daybook ring (R368, R369). -/
def dbStore (g : LogBlk) (it : LogItem) : LogBlk :=
  let e : DbEntry := { stamp := it.stamp, num := g.dbNext, code := it.code, source := it.source, sev := it.sev,
                       ledger := it.ledger || it.sev.toNat ≥ 3, lostBefore := g.dbLost, payload := fit 12 it.payload }
  { g with ring := (e :: g.ring).take 16384, dbNext := g.dbNext + 1, dbLost := false }

/-- Extends the flush in progress to the first `n` buffered records, or starts one of kind `k` (R374). -/
def startFlush (g : LogBlk) (k : FlushKind) (n : Nat) : LogBlk :=
  if n = 0 then g
  else { g with flush := if g.flush == .idle then k else g.flush, flushLeft := max g.flushLeft n }

/-- Index from the front of the newest buffered record at or behind `i0` that meets `p`. -/
def newestWith (p : LgRec → Bool) (i0 : Nat) (b : List (LgRec × Bool)) : Option Nat :=
  ((List.range b.length).filter (fun i => i0 ≤ i && (match b[i]? with | some r => p r.1 | none => false))).getLast?

/-- Counts a dropped record (R375). -/
def lgDropped (g : LogBlk) : LogBlk :=
  { g with lost := satInc g.lost, dropped := g.dropped + 1, lgLost := true }

/-- A Ledger record enters the buffer (R372, R374, R375). Answers whether a record was dropped. -/
def lgMake (g : LogBlk) (standby : Bool) (it : LogItem) (fromDb : Bool) (payload : List Byte) : LogBlk × Bool :=
  let r : LgRec := { seq := g.lgNext, pcyc := g.pcyc, acrossSleep := g.acrossSleep, fromDaybook := fromDb,
                     lostBefore := g.lgLost, standby := standby, unclean := g.unclean, opms := g.opms, sev := it.sev,
                     code := it.code, source := it.source, payload := fit 36 payload,
                     stimeLo := it.stamp.truncate 32 }
  if g.buf.length < 256 then
    let g1 := { g with buf := g.buf ++ [(r, it.own)], lgNext := g.lgNext + 1, lgLost := false }
    let g2 := if it.sev.toNat ≥ 3 then startFlush g1 .fault g1.buf.length else g1
    (if g2.buf.length ≥ 128 then startFlush g2 .fill g2.buf.length else g2, false)
  else if it.sev.toNat < 4 then (lgDropped g, true)
  else
    -- the record at the front is being written while a flush is in progress and is never replaced
    let i0 := if g.flush == .idle then 0 else 1
    let pick := match newestWith (fun x => x.sev.toNat < 3) i0 g.buf with
      | some i => some i
      | none => newestWith (fun x => x.sev.toNat == 3) i0 g.buf
    match pick with
    | none => (lgDropped g, true)
    | some i =>
      let old := (g.buf[i]?.map (fun x => x.1.seq)).getD 0
      let g1 := lgDropped { g with buf := g.buf.set i ({ r with seq := old }, it.own) }
      (startFlush g1 .fault (i + 1), true)

/-- The Ledger payload of a record copied from a Daybook entry (R372). -/
def fromDbPayload (it : LogItem) (num : Word) : List Byte :=
  leN 8 it.stamp.toNat ++ fit 12 it.payload ++ wB num

/-- Puts one item through LOG; `n` is how many entries LOG can still store in this cycle (R369, R370, R372).
Answers LOG, the number left, and whether a Ledger record was dropped. -/
def logPut (g : LogBlk) (standby : Bool) (n : Nat) (it : LogItem) : LogBlk × Nat × Bool :=
  let (g0, d0) := if it.ledger then lgMake g standby it false it.payload else (g, false)
  if it.sev.toNat < g0.dbSevMin.toNat then
    if !it.ledger && it.sev.toNat ≥ 3 then
      let (g1, d1) := lgMake g0 standby it true (fromDbPayload it 0xFFFFFFFF)
      (g1, n, d0 || d1)
    else (g0, n, d0)
  else if n > 0 && g0.intake.isEmpty then
    let num := g0.dbNext
    let g1 := dbStore g0 it
    if !it.ledger && it.sev.toNat ≥ 3 then
      let (g2, d1) := lgMake g1 standby it true (fromDbPayload it num)
      (g2, n - 1, d0 || d1)
    else (g1, n - 1, d0)
  else if g0.intake.length < 64 then ({ g0 with intake := g0.intake ++ [it] }, n, d0)
  else
    let g1 := { g0 with dbDrop := satInc g0.dbDrop, dbLost := true }
    if !it.ledger && it.sev.toNat ≥ 3 then
      let (g2, d1) := lgMake g1 standby it true (fromDbPayload it 0xFFFFFFFF)
      (g2, n, d0 || d1)
    else (g1, n, d0)

/-- Stores the oldest waiting entries of the intake queue, at most `n` (R370). -/
def logDrain : Nat → Bool → LogBlk → LogBlk × Bool
  | 0, _, g => (g, false)
  | n + 1, standby, g =>
    match g.intake with
    | [] => (g, false)
    | it :: r =>
      let num := g.dbNext
      let g1 := dbStore { g with intake := r } it
      let (g2, d) := if !it.ledger && it.sev.toNat ≥ 3 then lgMake g1 standby it true (fromDbPayload it num)
                     else (g1, false)
      let (g3, d2) := logDrain n standby g2
      (g3, d || d2)

/-- Same-cycle order of entries: ascending SOURCE, then CODE (R370). -/
def itemLe (a b : LogItem) : Bool :=
  a.source.toNat < b.source.toNat || (a.source == b.source && a.code.toNat ≤ b.code.toNat)

/-- Records of a station in STATE 4 or 5 carry STANDBY (R371). -/
def lgStandby (s : State) : Bool := s.pair.state == 4#3 || s.pair.state == 5#3

/-- Records something the station puts out. -/
def send (s : State) (x : Sent) : State := { s with sent := x :: s.sent }

/-! ### Event router -/

/-- SOURCE of a routed entry (R409). -/
def srcOf (n : Nat) : Nat :=
  if n < 128 then (if n % 16 < 12 then 12 * (n / 16) + n % 16 else n / 16)
  else if n < 192 then (n - 128) / 8
  else if n < 256 then n - 192
  else if n < 304 then (n - 256) / 2
  else if n < 368 then (n - 304) / 4
  else if n < 432 then (n - 368) / 8
  else if 440 ≤ n && n < 448 then n - 440
  else noSrc

/-- Triggers event task `i` of engine `e`, merging into a trigger that still waits (R60, R61, R76, R409); a standby's triggers serve only a
boundary whose set it composes itself (R62, R266; assumption log 33). -/
def trigger (s : State) (e i : Nat) : State :=
  let g := vget s.le e Engine.unused
  if !inRunHold s || (vget g.evtEntry i none).isNone then s
  else if vget g.pending i false then
    { s with le := vmodN s.le e (fun g => { g with mergeCnt := satInc g.mergeCnt, merged := true }) }
  else { s with le := vmodN s.le e (fun g => { g with pending := vmodN g.pending i (fun _ => true) }) }

/-- Raises source `n`: RAISED, RAISE_CNT and the delivery to Daybook, Ledger and logic; the supervisor queue and the stack
master are served at the end of the command (R409). A second raise within one command does not count. -/
def raise (s : State) (n : Nat) : State :=
  if s.evr.now.contains n || n ≥ 512 then s else
  -- while EVR is quiesced nothing is routed (R394)
  let w := if s.pwr.quiet.getLsbD 10 then 0 else vget s.evr.routes n 0
  let v := { s.evr with
    now := s.evr.now ++ [n]
    raised := vmodN s.evr.raised (n / 32) (fun r => r ||| (1#32 <<< (n % 32)))
    raiseCnt := vmodN s.evr.raiseCnt n (· + 1) }
  let s1 := { s with evr := v }
  let s2 := if bit w 9 then logLedger s1 (0x8800 + n) (srcOf n) (fld w 13 3) []
            else if bit w 8 then logEntry s1 (0x8800 + n) (srcOf n) (fld w 13 3) [] else s1
  if bit w 1 then trigger s2 (fld w 2 4) (fld w 6 2) else s2

/-- One raise enters the supervisor queue of 128 (R410). -/
def supEnqueue (v : Evr) (q : Nat × Nat) : Evr :=
  if v.queue.length < 128 then { v with queue := v.queue ++ [q] }
  else
    let low := v.queue.foldl (fun m x => min m x.2) 3
    if q.2 ≤ low then { v with drop := satInc v.drop }
    else { v with drop := satInc v.drop, queue := (v.queue.eraseP (fun x => x.2 == low)) ++ [q] }

/-- Raises of one cycle enter in descending PRIO, then ascending source number (R410). -/
def supLe (a b : Nat × Nat) : Bool := b.2 < a.2 || (a.2 == b.2 && a.1 ≤ b.1)

/-- The raises of the present command that route word bit 0 sends to the supervisor enter its queue, and those that
route bit 10 sends to the stack master leave as placed transfers, or enter the queue of this station where it is the master; the
active station's only (R409, R410, R411); none while EVR is quiesced (R394). -/
def deliverRaises (s : State) : State :=
  let prio := fun n => fld (vget s.evr.routes n 0) 11 2
  let on := fun (n i : Nat) => !s.pwr.quiet.getLsbD 10 && bit (vget s.evr.routes n 0) i
  let sup := ((s.evr.now.filter (on · 0)).map (fun n => (n, prio n))).mergeSort supLe
  let stk := if isStandby s then [] else (s.evr.now.filter (on · 10)).map (fun n => (n, prio n))
  let master := s.stk.role == 2#3 || s.stk.role == 4#3
  let out := if s.stk.role == 1#3 then stk else []
  let v := (sup ++ if master then stk.mergeSort supLe else []).foldl supEnqueue s.evr
  out.foldl (fun s x => send s (.stackRaise x.1 x.2))
    { s with evr := { v with now := [], out := v.out ++ out.map (fun x => (x.1, x.2, s.stn.time.toNat)) } }

/-- One pass of LOG over the items of the present command (R370, R372). -/
def logPass (s : State) : State :=
  let items := s.log.fresh.mergeSort itemLe
  let g0 := { s.log with fresh := [] }
  let (g, _, d) := items.foldl (fun (a : LogBlk × Nat × Bool) it =>
    let (g1, n1, d1) := logPut a.1 (lgStandby s) a.2.1 it
    (g1, n1, a.2.2 || d1)) (g0, 4, false)
  let s1 := { s with log := g }
  if d then raise s1 488 else s1

/-- What ends every command: LOG stores the command's entries, raised sources reach the supervisor and the stack. -/
def settle (s : State) : State := deliverRaises (logPass (logPass (logPass s)))

/-- LOG's intake as the next fabric cycle finds it: up to four waiting entries are stored (R370; assumption log 6). -/
def freshCycle (s : State) : State :=
  let (g, d) := logDrain 4 (lgStandby s) s.log
  let s1 := { s with log := g }
  if d then raise s1 488 else s1

/-- The outcome of a command that took `s` to `t`: what ends every command, with the queue as it was. -/
def finish (s t : State) : Host.Outcome State Fault Refusal := .next { settle t with pending := s.pending }

/-- A command that cannot come about in this state changes nothing (assumption log 7). -/
def guarded (s : State) (b : Bool) (f : State → State) : Host.Outcome State Fault Refusal :=
  if b then finish s (f (freshCycle s)) else .next s

/-! ### The variable table -/

/-- The variable with DATA index `n`. -/
def var? (s : State) (n : Nat) : Option Var := s.vars.find? (fun v => v.idx == n)

/-- The quality a reader sees: at or above its stale limit a variable reads Q at least 3 (R38). -/
def varView (v : Var) : TWord :=
  if v.stale != 0#4 && v.cur.tag.age.toNat ≥ v.stale.toNat then { v.cur with tag := tagAtLeast v.cur.tag 3 } else v.cur

/-- DATA index `n` as a requester reads it (R41). -/
def dataRead (s : State) (n : Nat) : TWord :=
  match var? s n with
  | some v => varView v
  | none => undefData

/-- Tag of a variable under a force (R124). -/
def forcedTag : Tag := { q := 0, c := false, f := true, h := false, age := 0, s := false, origin := 10 }

/-- The force on variable ID `id`. -/
def force? (s : State) (id : Word) : Option Force := s.stn.forces.find? (fun f => f.id == id)

/-- A fresh write of a variable by its writer: a force takes its place, and the write is kept as the unforced value
(R37, R124). -/
def varWrite (fs : List Force) (v : Var) (w : TWord) : Var :=
  match fs.find? (fun f => f.id == v.id) with
  | some f => { v with unf := w, cur := { val := f.value, tag := forcedTag }, forced := true, wrote := true }
  | none => { v with cur := w, unf := w, forced := false, wrote := true }

/-- The writer's own value: the unforced one while a force acts (R124). -/
def varOwn (v : Var) : TWord := if v.forced then v.unf else v.cur

/-- A handover of its tier at which nothing wrote the variable: AGE grows (R37). A force takes effect where the tier hands
the variable over all the same (`handed`: a logic tier or the supervisor); what a force has put in place stays there until
the next write, with AGE 0 while the force stands (R124; assumption log 8). -/
def varIdle (fs : List Force) (handed : Bool) (v : Var) : Var :=
  let own : TWord := { varOwn v with tag := tagOlder (varOwn v).tag }
  match fs.find? (fun f => f.id == v.id) with
  | some f =>
    if handed then { v with unf := own, cur := { val := f.value, tag := forcedTag }, forced := true }
    else if v.forced then { v with unf := own } else { v with cur := own, unf := own }
  | none =>
    if v.forced then { v with unf := own, cur := { v.cur with tag := tagOlder v.cur.tag } } else { v with cur := own, unf := own }

/-- Applies `f` to the variable with DATA index `n`. -/
def modVar (s : State) (n : Nat) (f : Var → Var) : State :=
  { s with vars := s.vars.map (fun v => if v.idx == n then f v else v) }

/-- Writes a tagged word to the variable with DATA index `n` (R37, R124). -/
def writeVar (s : State) (n : Nat) (w : TWord) : State := modVar s n (fun v => varWrite s.stn.forces v w)

/-- The DATA index that a binding word names, none for a field point or an unconnected item (R346). -/
def bindVar (b : Word) : Option Nat := if b.toNat < 2 ^ 20 then some b.toNat else none

/-- The field point that a binding word names (R346). -/
def bindPoint (b : Word) : Option Nat := if b ≠ 0xFFFFFFFF#32 && bit b 31 then some (fld b 0 7) else none

/-- Reads the variable that a binding word names; an unconnected item reads as an undefined index. -/
def readBind (s : State) (b : Word) : TWord :=
  match bindVar b with
  | some n => dataRead s n
  | none => undefData

/-- Writes through a binding word; an unconnected item takes nothing. -/
def writeBind (s : State) (b : Word) (w : TWord) : State :=
  match bindVar b with
  | some n => writeVar s n w
  | none => s

end Sys2Proof.Machine
end

