-- ==== Sys2Proof/Machine/Field.lean ====
section
/-! DEFINITION. Shared operations of the field points and banks: latching a command, the safe states, the Shutter, the
samples of a T0 boundary and the diagnostics (R211–R232). -/

namespace Sys2Proof.Machine
open Sys2Proof

/-- MODE of a point (R211). -/
def Pt.mode (p : Pt) : Nat := fld p.cfg 0 4
/-- SUB of a point. -/
def Pt.sub (p : Pt) : Nat := fld p.cfg 4 2
/-- FILT of a point. -/
def Pt.filt (p : Pt) : Nat := fld p.cfg 6 3
/-- SAFE of a point (R228). -/
def Pt.safe (p : Pt) : Nat := fld p.cfg 12 2
/-- The point is an input: DI, AI, COUNT or FREQ. -/
def Pt.isIn (p : Pt) : Bool := [1, 3, 5, 6].contains p.mode
/-- The point is an output: DO, AO or PWM. -/
def Pt.isOut (p : Pt) : Bool := [2, 4, 7].contains p.mode
/-- DO or PWM, which share the switch of R219. -/
def Pt.isSwitch (p : Pt) : Bool := p.mode == 2 || p.mode == 7

/-- Bank of a global point number (R3). -/
def bankOf (n : Fin 96) : Fin 8 := ⟨n.val / 12, by omega⟩
/-- Points of a bank. -/
def pointsOf (b : Fin 8) : List (Fin 96) := (allFin 96).filter (fun n => bankOf n == b)

/-- Number of event source `i` of a bank (R407). -/
def bankSrc (b : Fin 8) (i : Nat) : Nat := 16 * b.val + i

/-- Changes one point. -/
def modPt (s : State) (n : Fin 96) (f : Pt → Pt) : State := { s with fld := { s.fld with pts := vmod s.fld.pts n f } }
/-- Changes one bank. -/
def modBank (s : State) (b : Fin 8) (f : Bank → Bank) : State := { s with fld := { s.fld with banks := vmod s.fld.banks b f } }
/-- Changes every point of a bank. -/
def modPtsOf (s : State) (b : Fin 8) (f : Pt → Pt) : State := (pointsOf b).foldl (fun s n => modPt s n f) s

/-- The value a command asks the output to drive, within the limits of R220 and R221. -/
def Pt.clampCmd (p : Pt) (w : Word) : Word :=
  if p.mode = 2 then w &&& 1
  else if p.mode = 7 then (if w.toNat > 65536 then 65536 else w)
  else
    let hi : Int := if p.sub = 0 then 22000000 else 10500000
    BitVec.ofInt 32 (min (max w.toInt 0) hi)

/-- What the field shows at an instant of the tier reference: a command of a handover only from 1.0 µs after its boundary (R27, R222). -/
def Pt.present (p : Pt) (ref : Nat) : Option Word := if ref < p.showAt then p.shown else p.eff

/-- The level of an output, were its bank to drive it: off while latched off, the duty of the present period for PWM (R219, R221). -/
def Pt.carries (p : Pt) (ref : Nat) : Option Word :=
  if p.prot ≠ 0 then none else if p.mode = 7 then (p.present ref).map (fun _ => p.duty) else p.present ref

/-- The safe state of an output at an instant of the tier reference (R228). -/
def Pt.safeEff (p : Pt) (ref : Nat) : Option Word :=
  match p.safe with
  | 0 => none
  | 1 => if p.mode = 2 then some 1 else if p.mode = 7 then some 65536 else none
  | 2 => p.carries ref
  | _ => some (p.clampCmd p.safeVal)

/-- A point put into its safe state. -/
def Pt.toSafe (ref : Nat) (p : Pt) : Pt :=
  if p.isOut then { p with eff := p.safeEff ref, showAt := 0, duty := (p.safeEff ref).getD 0 } else p

/-- A point de-energised, its PWM periods stopped (R222). -/
def Pt.deEnergised (p : Pt) : Pt := { p with eff := none, showAt := 0, pwmDue := false, pwmRun := false, duty := 0, onNs := 0 }

/-- What the terminal of an output carries: none when it is off or released (R222, R226, R232). -/
def driven (s : State) (n : Fin 96) : Option Word :=
  let p := s.fld.pts[n]
  let b := s.fld.banks[bankOf n]
  if p.isOut && b.fsPow && b.drive && b.lp != 0 && !(p.mode == 4 && b.aoWait) then p.carries (refNow s) else none

/-- The current-mode bypass of R234 is open. -/
def bypassOpen (s : State) (n : Fin 96) : Bool :=
  let p := s.fld.pts[n]
  p.mode == 3 && p.sub ≤ 1 && s.fld.banks[bankOf n].fsOk

/-- SHUT_STATUS.ALL_SAFE (R231). -/
def allSafe (s : State) (b : Fin 8) : Bool :=
  (pointsOf b).all (fun n =>
    let p := s.fld.pts[n]
    !p.isOut || p.gone || (driven s n).isNone || (driven s n == some 0 && p.isSwitch && s.fld.banks[b].open_)
      || (!s.fld.banks[b].open_ && p.eff == p.safeEff (refNow s)))

/-- On time in ns of a PWM period, on the 20 ns grid, with the shortest pulses of R221. -/
def pwmOn (duty period : Nat) : Nat :=
  let d := min duty 65536
  let x := d * period * 5
  let q := x / 65536
  let r := x % 65536
  let g := if r > 32768 || (r = 32768 && Config.pwmTie d period) then q + 1 else q
  let on := 20 * g
  let per := 100 * period
  if on < 10000 then 0 else if per - on < 10000 then per else on

/-- A PWM period begins with the latched duty (R221). -/
def Pt.periodStart (p : Pt) : Pt :=
  let d := p.eff.getD 0
  { p with duty := d, onNs := pwmOn d.toNat (fld p.pwmPeriod 0 24) }

/-- OVL holds while the overload of R223 still holds an output off. -/
def refreshOvl (s : State) (b : Fin 8) : State :=
  modBank s b (fun k => { k with ovl := k.ovl && (pointsOf b).any (fun n => s.fld.pts[n].prot == 2) })

/-- The command of an output takes the place of what it drives, from the instant `at_` of the tier reference (R27, R222). -/
def Pt.drives (p : Pt) (ref at_ : Nat) (v : Word) : Pt := { p with eff := some v, shown := p.present ref, showAt := at_ }

/-- An output point latches a command from its driver, with drive from the instant `at_` of the tier reference (R219, R222, R229, R230).
A command of 0 that is latched but not driven ends a latching off, and the point stays off, in a closed bank de-energised. -/
def latchAt (s : State) (n : Fin 96) (w : TWord) (at_ : Nat) : State :=
  let p := s.fld.pts[n]
  let b := s.fld.banks[bankOf n]
  if !p.isOut then s else
  let opens := b.open_ && b.fsOk
  let freed := p.isSwitch && p.clampCmd w.val == 0 && p.prot ≠ 0
  let p1 := if freed then
      { p with prot := 0, eff := if opens then some 0 else none, showAt := 0, duty := 0, diag := if p.prot = 1 then p.diag &&& 0b11101#5 else p.diag }
    else p
  let p2 := { p1 with smp := w, pwmDue := p.pwmDue || (opens && p.mode == 7 && !p.pwmRun) }
  let p3 := if opens && w.tag.q ≠ 7 then p2.drives (refNow s) at_ (p.clampCmd w.val) else p2
  refreshOvl (modPt s n (fun _ => p3)) (bankOf n)

/-- A loop output, an angle event or a remote output drives its point at the instant it falls on (R222). -/
def latchPoint (s : State) (n : Fin 96) (w : TWord) : State := latchAt s n w 0

/-- At a T0 boundary the PWM periods of the points that have latched their first command since their bank opened start (R221). -/
def startPeriods (s : State) : State :=
  { s with fld := { s.fld with pts := s.fld.pts.map (fun p =>
      if p.mode == 7 && p.pwmDue then { p.periodStart with pwmRun := true, pwmDue := false } else p) } }

/-- The command variable of an output belongs to a logic engine (R70, R72). -/
def logicDriven (s : State) (n : Fin 96) : Bool :=
  s.fld.pts[n].isOut && (match (bindVar s.fld.pts[n].var).bind (var? s) with | some v => v.wblk == 3 | none => false)

/-- A closed bank opens and its PWM periods start again with its next command (R221, R230). -/
def openBank (s : State) (b : Fin 8) : State :=
  raise (modBank (modPtsOf s b (fun p => { p with pwmRun := false, pwmDue := false })) b (fun k => { k with open_ := true })) (bankSrc b 13)

/-- The STOP that a start enters, which has STOP_CAUSE = 1 (R72). -/
def inStartStop (s : State) : Bool := s.stn.mode == .stop && !s.stn.faultStop && s.stn.stopCause == 1#4

/-- A refresh reaches a bank: it opens when it was closed (R227, R230). In the STOP of a start the first refresh since the admission
puts the logic-driven points into their safe states, whether the bank was closed or not (R72; assumption log 84). -/
def refreshBank (s : State) (b : Fin 8) : State :=
  let k := s.fld.banks[b]
  if !k.fsOk then s
  else
    let s1 := if k.adm && inStartStop s then
        (pointsOf b).foldl (fun t n => if logicDriven s n then modPt t n (Pt.toSafe (refNow s)) else t) s
      else s
    let s2 := modBank s1 b (fun k => { k with adm := false })
    if k.open_ then s2 else openBank s2 b

/-- DRIVE of a bank takes a value, where its link across the barrier delivers it (R226, R232); `wait` marks the change of R232 that
keeps AO points waiting. -/
def setDrive (s : State) (b : Fin 8) (v wait : Bool) : State :=
  modBank s b (fun k =>
    if !k.fsOk then k else { k with drive := v, aoWait := if v then (if k.drive then k.aoWait else wait) else false })

/-- DRIVE of every bank. -/
def setDrives (s : State) (v wait : Bool) : State := (allFin 8).foldl (fun s b => setDrive s b v wait) s

/-- A bank closes and its outputs take their safe states (R229). -/
def closeBank (s : State) (b : Fin 8) : State :=
  raise (modBank (modPtsOf s b (Pt.toSafe (refNow s))) b (fun k => { k with open_ := false, closeCnt := satInc k.closeCnt })) (bankSrc b 12)

/-! ### Diagnostics -/

/-- Bit of a diagnostic in the DIAG register. -/
def Diag.idx : Diag → Nat
  | .openWire => 0
  | .short => 1
  | .over => 2
  | .rbMis => 3
  | .supply => 4

/-- A diagnostic is detected: its state bit, and when it is newly latched the count and the event (R224, R225). -/
def diagSet (s : State) (n : Fin 96) (d : Diag) : State :=
  let m : BitVec 5 := 1#5 <<< d.idx
  let p := s.fld.pts[n]
  let s1 := modPt s n (fun p => { p with diag := p.diag ||| m, diagL := p.diagL ||| m })
  if p.diagL &&& m ≠ 0 then s1
  else raise (modPt s1 n (fun p => { p with diagCnt := satInc p.diagCnt })) (bankSrc (bankOf n) (n.val % 12))

/-- The condition of a diagnostic has lapsed (R224). -/
def diagLapse (s : State) (n : Fin 96) (d : Diag) : State :=
  modPt s n (fun p => { p with diag := p.diag &&& ~~~(1#5 <<< d.idx) })

/-- A condition judged on each sample (R224). -/
def diagJudge (s : State) (n : Fin 96) (d : Diag) (b : Bool) : State := if b then diagSet s n d else diagLapse s n d

/-- Latched bits cleared; a condition still present latches again at once (R225). -/
def clearLatched (s : State) (n : Fin 96) (mask : BitVec 5) : State :=
  let p := s.fld.pts[n]
  let s1 := modPt s n (fun p => { p with diagL := p.diagL &&& ~~~mask })
  [Diag.openWire, .short, .over, .rbMis, .supply].foldl (fun s d =>
    if p.diag.getLsbD d.idx && mask.getLsbD d.idx && p.diagL.getLsbD d.idx then diagSet s n d else s) s1

/-! ### Samples -/

/-- Stable time in ns of a DI point (R214), or of a COUNT or FREQ point (R218). -/
def Pt.stableNs (p : Pt) : Nat :=
  if p.mode = 5 || p.mode = 6 then (match p.filt with | 0 => 0 | 1 => 20000 | 2 => 200000 | _ => 2000000)
  else match p.filt with
    | 0 => 0 | 1 => 100000 | 2 => 1000000 | 3 => 3000000 | 4 => 10000000 | _ => 20000000

/-- A filter or gate of `ns` has not run for its whole length since it started (R214, R218). -/
def Pt.unfilled (p : Pt) (now : BitVec 64) (ns : Nat) : Bool := (now - p.since).toNat < ns

/-- Conversions of an AI window (R216). -/
def Pt.window (p : Pt) : Nat :=
  match p.filt with
  | 0 => 50 | 1 => 500 | 2 => 5000 | _ => 10000

/-- Gate of a FREQ point in ns (R218). -/
def Pt.gateNs (p : Pt) : Nat :=
  match fld p.cfg 9 2 with
  | 0 => 10000000 | 1 => 100000000 | _ => 1000000000

/-- One sampler read of a DI point (R214). -/
def Pt.sampler (p : Pt) (x : Bool) : Pt :=
  if !p.started then { p with started := true, level := x, run := 0 }
  else if x == p.level then { p with run := 0 }
  else if p.run * 2000 ≥ p.stableNs then { p with level := x, run := 0 }
  else { p with run := p.run + 1 }

/-- The filter of a COUNT or FREQ point passes a change on that has stood for the stable time at age `e`; the edge goes in front of
`out`, with its age and direction (R218). -/
def Pt.passOn (p : Pt) (e : Nat) (out : List (Nat × Bool)) : Pt × List (Nat × Bool) :=
  match p.cand with
  | some a => if e + p.stableNs ≤ a then ({ p with level := !p.level, cand := none }, (a - p.stableNs, !p.level) :: out) else (p, out)
  | none => (p, out)

/-- One change of the front end, after what the filter has passed on by then (R218). -/
def Pt.change (x : Pt × List (Nat × Bool)) (e : Nat × Bool) : Pt × List (Nat × Bool) :=
  let p := x.1
  let q := if p.started then p else { p with started := true, level := !e.2 }
  let (r, out) := q.passOn e.1 x.2
  ({ r with cand := if e.2 == r.level then none else some e.1 }, out)

/-- The edges that a COUNT or FREQ point passes on up to a T0 boundary, newest first, of the kind that SUB selects (R218). -/
def Pt.edgesTo (p : Pt) (l : List (Nat × Bool)) : Pt × List Nat :=
  let (q, o1) := l.foldl Pt.change ({ p with cand := p.cand.map (· + 20000) }, [])
  let (r, o2) := q.passOn 0 o1
  (r, (o2.filter (fun e => p.sub == 2 || e.2 == (p.sub == 0))).map (fun e => e.1))

/-- The mean of conversions, rounded to the nearest unit with ties upward (R216). -/
def meanUp (l : List Int) : Int := (2 * l.foldl (· + ·) 0 + l.length) / (2 * l.length)

/-- Frequency in mHz of the edges inside a gate (R218). -/
def freqOf (ages : List Nat) : Nat :=
  match ages.head?, ages.getLast? with
  | some new, some old =>
    if old ≤ new then 0
    else
      let num := (ages.length - 1) * 1000000000000
      let d := old - new
      let q := num / d
      let r := num % d
      if 2 * r > d || (2 * r = d && Config.freqTie ages.length d) then q + 1 else q
  | _, _ => 0

/-- Quality of an input sample (R35, R224). -/
def Pt.inQ (p : Pt) : BitVec 3 := if p.diag &&& 0b00111#5 ≠ 0 then 4 else 0

/-- Quality of a readback (R224). -/
def Pt.rbQ (p : Pt) (lp : BitVec 2) : BitVec 3 :=
  if p.diag &&& 0b01011#5 ≠ 0 then 4 else if p.diag.getLsbD 4 then (if lp = 1 then 2 else 4) else 0

/-- A fresh sample enters the point. -/
def putSample (s : State) (n : Fin 96) (v : Word) (h : Bool) : State :=
  modPt s n (fun p => { p with smp := { val := v, tag := mkTag p.inQ h 0 false 0 } })

/-- What one point delivers at a T0 boundary from what its field side has read (R212–R218, R224); a failed field side delivers nothing,
and what stands ages and reads Q = 4 (R226). -/
def samplePoint (s : State) (n : Fin 96) (raw : Option RawIn) : State :=
  let p := s.fld.pts[n]
  let now := s.stn.time
  if !s.fld.banks[bankOf n].fsOk then
    let q4 := fun (w : TWord) => { w with tag := tagAtLeast (tagOlder w.tag) 4 }
    modPt s n (fun p => { p with smp := if p.isIn then q4 p.smp else p.smp, rb := if p.isOut then q4 p.rb else p.rb })
  else if p.mode = 1 then
    let l := match raw with | some (.levels l) => l | _ => []
    let q := l.foldl Pt.sampler p
    putSample (modPt s n (fun _ => q)) n (if q.level then 1 else 0) (q.unfilled now q.stableNs)
  else if p.mode = 3 then
    let l := match raw with | some (.conv l) => l | _ => []
    let c := (l.reverse ++ p.conv).take p.window
    let (v, s1) : Int × State := if c.isEmpty then let (w, t) := drawWord s; (w.toInt, t) else (meanUp c, s)
    let s2 := modPt s1 n (fun p => { p with conv := c })
    let isOpen := (p.sub = 0 && v < 3600000) || (p.sub = 2 && bit p.cfg 11 && v > 10800000)
    let isOver := if p.sub = 2 then (v > 10500000 || v < -10500000) && !isOpen else v > 22000000
    let s3 := diagJudge (diagJudge s2 n .openWire isOpen) n .over isOver
    putSample s3 n (BitVec.ofInt 32 v) (c.length < p.window)
  else if p.mode = 5 then
    let (q, l) := p.edgesTo (match raw with | some (.edges l) => l | _ => [])
    let k := (l.filter (fun a => 3000 ≤ a)).length
    let c := p.count + BitVec.ofNat 32 (p.late + k)
    putSample (modPt s n (fun _ => { q with count := c, late := l.length - k })) n c false
  else if p.mode = 6 then
    let (q, l) := p.edgesTo (match raw with | some (.edges l) => l | _ => [])
    let ages := (l ++ p.edges.map (· + 20000)).filter (· ≤ p.gateNs)
    let f := freqOf ages
    let s1 := modPt s n (fun _ => { q with edges := ages })
    let s2 := diagJudge s1 n .over (f > 110000000)
    putSample s2 n (satNat 32 f) (q.unfilled now q.gateNs)
  else if p.isOut then
    let w := match raw with | some (.readback w) => w | _ => p.rb.val
    modPt s n (fun p => { p with rb := { val := w, tag := mkTag (p.rbQ s.fld.banks[bankOf n].lp) false 0 false 0 } })
  else s

/-- The samples of a T0 boundary (R214–R218). -/
def fieldSample (s : State) (ins : List (Fin 96 × RawIn)) : State :=
  (allFin 96).foldl (fun s n => samplePoint s n ((ins.find? (fun x => x.1 == n)).map (fun x => x.2))) s

/-- The quality of a variable raised to at least `q`, value and the rest kept. -/
def raiseVarQ (s : State) (n : Nat) (q : BitVec 3) : State :=
  modVar s n (fun v =>
    let u := { v.unf with tag := tagAtLeast v.unf.tag q }
    if v.forced then { v with unf := u } else { v with unf := u, cur := { v.cur with tag := tagAtLeast v.cur.tag q } })

/-- A variable bound to a point that is unused or of another mode reads Q = 6 (R212). -/
def unboundVar (s : State) (n : Nat) : State :=
  modVar s n (fun v =>
    let q6 := fun (w : TWord) => { w with tag := { w.tag with q := 6 } }
    if v.forced then { v with unf := q6 v.unf } else { v with unf := q6 v.unf, cur := q6 v.cur })

/-- A bound variable takes what its point delivered, or keeps its value with Q raised (R35, R212, R226). -/
def publishPoint (s : State) (n : Fin 96) : State :=
  let p := s.fld.pts[n]
  let put := fun (b : Word) (w : TWord) => match bindVar b with
    | some i => if s.fld.banks[bankOf n].fsOk then writeVar s i w else raiseVarQ s i 4
    | none => s
  if p.isIn then put p.var p.smp else if p.isOut then put p.rbVar p.rb else s

/-- The FLD variables bound to a point that its mode gives no value: the readback of an input, the command binding of an output, both of
an unused point; a command variable of another writer is that writer's (R212). -/
def unboundPoint (s : State) (n : Fin 96) : State :=
  let p := s.fld.pts[n]
  let other := fun (s : State) (b : Word) => (bindVar b).elim s (unboundVar s)
  let flds := (bindVar p.var).any (fun i => (var? s i).any (fun v => v.wblk == 0))
  if p.isIn then other s p.rbVar
  else if p.isOut then (if flds then other s p.var else s)
  else other (other s p.var) p.rbVar

/-- Every field variable that no point serves, on either station of a pair (R212). -/
def publishUnbound (s : State) : State := (allFin 96).foldl unboundPoint s

/-- Every field variable takes its point's sample (R37). -/
def publishField (s : State) : State := (allFin 96).foldl publishPoint s

/-! ### Handover to the outputs -/

/-- The word a command variable gives its output point: outside RUN and HOLD a force has no effect at the field (R125). -/
def commandView (s : State) (v : Var) : TWord := varView (if inRunHold s then v else { v with cur := varOwn v })

/-- The output points whose command variable belongs to tier `k` latch it (R25 step 2, R222); in STOP no logic engine
hands over (R66, R70). The field shows the value 1.0 µs after the boundary (R27). -/
def latchTier (s : State) (k : Nat) : State :=
  (allFin 96).foldl (fun s n =>
    let p := s.fld.pts[n]
    if !p.isOut then s else
    match (bindVar p.var).bind (var? s) with
    | some v =>
      let t := if v.tier = 7 then 0 else v.tier
      if t = k && (v.wblk ≠ 3 || inRunHold s) then latchAt s n (commandView s v) (s.stn.lastB + 1000) else s
    | none => s) s

/-- A commanded STOP puts every logic-driven output into its safe state (R70). -/
def safeLogicPoints (s : State) : State :=
  (allFin 96).foldl (fun s n => if logicDriven s n then modPt s n (Pt.toSafe (refNow s)) else s) s

/-! ### Start and configuration -/

/-- The filters, windows and gates of an input start again at a station time (R214, R216, R218); `clr` also clears its count. -/
def Pt.restartInput (p : Pt) (now : BitVec 64) (clr : Bool) : Pt :=
  { p with run := 0, started := false, since := now, cand := none, late := if clr then 0 else p.late, conv := [], edges := [],
           count := if clr then 0 else p.count }

/-- An input at the end of a warm reset: its filters start again, but a COUNT point, powered throughout, counts on; `gap` is the time
from the last T0 boundary sampled to the one before the end (R214, R216, R218, R230). -/
def Pt.throughWarm (p : Pt) (now : BitVec 64) (gap : Nat) : Pt :=
  if p.mode = 5 then { p with cand := p.cand.map (· + gap) } else if p.isIn then p.restartInput now false else p

/-- A field side starts as after power-on (R222, R226). -/
def fieldSideStart (s : State) (b : Fin 8) (clr : Bool) : State :=
  let s1 := modPtsOf s b (fun p => { (p.deEnergised).restartInput s.stn.time clr with late := 0 })
  modBank s1 b (fun k => { k with fsOk := true, fsPow := true, open_ := false, drive := false, aoWait := false })

/-- COUNT points count on through a warm reset: `ns` of T0 boundaries pass (R218). -/
def countsOn (s : State) (ns : Nat) : State :=
  { s with fld := { s.fld with pts := s.fld.pts.map (fun p => if p.mode = 5 then { p with cand := p.cand.map (· + ns) } else p) } }

/-- The inputs of every bank at the end of a warm reset (R214, R216, R218). -/
def inputsRestart (s : State) : State :=
  let gap := refNow s / 20000 * 20000 - s.stn.lastB
  { s with fld := { s.fld with pts := s.fld.pts.map (fun p => p.throughWarm s.stn.time gap) } }

/-- Class of a measured supply voltage in mV with the hysteresis of R226 and R384: absent below `lo`, low below `hi`. -/
def supplyClass (lo hi mv : Nat) (old : BitVec 2) : BitVec 2 :=
  let a := if old = 0 then lo + 500 else lo
  let g := if old = 2 then hi else hi + 500
  if mv < a then 0 else if mv < g then 1 else 2

/-- First class of a supply, from its measured voltage alone (R226, R384). -/
def firstClass (lo hi mv : Nat) : BitVec 2 := if mv < lo then 0 else if mv < hi then 1 else 2

end Sys2Proof.Machine
end

