-- ==== Sys2Proof/Machine/AngOps.lean ====
section
/-! DEFINITION. Shared operations of the angle scheduler: synchronisation and loss, the estimator and what a source
publishes, arming, and the evaluation of a window (R190–R209). -/

namespace Sys2Proof.Machine
open Sys2Proof

/-- TYPE of a source (R192). -/
def ASrc.type (r : ASrc) : Nat := fld r.cfg 0 3
/-- LINES, or tooth positions N. -/
def ASrc.lines (r : ASrc) : Nat := fld r.cfg 3 16 + 1
/-- Missing teeth G. -/
def ASrc.gap (r : ASrc) : Nat := fld r.cfg 19 2
/-- ZMODE. -/
def ASrc.zmode (r : ASrc) : Bool := bit r.cfg 21
/-- K. -/
def ASrc.k (r : ASrc) : Nat := fld r.span 0 12
/-- REV_EDGES. -/
def ASrc.revEdges (r : ASrc) : Nat := fld r.span 12 6
/-- TOOTH_TOL. -/
def ASrc.toothTol (r : ASrc) : Nat := fld r.span 18 2
/-- Count positions in one turn. -/
def ASrc.perTurn (r : ASrc) : Nat := if r.type = 1 then 4 * r.lines else if r.type = 2 then r.lines else 6
/-- Unwrapped angle of the last edge. -/
def ASrc.th (r : ASrc) : Int := edgeAngle r.perTurn r.zeroOfs r.pos

/-- The source makes predictions (R203). -/
def ASrc.predicting (r : ASrc) : Bool := r.sync == 2#2 && r.filled && !r.stillF && !r.loss

/-- ANG.SRC_a.STATE as a word. -/
def ASrc.stateWord (r : ASrc) : Word :=
  pack [(0, 2, r.sync.toNat), (2, 1, b2n r.stillF), (3, 1, b2n r.rev), (4, 1, b2n r.filled), (5, 1, b2n r.loss),
        (6, 3, r.cause.toNat), (9, 1, b2n r.overspeed), (10, 1, b2n r.predicting)]

/-- The values published last let events be predicted from them (R190, R203). -/
def ASrc.pubPredicting (r : ASrc) : Bool := bit r.pst 10

/-- Velocity sign of the published values, 0 at standstill (R146). -/
def ASrc.velSign (r : ASrc) : Int :=
  if bit r.pst 2 then 0 else if r.vel.toInt > 0 then 1 else if r.vel.toInt < 0 then -1 else 0

/-- Changes one source. -/
def modSrc (s : State) (a : Fin 8) (f : ASrc → ASrc) : State := { s with ang := { s.ang with src := vmod s.ang.src a f } }
/-- Changes one event. -/
def modEvt (s : State) (n : Fin 128) (f : AEvt → AEvt) : State := { s with ang := { s.ang with evt := vmod s.ang.evt n f } }
/-- Number of event source `i` of an angle source (R407). -/
def angSrc (a : Fin 8) (i : Nat) : Nat := 368 + 8 * a.val + i

/-- Source an event belongs to (R204). -/
def srcOfEvt (n : Fin 128) : Fin 8 := ⟨n.val / 16, by omega⟩
/-- KIND of an event. -/
def AEvt.kind (e : AEvt) : Nat := fld e.cfg 0 2
/-- The field point of an event. -/
def AEvt.point (e : AEvt) : Nat := fld e.cfg 8 7
/-- An event that targets a field point. -/
def AEvt.isField (e : AEvt) : Bool := e.kind == 1
/-- An event disarmed, with nothing left to fire. -/
def AEvt.disarmed (e : AEvt) : AEvt := { e with armed := false, due := none, mark := none }

/-! ### Synchronisation, loss and the estimate -/

/-- The estimate restarts (R198, R202). -/
def ASrc.restart (r : ASrc) : ASrc := { r with edges := [], filled := false, against := 0 }

/-- A source that seeks from the start: nothing of its sensor's history is kept. -/
def ASrc.seek (r : ASrc) : ASrc :=
  { r.restart with sync := 1, stillF := false, lastT := none, refN := 0, gapSeen := false, sinceGap := 0, turnErr := 0,
                   lastX := none, validX := 0, placed := false }

/-- Synchronisation is gained with the last edge at count position `pos` (R193–R195). -/
def gainSync (s : State) (a : Fin 8) (pos : Int) : State :=
  raise (modSrc s a (fun r => { r.restart with sync := 2, stillF := false, pos := pos, placed := true, turnErr := 0, cause := 0 }))
    (angSrc a 2)

/-- Synchronisation is lost, and the source seeks again (R202). -/
def loseSync (s : State) (a : Fin 8) : State :=
  let was := s.ang.src[a].sync == 2#2
  let s1 := modSrc s a (fun r => { r.seek with cause := 0 })
  if was then raise s1 (angSrc a 3) else s1

/-- A loss (R202): causes 1, 5 and 7 last until LOSS_RECOVERY; the others are left at once and the source seeks again. -/
def loseSource (s : State) (a : Fin 8) (cause : BitVec 3) : State :=
  let was := s.ang.src[a].sync == 2#2
  let lasts := cause == 1#3 || cause == 5#3 || cause == 7#3
  let s1 := modSrc s a (fun r => { r.seek with sync := if lasts then 0 else 1, loss := lasts, cause := cause })
  let s2 := if was then raise s1 (angSrc a 3) else s1
  raise s2 (angSrc a 4)

/-- A counted edge at `t` (R198, R202): at standstill it restarts the estimate. -/
def ASrc.count (r : ASrc) (t : Nat) : ASrc :=
  let e : AEdge := { t := t, th := r.th }
  if r.stillF then { r with stillF := false, edges := [e], filled := false, against := 0 }
  else { r with edges := (e :: r.edges).take (2 * r.k + 1), against := 0 }

/-- An encoder transition (R193, R202). -/
def encoderEdge (s : State) (a : Fin 8) (t : Nat) (fwd : Bool) : State :=
  let s := modSrc s a (fun r => { r with edgeCnt := r.edgeCnt + 1 })
  let r := s.ang.src[a]
  if r.loss then s
  else if r.sync ≠ 2 then
    if r.zmode then modSrc s a (fun r => { r with pos := if fwd then r.pos + 1 else r.pos - 1, rev := !fwd })
    else modSrc (gainSync s a 0) a (fun r => { r with rev := !fwd }.count t)
  else
    let s1 := modSrc s a (fun r => { r with pos := if fwd then r.pos + 1 else r.pos - 1 })
    if fwd == !r.rev then modSrc s1 a (fun r => r.count t)
    else if r.against + 1 < r.revEdges then modSrc s1 a (fun r => { r with against := r.against + 1 })
    else raise (modSrc s1 a (fun r => { r.restart with rev := !r.rev, stillF := false }.count t)) (angSrc a 6)

/-- A rising Z edge of an encoder (R193). -/
def encoderIndex (s : State) (a : Fin 8) : State :=
  let r := s.ang.src[a]
  if !r.zmode || r.loss then s
  else if r.sync ≠ 2 then gainSync s a 0
  else
    let n : Int := r.perTurn
    let d := r.pos % n
    if d = 0 then s
    else if d = 1 then modSrc s a (fun r => { r with pos := r.pos - 1, errCnt := satInc r.errCnt })
    else if d = n - 1 then modSrc s a (fun r => { r with pos := r.pos + 1, errCnt := satInc r.errCnt })
    else loseSource s a 3

/-- ERR_CNT of a source counts one. -/
def srcErr (s : State) (a : Fin 8) : State := modSrc s a (fun r => { r with errCnt := satInc r.errCnt })

/-- One corrected or erroneous period of a synchronised wheel; more than TOOTH_TOL within one turn lose it (R194). -/
def toothError (s : State) (a : Fin 8) : State :=
  let s1 := modSrc (srcErr s a) a (fun r => { r with turnErr := r.turnErr + 1 })
  let r := s1.ang.src[a]
  if r.turnErr > r.toothTol then loseSource s1 a 4 else s1

/-- A tooth edge at `t` takes the position `step` pitches on and is counted, unless the source has just been lost. -/
def toothTake (s : State) (a : Fin 8) (t step : Nat) : State :=
  if s.ang.src[a].sync ≠ 2 then s
  else modSrc s a (fun r => { r with pos := r.pos + step, lastT := some t }.count t)

/-- An edge of a toothed wheel (R194). -/
def toothEdge (s : State) (a : Fin 8) (t : Nat) : State :=
  let s := modSrc s a (fun r => { r with edgeCnt := r.edgeCnt + 1 })
  let r := s.ang.src[a]
  let g := r.gap
  let n := r.lines
  if r.loss then s else
  match r.lastT with
  | none => modSrc s a (fun r => { r with lastT := some t })
  | some t0 =>
    let T := t - t0
    if r.refN = 0 then modSrc s a (fun r => { r with lastT := some t, refN := T, refD := 1, sinceGap := r.sinceGap + 1 })
    else
      -- ρ compared with h halves: T ÷ (refN ÷ refD) < h ÷ 2
      let below := fun (h : Nat) => 2 * T * r.refD < h * r.refN
      let normal := fun (r : ASrc) => { r with lastT := some t, refN := T, refD := 1 }
      let gapRef := fun (r : ASrc) => { r with lastT := some t, refN := T, refD := g + 1 }
      if below 1 then srcErr s a
      else if r.sync ≠ 2 then
        if below (2 * g + 1) then modSrc s a (fun r => { normal r with sinceGap := r.sinceGap + 1 })
        else if below (2 * g + 3) then
          if r.gapSeen && r.sinceGap + 1 = n - g then
            modSrc (gainSync s a 0) a (fun r => (gapRef { r with gapSeen := false, sinceGap := 0 }).count t)
          else modSrc s a (fun r => { gapRef r with gapSeen := true, sinceGap := 0 })
        else modSrc s a (fun r => { r with lastT := some t, gapSeen := false, sinceGap := 0 })
      else
        let j := (r.pos % (n : Int)).toNat
        if j + 1 = n - g then
          if !below (2 * g + 1) && below (2 * g + 3) then
            toothTake (modSrc s a (fun r => { gapRef r with turnErr := 0 })) a t (g + 1)
          else loseSource (srcErr s a) a 4
        else if below 3 then toothTake (modSrc s a normal) a t 1
        else if below 5 then toothTake (toothError s a) a t 2
        else if !below (2 * g + 1) && below (2 * g + 3) then loseSource (srcErr s a) a 4
        else
          -- the position that an erroneous period leaves is open: a free tooth position
          let (w, s1) := drawWord s
          let j' := w.toNat % (n - g)
          let step := (j' + n - j) % n
          toothTake (toothError s1 a) a t (if step = 0 then n else step)

/-- Count position of the crossing at which an electrical source synchronises: its angle lies within the first turn, from which TURNS
counts, whatever ZERO_OFS adds (R190, R195, R197). -/
def firstPos (ofs : Word) (k : Fin 6) : Int := if edgeAngle 6 ofs k.val < 4294967296 then (k.val : Int) else (k.val : Int) - 6

/-- A zero crossing of a VS set as an edge of an electrical source (R195). -/
def crossingEdge (s : State) (a : Fin 8) (k : Fin 6) (t mhz : Nat) : State :=
  let s := modSrc s a (fun r => { r with edgeCnt := r.edgeCnt + 1 })
  let r := s.ang.src[a]
  if r.loss then s
  else
    let step : Nat := match r.lastX with
      | some p => (k.val + 6 - p.val) % 6
      | none => 1
    if step = 5 || (r.sync == 2#2 && (mhz < 40000 || mhz > 70000)) then loseSource s a 6
    else if r.sync ≠ 2 then
      let v := if step = 1 then r.validX + 1 else 1
      let s1 := modSrc s a (fun r => { r with lastX := some k, validX := v })
      if v ≥ 6 then
        if mhz < 40000 || mhz > 70000 then loseSource s1 a 6
        else modSrc (gainSync s1 a (firstPos r.zeroOfs k)) a (fun r => { r with lastX := some k }.count t)
      else s1
    else modSrc s a (fun r => { r with lastX := some k, pos := r.pos + (if step = 0 then 6 else step : Nat) }.count t)

/-! ### Publishing -/

/-- Tag of what a source publishes (R35, R190). -/
def ASrc.pubTag (r : ASrc) : Tag := mkTag (if r.loss then 4 else if r.sync ≠ 2 then 2 else 0) (!r.filled) 0 false 6

/-- OVERSPEED follows VEL, with an entry when it begins (R201). -/
def overspeedCheck (s : State) (a : Fin 8) : State :=
  let r := s.ang.src[a]
  let o := r.vel.toInt > r.topSpeed
  let s1 := modSrc s a (fun r => { r with overspeed := o })
  if o && !r.overspeed then logEntry s1 0x3000 a.val sevNotice (wB r.vel) else s1

/-- Standstill of a source: VEL and ACC are 0 from the next boundary on, and ANGLE is the last edge's (R190, R202). -/
def enterStill (s : State) (a : Fin 8) : State :=
  let s1 := raise (modSrc s a (fun r => { r with stillF := true })) (angSrc a 5)
  if s.ang.src[a].type = 2 then modSrc (loseSync s1 a) a (fun r => { r with stillF := true }) else s1

/-- TURNS and ANGLE of an unwrapped angle. -/
def ASrc.putAngle (r : ASrc) (th : Int) : ASrc :=
  { r with turns := BitVec.ofInt 32 (th / 4294967296), angle := BitVec.ofInt 32 (th % 4294967296) }

/-- What a sensor source computes at boundary `b`; between single edges against the direction ANGLE follows the count (R190, R198,
R202). -/
def computeSensor (s : State) (a : Fin 8) (b : Nat) : State :=
  let r := s.ang.src[a]
  if r.loss then s
  else if r.sync ≠ 2 then modSrc s a (fun r => { (if r.stillF then r.putAngle r.th else r) with vel := 0, acc := 0 })
  else if r.stillF then modSrc s a (fun r => { r.putAngle r.th with vel := 0, acc := 0 })
  else
    match r.edges[0]?, r.edges[r.k]?, r.edges[2 * r.k]? with
    | some e0, some e1, some e2 =>
      let e := estimate e0 e1 e2 b (fld r.still 16 16)
      let s1 := modSrc s a (fun r => { r.putAngle (if r.against = 0 then e.th else r.th) with
        vel := BitVec.ofInt 32 e.vel, acc := BitVec.ofInt 32 e.acc, filled := true })
      if e.slow then modSrc (enterStill s1 a) a (fun r => { r.putAngle r.th with vel := 0, acc := 0 }) else s1
    | _, _, _ => modSrc s a (fun r => { r.putAngle r.th with vel := 0, acc := 0, filled := false })

/-- What a difference source computes from what its inputs publish (R196). -/
def computeDiff (s : State) (a : Fin 8) : State :=
  let r := s.ang.src[a]
  let m := vget s.ang.src (fld r.cfg 22 3) r
  let n := vget s.ang.src (fld r.cfg 25 3) r
  if m.loss || n.loss then (if r.loss then s else loseSource s a 7)
  else if r.loss then s
  else
    let ok := m.sync == 2#2 && n.sync == 2#2
    let s1 := if ok && r.sync ≠ 2 then raise s (angSrc a 2) else if !ok && r.sync == 2#2 then raise s (angSrc a 3) else s
    modSrc s1 a (fun r => { r with
      sync := if ok then 2 else 1, filled := m.filled && n.filled, cause := if ok then 0 else r.cause
      angle := m.angle - n.angle
      turns := if m.angle.toNat < n.angle.toNat then m.turns - n.turns - 1 else m.turns - n.turns
      vel := BitVec.ofInt 32 (satS32 (m.vel.toInt - n.vel.toInt))
      acc := BitVec.ofInt 32 (satS32 (m.acc.toInt - n.acc.toInt)) })

/-- Tag of a difference source: its inputs' tags by R14, with the quality of its own loss (R196). -/
def diffTag (s : State) (a : Fin 8) : Tag :=
  let r := s.ang.src[a]
  let m := vget s.ang.src (fld r.cfg 22 3) r
  let n := vget s.ang.src (fld r.cfg 25 3) r
  tagAtLeast (combine m.tag n.tag false 6) r.pubTag.q

/-- One source publishes at boundary `b` (R190). -/
def publishSrc (s : State) (b : Nat) (a : Fin 8) : State :=
  let t := s.ang.src[a].type
  if t = 0 then s
  else
    let s1 := overspeedCheck (if t = 5 then computeDiff s a else computeSensor s a b) a
    let tag := if t = 5 then diffTag s1 a else s1.ang.src[a].pubTag
    modSrc s1 a (fun r => { r with tag := tag, pst := r.stateWord })

/-- The values a source has published go to its variables (R190). -/
def writeSrcVars (s : State) (a : Fin 8) : State :=
  let r := s.ang.src[a]
  if r.type = 0 then s
  else
    let put := fun (s : State) (i : Fin 5) (w : Word) => writeBind s r.binds[i] { val := w, tag := r.tag }
    put (put (put (put (put s 0 r.angle) 1 r.turns) 2 r.vel) 3 r.acc) 4 r.pst

/-- Where a source's published values no longer allow predictions, its events drop what was due and restart their
coverage, and points with NOEST_SAFE take their safe state (R203, R207). -/
def stopPredictions (s : State) (a : Fin 8) : State :=
  (allFin 128).foldl (fun s n =>
    if srcOfEvt n ≠ a then s else
    let e := s.ang.evt[n]
    let s1 := modEvt s n (fun e => { e with due := none, mark := none })
    if e.isField && bit e.cfg 6 then
      (if h : e.point < 96 then modPt s1 ⟨e.point, h⟩ (Pt.toSafe (refNow s)) else s1)
    else s1) s

/-- After a change of the published values of source `a`: `was` says that they allowed predictions before. -/
def afterPublish (s : State) (a : Fin 8) (was : Bool) : State :=
  if was && !s.ang.src[a].pubPredicting then stopPredictions s a else s

/-- ANGLE_PUBLISH: every source publishes at boundary `b` (R198). -/
def publishAngles (s : State) (b : Nat) : State :=
  let s1 := { s with ang := { s.ang with bNs := b } }
  (allFin 8).foldl (fun t a => afterPublish (publishSrc t b a) a s.ang.src[a].pubPredicting) s1

/-- The values of a source in place of those it shows. -/
def ASrc.withValues (r : ASrc) (w : Vector Word 4) : ASrc := { r with angle := w[0], turns := w[1], vel := w[2], acc := w[3] }
/-- ANGLE, TURNS, VEL and ACC of a source. -/
def ASrc.values (r : ASrc) : Vector Word 4 := #v[r.angle, r.turns, r.vel, r.acc]

/-- At a standby every source runs its own estimator, a difference source on the standby's own values of its inputs; what it computes is
kept apart from the distributed values (R196, R208). -/
def estimateOwn (s : State) (b : Nat) : State :=
  let s1 := { s with ang := { s.ang with src := s.ang.src.map (fun r => r.withValues r.own) } }
  let s2 := (allFin 8).foldl (fun (t : State) (a : Fin 8) =>
    let k := t.ang.src[a].type
    if k = 0 then t else if k = 5 then computeDiff t a else computeSensor t a b) s1
  { s2 with ang := { s2.ang with src := Vector.ofFn (fun a =>
      { s2.ang.src[a].withValues s.ang.src[a].values with own := s2.ang.src[a].values }) } }

/-! ### Arming -/

/-- Disarms every angle event that targets a field point (R66, R70). -/
def disarmFieldEvents (s : State) : State :=
  { s with ang := { s.ang with evt := s.ang.evt.map (fun e => if e.isField then e.disarmed else e) } }

/-- The points of field events take their safe state at a commanded STOP (R207). -/
def safeAnglePoints (s : State) : State :=
  (allFin 128).foldl (fun s n =>
    let e := s.ang.evt[n]
    if e.isField then (if h : e.point < 96 then modPt s ⟨e.point, h⟩ (Pt.toSafe (refNow s)) else s) else s) s

/-- The first start of RUN after power-on finds every event disarmed with SEQ last taken 0 (R205). -/
def firstRunEvents (s : State) : State :=
  if s.ang.ran then s
  else { s with ang := { s.ang with ran := true, evt := s.ang.evt.map (fun e => { e.disarmed with seqTaken := 0 }) } }

/-- A control word is taken (R205). -/
def takeCtrl (s : State) (n : Fin 128) (mode : BitVec 2) (seq : BitVec 8) : State :=
  modEvt s n (fun e =>
    let e1 := { e with mode := mode, seq := seq }
    if e.kind = 0 then e1
    else if mode = 0 then { e1.disarmed with seqTaken := seq }
    else if mode = 3 || seq = e.seqTaken then e1
    else { e1 with armed := true, armMode := mode, seqTaken := seq, mark := none, due := none })

/-- Bound TGT, ADV and CTRL values are taken at the boundaries of the tier that writes them (R205). -/
def takeBound (s : State) (k : Nat) : State :=
  (allFin 128).foldl (fun s n =>
    let e := s.ang.evt[n]
    if e.kind = 0 then s else
    let get := fun (s : State) (b : Word) => (bindVar b).bind (fun i => (var? s i).bind (fun v =>
      if v.tier = k then some (varView v).val else none))
    let s1 := match get s e.tgtB with
      | some w => modEvt s n (fun e => { e with tgt := w })
      | none => s
    let s2 := match get s1 e.advB with
      | some w => modEvt s1 n (fun e => { e with adv := w.truncate 27 })
      | none => s1
    match get s2 e.ctrlB with
    | some w => takeCtrl s2 n (w.extractLsb' 0 2) (w.extractLsb' 8 8)
    | none => s2) s

/-! ### The window of a boundary (R206) -/

/-- `u` of R206 at `dns` ns after the boundary, for direction `neg`. -/
def uAt (r : ASrc) (e : AEvt) (neg : Bool) (dns : Int) : Nat :=
  let x := predict r.turns r.angle r.vel r.acc (dns + 2 * (e.adv.toNat : Int))
  if neg then f64.flip x else x

/-- The vertex of the quadratic lies within the window, which begins `d0` ns after the boundary of the published values (R206). -/
def vertexIn (r : ASrc) (e : AEvt) (d0 : Nat) : Bool :=
  let acc := r.acc.toInt
  acc ≠ 0 &&
    (let v : Rat := -(r.vel.toInt : Rat) * 1000000000 / acc
     let lo : Rat := ((d0 + 4000 + 2 * e.adv.toNat : Nat) : Rat)
     let hi : Rat := ((d0 + 23998 + 2 * e.adv.toNat : Nat) : Rat)
     lo ≤ v && v ≤ hi)

/-- The least target position beyond the mark, in direction units (R206). -/
def nextTarget (tgt : Word) (neg : Bool) (mark : Rat) : Rat :=
  let f : Rat := (tgt.toNat : Rat) / 4294967296
  let o := if neg then -f else f
  ((mark - o).floor + 1 : Int) + o

/-- One armed event in the window of a boundary, by the values published last (R199, R206, R267). -/
def evalEvent (s : State) (n : Fin 128) : State :=
  let e := s.ang.evt[n]
  let a := srcOfEvt n
  let r := s.ang.src[a]
  let vel := r.vel.toInt
  if !e.armed || !r.pubPredicting || vel = 0 then s else
  let neg := vel < 0
  let d0 := s.ang.winB - s.ang.bNs
  let m0 := e.mark.getD (uAt r e neg (d0 + 4000))
  let ul := uAt r e neg (d0 + 23998)
  let m1 := fmax m0 ul
  let dir := fld e.cfg 4 2
  if (dir = 0 && neg) || (dir = 1 && !neg) || vertexIn r e d0 then modEvt s n (fun e => { e with mark := some m1 })
  else if vel < e.vmin.toInt || vel > e.vmax.toInt then modEvt s n (fun e => { e with mark := some m1, inhib := true })
  else
    let p := nextTarget e.tgt neg (ratOf m0)
    let s1 := modEvt s n (fun e => { e with mark := some m1 })
    if ratOf ul < p then s1
    else match (List.range 10000).find? (fun (i : Nat) => p ≤ ratOf (uAt r e neg (d0 + 4000 + 2 * (i : Int)))) with
      | none => s1
      | some i =>
        let s2 := modEvt s1 n (fun e => { e with due := some (s.ang.winB + 4000 + 2 * i) })
        if i = 0 && p ≤ ratOf (uAt r e neg (d0 + 3998)) then raise (modEvt s2 n (fun e => { e with late := true })) (angSrc a 7)
        else s2

end Sys2Proof.Machine
end

