-- ==== Sys2Proof/Machine/LoopLaw.lean ====
section
/-! DEFINITION. The fixed-point arithmetic, laws, scheduling, feed-forward and set-point of a loop sample (R139–R156). -/

namespace Sys2Proof.Machine
open Sys2Proof

/-- `mul` of R140: rounds half toward +infinity. -/
def lmul (c : Coef) (x : Int) : Int :=
  if c.s = 0 then c.k * x else (c.k * x + 2 ^ (c.s - 1)) / 2 ^ c.s

/-- A value within 32-bit two's complement. -/
def in32 (x : Int) : Bool := -2147483648 ≤ x && x ≤ 2147483647

/-- `sat32` of R140. -/
def sat32 (x : Int) : Int := min (max x (-2147483648)) 2147483647

/-- `clamp` of R140. -/
def clampI (x lo hi : Int) : Int := min (max x lo) hi

/-- The 32-bit two's-complement integer of a word (R130). -/
def sW (w : Word) : Int := w.toInt

/-! ### Configuration fields -/

/-- LAW: 1 PID, 2 FILTER. -/
def LoopCfg.law (c : LoopCfg) : Nat := fld c.cfg 0 2
/-- SRC: 0…3 tier, 4 angle. -/
def LoopCfg.src (c : LoopCfg) : Nat := fld c.cfg 2 3
/-- ANG. -/
def LoopCfg.ang (c : LoopCfg) : Nat := fld c.cfg 5 3
/-- SP_MODE. -/
def LoopCfg.spMode (c : LoopCfg) : Nat := fld c.cfg 8 2
/-- STOP_ACT. -/
def LoopCfg.stopAct (c : LoopCfg) : Nat := fld c.cfg 10 2
/-- PV_BAD_ACT. -/
def LoopCfg.pvBadAct (c : LoopCfg) : Nat := fld c.cfg 12 2
/-- AW. -/
def LoopCfg.aw (c : LoopCfg) : Bool := bit c.cfg 14
/-- OUT_FIELD. -/
def LoopCfg.outField (c : LoopCfg) : Bool := bit c.cfg 15
/-- NSOS. -/
def LoopCfg.nsos (c : LoopCfg) : Nat := fld c.cfg 21 3
/-- NSS. -/
def LoopCfg.nss (c : LoopCfg) : Nat := fld c.cfg 24 4
/-- SP_INIT. -/
def LoopCfg.spInit (c : LoopCfg) : Bool := bit c.cfg 28
/-- CTL_EN. -/
def LoopCfg.ctlEn (c : LoopCfg) : Bool := bit c.cfg 29
/-- MISS_LIM. -/
def LoopCfg.missLim (c : LoopCfg) : Nat := fld c.cfg2 0 8
/-- HSAMP. -/
def LoopCfg.hsamp (c : LoopCfg) : Nat := fld c.cfg2 8 8
/-- STALL_T2. -/
def LoopCfg.stallT2 (c : LoopCfg) : Nat := fld c.cfg2 16 8
/-- A binding word that is connected (R346). -/
def connected (b : Word) : Bool := b != 0xFFFFFFFF#32
/-- Release offset in ns (R133). -/
def LoopCfg.relNs (c : LoopCfg) : Nat := if c.src = 0 || c.src ≥ 4 then 3000 else 4000
/-- STATE that the stop behaviour takes (R154). -/
def LoopCfg.stopState (c : LoopCfg) : BitVec 3 := BitVec.ofNat 3 (4 + c.stopAct)

/-! ### Scheduling (R143, R145) -/

/-- Region index after the boundaries are passed at σ; `initial` sets it without hysteresis. -/
def regionOf (bs : List (Int × Int × Int)) (initial : Bool) (r : Nat) (sigma : Int) : Nat :=
  if initial then (bs.filter (fun b => b.1 ≤ sigma)).length
  else
    let up := bs.zipIdx.foldl (fun r (b, k) => if r = k && sigma ≥ b.1 + b.2.1 then k + 1 else r) r
    bs.zipIdx.reverse.foldl (fun r (b, k) => if r = k + 1 && sigma < b.1 - b.2.1 then k else r) up

/-- The blended boundary whose band holds σ, with λ (R143). Where two bands touch it is the lower one, whose λ is 65536: the model's
choice (assumption log 79). -/
def blendOf (bs : List (Int × Int × Int)) (sigma : Int) : Option (Nat × Nat) :=
  (bs.zipIdx.find? (fun (b, _) => b.2.2 ≠ 0 && b.1 - b.2.2 ≤ sigma && sigma ≤ b.1 + b.2.2)).map
    (fun (b, k) => (k, (clampI ((sigma - (b.1 - b.2.2)) * 65536 / (2 * b.2.2)) 0 65536).toNat))

/-- A blended coefficient. -/
def blendCoef (lo hi : Coef) (l : Nat) : Coef := { k := lo.k + ((hi.k - lo.k) * l + 32768) / 65536, s := lo.s }

/-- The scheduled coefficients in use. -/
def coefsInUse (c : LoopCfg) (st : LoopSt) : List Coef :=
  match st.blend with
  | some k => ((c.coefs.getD k []).zip (c.coefs.getD (k + 1) [])).map (fun x => blendCoef x.1 x.2 st.lambda)
  | none => c.coefs.getD st.region []

/-- Scheduling at a sample; answers the state and whether r changed at a hard boundary (R143, R144). -/
def schedule (c : LoopCfg) (st : LoopSt) (initial : Bool) (x : TWord) : LoopSt × Bool :=
  if c.bounds.isEmpty || !connected c.sched || x.tag.q.toNat ≥ 4 then (st, false)
  else
    let s := sW x.val
    let r := regionOf c.bounds initial st.region s
    let b := blendOf c.bounds s
    let lo := min r st.region
    let crossed := (c.bounds.drop lo).take (max r st.region - lo)
    ({ st with region := r, lambda := (b.map (fun y => y.2)).getD 0, blend := b.map (fun y => y.1) },
     crossed.any (fun y => y.2.2 = 0))

/-! ### Feed-forward (R146, R147) -/

/-- The value of one table; none when the angle's quality is 2 or worse. -/
def tableValue (t : LTable) (a : Word × Int × Tag) : Option Int :=
  if a.2.2.q.toNat ≥ 2 then none
  else
    let m := (a.1.toNat * t.mult) % 2 ^ 32
    let i := m / 2 ^ 24
    let f : Int := ((m / 2 ^ 8) % 2 ^ 16 : Nat)
    let e0 := t.ents.getD i 0
    let e1 := t.ents.getD ((i + 1) % 256) 0
    let v := e0 + ((e1 - e0) * f + 32768) / 65536
    some (if t.signMode = 1 then v * a.2.1 else v)

/-- The three feed-forward operands (v_ff, tab0, tab1), the tags used, FF_OFF, and values that passed sat32. -/
def feedForward (c : LoopCfg) (x : LSample) : (Int × Int × Int) × List Tag × Bool × List Int :=
  let ffOk := connected c.ff && x.ff.tag.q.toNat < 4
  let vff := if ffOk then sW x.ff.val else 0
  let ts := c.tables.zip x.tabs
  let raw := ts.map (fun (t, a) => tableValue t a)
  let tab := raw.map (fun v => sat32 (v.getD 0))
  let used := (ts.zip raw).filterMap (fun (y, v) => if v.isSome then some y.2.2.2 else none)
  ((vff, tab.getD 0 0, tab.getD 1 0), (if ffOk then [x.ff.tag] else []) ++ used,
   (connected c.ff && !ffOk) || raw.any (·.isNone), raw.map (·.getD 0))

/-! ### Set-point (R148, R149) -/

/-- Target of a sample: the kept target, the tags of the sources, SP_BAD, LIM, and the value that passed sat32. -/
def targetOf (c : LoopCfg) (st : LoopSt) (x : LSample) : LoopSt × Int × List Tag × Bool × Bool × Int :=
  let tags := if c.spMode = 0 then [x.sp.tag] else if c.spMode = 1 then [x.ext.tag] else [x.sp.tag, x.ext.tag]
  let bad := tags.any (fun t => t.q.toNat ≥ 4)
  if bad then (st, st.target.getD (clampI 0 c.spMin c.spMax), tags, true, false, 0)
  else
    let raw := if c.spMode = 0 then sW x.sp.val
      else if c.spMode = 1 then lmul c.kExt (sW x.ext.val) + c.spOfs
      else sW x.sp.val + lmul c.kTrim (sW x.ext.val)
    let t := clampI (sat32 raw) c.spMin c.spMax
    ({ st with target := some t }, t, tags, false, t ≠ sat32 raw, raw)

/-- One step of the rate limiter (R149). -/
def rateStep (c : LoopCfg) (w target : Int) : Int :=
  let d := target - w
  let d1 := if c.rateUp = 0 then d else min d c.rateUp
  let d2 := if c.rateDn = 0 then d1 else max d1 (-c.rateDn)
  sat32 (w + d2)

/-! ### Laws (R141, R142, R144, R153) -/

/-- Result of a law: state, output, whether it was clamped, and every value that passed sat32. -/
structure LawRes where
  st : LoopSt
  u : Int
  lim : Bool
  sats : List Int
deriving DecidableEq, Repr

/-- Scheduled coefficient `i`. -/
def coefAt (k : List Coef) (i : Nat) : Coef := k.getD i .zero

/-- A PID sample (R141); `rb` is the readback of an initialising sample, `hard` says that r changed at a hard boundary. -/
def pidLaw (c : LoopCfg) (k : List Coef) (st0 : LoopSt) (y w : Int) (f : Int × Int × Int) (rb : Option Int) (hard : Bool) :
    LawRes :=
  let K := coefAt k
  let ffr := lmul (K 8) f.1 + lmul (K 9) f.2.1 + lmul (K 10) f.2.2
  let ff := sat32 ffr
  let ed0 := lmul (K 5) w - y
  -- R153 step 4
  let p0r := lmul (K 0) (sat32 (lmul (K 4) w - y))
  let (st, s0) : LoopSt × List Int := match rb with
    | none => (st0, [])
    | some r =>
      let x := r - sat32 p0r - ff
      ({ st0 with yf := y, edPrev := sat32 ed0, xd := 0, xi := clampI (sat32 x) c.outMin c.outMax },
       [lmul (K 4) w - y, p0r, ed0, x])
  let dy := y - st.yf
  let yfr := st.yf + lmul (K 6) (sat32 dy)
  let yf := if (K 6).k = 0 then y else sat32 yfr
  let e := sat32 (w - yf)
  let pb := lmul (K 4) w - yf
  let pr := lmul (K 0) (sat32 pb)
  let p := sat32 pr
  let edr := lmul (K 5) w - yf
  let ed := sat32 edr
  let dd := ed - st.edPrev
  let xdr := lmul (K 3) st.xd + lmul (K 2) (sat32 dd)
  let xd := sat32 xdr
  let hr := st.u.getD 0 - p - xd - ff
  let xi := if hard then clampI (sat32 hr) c.outMin c.outMax else st.xi
  let v := p + xi + xd + ff
  let u := clampI v c.outMin c.outMax
  let di := lmul (K 1) e
  let wind := (v > c.outMax && di > 0) || (v < c.outMin && di < 0)
  let br := xi + di + lmul (K 7) (sat32 (u - sat32 v))
  let xi' := if !c.aw then (if wind then xi else clampI (sat32 (xi + di)) c.outMin c.outMax)
    else clampI (sat32 br) c.outMin c.outMax
  { st := { st with yf := yf, xi := xi', xd := xd, edPrev := ed, u := some u }, u := u, lim := u ≠ v
    sats := s0 ++ (if (K 6).k = 0 then [] else [dy, yfr]) ++ [w - yf, pb, pr, edr, dd, xdr, ffr]
      ++ (if hard then [hr] else [])
      ++ (if !c.aw then (if wind then [] else [xi + di]) else [v, u - sat32 v, br]) }

/-- One second-order section (R142): its new history, its output, and the accumulator that passed sat32. -/
def sosStep (k : List Coef) (j : Nat) (h : Sos) (z : Int) : Sos × Int × Int :=
  let K := fun i => coefAt k (5 * j + i)
  let a := lmul (K 0) z + lmul (K 1) h.z1 + lmul (K 2) h.z2 - lmul (K 3) h.y1 - lmul (K 4) h.y2
  ({ z1 := z, z2 := h.z1, y1 := sat32 a, y2 := h.y1 }, sat32 a, a)

/-- A FILTER sample (R142); `rb` and `hard` as for `pidLaw`. -/
def filterLaw (c : LoopCfg) (k : List Coef) (st0 : LoopSt) (y w : Int) (f : Int × Int × Int) (rb : Option Int)
    (hard : Bool) : LawRes :=
  let n := c.nss
  let sos0 : List Sos := (List.range c.nsos).map (fun j =>
    if rb.isSome then { z1 := 0, z2 := 0, y1 := 0, y2 := 0 } else st0.sos.getD j { z1 := 0, z2 := 0, y1 := 0, y2 := 0 })
  let xs0 : List Int := (List.range n).map (fun i => if rb.isSome then 0 else st0.xs.getD i 0)
  let er := w - y
  let (sos1, z, s1) := sos0.zipIdx.foldl (fun (a : List Sos × Int × List Int) (h, j) =>
    let (h', y', r) := sosStep k j h a.2.1
    (a.1 ++ [h'], y', a.2.2 ++ [r])) ([], sat32 er, [er])
  let o := 5 * c.nsos
  let A := fun i j => coefAt k (o + n * i + j)
  let B := fun i => coefAt k (o + n * n + i)
  let C := fun i => coefAt k (o + n * n + n + i)
  let d := o + n * n + 2 * n
  let yr := xs0.zipIdx.foldl (fun a (x, i) => a + lmul (C i) x) 0 + lmul (coefAt k d) z
  let xr := (List.range n).map (fun i => xs0.zipIdx.foldl (fun a (x, j) => a + lmul (A i j) x) 0 + lmul (B i) z)
  let ffr := lmul (coefAt k (d + 1)) f.1 + lmul (coefAt k (d + 2)) f.2.1 + lmul (coefAt k (d + 3)) f.2.2
  let base := sat32 yr + sat32 ffr
  let br := match rb with
    | some r => r - base
    | none => if hard then st0.bias + (st0.u.getD 0 - (base + st0.bias)) else st0.bias
  let bias := sat32 br
  let v := base + bias
  let u := clampI v c.outMin c.outMax
  let b2 := bias - lmul c.biasDecay bias
  let keep := c.aw && u ≠ v
  { st := { st0 with sos := if keep then sos0 else sos1, xs := if keep then xs0 else xr.map sat32, bias := sat32 b2, u := some u }
    u := u, lim := u ≠ v, sats := s1 ++ [yr] ++ xr ++ [ffr, br, b2] }

/-! ### One sample -/

/-- What a completed sample gives. -/
structure SampleRes where
  st : LoopSt
  /-- STATE when no stop behaviour acts -/
  state : BitVec 3
  out : TWord
  lim : Bool
  sat : Bool
  pvBad : Bool
  spBad : Bool
  ffOff : Bool
  /-- the sample initialised the loop -/
  initDone : Bool
  /-- the output carries H after initialisation -/
  h : Bool
deriving DecidableEq, Repr

/-- R14 over the operands of a sample, with C 0 and ORIGIN 4 (R151). -/
def loopTag (ts : List Tag) (sat h : Bool) : Tag :=
  match ts with
  | [] => initTag false 4
  | t :: r =>
    let a := r.foldl (fun a b => combine a b false 4) (combine t t false 4)
    let b := if sat then tagAtLeast a 2 else a
    { b with h := b.h || h }

/-- Value of the readback (R153 step 1). -/
def readback (c : LoopCfg) (x : LSample) : Int := if x.rb.tag.q.toNat ≤ 1 then sW x.rb.val else c.initOut

/-- The output one step nearer SAFE_OUT (R154, R156). -/
def rampStep (c : LoopCfg) (u : Int) : Int :=
  if c.stopRate = 0 then c.safeOut else u + clampI (c.safeOut - u) (-c.stopRate) c.stopRate

/-- What the sample does: 0 AUTO, 1 MANUAL, 2 HOLD, 4 stop hold, 5 stop ramp, 6 stop continue (R150, R152, R154, R155). -/
def behaviour (c : LoopCfg) (stop ctl : Nat) (pvBad : Bool) : Nat :=
  if stop = 7 then (if c.stopAct = 1 then 5 else 4)
  else if stop = 4 || stop = 5 then stop
  else if stop = 6 then (if pvBad && c.pvBadAct = 0 then 2 else 6)
  else if pvBad && c.pvBadAct = 0 then 2
  else if pvBad && c.pvBadAct = 1 then 4 + c.stopAct
  else ctl

/-- The computation of one sample on the loop state `st` (R141–R155); `stopW` is the set-point frozen by CONTINUE. In a
sample that runs no law FF_OFF reads 0, which is the model's choice (R147; assumption log 79). -/
def loopCompute (c : LoopCfg) (st : LoopSt) (stopW : Int) (x : LSample) : SampleRes :=
  let y := sW x.pv.val
  let pvBad := x.pv.tag.q.toNat ≥ 4
  let ctl := if !c.ctlEn then 0
    else if x.stop ≠ 0 || x.ctl.tag.q.toNat ≥ 4 then st.ctl
    else if x.ctl.val = 0 then 0 else if x.ctl.val = 1 then 1 else 2
  let (st1, target, spTags, spBad, spLim, spRaw) := targetOf c { st with ctl := ctl } x
  let b := behaviour c x.stop ctl pvBad
  let law := b = 0 || b = 6
  let hold := pvBad && c.pvBadAct ≠ 2 && x.stop = 0
  let doInit := !(hold && b ≠ 6) && b ≠ 4 && b ≠ 5 && (x.init || (law && st.held = 1) || (st.held = 2 && !pvBad))
  let w := if b = 6 then (if x.stop = 6 then stopW else st.w)
    else if doInit then (if st.keepW then st.w else if c.spInit then y else target)
    else if b = 0 || b = 1 then rateStep c st.w target else st.w
  let rb := readback c x
  let uPrev := st.u.getD rb
  let (st2, hard) := if law || doInit then schedule c st1 doInit x.sched else (st1, false)
  let st3 := { st2 with w := w, u := some uPrev }
  let (f, ffTags, ffOff, ffRaw) := feedForward c x
  let k := coefsInUse c st3
  let rb? := if doInit then some rb else none
  let r : LawRes :=
    if law then (if c.law = 1 then pidLaw c k st3 y w f rb? (hard && !doInit)
                 else filterLaw c k st3 y w f rb? (hard && !doInit))
    else if b = 1 then
      let m := clampI (sW x.man.val) c.outMin c.outMax
      { st := { st3 with u := some m }, u := m, lim := m ≠ sW x.man.val, sats := [] }
    else if b = 5 then
      let m := rampStep c uPrev
      { st := { st3 with u := some m }, u := m, lim := false, sats := [] }
    else { st := st3, u := uPrev, lim := false, sats := [] }
  let hLeft := if doInit then c.hsamp else st.hLeft
  let sat := (r.sats ++ [spRaw] ++ (if law then ffRaw else [])).any (fun v => !in32 v)
  let tags := [x.pv.tag] ++ spTags ++ (if law then ffTags else []) ++ (if connected c.sched then [x.sched.tag] else [])
    ++ (if c.ctlEn && x.stop = 0 then [x.ctl.tag] else []) ++ (if b = 1 then [x.man.tag] else [])
  let held := if pvBad && c.pvBadAct ≠ 2 then 2 else if b = 1 || b = 2 then 1 else if b = 0 || b = 6 then 0 else st.held
  { st := { r.st with hLeft := hLeft - 1, held := held, keepW := b = 6 }
    state := if b = 0 then 1 else if b = 1 then 2 else if b = 2 then 3 else BitVec.ofNat 3 b
    out := { val := BitVec.ofInt 32 r.u, tag := loopTag tags sat (hLeft > 0) }
    lim := r.lim || spLim, sat := sat, pvBad := pvBad, spBad := spBad, ffOff := law && ffOff
    initDone := doInit, h := hLeft > 0 }

/-! ### Cost (R137) -/

/-- Number of scheduled coefficients of a region (R141, R142). -/
def LoopCfg.nCoef (c : LoopCfg) : Nat := if c.law = 1 then 11 else 5 * c.nsos + c.nss * c.nss + 2 * c.nss + 4

/-- Cost of one sample in fabric cycles (R137). -/
def loopCost (c : LoopCfg) : Nat :=
  36 + (if c.spMode = 2 then 8 else 4) + (if c.rateUp ≠ 0 || c.rateDn ≠ 0 then 4 else 0) + (if c.ctlEn then 2 else 0)
    + 2 * c.bounds.length + (if c.bounds.any (fun b => b.2.2 ≠ 0) then 2 * c.nCoef else 0)
    + (if c.law = 1 then 28 else 10 * c.nsos + (if c.nss = 0 then 0 else c.nss * c.nss + 2 * c.nss + 4) + 4)
    + (if connected c.ff then 3 else 0) + 12 * c.tables.length

end Sys2Proof.Machine
end

