-- ==== Sys2Proof/Machine/LoopOps.lean ====
section
/-! DEFINITION. Shared operations of the loop engines: taking a sample, the engine's queue, completing, missing and
writing a sample, stop behaviour and FAULT (R131–R136, R150–R158). -/

namespace Sys2Proof.Machine
open Sys2Proof

/-- Changes one loop. -/
def modLoop (s : State) (n : Fin 192) (f : Loop → Loop) : State := { s with lp := { s.lp with loops := vmod s.lp.loops n f } }
/-- Engine of a loop (R3). -/
def engOf (n : Fin 192) : Fin 24 := ⟨n.val / 8, by omega⟩
/-- Changes one loop engine's registers. -/
def modLEng (s : State) (e : Fin 24) (f : LoopEng → LoopEng) : State := { s with lp := { s.lp with eng := vmod s.lp.eng e f } }
/-- The loops of an engine. -/
def loopsOfEng (e : Fin 24) : List (Fin 192) := (allFin 192).filter (fun n => engOf n == e)
/-- Bit of a loop in its engine's masks. -/
def loopBit (n : Fin 192) : BitVec 8 := 1#8 <<< (n.val % 8)

/-- Changes every used loop. -/
def mapLoops (s : State) (f : Loop → Loop) : State :=
  { s with lp := { s.lp with loops := s.lp.loops.map (fun l => if l.used then f l else l) } }

/-! ### Start, stop and reset (R153–R155) -/

/-- RUN begins: every loop initialises at its first sample, and FAULT ends (R153, R155). -/
def loopsStart (s : State) : State :=
  mapLoops s (fun l => { l with
    started := true, initDue := true, state := 1, faultCause := 0, reload := false
    st := { l.st with keepW := l.state == 6#3 }
    samples := l.samples.map (fun x => { x with stale := true }) })

/-- A STOP takes effect: every started loop takes its stop behaviour and freezes its set-point; a loop in FAULT stays there (R154,
R155). -/
def loopsStop (s : State) : State :=
  mapLoops s (fun l => if l.started then { l with state := if l.state = 7 then 7 else l.c.stopState, stopW := l.st.w } else l)

/-- Power-on, a reset or a wake discards every loop's state (R148, R153). -/
def loopsReset (s : State) : State :=
  { s with lp := { s.lp with loops := s.lp.loops.map (fun l =>
      if l.used then { Loop.unused with used := true, c := l.c } else .unused) } }

/-! ### Taking a sample (R131, R136) -/

/-- Sample of an input point as the loops take it at a boundary; the standby takes the distributed one (R158). -/
def pointSample (s : State) (p : Nat) : TWord :=
  if isStandby s then (aget s.fld.dist p).getD undefData
  else if h : p < 96 then s.fld.pts[p].smp else undefData

/-- Readback of an output point, likewise. -/
def pointReadback (s : State) (p : Nat) : TWord :=
  if isStandby s then (aget s.fld.distRb p).getD undefData
  else if h : p < 96 then s.fld.pts[p].rb else undefData

/-- A variable as a loop takes it: an angle sample takes a loop-written one as it stood at the last boundary (R131). -/
def loopVar (s : State) (angle : Bool) (n : Nat) : TWord :=
  if angle then (aget s.lp.frozen n).getD (dataRead s n) else dataRead s n

/-- An input binding of a loop, from its point sample or variable. -/
def loopIn (s : State) (angle : Bool) (b : Word) : TWord :=
  match bindPoint b, bindVar b with
  | some p, _ => pointSample s p
  | none, some n => loopVar s angle n
  | none, none => undefData

/-- The output as the readback of R153 step 1 finds it. -/
def loopReadback (s : State) (angle : Bool) (b : Word) : TWord :=
  match bindPoint b, bindVar b with
  | some p, _ => pointReadback s p
  | none, some n => loopVar s angle n
  | none, none => undefData

/-- What a table sees of its angle source: at an angle sample the event's target stands for the source's angle (R146). -/
def tableAngle (s : State) (at? : Option (Fin 8 × Word)) (t : LTable) : Word × Int × Tag :=
  if h : t.src < 8 then
    let r := s.ang.src[t.src]
    let a := match at? with
      | some (a, w) => if a.val = t.src then w else r.angle
      | none => r.angle
    (a, r.velSign, r.tag)
  else (0, 0, undefData.tag)

/-- A pending RESTART acts at the loop's first sample once its boundary has come (R155, R158). -/
def applyRestart (inStop : Bool) (l : Loop) : Loop :=
  if l.restart && l.restartReady then
    { l with restart := false, restartReady := false, restartT := none, reload := false, initDue := true, faultCause := 0
             state := if l.state = 7 then (if inStop then l.c.stopState else 1) else l.state }
  else l

/-- The angle-synchronous sample of a point from what its own field side has read at the event instant: the level, the conversion, or
for COUNT the edges passed on since the last T0 boundary; its quality is the point's (R35, R217, R224). -/
def Pt.angSample (p : Pt) (w : Word) : TWord :=
  let v := if p.mode = 1 then (if w = 0 then 0 else 1) else if p.mode = 5 then p.count + BitVec.ofNat 32 p.late + w else w
  { val := v, tag := mkTag p.inQ false 0 false 0 }

/-- The angle-synchronous sample that a DI, AI or COUNT point with ANG_SYNC = 1 takes at an event of source `a`: of its own bank unless
the field side has failed, at a standby the distributed one (R217, R226). -/
def angSample (s : State) (a : Fin 8) (b : Word) (raw : List (Fin 96 × TWord)) : Option TWord :=
  match raw.find? (fun x => bindPoint b == some x.1.val) with
  | some (n, w) =>
    let p := s.fld.pts[n]
    if !([1, 3, 5].contains p.mode && bit p.cfg 14 && fld p.cfg 15 3 = a.val) then none
    else if isStandby s then some w
    else if s.fld.banks[bankOf n].fsOk then some (p.angSample w.val) else none
  | none => none

/-- A loop takes a sample at tier-reference instant `t0`; `at?` is the event's source and target for an angle sample, `raw`
the angle-synchronous samples of its points (R131, R136, R153, R156). Where a field PV has no angle-synchronous sample of the event's
source, the last T0 sample serves, which is the model's choice (assumption log 79). -/
def takeSample (s : State) (n : Fin 192) (t0 : Nat) (at? : Option (Fin 8 × Word)) (raw : List (Fin 96 × TWord)) : State :=
  let l := s.lp.loops[n]
  if !l.used || !l.started then s
  else if at?.isSome && (t0 < l.outAt || lostAt s s.stn.lastB) then modLoop s n (fun l => { l with skipCnt := satInc l.skipCnt })
  else
    let inStop := s.stn.mode == .stop
    let l := applyRestart inStop l
    let l := if l.stall then { l with stall := false, initDue := true } else l
    let ang := at?.isSome
    let late := if !ang && 1 ≤ l.c.src then lateOf s t0 else 0
    let pv := match at?.bind (fun x => angSample s x.1 l.c.pv raw) with
      | some w => w
      | none => loopIn s ang l.c.pv
    let x : LSample :=
      { phase := .taken, t0 := t0, late := late, stop := if l.state = 7 then 7 else if inStop then l.c.stopState.toNat else 0
        init := l.initDue, stale := false, pv := pv, sp := loopIn s ang l.c.sp, ext := loopIn s ang l.c.ext
        ff := loopIn s ang l.c.ff, sched := loopIn s ang l.c.sched, ctl := loopIn s ang l.c.ctl
        man := loopIn s ang l.c.man, rb := loopReadback s ang l.c.out, tabs := l.c.tables.map (tableAngle s at?)
        res := undefData }
    modLoop s n (fun _ => { l with noSample := 0, outAt := t0 + late + 100 * l.c.outDly, samples := l.samples ++ [x] })

/-- Every tier-sampled loop of a tier no slower than `slow` samples at the boundary (R131). -/
def sampleTier (s : State) (slow t0 : Nat) : State :=
  (allFin 192).foldl (fun s n =>
    let c := s.lp.loops[n].c
    if s.lp.loops[n].used && c.src ≤ 3 && c.src ≤ slow then takeSample s n t0 none [] else s) s

/-- Every loop of an angle source samples at an event (R131, R204). -/
def sampleAngle (s : State) (a : Fin 8) (t0 : Nat) (tgt : Word) (raw : List (Fin 96 × TWord)) : State :=
  (allFin 192).foldl (fun s n =>
    let c := s.lp.loops[n].c
    if s.lp.loops[n].used && c.src = 4 && c.ang = a.val then takeSample s n t0 (some (a, tgt)) raw else s) s

/-! ### The engine's queue (R134, R135) -/

/-- Completion deadline of a sample (R133, R267). -/
def deadline (l : Loop) (x : LSample) : Nat := x.t0 + x.late + 100 * l.c.outDly - 600

/-- Release instant of a sample (R133, R267). -/
def releaseAt (l : Loop) (x : LSample) : Nat := x.t0 + x.late + l.c.relNs

/-- Output instant of a sample (R133, R267). -/
def outputAt (l : Loop) (x : LSample) : Nat := x.t0 + x.late + 100 * l.c.outDly

/-- The loop's oldest sample that meets `p`. -/
def firstSample (l : Loop) (p : LSample → Bool) : Option LSample := l.samples.find? p

/-- Changes the oldest sample that meets `p`. -/
def modSample (l : Loop) (p : LSample → Bool) (f : LSample → LSample) : Loop :=
  match l.samples.findIdx? p with
  | some i => { l with samples := l.samples.modify i f }
  | none => l

/-- An idle engine takes the released sample with the earliest deadline, then the lower loop number, then the earlier
sample (R134). -/
def startNext (s : State) (e : Fin 24) : State :=
  let ls := loopsOfEng e
  if ls.any (fun n => s.lp.loops[n].samples.any (fun x => x.phase == .running)) then s
  else
    let cand := ls.filterMap (fun n =>
      (firstSample s.lp.loops[n] (fun x => x.phase == .released)).map (fun x => (deadline s.lp.loops[n] x, n)))
    match (cand.mergeSort (fun a b => a.1 < b.1 || (a.1 == b.1 && a.2.val ≤ b.2.val))).head? with
    | none => s
    | some (_, n) => modLoop s n (fun l => modSample l (fun x => x.phase == .released) (fun x => { x with phase := .running }))

/-- The loop enters FAULT (R155); samples in the engine go on under its stop behaviour. -/
def loopFault (s : State) (n : Fin 192) (cause : BitVec 2) : State :=
  let s1 := modLoop s n (fun l => { l with
    state := 7, faultCause := cause, initDue := true
    samples := l.samples.map (fun x => if x.phase == .done then x else { x with stop := 7, stale := true }) })
  raise s1 (257 + 2 * (engOf n).val)

/-- A sample completes and its shadow state replaces the loop state (R134, R135, R151). -/
def completeSample (s : State) (n : Fin 192) (slack : Nat) : State :=
  let l := s.lp.loops[n]
  match firstSample l (fun x => x.phase == .running) with
  | none => s
  | some x =>
    let r := loopCompute l.c l.st l.stopW x
    let keep := x.stop ≠ 0 || l.state == 7#3 || s.stn.mode == .stop
    let l1 := modSample l (fun x => x.phase == .running) (fun x => { x with phase := .done, res := r.out })
    let l2 := { l1 with
      st := r.st, state := if keep then l.state else r.state
      initDue := if r.initDone && !x.stale then false else l.initDue
      sat := l.sat || r.sat, lim := r.lim, pvBad := r.pvBad, spBad := r.spBad, ffOff := r.ffOff, initFlag := r.h
      pvReg := x.pv.val, consec := 0, sampleCnt := l.sampleCnt + 1 }
    let s1 := modLoop s n (fun _ => l2)
    let s2 := modLEng s1 (engOf n) (fun g => { g with
      minSlack := if slack < g.minSlack.toNat then BitVec.ofNat 20 slack else g.minSlack
      sat := if r.sat then g.sat ||| loopBit n else g.sat })
    startNext s2 (engOf n)

/-- A sample is abandoned at its completion deadline (R135). -/
def missSample (s : State) (n : Fin 192) : State :=
  let l := s.lp.loops[n]
  let e := engOf n
  let first := s.lp.eng[e].miss &&& loopBit n = 0
  let c := satInc l.consec
  let s1 := modLoop s n (fun l => { l with
    samples := l.samples.eraseP (fun x => x.phase != .done), miss := true, missCnt := satInc l.missCnt, consec := c })
  let s2 := modLEng s1 e (fun g => { g with miss := g.miss ||| loopBit n })
  let s3 := if first then raise s2 (256 + 2 * e.val) else s2
  let s4 := if l.c.missLim ≠ 0 && c.toNat ≥ l.c.missLim && l.state ≠ 7 then loopFault s3 n 1 else s3
  startNext s4 e

/-- Writes a loop's output to its point, or to its variable with AGE = 0 (R133, R157). -/
def writeOut (s : State) (n : Fin 192) (w : TWord) : State :=
  let l := s.lp.loops[n]
  let s1 := modLoop s n (fun l => { l with out := w.val, outTag := w.tag })
  match bindPoint l.c.out with
  | some p => if h : p < 96 then latchPoint s1 ⟨p, h⟩ w else s1
  | none => writeBind s1 l.c.out { w with tag := { w.tag with age := 0 } }

/-- The output instant of a completed sample (R133). -/
def outputSample (s : State) (n : Fin 192) : State :=
  match s.lp.loops[n].samples with
  | x :: r => if x.phase == .done then writeOut (modLoop s n (fun l => { l with samples := r })) n x.res else s
  | [] => s

/-- At a T2 boundary a RESTART after a fault of cause 2 becomes effective, for the samples of that boundary on (R158). -/
def restartsT2 (s : State) (t0 : Nat) : State :=
  { s with lp := { s.lp with loops := s.lp.loops.map (fun l =>
      match l.restartT with
      | some t => if l.used && t0 ≥ t + 10000000 then { l with restartReady := true } else l
      | none => l) } }

/-- What the loops do at a T2 boundary: stalled ones step toward SAFE_OUT, the others count (R156). One that stalls before it has had
any output steps from 0, which is the model's choice (assumption log 79). -/
def loopsT2 (s : State) : State :=
  (allFin 192).foldl (fun s n =>
    let l := s.lp.loops[n]
    if !l.used then s else
    if l.c.src ≠ 4 || !l.started then s
    else if l.stall then
      if l.c.stopAct = 1 then
        let u := rampStep l.c (l.st.u.getD 0)
        writeOut (modLoop s n (fun l => { l with st := { l.st with u := some u } })) n
          { val := BitVec.ofInt 32 u, tag := { l.outTag with age := 0 } }
      else s
    else modLoop s n (fun l => { l with noSample := l.noSample + 1 })) s

/-- A T1 boundary at tier-reference instant `t0` carries a RESTART, to a standby too (R158). -/
def carryRestart (s : State) (n : Fin 192) (t0 : Nat) : State :=
  modLoop s n (fun l =>
    if l.faultCause = 2 then { l with restart := true, restartT := some t0, reload := true }
    else { l with restart := true, restartReady := true })

/-- Loop-written variables as they stand at a boundary (R131). -/
def freezeLoopVars (s : State) : State :=
  let l := (allFin 192).filterMap (fun n => if s.lp.loops[n].used then bindVar s.lp.loops[n].c.out else none)
  { s with lp := { s.lp with frozen := l.foldl (fun a n => aset a n (dataRead s n)) [] } }

end Sys2Proof.Machine
end

