-- ==== Sys2Proof/Machine/Retain.lean ====
section
/-! DEFINITION. RETAIN variables: the directory, the save and the restore (R81, R82, R107). -/

namespace Sys2Proof.Machine
open Sys2Proof

/-- What is retained, in ascending ID: (ID, type code, own value and tag); a RETAIN counter stands with its instance ID
and type DINT (R81, R107, R124; assumption log 9). -/
def retainList (s : State) : List (Word × Byte × TWord) :=
  let vs := (s.vars.filter (fun v => v.retain)).map (fun v => (v.id, v.ty, varOwn v))
  let cs := s.le.toList.flatMap (fun g =>
    (g.insts.filter (fun i => i.kind == 4 && i.retain)).map (fun i => (i.id, (2#8 : Byte), ({ val := i.cv, tag := i.tag } : TWord))))
  (vs ++ cs).mergeSort (fun a b => a.1.toNat ≤ b.1.toNat)

/-- ID and type of every retained item. -/
def retainDirOf (s : State) : List (Word × Byte) := (retainList s).map (fun x => (x.1, x.2.1))

/-- A half counts as valid when its CRC is right and the directory copy it names is valid and carries the generation it
records (R82). -/
def halfValid (n : Stn) (h : RetHalf) : Bool :=
  let d := if h.dir then n.dirs[1] else n.dirs[0]
  h.valid && d.valid && d.gen == h.gen

/-- The half with the newest valid save, none when neither is valid (R82). -/
def newestHalf (n : Stn) : Option (Fin 2) :=
  match halfValid n n.halves[0], halfValid n n.halves[1] with
  | true, true => if n.halves[1].seq.toNat > n.halves[0].seq.toNat then some 1 else some 0
  | true, false => some 0
  | false, true => some 1
  | false, false => none

/-- When an image takes effect whose RETAIN list differs from the directory that the newest valid half names, the new list
goes into the other directory copy, one generation higher (R81). -/
def retainDirectory (s : State) (imageId : Nat) : State :=
  let l := retainDirOf s
  let cur : Bool := match newestHalf s.stn with
    | some h => s.stn.halves[h].dir
    | none => s.stn.retDir
  let d := if cur then s.stn.dirs[1] else s.stn.dirs[0]
  let s1 : State :=
    if d.valid && d.ents == l then { s with stn := { s.stn with retDir := cur } }
    else
      let nd : RetDir := { valid := true, imageId := imageId, gen := d.gen + 1, ents := l }
      { s with stn := { s.stn with retDir := !cur, dirs := s.stn.dirs.set (if cur then 0 else 1) nd (by split <;> decide) } }
  -- VARS counts the RETAIN variables; a RETAIN counter is saved like one and is none (R81, R107)
  { s1 with stn := { s1.stn with retainVars := satNat 17 (s.vars.filter (fun v => v.retain)).length } }

/-- A save of all RETAIN variables into the half that does not hold the newest save (R81). -/
def retainSave (s : State) : State :=
  if s.img.running.isNone then s else
  let half : Fin 2 := match newestHalf s.stn with
    | some h => if h = 0 then 1 else 0
    | none => 0
  let d := if s.stn.retDir then s.stn.dirs[1] else s.stn.dirs[0]
  let h : RetHalf := { valid := true, seq := s.stn.retainSeq + 1, dir := s.stn.retDir, gen := d.gen,
                       ents := (retainList s).map (fun x => x.2.2) }
  let n := { s.stn with halves := s.stn.halves.set half h, retHalf := half == 1, retainSeq := h.seq }
  { s with stn := n }

/-- The retained value of an item by ID and type in the newest valid half (R82). -/
def retained (n : Stn) (id : Word) (ty : Byte) : Option TWord :=
  match newestHalf n with
  | none => none
  | some h =>
    let d := if n.halves[h].dir then n.dirs[1] else n.dirs[0]
    ((d.ents.zip n.halves[h].ents).find? (fun x => x.1.1 == id && x.1.2 == ty)).map (fun x => x.2)

/-- Tag of a restored variable (R39, R82). -/
def restoredTag (origin : BitVec 5) : Tag := mkTag 1 true 15 false origin

/-- A variable at its image initial value (R39). -/
def varInit (v : Var) : Var :=
  let w : TWord := { val := v.init, tag := initTag v.placed (BitVec.ofNat 5 v.wblk) }
  if v.forced then { v with unf := w, wrote := false } else { v with cur := w, unf := w, wrote := false }

/-- A RETAIN variable at its restored value, or at its initial value when nothing matches (R82). -/
def varRestore (n : Stn) (v : Var) : Var :=
  match (if v.retain then retained n v.id v.ty else none) with
  | some w =>
    let r : TWord := { val := w.val, tag := { restoredTag (BitVec.ofNat 5 v.wblk) with c := v.placed } }
    if v.forced then { v with unf := r, wrote := false } else { v with cur := r, unf := r, wrote := false }
  | none => varInit v

end Sys2Proof.Machine
end

