-- ==== Sys2Proof/Machine/StopOps.lean ====
section
/-! DEFINITION. What a STOP does to CAN requests and telegrams (R66, R70, R309, R317), with the accessors of both blocks. -/

namespace Sys2Proof.Machine
open Sys2Proof

/-- Changes controller `k`. -/
def modCan (s : State) (k : Fin 8) (f : CanCtl → CanCtl) : State := { s with can := { s.can with ctl := vmod s.can.ctl k f } }

/-- Object `i`. -/
def CanCtl.obj? (c : CanCtl) (i : Nat) : Option CanObj := c.objs.find? (fun o => o.idx == i)
/-- The DATA indices that an object maps. -/
def CanObj.vars (o : CanObj) : List Nat := o.sigs.filterMap (fun g => bindVar g.var)

/-- A logic tier writes a variable of the object (R309). -/
def canLogic (s : State) (o : CanObj) : Bool := o.vars.any (fun n => match var? s n with | some v => v.wblk == 3 | none => false)

/-- STOP of either kind: logic-written objects lose their pending requests (R309). -/
def canStop (s : State) : State :=
  (allFin 8).foldl (fun s k => modCan s k (fun c =>
    { c with reqs := c.reqs.filter (fun r => !(match c.obj? r.obj with | some o => canLogic s o | none => false)) })) s

/-- Changes NET. -/
def modNet (s : State) (f : NetBlk → NetBlk) : State := { s with net := f s.net }
/-- Changes transmit telegram `t`. -/
def modTx (s : State) (t : Fin 64) (f : TxTel → TxTel) : State := modNet s (fun n => { n with tx := vmod n.tx t (Option.map f) })
/-- A logic tier writes one of the bound words (R317). -/
def telLogic (s : State) (t : TxTel) : Bool :=
  t.binds.any (fun b => match (bindVar b).bind (var? s) with | some v => v.wblk == 3 | none => false)

/-- A STOP: telegrams of logic values are not sent (R317). -/
def telStop (s : State) : State :=
  (allFin 64).foldl (fun s t => match s.net.tx[t] with
    | some x => if telLogic s x then modTx s t (fun y => { y with due := none }) else s
    | none => s) s

end Sys2Proof.Machine
end

