-- ==== Sys2Proof/Machine/Modes.lean ====
section
/-! DEFINITION. The modes of the station: RUN, STOP, fault STOP and HOLD, the starts, and the snapshot of a task
(R58, R64–R83, R89, R103). -/

namespace Sys2Proof.Machine
open Sys2Proof

/-- Number of STN.MODE.MODE. -/
def Mode.code : Mode → Nat
  | .stop => 0
  | .run => 1
  | .hold => 2

/-- Sets the mode and raises the mode event when it changes (R407). -/
def setMode (s : State) (m : Mode) : State :=
  if s.stn.mode = m then s
  else raise { s with stn := { s.stn with mode := m, permitCount := if m = .hold then s.stn.permitCount else false } } 503

/-- The engines LE_0…LE_15. -/
def logicEngines : List (Fin 17) := (allFin 17).filter (fun e => e.val < 16)

/-- Changes every logic engine but not the SLE. -/
def mapLogic (s : State) (f : Engine → Engine) : State :=
  { s with le := logicEngines.foldl (fun v e => vmod v e f) s.le }

/-- Period of a tier in ns (R20). -/
def tierNs : Nat → Nat
  | 0 => 20000
  | 1 => 100000
  | 2 => 1000000
  | 3 => 10000000
  | _ => 100000000

/-- Period of a tier in µs (R104). -/
def tierUs (k : Nat) : Nat := tierNs k / 1000

/-- TIER_CNT of tier `k`. -/
def tierCnt (s : State) (k : Nat) : Word := vget s.stn.cnt k 0

/-- The last boundary of tier `k`. -/
def lastOf (s : State) (k : Nat) : Nat := s.stn.lastB / tierNs k * tierNs k

/-- Some engine is frozen and not released (R69, R77). -/
def anyFrozen (s : State) : Bool := logicEngines.any (fun e => s.le[e].frozen && !s.le[e].released)

/-- HOLD holds while an engine is frozen or has a breakpoint enabled (R75). -/
def refreshHold (s : State) : State :=
  if inRunHold s then
    setMode s (if logicEngines.any (fun e => (s.le[e].frozen && !s.le[e].released) || s.le[e].bkptEn) then .hold else .run)
  else s

/-- STATUS.FIRST_SCAN: a running engine has the first scan of its cyclic task still to end, or one of an event task in its run; without
a cyclic task the flag stands until the first event task ends (R80). -/
def Engine.firstScan (g : Engine) : Bool :=
  g.running &&
    ((g.entry.isSome && (g.firstCyc || (g.cyc.first && g.cyc.phase != .idle && g.cyc.phase != .done)))
      || g.evt.toList.any (fun t => t.first && t.phase == .run)
      || (g.entry.isNone && (allFin 4).all (fun i => g.evtEntry[i].isNone || g.firstEvt[i])))

/-- STATUS.FIRST_SCAN brought up to date. -/
def Engine.flagged (g : Engine) : Engine := { g with firstFlag := g.firstScan }

/-- A stopped engine: tasks stopped, buffers discarded, frozen state and breakpoint gone (R64, R70). -/
def Engine.stopped (g : Engine) : Engine :=
  { g with running := false, cyc := { g.cyc with phase := .idle, out := [] },
           evt := g.evt.map (fun t => { t with phase := .idle, out := [] }), pending := Vector.replicate 4 false,
           evtBegun := false, window := false, frozen := false, frozenBy := 0, released := false, freezeReq := false, stepOne := false,
           pcHold := 0, bkptEn := false, firstFlag := false }

/-- Everything a STOP of either kind does at once (R66, R70, R81). -/
def stopAll (s : State) (cause : Nat) (isFault : Bool) : State :=
  let s1 := mapLogic s Engine.stopped
  let s2 := { s1 with stn := { s1.stn with faultStop := isFault, stopCause := BitVec.ofNat 4 cause } }
  retainSave (telStop (canStop (loopsStop (disarmFieldEvents (setMode s2 .stop)))))

/-- Fault STOP with its MAJOR entry (R66): `eng` names the engine, `evt` an event task, `kind` the fault kind, `instr` the
instruction index and `cnt` the count of the engine's tier. -/
def faultStop (s : State) (cause eng : Nat) (evt : Bool) (kind instr : Nat) (cnt : Word) : State :=
  let n := { s.stn with ovrEngine := if eng < 16 then BitVec.ofNat 4 eng else s.stn.ovrEngine,
                        ovrEvent := if eng < 16 then evt else s.stn.ovrEvent }
  let s1 := logEntry { s with stn := n } 0x5004 eng sevMajor
    ([BitVec.ofNat 8 cause, BitVec.ofNat 8 (b2n evt), BitVec.ofNat 8 kind, 0] ++ leN 2 instr ++ leN 2 0 ++ wB cnt)
  stopAll s1 cause true

/-- Count of the tier of an engine's cyclic task; T1 when it has none (R103). At a start of RUN or a restart STAMP of every instance of
the engine takes this count, of one that an event task owns too, which is the model's choice (assumption log 77). -/
def engineCnt (s : State) (g : Engine) : Word := tierCnt s (if g.tier = 0 then 1 else g.tier.toNat)

/-- An uncorrectable ECC error, undefined opcode or branch-stack overflow of engine `e` (R65). -/
def engineFault (s : State) (e : Fin 17) (kind instr : Nat) (evt : Bool) : State :=
  let s1 := raise { s with le := vmod s.le e (fun g => { g with fault := true }) } (304 + 4 * e.val + 1)
  faultStop s1 4 e.val evt kind instr (engineCnt s s.le[e])

/-- Commanded STOP (R70, R207). -/
def commandedStop (s : State) (cause : Nat) : State := safeAnglePoints (safeLogicPoints (stopAll s cause false))

/-- The frozen input image of an engine: every variable its import and export tables name, as it reads now (R58). -/
def snapshotOf (s : State) (g : Engine) : List (Nat × TWord) :=
  (g.imports ++ g.exports).foldl (fun l b => match bindVar b with
    | some n => aset l n (dataRead s n)
    | none => l) []

/-- A variable whose value is of safety origin: of SAF, of the SLE, or of a telegram, whose S the reception decides (R239, R322). -/
def safeOrigin (s : State) (n : Nat) : Bool := (var? s n).any (fun v => v.wblk == 7 || v.wblk == 2)

/-- The frozen input image of the SLE, in which every other variable carries S = 0 (R239). -/
def sleSnapshot (s : State) : List (Nat × TWord) :=
  (snapshotOf s s.le[(16 : Fin 17)]).map (fun x => if safeOrigin s x.1 then x else (x.1, { x.2 with tag := { x.2.tag with s := false } }))

/-- S:3, the STN.MODE fields MODE, LAST_START and COMMISSIONING (R90). -/
def sysMode (s : State) : Word :=
  pack [(0, 2, s.stn.mode.code), (24, 2, s.stn.lastStart.toNat), (27, 1, b2n s.stn.commissioning)]

/-- A task run with its snapshot frozen at this boundary, in the start state of R85. -/
def freezeRun (s : State) (g : Engine) (entry : Nat) (nNow : Word) (first : Bool) (ph : Phase) : TaskRun :=
  { TaskRun.fresh with phase := ph, pc := entry, nNow := nNow, first := first, sMode := sysMode s, sCnt := s.stn.cnt,
                       sProf := s.img.actProf, snap := snapshotOf s g }

/-- Freezes the snapshot of the cyclic task of engine `e` and opens its cycle (R58 step 1). -/
def freezeCyclic (s : State) (e : Fin 17) : State :=
  let g := s.le[e]
  match g.entry with
  | none => s
  | some pc =>
    let r := freezeRun s g pc (tierCnt s g.tier.toNat) g.firstCyc .ready
    let run := if e.val = 16 then { r with snap := sleSnapshot s } else r
    { s with le := vmod s.le e (fun g =>
        { g with cyc := run, window := true, firstCyc := false : Engine }.flagged) }

/-- Every instance at the start of RUN or at an engine restart: STAMP takes the boundary's count and the first-evaluation
flags are set (R103). -/
def startInst (cnt : Word) (i : Inst) : Inst := { i with stamp := cnt, first := true, firstU := true, firstD := true }

/-- The instances of an engine in their initialised state (R110). -/
def initInst (i : Inst) : Inst :=
  { Inst.initial i.kind i.num i.id i.retain with tag := { i.tag with q := 7, c := false, f := false, h := true, age := 15, s := false } }

/-- DATA indices of the RETAIN words among M and W (R89). -/
def Engine.keepWords (vars : List Var) (g : Engine) (sp : Nat) (l : List (Nat × TWord)) : List (Nat × TWord) :=
  l.filter (fun p => g.mwmap.any (fun m => m.1 == sp && m.2.1 == p.1
    && vars.any (fun v => v.idx == m.2.2 && v.retain)))

/-- M and W words and instances as a cold start, or an engine restart that keeps RETAIN words, sets them (R83, R89, R110). -/
def Engine.coldInit (vars : List Var) (keepRetain : Bool) (g : Engine) : Engine :=
  { g with m := if keepRetain then g.keepWords vars 2 g.m else [],
           w := if keepRetain then g.keepWords vars 3 g.w else [],
           insts := g.insts.map (fun i => let j := initInst i
             if keepRetain && i.kind == 4 && i.retain then { j with cv := i.cv } else j) }

/-- RETAIN words and counts at a warm start (R82, R89, R107). -/
def Engine.warmInit (n : Stn) (vars : List Var) (g : Engine) : Engine :=
  let g1 := g.coldInit vars false
  let put := fun (g : Engine) (m : Nat × Nat × Nat) =>
    match vars.find? (fun v => v.idx == m.2.2 && v.retain) with
    | some v => match retained n v.id v.ty with
      | some w =>
        let r : TWord := { val := w.val, tag := restoredTag 3 }
        if m.1 = 2 then { g with m := aset g.m m.2.1 r } else { g with w := aset g.w m.2.1 r }
      | none => g
    | none => g
  let g2 := g.mwmap.foldl put g1
  { g2 with insts := g2.insts.map (fun i =>
      if i.kind == 4 && i.retain then
        match retained n i.id 2 with
        | some w => { i with cv := w.val }
        | none => i
      else i) }

/-- Whether a variable is written by SAF or the SLE, which no start of RUN touches (R69, R238). -/
def isSafVar (v : Var) : Bool := v.wblk == 7

/-- Restore failure of a warm start (R82): bit d of byte 1 shows a valid directory copy. -/
def restoreFailed (s : State) : State :=
  let h0 := b2n (halfValid s.stn s.stn.halves[0]) + 2 * b2n (halfValid s.stn s.stn.halves[1])
  let d0 := b2n s.stn.dirs[0].valid + 2 * b2n s.stn.dirs[1].valid
  let s1 := { s with stn := { s.stn with restoreFail := true } }
  raise (logEntry s1 0x5006 noSrc sevMajor [BitVec.ofNat 8 h0, BitVec.ofNat 8 d0]) 507

/-- RUN begins with start kind 1 cold, 2 warm or 3 hot (R69, R71, R80–R82, R89, R103); snapshots are frozen by the
boundary's own step. -/
def runStart (s : State) (kind : Nat) : State :=
  let bad := kind = 2 && (newestHalf s.stn).isNone
  let s0 := if bad then restoreFailed s else s
  let kind := if bad then 1 else kind
  let s1 : State :=
    if kind = 1 then
      let t := mapLogic s0 (Engine.coldInit s0.vars false)
      { t with vars := t.vars.map (fun v => if isSafVar v then v else varInit v) }
    else if kind = 2 then
      let t := mapLogic s0 (Engine.warmInit s0.stn s0.vars)
      { t with vars := t.vars.map (fun v => if isSafVar v then v else varRestore t.stn v) }
    else s0
  let s2 := mapLogic s1 (fun g => { g with
    running := g.used, scanCnt := 0, firstCyc := true, firstEvt := Vector.replicate 4 true,
    insts := g.insts.map (startInst (engineCnt s1 g)) : Engine }.flagged)
  let n := { s2.stn with faultStop := false, stopCause := 0, lastStart := BitVec.ofNat 2 kind }
  setMode (firstRunEvents (loopsStart { s2 with stn := n })) .run

/-- A task run without a run in progress. -/
def TaskRun.ended (t : TaskRun) : TaskRun := { t with phase := .idle, out := [] }

/-- Initialisation of one engine by an engine restart (R83). -/
def Engine.restarted (vars : List Var) (cnt : Word) (g : Engine) : Engine :=
  let h := g.coldInit vars true
  { h with
           insts := h.insts.map (startInst cnt), restart := false, cyc := h.cyc.ended, evt := h.evt.map TaskRun.ended,
           frozen := false, frozenBy := 0, released := false, freezeReq := false, stepOne := false, pcHold := 0,
           window := false, firstCyc := true, firstEvt := Vector.replicate 4 true : Engine }.flagged

/-- An engine restart takes effect (R83). -/
def restartEngine (s : State) (e : Fin 17) : State :=
  let s1 := { s with le := vmod s.le e (Engine.restarted s.vars (engineCnt s s.le[e])) }
  refreshHold { s1 with vars := s1.vars.map (fun v =>
    if v.wblk == 3 && v.winst == e.val && !v.retain then varInit v else v) }

/-- Freezes engine `e` before instruction `pc` of its scan (R76): 1 breakpoint, 2 FREEZE or STEP. -/
def freezeEngine (s : State) (e : Fin 17) (by_ : Nat) : State :=
  let t0 := if anyFrozen s then s.stn.holdT0 else s.stn.time
  let s1 := { s with le := vmod s.le e (fun g =>
    { g with frozen := true, frozenBy := BitVec.ofNat 2 by_, released := false, freezeReq := false, stepOne := false,
             cyc := { g.cyc with phase := if by_ = 1 then .held else .idle },
             pcHold := if by_ = 1 then BitVec.ofNat 16 g.cyc.pc else 0 }), stn := { s.stn with holdT0 := t0 } }
  raise (refreshHold s1) (304 + 4 * e.val + 2)

end Sys2Proof.Machine
end

