-- ==== Sys2Proof/Machine/Access.lean ====
section
/-! DEFINITION. Keyed windows, the refusal of a write outside one, and DATA writes (R4, R9, R10, R42, R43). -/

namespace Sys2Proof.Machine
open Sys2Proof

/-- Address of the KEY register of the block that an address lies in, none outside every block with one (R4). -/
def blockKey (a : Nat) : Option Nat :=
  if a < 0x10000 then some 0x308
  else if a < 0x20000 then some 0x1001C
  else if a < 0x30000 then some 0x20008
  else if a < 0x40000 then some 0x3000C
  else if a < 0x50000 then some 0x4001C
  else if a < 0x60000 then some 0x50010
  else if a < 0x70000 then some 0x60028
  else if a < 0x80000 then none
  else if a < 0x90000 then some (0x80000 + (a - 0x80000) / 0x2000 * 0x2000 + 0x1C)
  else if a < 0xA0000 then none
  else if a < 0xB0000 then some 0xA001C
  else if a < 0xC0000 then some 0xB0004
  else if a < 0xCC000 then some (0xC0000 + (a - 0xC0000) / 0x800 * 0x800 + 0x10)
  else if a < 0xD0000 then none
  else if a < 0xE0000 then some (0xD0000 + (a - 0xD0000) / 0x2000 * 0x2000 + 0x14)
  else if a < 0xE8000 then some (0xE0000 + (a - 0xE0000) / 0x1000 * 0x1000 + 0x1C)
  else if a < 0xF0000 then none
  else if a < 0x100000 then some 0xF002C
  else if a < 0x200000 then some (0x100000 + (a - 0x100000) / 0x10000 * 0x10000 + 0x2C)
  else none

/-- Session `sess` has an open keyed window on the block of an address (R9). -/
def windowOpen (s : State) (sess : Nat) (a : Nat) : Bool :=
  match blockKey a with
  | some k => s.windows.contains (sess, k)
  | none => false

/-- A write refused by R10: the entry with the address, and the keyed-window event (R407). -/
def keyRefused (s : State) (sess : Nat) (a : Nat) : State :=
  raise (logEntry s 0x5000 sess sevNotice (leN 4 a)) 509

/-- A write of session `sess` to a register at `a` that holds RWK fields: `f` inside the session's own open window, and
otherwise refused as a whole (R10). -/
def keyed (s : State) (sess : Nat) (a : Nat) (f : State → State) : State :=
  if windowOpen s sess a then f s else keyRefused s sess a

/-- The session is open. -/
def sessOpen (s : State) (sess : Fin 4) : Bool := s.net.sess[sess].isSome

/-- A command that an open session writes to a register with RWK fields. -/
def keyedCmd (s : State) (sess : Fin 4) (a : Nat) (f : State → State) : Host.Outcome State Fault Refusal :=
  guarded s (alive s && sessOpen s sess) (fun s => keyed s sess.val a f)

/-- A command that an open session writes to a register without RWK fields. -/
def openCmd (s : State) (sess : Fin 4) (f : State → State) : Host.Outcome State Fault Refusal :=
  guarded s (alive s && sessOpen s sess) f

/-- A write of session `sess` to the KEY register at `a` (R9). -/
def keyWrite (s : State) (sess : Nat) (a : Nat) (v : Word) : State :=
  let k := (sess, a)
  let key := fld v 0 16
  if key = 0x4B52 then { s with armed := if s.armed.contains k then s.armed else k :: s.armed }
  else if key = 0xB4AD && s.armed.contains k then
    { s with armed := s.armed.filter (· ≠ k), windows := if s.windows.contains k then s.windows else k :: s.windows }
  else { s with armed := s.armed.filter (· ≠ k), windows := s.windows.filter (· ≠ k) }

/-- Adds an accepted command to those that travel in the input set of the next T1 boundary. -/
def accept (s : State) (c : DistCmd) : State := { s with stn := { s.stn with accepted := s.stn.accepted ++ [c] } }

/-- A write of DATA index `n` refused with a reason of R43. -/
def dataRefused (s : State) (sess n reason : Nat) : State :=
  let m := { s.stn with dwVar := BitVec.ofNat 20 n, dwReason := BitVec.ofNat 4 reason }
  raise (logEntry { s with stn := m } 0x5002 sess sevNotice (leN 4 n ++ [BitVec.ofNat 8 reason])) 508

/-- Index of the last variable of the image. -/
def lastVar (s : State) : Option Nat := s.vars.getLast?.map (fun v => v.idx)

/-- The reason of R43 for which a write of DATA index `n`, its tag word or its value word, is refused; 0 when it is accepted
(R42, R43, R73, R394). -/
def dataReason (s : State) (n : Nat) (isTag : Bool) : Nat :=
  if isTag then 4
  else if isStandby s then 5
  else if s.img.running.isNone || !(inRunHold s || inCmdStop s) || s.pwr.quiet.getLsbD 13 then 3
  else match lastVar s with
    | none => 2
    | some m =>
      if n > m then 2
      else match var? s n with
        | some x => if x.opw then 0 else 1
        | none => 1

/-- A write to the value word, or to the tag word, of DATA index `n` (R42, R43). -/
def dataWrite (s : State) (sess n : Nat) (isTag : Bool) (v : Word) : State :=
  let r := dataReason s n isTag
  if r = 0 then accept s (.write n v) else dataRefused s sess n r

end Sys2Proof.Machine
end

