-- ==== Sys2Proof/Machine/FabOps.lean ====
section
/-! DEFINITION. Issue and arbitration of placed packets, buffers, routes over the Transom links, the headers of what leaves on a link, and
what a missed timed transfer leaves (R45, R46, R49, R51, R53–R55, R277, R278, R287). -/

namespace Sys2Proof.Machine
open Sys2Proof

/-! ### Stations and routes (R277, R278) -/

/-- The station number of this station's own tree in a pair (R278); a single station belongs to tree A. -/
def treeStn (s : State) (pair : Nat) : Nat := 2 * pair + b2n (s.stn.pairIdPin && !s.stk.single)

/-- The station's number in the stack, 127 outside one (R45, R278). -/
def ownStation (s : State) : Nat := if s.stk.member then treeStn s s.stk.pairNum.toNat else 127

/-- The partner's number in the stack, 127 outside one (R278). -/
def partnerStation (s : State) : Nat := if s.stk.member then 4 * s.stk.pairNum.toNat + 1 - ownStation s else 127

/-- Parent of a pair (R277). -/
def pairUp1 (p : Nat) : Nat := (p - 1) / 2

/-- Pair `p` is `root` or lies below it; the first argument bounds the climb (R277). -/
def underPair : Nat → Nat → Nat → Bool
  | 0, root, p => p == root
  | n + 1, root, p => p == root || (root < p && underPair n root (pairUp1 p))

/-- Pairs on the far side of a port of pair `own`: 0 UP, 1 DOWN_A to pair 2p + 1, 2 DOWN_B to pair 2p + 2 (R277). -/
def farSide (own : Nat) (q : Fin 3) (p : Nat) : Bool :=
  if q = 0 then !underPair 6 own p else underPair 6 (2 * own + q.val) p

/-- The port by which a pair is reached in the tree (R277). -/
def routePort (own dst : Nat) : Fin 3 := if farSide own 1 dst then 1 else if farSide own 2 dst then 2 else 0

/-- The link on which a placed packet for another pair leaves: the port of the sender's own tree, and the Sash link to the partner and the
mirror tree when that port is down (R287). -/
def plEgress (s : State) (q : Fin 3) : PlTarget := if s.stk.up[q] then .transom q else .sash

/-! ### Issue (R45, R54, R55) -/

/-- AGE of a packet in units of 8 ns, saturating (R45, R54). -/
def plAge (now : Nat) (p : PlPkt) : Nat := min (p.age0 + (now - p.issued) / 8) 0x7FFFFF

/-- Packets that a requester port has issued toward a target and that are not complete (R55). -/
def plOutstanding (s : State) (port : Fin 8) (t : PlTarget) : Nat :=
  ((s.fab.wait ++ s.fab.out).filter (fun p => p.port == port && p.tgt == t)).length

/-- Block code of a requester port (R12, R45). -/
def plSrcBlk (port : Fin 4) : Nat := match port.val with
  | 0 => 10
  | 1 => 11
  | 2 => 5
  | _ => 2

/-- Block code of a target; the on-die pool counts with the DRAM pool (R12, R45; assumption log 73). -/
def PlTarget.blk : PlTarget → Nat
  | .solver => 5
  | .peers => 5
  | .sram => 13
  | .dram => 13
  | .flash => 14
  | .mram => 15
  | .sash => 9
  | .transom _ => 8
  | .xport _ => 10

/-- The target is the egress of a link. -/
def PlTarget.isLink : PlTarget → Bool
  | .sash => true
  | .transom _ => true
  | _ => false

/-- The packets of a transfer: at most 64 words each; its buffer comes with the first, and the last one ends it (R45).
`age` is the AGE with which the transfer comes (R54). -/
def plCut (s : State) (r : PlReq) (age : Nat) : List PlPkt :=
  let n := max 1 (cdiv r.words 64)
  (List.range n).map (fun i =>
    { port := ⟨r.port.val, by omega⟩, via := r.via, tgt := r.tgt, soon := r.soon
      srcBlk := plSrcBlk r.port, srcStn := ownStation s, dstBlk := if r.tgt.isLink then r.dstBlk else r.tgt.blk, dst := r.dst
      words := if i + 1 = n then r.words - 64 * i else 64, age0 := age, issued := 0, deadline := 0
      kib := if i = 0 then r.kib else 0, release := if i + 1 = n then r.release else none, sat := false })

/-- A packet is issued: its deadline is 10 ms on when soon, and 1 s on when background (R46). -/
def PlPkt.issuedAt (p : PlPkt) (now : Nat) : PlPkt :=
  { p with issued := now, deadline := now + if p.soon then 10000000 else 1000000000 }

/-- A packet is issued now if its port stands below the limit of R55, and waits in its port's queue otherwise. -/
def plIssue1 (s : State) (p : PlPkt) : State :=
  if plOutstanding s p.port p.tgt < 16 then
    { s with fab := { s.fab with wait := s.fab.wait ++ [p.issuedAt s.stn.time.toNat] } }
  else { s with fab := { s.fab with queue := s.fab.queue ++ [p] } }

/-- Every queued packet that R55 now lets its port issue, in order. -/
def plIssue (s : State) : State := s.fab.queue.foldl plIssue1 { s with fab := { s.fab with queue := [] } }

/-- New transfers of the requester ports, each with the AGE that it has (R54). -/
def plTakeAged (s : State) (l : List (PlReq × Nat)) : State :=
  plIssue { s with fab := { s.fab with queue := s.fab.queue ++ l.flatMap (fun x => plCut s x.1 x.2) } }

/-- AGE of a request that begins (R54). -/
def plAge0 (soon : Bool) : Nat := if soon then 125000 else 0

/-- New transfers of the requester ports. -/
def plTake (s : State) (l : List PlReq) : State := plTakeAged s (l.map (fun r => (r, plAge0 r.soon)))

/-- A transfer of `words` words that a requester port sends to the station `dst` by a port of the own tree (R287). -/
def plOver (s : State) (port : Fin 4) (soon : Bool) (dstBlk dst words : Nat) : PlReq :=
  { port := port, via := [], tgt := plEgress s (routePort s.stk.pairNum.toNat (dst / 2)), soon := soon, dstBlk := dstBlk, dst := dst
    words := words, kib := 0, release := none }

/-- A transfer of `words` words over the Sash link to block `dstBlk` of the partner, as placed background work (R128, R275). -/
def plSash (s : State) (dstBlk words : Nat) : PlReq :=
  { port := 0, via := [], tgt := .sash, soon := false, dstBlk := dstBlk, dst := partnerStation s, words := words, kib := 0, release := none }

/-- A placed packet that came over a link and goes on by Transom port `q`, or over the Sash link when the port is down: its header
stays, but for the AGE, which has grown by the hop's transit time (R45, R54, R287). -/
def plForward (s : State) (from_ : Fin 8) (q : Fin 3) (h : Hdr) (transitNs : Nat) : State :=
  let now := s.stn.time.toNat
  { s with fab := { s.fab with wait := s.fab.wait ++
      [{ port := from_, via := [], tgt := plEgress s q, soon := h.soon, srcBlk := h.srcBlk, srcStn := h.srcStn, dstBlk := h.dstBlk
         dst := h.dstStn, words := h.words, age0 := min (h.age + transitNs / 8) 0x7FFFFF, issued := now
         deadline := now + h.deadline - refNow s, kib := 0, release := none, sat := false }] } }

/-! ### Arbitration (R49, R51, R53) -/

/-- KiB of DRAM that an open transfer, images being written, a staged change and collected snapshots take (R51, R115, R293, R333). -/
def stagingKib (s : State) : Nat :=
  (match s.net.transfer with | some x => cdiv x.total 1024 | none => 0) + cdiv s.stn.staged.length 1024
    + cdiv s.img.wBytes.length 1024 + (s.img.wWait.map (fun x => cdiv x.2.2.length 1024)).sum
    + cdiv (s.stk.snapSets.map (fun x => 6 * x.2.2.length)).sum 1024

/-- What STN.DRAM_FREE reads: DRAM in KiB that neither a buffer nor a staged transfer takes. -/
def dramFree (s : State) : Nat := s.stn.dramFree.toNat - stagingKib s

/-- DRAM has room for `n` bytes more (R51). -/
def dramRoom (s : State) (n : Nat) : Bool := cdiv n 1024 ≤ dramFree s

/-- The packet's buffer, when it asks for one, can be placed (R51): in the pool of on-die SRAM, else in DRAM. -/
def plRoom (s : State) (p : PlPkt) : Option Bool :=
  if p.kib = 0 then some false
  else if p.soon && p.kib ≤ 64 && p.kib ≤ s.stn.placedFree.toNat then some true
  else if p.kib ≤ dramFree s then some false
  else none

/-- ns that a packet takes on a link: 12 + 6 bytes a word at 10 Gbit/s on a Sash lane and 2.5 Gbit/s on a Transom port. -/
def plLinkNs (p : PlPkt) : Nat := match p.at_ with
  | .sash => cdiv ((12 + 6 * p.words) * 8) 10
  | .transom _ => cdiv ((12 + 6 * p.words) * 32) 10
  | _ => 0

/-- The packet ends before the next timed window of its link opens (R49; assumption log 4). -/
def plGap (s : State) (p : PlPkt) : Bool :=
  match p.at_, s.img.running with
  | .sash, some b => plLinkNs p ≤ Config.linkGap b 0 (refNow s % 100000000)
  | .transom q, some b => plLinkNs p ≤ Config.linkGap b (1 + q.val) (refNow s % 100000000)
  | _, _ => true

/-- An arbiter may grant the packet: its link has a gap for it (R49), and at its target its buffer has room (R51). -/
def plReady (s : State) (p : PlPkt) : Bool := plGap s p && (!p.via.isEmpty || (plRoom s p).isSome)

/-- How far an input stands behind the one granted last, in round-robin order; an arbiter that has granted none yet starts with
input 0, SUP (R53; assumption log 73). -/
def plTurn (s : State) (t : PlTarget) (i : Fin 8) : Nat :=
  match s.fab.last.find? (fun x => x.1 == t) with
  | some x => (i.val + 7 - x.2.val) % 8
  | none => i.val

/-- The request before an arbiter with the largest AGE, round robin among the inputs that tie (R53). -/
def plOldest (s : State) (t : PlTarget) : Option PlPkt :=
  let now := s.stn.time.toNat
  (s.fab.wait.filter (fun p => p.at_ == t)).foldl (fun a p =>
    match a with
    | none => some p
    | some q =>
      if plAge now q < plAge now p || (plAge now q = plAge now p && plTurn s t p.port < plTurn s t q.port) then some p
      else some q) none

/-- The request that an arbiter grants: the one with the largest AGE, as soon as its link has a gap for it and its buffer has room. Until
then it stands before the younger ones (R49, R51, R53; assumption log 73). -/
def plPick (s : State) (t : PlTarget) : Option PlPkt := (plOldest s t).filter (plReady s)

/-- Places a packet's buffer, where it stays until it is freed (R51). -/
def plAlloc (s : State) (p : PlPkt) : State :=
  if p.kib = 0 then s else
  let sram := plRoom s p == some true
  let n := if sram then { s.stn with placedFree := s.stn.placedFree - BitVec.ofNat 16 p.kib }
           else { s.stn with dramFree := s.stn.dramFree - BitVec.ofNat 32 p.kib }
  { s with stn := n, fab := { s.fab with bufs := s.fab.bufs ++ [{ num := s.fab.next, kib := p.kib, inSram := sram }]
                                         next := s.fab.next + 1 } }

/-- Frees a buffer (R51). -/
def plFree (s : State) (num : Nat) : State :=
  match s.fab.bufs.find? (fun b => b.num == num) with
  | none => s
  | some b =>
    let n := if b.inSram then { s.stn with placedFree := s.stn.placedFree + BitVec.ofNat 16 b.kib }
             else { s.stn with dramFree := s.stn.dramFree + BitVec.ofNat 32 b.kib }
    { s with stn := n, fab := { s.fab with bufs := s.fab.bufs.filter (fun b => b.num ≠ num) } }

/-- The header of a placed packet as it leaves an arbiter (R45, R46). -/
def plHdr (s : State) (p : PlPkt) : Hdr :=
  { placed := true, soon := p.soon, srcBlk := p.srcBlk, dstBlk := p.dstBlk, srcStn := p.srcStn, dstStn := p.dst
    words := p.words, tier := 7, age := plAge s.stn.time.toNat p, deadline := refNow s + p.deadline - s.stn.time.toNat }

/-! ### Headers of timed transfers (R45) -/

/-- The header of a timed transfer of `words` tagged words whose deadline is the next boundary of tier `k` (R45, R46). -/
def timedHdr (s : State) (src dst dstStn words k : Nat) : Hdr :=
  { placed := false, soon := false, srcBlk := src, dstBlk := dst, srcStn := ownStation s, dstStn := dstStn, words := words, tier := k
    age := 0, deadline := cdiv (refNow s + 1) (tierNs k) * tierNs k }

/-- Headers of the packets, of at most 64 words each, of a timed transfer (R45). -/
def timedCut (s : State) (src dst dstStn n k : Nat) : List (Vector Word 3) :=
  (List.range (max 1 (cdiv n 64))).map (fun i => (timedHdr s src dst dstStn (max 1 (min 64 (n - 64 * i))) k).bits)

/-- Destination and size of the stack's own messages: arrivals go to the master's pair, releases, announcements and notices to every
station they reach, and the exchange of timing packets to the parent. Their tier is T0 and their size one word for each field
(assumption log 80). -/
def TPkt.dest (s : State) : TPkt → Nat × Nat
  | .barArrive _ _ => (treeStn s 0, 1)
  | .barRelease _ _ => (126, 1)
  | .snapAnnounce _ _ => (126, 3)
  | .members _ _ _ => (127, 4)
  | .timing _ => (treeStn s (pairUp1 s.stk.pairNum.toNat), 2)
  | _ => (127, 1)

/-- The headers of what leaves on the Sash link or on a Transom port as timed traffic (R45); placed traffic takes its header as an
arbiter grants it. -/
def linkHeaders (s : State) (x : Sent) : List (Vector Word 3) :=
  match x with
  | .heartbeat _ _ => timedCut s 9 9 (partnerStation s) 1 0
  | .inputSet rest l => timedCut s 9 9 (partnerStation s) l.length (if rest then 1 else 0)
  | .angSample _ _ => timedCut s 9 9 (partnerStation s) 1 0
  | .syncMark _ => timedCut s 9 9 (partnerStation s) 1 4
  | .digests l => timedCut s 9 9 (partnerStation s) (2 * l.length) 2
  | .mask _ => timedCut s 9 9 (partnerStation s) 1 2
  | .stackXfer i vals => let x := s.stk.xfers.getD i default; timedCut s 8 8 (treeStn s x.dst) vals.length x.tier
  | .sashXfer i vals => let x := s.stk.xfers.getD i default; timedCut s 9 8 (partnerStation s) vals.length x.tier
  | .stack _ p => let d := p.dest s; timedCut s 8 8 d.1 d.2 0
  | _ => []

/-- A timed transfer leaves on a link behind its headers (R45). -/
def sendLink (s : State) (x : Sent) : State := send (send s (.headers (linkHeaders s x))) x

/-! ### Missed timed transfers (R49) -/

/-- A timed transfer to a receiving block misses the deadline `dl` of its tier: the variables it would have written stay unwritten with Q at
least 5, the miss is counted and recorded (R49). -/
def timedMiss (s : State) (blk inst tier : Nat) (dl : Word) (vars : List Nat) : State :=
  let s1 := vars.foldl (fun s n => modVar s n (fun v =>
    let u := { v.unf with tag := tagAtLeast v.unf.tag 5 }
    if v.forced then { v with unf := u } else { v with unf := u, cur := { v.cur with tag := tagAtLeast v.cur.tag 5 } })) s
  raise (logEntry { s1 with stn := { s1.stn with timedLate := satInc s1.stn.timedLate } } 0x5003 (256 * (blk % 256) + inst % 256) sevMajor
    ([BitVec.ofNat 8 tier, 0, 0, 0] ++ wB dl)) 496

end Sys2Proof.Machine
end

