-- ==== Sys2Proof/Machine/AngCmds.lean ====
section
/-! DEFINITION. The meanings of the angle commands (R193–R207). -/

namespace Sys2Proof.Machine
open Sys2Proof

/-- One sensor edge with its timestamp in ns of the tier reference (R193, R194). -/
def angleEdge (s : State) (a : Fin 8) (k : EdgeIn) (t : Nat) : State :=
  match s.ang.src[a].type, k with
  | 1, .quad fwd => encoderEdge s a t fwd
  | 1, .both => if s.ang.src[a].loss then s else loseSource s a 2
  | 1, .index => encoderIndex s a
  | 2, .tooth => toothEdge s a t
  | _, _ => s

/-- The edge is one that the source's sensor can deliver. -/
def edgeFits (type : Nat) (k : EdgeIn) : Bool :=
  match k with
  | .tooth => type == 2
  | _ => type == 1

/-- An instant of the tier reference before the next boundary, which comes first where both fall in one cycle (R31, R132, R191); a
standby that holds a boundary has it still to come (R262). -/
def beforeNext (s : State) (t : Nat) : Bool := t < s.stn.lastB + (if s.pair.await.isSome then 0 else 20000)

/-- ANGLE_EDGE: an edge arrives and is timestamped and classified (R192–R194, R202); one in the cycle of a boundary counts after it
(R191). -/
def execAngleEdge (a : Fin 8) (k : EdgeIn) (t : Nat) (s : State) : Host.Outcome State Fault Refusal :=
  guarded s (alive s && edgeFits s.ang.src[a].type k && beforeNext s t) (fun s => angleEdge s a k t)

/-- PRESENT of a VS set from its RMS values (R195). -/
def vsPresent (vnom : Nat) (rms : Vector (BitVec 16) 3) : BitVec 3 :=
  BitVec.ofNat 3 ((allFin 3).foldl (fun a i => a + (if 10 * rms[i].toNat ≥ vnom then 2 ^ i.val else 0)) 0)

/-- The measured values of a VS set enter its registers (R195). -/
def vsMeasure (s : State) (v : Fin 2) (rms : Vector (BitVec 16) 3) (mhz : Nat) (seqErr : Bool) : State :=
  { s with ang := { s.ang with vs := vmod s.ang.vs v (fun x =>
      { x with rms := rms, freq := satNat 24 mhz, present := vsPresent x.vnom.toNat rms, seqErr := seqErr }) } }

/-- Crossing `k` is the last one of set `v`. -/
def vsCross (s : State) (v : Fin 2) (k : Fin 6) : State :=
  { s with ang := { s.ang with vs := vmod s.ang.vs v (fun x => { x with last := some k }) } }

/-- Sources that read VS set `v`. -/
def vsSources (s : State) (v : Fin 2) : List (Fin 8) := (allFin 8).filter (fun a => s.ang.src[a].type == 3 + v.val)

/-- The crossing follows its predecessor in the order of a reversed phase sequence. -/
def reversed (s : State) (v : Fin 2) (k : Fin 6) : Bool := s.ang.vs[v].last.elim false (fun p => (k.val + 6 - p.val) % 6 == 5)

/-- VS_CROSSING: zero crossing `k` of set `v` is found with timestamp `t`; the RMS values and the frequency of the last
cycle stand with it (R195). -/
def execVsCrossing (v : Fin 2) (k : Fin 6) (t : Nat) (rms : Vector (BitVec 16) 3) (mhz : Nat) (s : State) :
    Host.Outcome State Fault Refusal :=
  guarded s (alive s && s.ang.vs[v].used && beforeNext s t) (fun s =>
    let s1 := vsCross (vsMeasure s v rms mhz (reversed s v k)) v k
    (vsSources s v).foldl (fun s a => crossingEdge s a k t mhz) s1)

/-- LINE_FAULT: an open or shorted line pair of an encoder (R193). -/
def execLineFault (a : Fin 8) (s : State) : Host.Outcome State Fault Refusal :=
  guarded s (alive s && s.ang.src[a].type == 1) (fun s => loseSource s a 1)

/-- STANDSTILL: no counted edge came for STILL.TMO (R202). -/
def execStandstill (a : Fin 8) (s : State) : Host.Outcome State Fault Refusal :=
  let r := s.ang.src[a]
  guarded s (alive s && 1 ≤ r.type && r.type ≤ 4 && r.sync == 2#2 && !r.stillF && !r.loss) (fun s => enterStill s a)

/-- LOSS_RECOVERY: the condition of a loss of cause 1, 5 or 7 has been absent for 10 ms (R202). -/
def execLossRecovery (a : Fin 8) (s : State) : Host.Outcome State Fault Refusal :=
  guarded s (alive s && s.ang.src[a].loss) (fun s => modSrc s a (fun r => { r with loss := false, sync := 1 }))

/-- NO_VOLTAGE: a phase of set `v` is below 10 % of V_NOM, or the phases differ by more than 30 % (R195). -/
def execNoVoltage (v : Fin 2) (rms : Vector (BitVec 16) 3) (s : State) : Host.Outcome State Fault Refusal :=
  guarded s (alive s && s.ang.vs[v].used) (fun s =>
    let s1 := vsMeasure s v rms s.ang.vs[v].freq.toNat s.ang.vs[v].seqErr
    (vsSources s v).foldl (fun s a => if s.ang.src[a].loss then s else loseSource s a 5) s1)

/-- ANGLE_WINDOW: at b + 4 µs the scheduler evaluates every armed event over the window of boundary b (R206). -/
def execAngleWindow (s : State) : Host.Outcome State Fault Refusal :=
  guarded s (alive s) (fun s => (allFin 128).foldl evalEvent (passTo s (s.ang.winB + 4000)))

/-- The active station of a synchronised pair distributes the angle-synchronous samples of an event (R217, R262). -/
def sendAngSamples (s : State) (a : Fin 8) (raw : List (Fin 96 × TWord)) : State :=
  if s.pair.state ≠ 2 then s
  else raw.foldl (fun s x => (angSample s a (0x80000000 + BitVec.ofNat 32 x.1.val) raw).elim s (fun w => sendLink s (.angSample x.1.val w))) s

/-- The work of one firing (R204, R207, R131). -/
def fireEvent (s : State) (n : Fin 128) (t : Nat) (raw : List (Fin 96 × TWord)) : State :=
  let e := s.ang.evt[n]
  let a := srcOfEvt n
  let s1 := modEvt s n (fun e => { e with
    due := none, fireCnt := e.fireCnt + 1, lastT := BitVec.ofNat 32 t, armed := e.armMode ≠ 1 && e.armed })
  let s2 := raise s1 (angSrc a (if bit e.cfg 3 then 1 else 0))
  if e.kind = 1 then
    (if h : e.point < 96 then latchPoint s2 ⟨e.point, h⟩ { val := if bit e.cfg 2 then 1 else 0, tag := goodTag 6 } else s2)
  else if e.kind = 2 then sampleAngle (sendAngSamples s2 a raw) a t e.tgt raw
  else s2

/-- Event `n` is armed, has an instant, and its source's published values let it fire (R203, R206). -/
def canFire (s : State) (n : Fin 128) : Bool :=
  s.ang.evt[n].armed && s.ang.evt[n].due.isSome && s.ang.src[srcOfEvt n].pubPredicting

/-- An event with a lower number fires in the same fabric cycle and comes first (R207). -/
def firesBefore (s : State) (n : Fin 128) (t : Nat) : Bool :=
  (allFin 128).any (fun m => m.val < n.val && canFire s m && s.ang.evt[m].due == some t)

/-- ANGLE_EVENT_FIRE: the instant that the window gave the event, after the boundary actions of that cycle and the events with lower
numbers; `raw` holds the angle-synchronous samples of that instant, at a standby those of the active station (R31, R203, R207, R217). -/
def execAngleEventFire (n : Fin 128) (raw : List (Fin 96 × TWord)) (s : State) : Host.Outcome State Fault Refusal :=
  let e := s.ang.evt[n]
  guarded s (alive s && canFire s n && beforeNext s (e.due.getD 0) && !firesBefore s n (e.due.getD 0)) (fun s =>
    let t := e.due.getD 0
    fireEvent (passTo s t) n t raw)

/-- ANG.CTRL.CLR_STAT (R7). -/
def angClrStat (s : State) : State :=
  { s with ang := { s.ang with
      src := s.ang.src.map (fun r => { r with errCnt := 0 })
      evt := s.ang.evt.map (fun e => { e with late := false, inhib := false }) } }

/-- ANG_CLR_STAT (R7). -/
def execAngClrStat (sess : Fin 4) (s : State) : Host.Outcome State Fault Refusal := openCmd s sess angClrStat

/-- A write of ANG.SRC_a.CTRL.RESYNC, which travels only from the active station (R202). -/
def resyncWrite (s : State) (a : Fin 8) : State :=
  if isStandby s || s.ang.src[a].type = 0 || s.ang.src[a].resync then s
  else accept (modSrc s a (fun r => { r with resync := true })) (.resync a)

/-- A T1 boundary carries a RESYNC (R202). -/
def carryResync (s : State) (a : Fin 8) : State :=
  let s1 := modSrc s a (fun r => { r with resync := false })
  if s.ang.src[a].loss then s1 else loseSync s1 a

/-- A session's write of ANG.EVT_n.CTRL; the fields are read-only to sessions when the control word is bound (R205). -/
def evtCtrlWrite (s : State) (n : Fin 128) (mode : BitVec 2) (seq : BitVec 8) : State :=
  if bit s.ang.evt[n].cfg 7 || isStandby s then s else accept s (.evtCtrl n mode seq)

/-- RESYNC (R202). -/
def execResync (sess : Fin 4) (a : Fin 8) (s : State) : Host.Outcome State Fault Refusal :=
  keyedCmd s sess (0xB0100 + a.val * 0x40 + 0x2C) (fun s => resyncWrite s a)
/-- EVT_CTRL_WRITE (R205). -/
def execEvtCtrlWrite (sess : Fin 4) (n : Fin 128) (mode : BitVec 2) (seq : BitVec 8) (s : State) :
    Host.Outcome State Fault Refusal :=
  keyedCmd s sess (0xB1000 + n.val * 0x20 + 0x14) (fun s => evtCtrlWrite s n mode seq)

end Sys2Proof.Machine
end

