-- ==== Sys2Proof/Machine/CanOps.lean ====
section
/-! DEFINITION. What the CAN controllers do: signals, requests, receptions, error confinement, the matrix and the roles
(R300–R312). -/

namespace Sys2Proof.Machine
open Sys2Proof

/-- Event source `i` of controller `k` (R406). -/
def canSrc (k : Fin 8) (i : Nat) : Nat := 128 + 8 * k.val + i

/-- CFG.USED. -/
def CanCtl.used (c : CanCtl) : Bool := bit c.cfg 0
/-- CFG.TT. -/
def CanCtl.tt (c : CanCtl) : Nat := fld c.cfg 2 2
/-- CFG.TIER. -/
def CanCtl.tier (c : CanCtl) : Nat := fld c.cfg 4 3
/-- NBC of CFG.NBC_LOG. -/
def CanCtl.nbc (c : CanCtl) : Nat := 2 ^ fld c.cfg 7 3
/-- A matrix is bound to a tier (R306, R311). -/
def CanCtl.bound (c : CanCtl) : Bool := c.tt ≠ 0 && c.tier ≠ 0
/-- WAKE_CFG.KIND. -/
def CanCtl.wakeKind (c : CanCtl) : Nat := fld c.wakeCfg 0 2
/-- STATUS.ERR_STATE (R305). -/
def CanCtl.errState (c : CanCtl) : Nat :=
  if c.state == 5#3 || c.state == 6#3 then 2 else if c.tec.toNat > 127 || c.recv.toNat > 127 then 1 else 0
/-- Object `i` has an exclusive window of the matrix, bound or not (R304, R306, R307). -/
def CanCtl.exclusive (c : CanCtl) (i : Nat) : Bool := c.tt ≠ 0 && c.wins.any (fun w => w.kind == 1 && w.obj == i)
/-- Object `i` has an exclusive window of a bound matrix, whose data are timed (R302). -/
def CanCtl.timed (c : CanCtl) (i : Nat) : Bool := c.bound && c.exclusive i
/-- A transmit object goes out as an FD frame: it asks for FD, or may be either and is too long for a classical frame
(R295, R300; assumption log 45). -/
def CanCtl.sendsFd (c : CanCtl) (o : CanObj) : Bool := bit c.cfg 1 && (o.fdf == 1 || (o.fdf == 2 && o.len > 8))

/-- Nominal bit time in CAN-clock periods (R297). -/
def nbtClk (c : CanCtl) : Nat := (fld c.nbt 0 9 + 1) * (4 + fld c.nbt 9 6 + fld c.nbt 15 6 + fld c.nbt 21 6)
/-- The data bit time in CAN-clock periods. -/
def dbtClk (c : CanCtl) : Nat := (fld c.dbt 0 5 + 1) * (3 + fld c.dbt 5 5 + fld c.dbt 10 5 + fld c.dbt 15 4)

/-- The worst-case length of a frame of `n` bytes in CAN-clock periods (R308). -/
def frameClk (c : CanCtl) (ide fdf brs : Bool) (n : Nat) : Nat :=
  let f := if n ≤ 16 then 27 else 32
  let d := 5 + 8 * n + (4 + 8 * n) / 4 + f
  if !fdf then (if ide then 67 + 8 * n + (53 + 8 * n) / 4 else 47 + 8 * n + (33 + 8 * n) / 4) * nbtClk c
  else (if ide then 57 else 34) * nbtClk c + d * (if brs then dbtClk c else nbtClk c)

/-- The worst-case length of an object's frames. -/
def objClk (c : CanCtl) (o : CanObj) : Nat :=
  let cl := frameClk c o.ide false false o.len
  let fd := frameClk c o.ide true o.brs o.len
  if o.fdf = 0 then cl else if o.fdf = 1 then fd else max cl fd
/-- A frame of object `i` is sent once only (R304). -/
def CanCtl.once (c : CanCtl) (o : CanObj) : Bool := o.oneShot || c.exclusive o.idx

/-- The state that the station's role gives an integrated controller (R310). -/
def canRole (s : State) : BitVec 3 :=
  if s.pair.state == 0#3 || s.pair.state == 2#3 || s.pair.state == 3#3 then 2
  else if s.pair.state == 6#3 || s.pair.state == 7#3 then 7
  else 3

/-- A controller whose station only listens: what it received as sender never enters the process image (R310). -/
def CanCtl.listens (c : CanCtl) : CanCtl :=
  { c with
    state := if c.state == 2#3 then 3 else c.state
    ttMaster := false, rx := [], missed := [], ackNew := [], winHit := false }

/-- The controllers after a change of the station's role (R310): normal operation needs 11 recessive bits first, a
transceiver that leaves standby integrates. -/
def canRoles (s : State) : State :=
  let r := canRole s
  (allFin 8).foldl (fun s k => modCan s k (fun c =>
    if r == 7#3 then (if c.state == 1#3 || c.state == 2#3 || c.state == 3#3 then { c with state := 7 } else c)
    else if c.state == 7#3 then { c with state := 1 }
    else if r == 3#3 then c.listens else c)) s

/-- The 32-bit value of a signal in a data field (R301). -/
def CanSig.take (g : CanSig) (d : List Byte) : Word :=
  if g.size = 0 then BitVec.ofNat 32 (b2n ((d.getD g.start 0).getLsbD g.bitNo))
  else
    let b := sub d g.start g.size
    let n := if g.be then ofBe b else ofLe b
    if g.signed then BitVec.ofInt 32 (sext (8 * g.size) n) else BitVec.ofNat 32 n

/-- A data field with the value of a signal put in (R301). -/
def CanSig.place (g : CanSig) (d : List Byte) (v : Word) : List Byte :=
  if g.size = 0 then
    let b := d.getD g.start 0
    let m : Byte := 1#8 <<< g.bitNo
    d.set g.start (if bit v 0 then b ||| m else b &&& ~~~m)
  else
    let n := v.toNat % 2 ^ (8 * g.size)
    let bs := if g.be then beN g.size n else leN g.size n
    d.take g.start ++ bs ++ d.drop (g.start + g.size)

/-- The tier of an object whose first variable, or trigger, has the writing tier `t` (R301). The boundaries of T1 to T4 alone take
receptions (R262): a receive object whose variables declare another tier, or that maps none, has the tier of its matrix, or T1
(R302, R306; assumption log 45). -/
def objTier (c : CanCtl) (o : CanObj) (t : Option Nat) : Nat :=
  let own := if c.bound then c.tier else 1
  match t with
  | none => own
  | some t => if o.kind = 0 && !(1 ≤ t && t ≤ 4) then own else t

/-- The tier of an object in the running image (R301). -/
def canTier (s : State) (c : CanCtl) (o : CanObj) : Nat :=
  objTier c o (((o.vars ++ (bindVar o.trig).toList).filterMap (var? s)).head?.map (fun v => v.tier))

/-- The data of a request: signals as handed over, other bytes 0 (R301, R303). -/
def canData (s : State) (o : CanObj) : List Byte :=
  o.sigs.foldl (fun d g => g.place d (match (bindVar g.var).bind (var? s) with | some v => v.cur.val | none => 0))
    (List.replicate o.len 0)

/-- Object `i` has a pending request. -/
def CanCtl.asked (c : CanCtl) (i : Nat) : Bool := c.reqs.any (fun r => r.obj == i)

/-- A request of object `i` with its data at boundary `b`: a pending one keeps its place and takes the new data (R303). A
controller that is bus-off or recovering sends nothing and keeps the buffer only (R271, R305). -/
def canRequest (c : CanCtl) (i : Nat) (d : List Byte) (b : Nat) : CanCtl :=
  let c : CanCtl := { c with bufs := aset c.bufs i d }
  if c.state == 5#3 || c.state == 6#3 then c
  else if c.asked i then
    { c with reqs := c.reqs.map (fun r => if r.obj == i then { r with data := d } else r), replace := satInc c.replace }
  else { c with reqs := c.reqs ++ [{ obj := i, data := d, since := b }] }

/-- Drops the pending request of object `i`. -/
def CanCtl.drop (c : CanCtl) (i : Nat) : CanCtl := { c with reqs := c.reqs.filter (fun r => r.obj ≠ i) }

/-- An object's rank in arbitration: the lower wins, a base ID before an extended one that begins with it (R303). -/
def CanObj.rank (o : CanObj) : Nat :=
  let i := o.id.toNat
  if o.ide then (i / 2 ^ 18 % 2 ^ 11) * 2 ^ 19 + 2 ^ 18 + i % 2 ^ 18 else (i % 2 ^ 11) * 2 ^ 19

/-- In bus monitoring the count of completed transmissions follows the distributed value of TX_ACK, so that it goes on after a
takeover (R262, R303). -/
def canFollow (s : State) (k : Fin 8) : State :=
  modCan s k (fun c => if c.state ≠ 3#3 then c else
    { c with acks := c.objs.foldl (fun l o => match (bindVar o.ack).bind (var? s) with
        | some v => if v.unf.tag.q = 7 then l else aset l o.idx v.unf.val
        | none => l) c.acks })

/-- The requests of controller `k` at a boundary of the tiers up to `slow`, the same on both stations of a pair whatever the bus
does; at the boundary that starts RUN no trigger is compared (R303, R309, R310). -/
def canRequestsOf (s : State) (slow : Nat) (k : Fin 8) : State :=
  let c := s.can.ctl[k]
  if c.state == 0#3 || c.state == 4#3 || c.state == 7#3 then s else
  let due := c.objs.filter (fun o => o.kind ≠ 0 && canTier s c o ≤ slow)
  modCan s k (fun c => { due.foldl (fun c o =>
    let t := canTier s c o
    let trig := ((bindVar o.trig).bind (var? s)).map (fun v => v.cur.val)
    let bad := o.txBad && o.vars.any (fun n => match var? s n with | some v => 4 ≤ (varView v).tag.q.toNat | none => false)
    let want := if o.kind = 1 then true
      else if o.kind = 2 then (tierCnt s t).toNat % (max o.rep 1) = 0
      else match aget c.prev o.idx, trig with
        | some p, some v => p ≠ v
        | _, _ => false
    let c1 := match trig with
      | some v => if c.runNew then c else { c with prev := aset c.prev o.idx v }
      | none => c
    if want && !bad && !(canLogic s o && s.stn.mode == .stop) then canRequest c1 o.idx (canData s o) s.stn.lastB else c1) c with
      runNew := false })

/-- Every controller's requests at a boundary (R303). -/
def canRequests (s : State) (slow : Nat) : State := (allFin 8).foldl (fun s k => canRequestsOf (canFollow s k) slow k) s

/-- RUN starts: no trigger has a previous value (R303). -/
def canStart (s : State) : State := (allFin 8).foldl (fun s k => modCan s k (fun c => { c with prev := [], runNew := true })) s

/-- Tag of a received value (R35, R302). -/
def canTag (c : CanCtl) (i : Nat) : Tag := mkTag 0 false 0 false 1 |> fun t => { t with c := !c.timed i }

/-- What controller `k` received enters the process image at a boundary of the object's tier; a window missed after the last
frame raises Q (R302, R303). -/
def canTakeOf (s : State) (slow : Nat) (k : Fin 8) : State :=
  let c := s.can.ctl[k]
  let now := fun i => match c.obj? i with
    | some o => 0 < canTier s c o && canTier s c o ≤ slow
    | none => true
  let s1 := (c.rx.filter (fun x => now x.1)).foldl (fun s x => match c.obj? x.1 with
    | some o => o.sigs.foldl (fun s g => writeBind s g.var { val := g.take x.2, tag := canTag c x.1 }) s
    | none => s) s
  let s2 := (c.missed.filter now).foldl (fun s i => match c.obj? i with
    | some o => o.vars.foldl (fun s n => raiseVarQ s n 5) s
    | none => s) s1
  let s3 := (c.ackNew.filter now).foldl (fun s i => match c.obj? i with
    | some o => writeBind s o.ack { val := (aget c.acks i).getD 0, tag := { mkTag 0 false 0 false 1 with c := true } }
    | none => s) s2
  modCan s3 k (fun c => { c with
    missed := c.missed.filter (fun i => !now i)
    rx := c.rx.filter (fun x => !now x.1)
    ackNew := c.ackNew.filter (fun i => !now i) })

/-- Every controller's receptions at a boundary (R302). -/
def canTake (s : State) (slow : Nat) : State := (allFin 8).foldl (fun s k => canTakeOf s slow k) s

/-- Controller `k` wakes (R311). -/
def canWake (s : State) (k : Fin 8) : State :=
  raise (modCan s k (fun c => { c with state := 1, waking := true, integ := false, wakeReq := false })) (canSrc k 6)

/-- BOFF_REC at its T1 boundary (R305). -/
def carryBoff (s : State) (k : Fin 8) : State :=
  modCan s k (fun c => { c with state := if c.state == 5#3 then 6 else c.state, boffReq := false })

/-- SLEEP_REQ at its T1 boundary (R311). -/
def carrySleep (s : State) (k : Fin 8) : State :=
  modCan s k (fun c => { c with
    sleepReq := false, waking := false, integ := false
    reqs := if c.used then [] else c.reqs
    state := if c.state == 1#3 || c.state == 2#3 || c.state == 3#3 then 4 else c.state })

/-- WAKE_REQ at its T1 boundary (R311). -/
def carryWake (s : State) (k : Fin 8) : State :=
  if s.can.ctl[k].state == 4#3 then canWake s k else modCan s k (fun c => { c with wakeReq := false })

/-- A woken controller that has integrated resumes at a T1 boundary (R311). -/
def canT1 (s : State) : State :=
  (allFin 8).foldl (fun s k => modCan s k (fun c =>
    if c.waking && c.integ then { c with waking := false, integ := false, state := canRole s } else c)) s

/-- A warm reset, or waking from SLEEP: everything clears, bus-off stays with the kinds of its last errors; other controllers are
off until the image is admitted (R305, R312). -/
def CanCtl.cleared (c : CanCtl) : CanCtl :=
  if c.state == 5#3 || c.state == 6#3 then { CanCtl.reset with state := 5, lec := c.lec, dlec := c.dlec } else CanCtl.reset

/-- CAN at a warm reset or at waking (R312). -/
def canReset (s : State) : State := { s with can := { ctl := s.can.ctl.map CanCtl.cleared } }

/-- CAN.CTRL written by a session: clearing, then each request (R305, R311). -/
def canRefused (s : State) (k : Fin 8) (r : Nat) : State :=
  logEntry s 0x0801 k.val sevNotice [BitVec.ofNat 8 r, BitVec.ofNat 8 s.can.ctl[k].state.toNat]

/-- BOFF_REC written (R305). -/
def boffWrite (s : State) (k : Fin 8) : State :=
  if s.can.ctl[k].state == 5#3 && !isStandby s then accept (modCan s k (fun c => { c with boffReq := true })) (.boffRec k)
  else canRefused s k 0

/-- SLEEP_REQ written (R311). -/
def sleepWrite (s : State) (k : Fin 8) : State :=
  if !s.can.ctl[k].bound && !isStandby s then accept (modCan s k (fun c => { c with sleepReq := true })) (.canSleep k)
  else canRefused s k 1

/-- WAKE_REQ written (R311). -/
def wakeWrite (s : State) (k : Fin 8) : State :=
  let c := s.can.ctl[k]
  if (c.state == 4#3 || c.sleepReq) && !isStandby s then accept (modCan s k (fun c => { c with wakeReq := true })) (.canWake k)
  else canRefused s k 2

/-- CLR_CNT clears every count of the controller. -/
def canClr (s : State) (k : Fin 8) : State :=
  modCan s k (fun c => { c with rxCnt := 0, txCnt := 0, boffCnt := 0, oneshot := 0, pxeCnt := 0, winMiss := 0,
                                overwrite := 0, replace := 0, lenErr := 0, capOvf := 0, tdcErr := 0, rfLate := 0 })

/-- A write of CAN.CAN_k.CTRL. -/
def canCtrlWrite (s : State) (k : Fin 8) (v : Word) : State :=
  let s1 := if bit v 3 then canClr s k else s
  let s2 := if bit v 0 then boffWrite s1 k else s1
  let s3 := if bit v 1 then sleepWrite s2 k else s2
  if bit v 2 then wakeWrite s3 k else s3

/-- The SLEEP vote of CAN (R311, R392): no request pending and no recovery from bus-off. -/
def canVote (s : State) : Bool := s.can.ctl.toList.all (fun c => c.reqs.isEmpty && c.state ≠ 6#3)

/-! ### Receiving -/

/-- The DLC that codes a data length of a data frame. -/
def dlcOf (n : Nat) : BitVec 4 :=
  BitVec.ofNat 4 (if n ≤ 8 then n else if n ≤ 12 then 9 else if n ≤ 16 then 10 else if n ≤ 20 then 11 else if n ≤ 24 then 12
    else if n ≤ 32 then 13 else if n ≤ 48 then 14 else 15)

/-- The number of data bytes that a frame carries for `n` bytes: FD codes no other lengths above 8. -/
def dlcLen (n : Nat) : Nat :=
  if n ≤ 8 then n else if n ≤ 12 then 12 else if n ≤ 16 then 16 else if n ≤ 20 then 20 else if n ≤ 24 then 24
  else if n ≤ 32 then 32 else if n ≤ 48 then 48 else 64

/-- A receive object's conditions but its length (R300). -/
def CanObj.selects (o : CanObj) (f : CanFrame) : Bool :=
  o.kind == 0 && !f.rtr && o.ide == f.ide
    && (o.fdf == 2 || (o.fdf == 1) == f.fdf)
    && ((o.id.toNat ^^^ f.id.toNat) &&& o.mask.toNat) % 2 ^ (if o.ide then 29 else 11) == 0

/-- The frame goes to the capture FIFO; a full one counts it, but in bus monitoring no count moves (R300, R310). -/
def canCapture (s : State) (k : Fin 8) (f : CanFrame) : State :=
  let c := s.can.ctl[k]
  if !bit c.cfg 10 then s
  else if c.cap.length < 64 then modCan s k (fun c => { c with cap := c.cap ++ [(s.stn.time, f)] })
  else if c.state == 3#3 then s
  else raise (modCan s k (fun c => { c with capOvf := satInc c.capOvf })) (canSrc k 5)

/-- An object takes the frame's data (R302). -/
def canAccept (s : State) (k : Fin 8) (o : CanObj) (f : CanFrame) : State :=
  let c := s.can.ctl[k]
  let old := c.rx.any (fun x => x.1 == o.idx)
  let s1 := modCan s k (fun c => { c with
    rx := c.rx.filter (fun x => x.1 ≠ o.idx) ++ [(o.idx, f.data)]
    overwrite := if old then satInc c.overwrite else c.overwrite
    missed := c.missed.filter (fun i => i ≠ o.idx)
    winHit := c.winHit || (match c.win.bind (fun w => c.wins[w]?) with | some w => w.kind == 1 && w.obj == o.idx | none => false) })
  if old then raise s1 (canSrc k 5) else s1

/-- Whether a frame is a reference message (R306). -/
def CanCtl.isRef (c : CanCtl) (f : CanFrame) : Bool :=
  !f.ide && !f.fdf && !f.rtr && f.id.toNat == fld c.refId 0 11 && f.data.length == 1

/-- A time slave synchronises to a valid reference message (R307). -/
def CanCtl.takeRef (c : CanCtl) (f : CanFrame) : CanCtl :=
  if c.tt ≠ 0 && !c.ttMaster && c.isRef f && !(f.data.getD 0 0).getLsbD 7 then
    { c with ttSync := true, cycle := (f.data.getD 0 0).truncate 6 }
  else c

/-- REC after a frame received valid (R305): by ISO 11898-1 it falls by one, and from above 127 to a value in 119…127 that
the standard leaves open (assumption log 1). -/
def canRecOk (s : State) (k : Fin 8) : State :=
  let c := s.can.ctl[k]
  if c.recv.toNat > 127 then
    let (w, s1) := drawWord s
    modCan s1 k (fun c => { c with recv := BitVec.ofNat 8 (119 + w.toNat % 9) })
  else modCan s k (fun c => { c with recv := c.recv - (if c.recv = 0 then 0 else 1) })

/-- A valid frame received on bus `k`; in bus monitoring every count stays frozen (R300–R302, R307, R310). -/
def canReceive (s : State) (k : Fin 8) (f : CanFrame) : State :=
  let c := s.can.ctl[k]
  let s1 := modCan s k (fun c => { c.takeRef f with rxCnt := if c.state == 3#3 then c.rxCnt else c.rxCnt + 1, txdOff := false })
  let s2 := if c.state == 2#3 then canRecOk s1 k else s1
  -- a station in bus monitoring hears what the active station has sent (R310)
  let s3 := if c.state == 3#3 then modCan s2 k (fun c => { c with reqs := c.reqs.filter (fun r => match c.obj? r.obj with
      | some o => !(o.ide == f.ide && o.id.toNat == f.id.toNat && !f.rtr && f.data.take o.len == r.data)
      | none => true) })
    else s2
  match c.objs.find? (fun o => o.selects f) with
  | some o =>
    if f.data.length < o.len then modCan s3 k (fun c => if c.state == 3#3 then c else { c with lenErr := satInc c.lenErr })
    else if c.state == 2#3 then canAccept s3 k o f else s3
  | none => canCapture s3 k f

/-- A received FD frame with a recessive res bit (R305); the count stays frozen in bus monitoring (R310). -/
def canPxe (s : State) (k : Fin 8) : State :=
  modCan s k (fun c => { c with pxe := true, pxeCnt := if c.state == 3#3 then c.pxeCnt else satInc c.pxeCnt, state := 1 })

/-! ### Sending and errors -/

/-- A request of lower ID contended, from its boundary + 2 µs on, before a frame of object `i` that ends `now` can have started:
that request has won the bus (R303). -/
def CanCtl.outranked (c : CanCtl) (i now : Nat) : Bool :=
  match c.obj? i with
  | none => false
  | some o => c.reqs.any (fun r => r.obj ≠ i && !c.exclusive r.obj && r.since + 2000 + 10 * objClk c o ≤ now
      && (c.obj? r.obj).any (fun x => x.rank < o.rank))

/-- A pending request of object `i` may be on the bus at `now` on the tier reference (R303, R306, R307): its exclusive window
stands open and the matrix is synchronised; or, from its boundary + 2 µs on and in ID order, an arbitrating window stands
open, or no matrix is bound. -/
def CanCtl.maySend (c : CanCtl) (i now : Nat) : Bool :=
  let open_ := fun (f : CanWin → Bool) => c.ttSync && (c.win.bind (fun w => c.wins[w]?)).any f
  if c.exclusive i then c.asked i && open_ (fun w => w.kind == 1 && w.obj == i)
  else c.reqs.any (fun r => r.obj == i && r.since + 2000 ≤ now) && !c.outranked i now
    && (!c.bound || open_ (fun w => w.kind == 2 && (w.obj == i || w.obj == 0xFFFF)))

/-- The loop delay `d` measured where an FD frame of object `o` passes from FDF to res; STATUS.TDCV has 7 bits, and what it shows
of a longer delay is open (R299, assumption log 1). -/
def canTdc (s : State) (k : Fin 8) (o : CanObj) (d : Nat) : State :=
  let c := s.can.ctl[k]
  if !(c.sendsFd o && bit c.dbt 19) then s
  else if d ≤ 127 then modCan s k (fun c => { c with tdcv := BitVec.ofNat 7 d })
  else
    let (w, s1) := drawWord s
    modCan s1 k (fun c => { c with tdcv := w.truncate 7, tdcErr := satInc c.tdcErr })

/-- The request of a one-shot object ends without success (R304). -/
def canOneShot (s : State) (k : Fin 8) (i : Nat) : State :=
  match s.can.ctl[k].obj? i with
  | some o =>
    if s.can.ctl[k].once o && s.can.ctl[k].asked i then
      raise (modCan s k (fun c => { c.drop i with oneshot := satInc c.oneshot })) (canSrc k 4)
    else s
  | none => s

/-- The controller enters bus-off (R305). -/
def canBusOff (s : State) (k : Fin 8) : State :=
  let s1 := modCan s k (fun c => { c with state := 5, reqs := [], ttMaster := false, boffCnt := satInc c.boffCnt })
  raise (logEntry s1 0x0800 k.val sevMajor (leN 2 s1.can.ctl[k].tec.toNat ++ [BitVec.ofNat 8 s1.can.ctl[k].lec.toNat, BitVec.ofNat 8 s1.can.ctl[k].dlec.toNat])) (canSrc k 1)

/-- An FD frame of object `i` that an error ends has measured the loop delay if the error came after its res bit: in the data phase
it did, in the nominal phase it may have (R299, assumption log 1). -/
def canErrorTdc (s : State) (k : Fin 8) (i : Nat) (dataPhase : Bool) : State :=
  match s.can.ctl[k].obj? i with
  | some o =>
    let (w, s1) := drawWord s
    if dataPhase || bit w 8 then canTdc s1 k o (w.toNat % 256) else s1
  | none => s

/-- One bus error (R305). -/
def canError (s : State) (k : Fin 8) (kind : BitVec 3) (dataPhase : Bool) (e : ErrStep) (obj : Option Nat) : State :=
  let c := s.can.ctl[k]
  let was := c.errState
  let tec := if e = .tx8 then c.tec.toNat + 8 else c.tec.toNat
  let rcv := min 255 (c.recv.toNat + (if e = .rx1 then 1 else if e = .rx8 then 8 else 0))
  let s1 := modCan s k (fun c => { c with
    lec := if dataPhase then c.lec else kind, dlec := if dataPhase then kind else c.dlec
    tec := if c.state == 2#3 then BitVec.ofNat 9 (min tec 511) else c.tec
    recv := if c.state == 2#3 then BitVec.ofNat 8 rcv else c.recv
    txdOff := false })
  let s2 := match obj with
    | some i => canOneShot (canErrorTdc s1 k i dataPhase) k i
    | none => s1
  if c.state ≠ 2#3 then s2
  else if tec > 255 then canBusOff s2 k
  else if was = 0 && s2.can.ctl[k].errState = 1 then raise s2 (canSrc k 0) else s2

/-- The wake-up frame matches (R311). -/
def CanCtl.wakes (c : CanCtl) (f : CanFrame) : Bool :=
  let n := if bit c.wakeCfg 2 then 29 else 11
  !f.fdf && !f.rtr && f.ide == bit c.wakeCfg 2
    && ((f.id.toNat ^^^ c.wakeId.toNat) &&& c.wakeIdm.toNat) % 2 ^ n == 0
    && (!bit c.wakeCfg 7 || f.dlc.toNat == fld c.wakeCfg 3 4)
    && (BitVec.ofNat 64 (ofLe (fit 8 f.data)) &&& c.wakeDm) ≠ 0

end Sys2Proof.Machine
end

