-- ==== Sys2Proof/Machine/Flags.lean ====
section
/-! DEFINITION. The context one logic instruction works in, the tag combination inside an engine (R14, R36, R92) and the
flag computations: ARITH and the quality it forces (R98, R99). -/

namespace Sys2Proof.Machine
open Sys2Proof

/-- What one instruction of a logic engine sees and leaves. -/
structure LCtx where
  eng : Engine
  t : TaskRun
  /-- the engine is the SLE -/
  sle : Bool
  /-- engine index, S:1 [3:0] -/
  eIdx : Nat
  /-- 0 cyclic task, 1…4 EVT_0…EVT_3 -/
  task : Nat
  /-- tier period of the task in µs (R104) -/
  period : Nat
  /-- the variable table, which gives mapped M and W words their initial value (R89) -/
  vars : List Var
  /-- the first out-of-range access of the run happened in this instruction (R101) -/
  idxLog : Bool
  /-- the instruction raises the program event (R102) -/
  raiseEvt : Bool
  /-- the instruction ends in an engine fault: 2 opcode, 3 branch stack (R65) -/
  fault : Option Nat

/-- ORIGIN of what the engine produces: 3 logic, 7 safety (R92). -/
def LCtx.origin (c : LCtx) : BitVec 5 := if c.sle then 7 else 3

/-- R14 over operands of which a marked one takes no part (R36, R92). -/
def LCtx.comb (c : LCtx) : MTag → MTag → MTag
  | none, none => none
  | some a, none => some { a with f := false, c := false, origin := c.origin }
  | none, some b => some { b with f := false, c := false, origin := c.origin }
  | some a, some b => some (combine a b false c.origin)

/-- The tag under which a register is stored (R92; S of a marked value in the SLE by R248). -/
def LCtx.storeTag (c : LCtx) : MTag → Tag
  | none => mkTag 0 false 0 c.sle c.origin
  | some a => { a with f := false, c := false, origin := c.origin }

/-- Quality raised to at least 2 by an arithmetic exception; a marked result takes a tag of its own
(R98, R99; assumption log 10). -/
def LCtx.raiseQ (c : LCtx) (m : MTag) : MTag := some (tagAtLeast (m.getD (mkTag 0 false 0 c.sle c.origin)) 2)

/-- The word result `v` with tag `m` into WA; `exc` says that an exception of R98 or R99 occurred. -/
def LCtx.setWA (c : LCtx) (v : Word) (m : MTag) (exc : Bool) : LCtx :=
  { c with t := { c.t with wa := v, ta := if exc then c.raiseQ m else m, arith := c.t.arith || exc } }

/-- An integer result into WA, saturated with ARITH outside 32 bits (R98). -/
def LCtx.setInt (c : LCtx) (x : Int) (m : MTag) : LCtx := c.setWA (satI32 x) m (outI32 x)

/-- A binary32 result into WA; a NaN or an infinity is an exception (R99). -/
def LCtx.setF (c : LCtx) (x : Nat) (m : MTag) : LCtx := c.setWA (BitVec.ofNat 32 x) m (f32.nonFinite x)

/-- A truth value into LA under a tag. -/
def LCtx.setLA (c : LCtx) (b : Bool) (m : MTag) : LCtx := { c with t := { c.t with la := b, lt := m } }

/-- The instruction ends in an engine fault of kind `k` (R65, R96). -/
def LCtx.fail (c : LCtx) (k : Nat) : LCtx := { c with fault := some k }

/-- The tag of WB and WA together (R97). -/
def LCtx.wTag (c : LCtx) : MTag := c.comb c.t.tb c.t.ta

end Sys2Proof.Machine
end

