-- ==== Sys2Proof/Machine/Operands.lean ====
section
/-! DEFINITION. The operand spaces of the logic engines (R88–R90), the indexed form (R101), and reading and storing an
operand by R58, R92 and R93. -/

namespace Sys2Proof.Machine
open Sys2Proof

/-- The operand fields of an instruction word (R88): the indexed form, SPACE and ADDR. -/
structure Opnd where
  ix : Bool
  sp : BitVec 4
  ad : BitVec 20
deriving DecidableEq, Repr

/-- Spaces of the bit instructions: I Q M S T C E K # (R94). -/
def spBitRead : List Nat := [0, 1, 2, 8, 4, 5, 6, 7, 9]
/-- Spaces of the bit stores: Q M (R94). -/
def spBitStore : List Nat := [1, 2]
/-- Spaces of LW: I Q M W T C K S # (R97). -/
def spWordRead : List Nat := [0, 1, 2, 3, 4, 5, 7, 8, 9]
/-- Spaces of SW: Q M W (R97). -/
def spWordStore : List Nat := [1, 2, 3]
/-- Spaces of LTAG and QCHK: I Q M W T C (R100). -/
def spTagRead : List Nat := [0, 1, 2, 3, 4, 5]

/-- Word index of ADDR [19:5]. -/
def Opnd.word (o : Opnd) : Nat := o.ad.toNat / 32
/-- Bit number of ADDR [4:0]. -/
def Opnd.bitNo (o : Opnd) : Nat := o.ad.toNat % 32

/-- The operand is well formed as R89, R91 and R101 require: the space is allowed, the indexed form names I, Q, M or W,
and a word or instance operand has ADDR [4:0] = 0. -/
def Opnd.wf (o : Opnd) (spaces : List Nat) (wordOp : Bool) : Bool :=
  spaces.contains o.sp.toNat && (!o.ix || o.sp.toNat < 4)
    && (o.sp == 9#4 || ((!wordOp && !(o.sp == 4#4 || o.sp == 5#4 || o.sp == 6#4)) || o.bitNo == 0))

/-- Declared size of a space; S has 16 words and # no bound (R89). -/
def Engine.size (g : Engine) (sp : Nat) : Nat := if sp = 8 then 16 else if sp = 9 then 2 ^ 15 else vget g.sizes sp 0

/-- The instance a T, C or E operand names. -/
def Engine.inst? (g : Engine) (sp num : Nat) : Option Inst :=
  g.insts.find? (fun i => i.num == num && (if sp = 4 then i.kind ≤ 3 else if sp = 5 then i.kind == 4 else i.kind == 5))

/-- The engine with one instance replaced. -/
def Engine.setInst (g : Engine) (j : Inst) : Engine :=
  { g with insts := g.insts.map (fun i => if i.kind == j.kind && i.num == j.num then j else i) }

/-- What an out-of-range read yields (R101); its class C 0 and ORIGIN 3 are the model's choice (assumption log 62). -/
def oorWord : TWord := { val := 0, tag := { q := 6, c := false, f := false, h := true, age := 15, s := false, origin := 3 } }

/-- Initial state of an M or W word (R89). -/
def initWord (g : Engine) (vars : List Var) (sp i : Nat) (origin : BitVec 5) : TWord :=
  let v := match g.mwmap.find? (fun p => p.1 == sp && p.2.1 == i) with
    | some p => match vars.find? (fun v => v.idx == p.2.2) with
      | some v => v.init
      | none => 0
    | none => 0
  { val := v, tag := initTag false origin }

/-- Key of an M or W word among those that a run has stored to. -/
def wordKey (sp i : Nat) : Nat := if sp = 2 then i else 0x10000 + i

/-- The forced value of the variable that an M or W word is mapped to, until the task stores the word in this run
(R58, R124). -/
def LCtx.forcedWord (c : LCtx) (sp i : Nat) : Option TWord :=
  if c.t.mStored.contains (wordKey sp i) then none else
  match c.eng.mwmap.find? (fun p => p.1 == sp && p.2.1 == i) with
  | some p => (c.vars.find? (fun v => v.idx == p.2.2 && v.forced)).map (fun v => v.cur)
  | none => none

/-- The M or W word `i` as the task reads it. -/
def LCtx.mem (c : LCtx) (sp i : Nat) : TWord :=
  (c.forcedWord sp i).getD <| (aget (if sp = 2 then c.eng.m else c.eng.w) i).getD (initWord c.eng c.vars sp i c.origin)

/-- The key of an import or export entry in snapshot and output buffer: its DATA index, or a key of its own when the
entry is unconnected (R346; assumption log 11). -/
def bindKey (b : Word) (i : Nat) : Nat := if b = 0xFFFFFFFF#32 then 0x100000 + i else b.toNat % 2 ^ 20

/-- A process-image word as the task reads it (R58). -/
def LCtx.image (c : LCtx) (key : Nat) : TWord :=
  match aget c.t.out key with
  | some w => w
  | none => (aget c.t.snap key).getD undefData

/-- A system word (R90). R90 gives the SLE no engine index: in its S:1 [3:0] reads 0, the model's choice (assumption log 77). -/
def LCtx.sysWord (c : LCtx) (i : Nat) : Word :=
  match i with
  | 0 => pack [(0, 1, b2n c.t.first), (1, 1, b2n c.t.arith), (2, 1, b2n c.t.idxErr), (3, 1, b2n (c.task != 0))]
  | 1 => pack [(0, 4, c.eIdx), (4, 4, c.task)]
  | 2 => pack [(0, 3, c.eng.tier.toNat)]
  | 3 => c.t.sMode
  | 9 => pack [(0, 2, c.t.sProf.toNat)]
  | _ => if 4 ≤ i ∧ i ≤ 8 then vget c.t.sCnt (i - 4) 0 else 0

/-- Elapsed time of a timer in ms (R104). -/
def Inst.etMs (i : Inst) : Word :=
  if i.et.toNat ≥ i.ptc.toNat then i.pt else BitVec.ofNat 32 (i.et.toNat * i.pus / 1000)

/-- Word index the operand reaches, none when an indexed access is out of range (R101). -/
def LCtx.reach (c : LCtx) (o : Opnd) : Option Nat :=
  if o.ix then
    let i := o.word + c.t.xr.toNat
    if c.t.xr = 0xFFFF#16 || i ≥ c.eng.size o.sp.toNat then none else some i
  else some o.word

/-- The operand lies inside its declared space or names an instance that exists; only corrupted memory breaks this
(R91; assumption log 12). -/
def LCtx.inSpace (c : LCtx) (o : Opnd) : Bool :=
  if o.sp == 4#4 || o.sp == 5#4 || o.sp == 6#4 then (c.eng.inst? o.sp.toNat o.word).isSome
  else o.ix || o.sp == 9#4 || o.word < c.eng.size o.sp.toNat

/-- Marks an out-of-range access: IDX_ERR, and the entry of the run's first one (R101). -/
def LCtx.outOfRange (c : LCtx) : LCtx :=
  { c with t := { c.t with idxErr := true, idxLogged := true }, idxLog := c.idxLog || !c.t.idxLogged }

/-- The word and tag that an operand yields, and the context after a read that may be out of range. -/
def LCtx.read (c : LCtx) (o : Opnd) : LCtx × Word × MTag :=
  match c.reach o with
  | none => (c.outOfRange, oorWord.val, some oorWord.tag)
  | some i =>
    match o.sp.toNat with
    | 0 => let w := c.image (bindKey (c.eng.imports.getD i 0xFFFFFFFF) i); (c, w.val, some w.tag)
    | 1 => let w := c.image (bindKey (c.eng.exports.getD i 0xFFFFFFFF) (0x8000 + i)); (c, w.val, some w.tag)
    | 2 => let w := c.mem 2 i; (c, w.val, some w.tag)
    | 3 => let w := c.mem 3 i; (c, w.val, some w.tag)
    | 4 => match c.eng.inst? 4 i with
      | some t => (c, t.etMs, some t.tag)
      | none => (c, 0, none)
    | 5 => match c.eng.inst? 5 i with
      | some t => (c, t.cv, some t.tag)
      | none => (c, 0, none)
    | 7 => (c, c.eng.consts.getD i 0, none)
    | 8 => (c, c.sysWord i, some (goodTag 10))
    | 9 => (c, o.ad.signExtend 32, none)
    | _ => (c, 0, none)

/-- The bit and tag that an operand yields; T, C and E give the instance's output (R89). -/
def LCtx.readBit (c : LCtx) (o : Opnd) : LCtx × Bool × MTag :=
  if o.sp == 4#4 || o.sp == 5#4 || o.sp == 6#4 then
    match c.eng.inst? o.sp.toNat o.word with
    | some t => (c, t.out, some t.tag)
    | none => (c, false, none)
  else
    let (c1, w, m) := c.read o
    (c1, w.getLsbD (if o.sp == 9#4 then 0 else o.bitNo), m)

/-- Stores a word under a tag into Q, M or W (R58, R89). -/
def LCtx.put (c : LCtx) (sp i : Nat) (v : Word) (tag : Tag) : LCtx :=
  let w : TWord := { val := v, tag := tag }
  if sp = 1 then
    { c with t := { c.t with out := aset c.t.out (bindKey (c.eng.exports.getD i 0xFFFFFFFF) (0x8000 + i)) w } }
  else if sp = 2 then
    { c with eng := { c.eng with m := aset c.eng.m i w }, t := { c.t with mStored := i :: c.t.mStored } }
  else { c with eng := { c.eng with w := aset c.eng.w i w }, t := { c.t with mStored := wordKey 3 i :: c.t.mStored } }

/-- SW: the word and its tag replace what the operand held (R92, R93). -/
def LCtx.storeWord (c : LCtx) (o : Opnd) : LCtx :=
  match c.reach o with
  | none => c.outOfRange
  | some i => c.put o.sp.toNat i c.t.wa (c.storeTag c.t.ta)

/-- A bit store: the first of a run sets the word's pending tag, a later one combines into it (R93). -/
def LCtx.storeBit (c : LCtx) (o : Opnd) (b : Bool) : LCtx :=
  match c.reach o with
  | none => c.outOfRange
  | some i =>
    let key := bindKey (c.eng.exports.getD i 0xFFFFFFFF) (0x8000 + i)
    let old := if o.sp == 1#4 then c.image key else c.mem 2 i
    let again := if o.sp == 1#4 then (aget c.t.out key).isSome else c.t.mStored.contains i
    let st := c.storeTag c.t.lt
    let tag := if again then combine old.tag st false c.origin else st
    let m : Word := 1#32 <<< o.bitNo
    c.put o.sp.toNat i (if b then old.val ||| m else old.val &&& ~~~m) tag

end Sys2Proof.Machine
end

