-- ==== Sys2Proof/Machine/LogicOps.lean ====
section
/-! DEFINITION. The shared operations of the logic instruction set (R94–R109), each on the context of one instruction. -/

namespace Sys2Proof.Machine
open Sys2Proof

/-- Runs `f` when the operand is well formed for the instruction, and otherwise ends in an opcode fault (R65, R91). -/
def withOpnd (o : Opnd) (spaces : List Nat) (wordOp : Bool) (f : LCtx → LCtx) (c : LCtx) : LCtx :=
  if o.wf spaces wordOp && c.inSpace o then f c else c.fail 2

/-- LD, LDN: a new logic chain (R94). -/
def opLoadBit (neg : Bool) (o : Opnd) : LCtx → LCtx := withOpnd o spBitRead false fun c =>
  let (c1, b, m) := c.readBit o
  c1.setLA (b != neg) m

/-- AND … XORN: LA combined with a bit or its inverse (R94). -/
def opBit (g : Bool → Bool → Bool) (neg : Bool) (o : Opnd) : LCtx → LCtx := withOpnd o spBitRead false fun c =>
  let (c1, b, m) := c.readBit o
  c1.setLA (g c1.t.la (b != neg)) (c1.comb c1.t.lt m)

/-- ST, STN (R94). -/
def opStoreBit (neg : Bool) (o : Opnd) : LCtx → LCtx := withOpnd o spBitStore false fun c => c.storeBit o (c.t.la != neg)

/-- SET, RST: a store only when LA = 1 (R93, R94). -/
def opSetBit (b : Bool) (o : Opnd) : LCtx → LCtx := withOpnd o spBitStore false fun c =>
  if c.t.la then c.storeBit o b else c

/-- Pushes onto the branch stack of 16 entries (R96). -/
def LCtx.push (c : LCtx) (x : StackEnt) : LCtx :=
  if c.t.stack.length ≥ 16 then c.fail 3 else { c with t := { c.t with stack := x :: c.t.stack } }

/-- An opening branch (R95). -/
def opOpen (op : BrOp) (c : LCtx) : LCtx := c.push (.branch c.t.la c.t.lt op)

/-- A branch operation on two bits. -/
def BrOp.ap : BrOp → Bool → Bool → Bool
  | .and, a, b => a && b
  | .or, a, b => a || b
  | .xor, a, b => a != b

/-- The closing branch (R95, R96). -/
def opClose (c : LCtx) : LCtx :=
  match c.t.stack with
  | .branch la lt op :: r =>
    { c with t := { c.t with la := op.ap la c.t.la, lt := c.comb lt c.t.lt, stack := r } }
  | _ => c.fail 3

/-- LW (R97). -/
def opLW (o : Opnd) : LCtx → LCtx := withOpnd o spWordRead true fun c =>
  let (c1, w, m) := c.read o
  { c1 with t := { c1.t with wb := c1.t.wa, tb := c1.t.ta, wa := w, ta := m } }

/-- SW (R97). -/
def opSW (o : Opnd) : LCtx → LCtx := withOpnd o spWordStore true fun c => c.storeWord o

/-- SWAP (R97). -/
def opSwap (c : LCtx) : LCtx := { c with t := { c.t with wa := c.t.wb, ta := c.t.tb, wb := c.t.wa, tb := c.t.ta } }

/-- LXR (R97). -/
def opLXR (c : LCtx) : LCtx :=
  { c with t := { c.t with xr := if c.t.wa.toNat ≤ 32767 then BitVec.ofNat 16 c.t.wa.toNat else 0xFFFF#16 } }

/-- A two-operand integer result (R97, R98). -/
def opInt2 (g : Int → Int → Int) (c : LCtx) : LCtx := c.setInt (g c.t.wb.toInt c.t.wa.toInt) c.wTag

/-- DIV with the exceptions of R98. -/
def opDiv (c : LCtx) : LCtx :=
  let b := c.t.wb.toInt
  let a := c.t.wa.toInt
  if a = 0 then
    c.setWA (if b > 0 then 0x7FFFFFFF else if b < 0 then 0x80000000 else 0) c.wTag true
  else c.setInt (Int.tdiv b a) c.wTag

/-- MOD with the exceptions of R98. -/
def opMod (c : LCtx) : LCtx :=
  let b := c.t.wb.toInt
  let a := c.t.wa.toInt
  if a = 0 then c.setWA 0 c.wTag true
  else if b = -2147483648 ∧ a = -1 then c.setWA 0 c.wTag true
  else c.setWA (BitVec.ofInt 32 (Int.tmod b a)) c.wTag false

/-- A one-operand integer result; tag unchanged (R97, R98). -/
def opInt1 (g : Int → Int) (c : LCtx) : LCtx := c.setInt (g c.t.wa.toInt) c.t.ta

/-- A two-operand binary32 result (R97, R99). -/
def opF2 (g : Nat → Nat → Nat) (c : LCtx) : LCtx := c.setF (g c.t.wb.toNat c.t.wa.toNat) c.wTag

/-- A one-operand binary32 result; tag unchanged but for R99 (R97). -/
def opF1 (g : Nat → Nat) (c : LCtx) : LCtx := c.setF (g c.t.wa.toNat) c.t.ta

/-- ITOF (R97). -/
def opItof (c : LCtx) : LCtx := c.setF (f32.ofInt c.t.wa.toInt) c.t.ta

/-- FTOI: a NaN gives 0, an infinity or an out-of-range value the nearest limit, each an exception (R99). -/
def opFtoi (c : LCtx) : LCtx :=
  match f32.toInt c.t.wa.toNat with
  | none => c.setWA 0 c.t.ta true
  | some x => c.setInt x c.t.ta

/-- A two-operand bitwise result (R97). -/
def opW2 (g : Word → Word → Word) (c : LCtx) : LCtx := c.setWA (g c.t.wb c.t.wa) c.wTag false

/-- A one-operand bitwise result; tag unchanged (R97). -/
def opW1 (g : Word → Word) (c : LCtx) : LCtx := c.setWA (g c.t.wa) c.t.ta false

/-- A comparison into LA; WA and WB unchanged (R97). -/
def opCmp (b : Bool) (c : LCtx) : LCtx := c.setLA b c.wTag

/-- SEL (R97). -/
def opSel (c : LCtx) : LCtx :=
  if c.t.la then c.setWA c.t.wa (c.comb c.t.ta c.t.lt) false else c.setWA c.t.wb (c.comb c.t.tb c.t.lt) false

/-- LTAG (R100). -/
def opLtag (o : Opnd) : LCtx → LCtx := withOpnd o spTagRead true fun c =>
  let (c1, _, m) := c.read o
  let bits : Word := ((m.map tagBits).getD 0).zeroExtend 32
  { c1 with t := { c1.t with wb := c1.t.wa, tb := c1.t.ta, wa := bits, ta := none } }

/-- QCHK (R100). -/
def opQchk (o : Opnd) : LCtx → LCtx := withOpnd o spTagRead true fun c =>
  let (c1, _, m) := c.read o
  c1.setLA ((m.map (fun t => decide (t.q.toNat ≤ 1))).getD true) none

/-- SETQ (R100). -/
def opSetq (q : BitVec 3) (c : LCtx) : LCtx :=
  { c with t := { c.t with ta := some { (c.t.ta.getD (mkTag 0 false 0 false c.origin)) with q := q } } }

/-- Continues at `target`, which must lie inside the program (R91, R102). -/
def LCtx.jump (c : LCtx) (target : BitVec 16) : LCtx := { c with t := { c.t with pc := target.toNat } }

/-- Fabric cycles of the run, `n` more (R112). -/
def LCtx.charge (c : LCtx) (n : Nat) : LCtx := { c with t := { c.t with cost := c.t.cost + n } }

/-- JC, JCN: 4 cycles taken, 2 not taken (R102, R112). -/
def opJumpIf (b : Bool) (target : BitVec 16) (c : LCtx) : LCtx :=
  if c.t.la = b then (c.jump target).charge 4 else c.charge 2

/-- LOOP (R102, R112). -/
def opLoop (target : BitVec 16) (c : LCtx) : LCtx :=
  let w := satI32 (c.t.wa.toInt - 1)
  let c1 := { c with t := { c.t with wa := w } }
  if w.toInt > 0 then (c1.jump target).charge 4 else c1.charge 2

/-- CALL: pushes the next index (R102). -/
def opCall (target : BitVec 16) (c : LCtx) : LCtx :=
  let c1 := c.push (.ret c.t.pc)
  if c1.fault.isSome then c1 else c1.jump target

/-- RET (R96, R102). -/
def opRet (c : LCtx) : LCtx :=
  match c.t.stack with
  | .ret n :: r => { c with t := { c.t with pc := n, stack := r } }
  | _ => c.fail 3

/-- END: ends the run with its exit overhead (R96, R102, R112). -/
def opEnd (c : LCtx) : LCtx :=
  if c.t.stack.isEmpty then
    ({ c with t := { c.t with phase := .done } }).charge (if c.sle then 128 else if c.task = 0 then 32 else 48)
  else c.fail 3

/-- EVT (R102). -/
def opEvt (c : LCtx) : LCtx := { c with raiseEvt := c.t.la }

/-- PT in tier cycles (R104). -/
def presetCycles (pt : Word) (period : Nat) : Word :=
  if pt.toInt ≤ 0 then 0 else BitVec.ofNat 32 (min (cdiv (pt.toNat * 1000) period) (2 ^ 32 - 1))

/-- First step of every evaluation of a T or E instance: delta, STAMP, and the first-evaluation rule (R103, R105). -/
def Inst.begin (i : Inst) (nNow : Word) (inNow : Bool) : Inst × Nat :=
  if i.first then ({ i with inPrev := inNow, stamp := nNow, first := false }, 0)
  else ({ i with stamp := nNow }, (nNow - i.stamp).toNat)

/-- ET_c advanced by delta, held to the preset (R105). -/
def etAdd (et : Word) (delta : Nat) (ptc : Word) : Word := BitVec.ofNat 32 (min (et.toNat + delta) ptc.toNat)

/-- TON of R105. -/
def tonEval (i : Inst) (inNow : Bool) (ptc : Word) (delta : Nat) : Inst :=
  if !inNow then { i with et := 0, out := false }
  else if !i.inPrev then { i with et := 0, out := ptc == 0 }
  else { i with et := etAdd i.et delta ptc, out := (etAdd i.et delta ptc).toNat ≥ ptc.toNat }

/-- TOF of R105. -/
def tofEval (i : Inst) (inNow : Bool) (ptc : Word) (delta : Nat) : Inst :=
  if inNow then { i with et := 0, out := true, run := false }
  else if i.inPrev then { i with et := 0, run := ptc != 0, out := ptc != 0 }
  else if i.run then
    { i with et := etAdd i.et delta ptc, run := (etAdd i.et delta ptc).toNat < ptc.toNat,
             out := (etAdd i.et delta ptc).toNat < ptc.toNat }
  else i

/-- TP of R105 and R106. -/
def tpEval (i : Inst) (inNow : Bool) (ptc : Word) (delta : Nat) : Inst :=
  let i1 :=
    if i.run then
      let et := etAdd i.et delta ptc
      if et.toNat ≥ ptc.toNat then { i with et := et, run := false, out := false } else { i with et := et }
    else if !inNow then { i with et := 0 }
    else i
  if !i1.run && inNow && !i.inPrev then { i1 with et := 0, run := ptc != 0, out := ptc != 0 } else i1

/-- TON, TOF, TP on a timer instance (R103–R106, R111); from an input marked as a constant the instance stores the tag that a store
would, which is the model's choice (assumption log 62). -/
def opTimer (kind : Nat) (ev : Inst → Bool → Word → Nat → Inst) (o : Opnd) : LCtx → LCtx := withOpnd o [4] true fun c =>
  match c.eng.inst? 4 o.word with
  | some i0 =>
    if i0.kind ≠ kind then c.fail 2 else
    let ptc := presetCycles c.t.wa c.period
    let (i1, delta) := i0.begin c.t.nNow c.t.la
    let i2 := ev i1 c.t.la ptc delta
    let m := c.comb c.t.lt c.t.ta
    let i3 := { i2 with inPrev := c.t.la, pt := c.t.wa, ptc := ptc, pus := c.period, tag := c.storeTag m }
    { c with eng := c.eng.setInst i3, t := { c.t with la := i3.out, lt := m } }
  | none => c.fail 2

/-- CTU, CTD on a counter instance (R105, R107, R111). -/
def opCount (up : Bool) (o : Opnd) : LCtx → LCtx := withOpnd o [5] true fun c =>
  match c.eng.inst? 5 o.word with
  | some i0 =>
    let fst := if up then i0.firstU else i0.firstD
    let i1 := if fst then (if up then { i0 with upPrev := c.t.la, firstU := false }
                           else { i0 with dnPrev := c.t.la, firstD := false }) else i0
    let prev := if up then i1.upPrev else i1.dnPrev
    let rise := c.t.la && !prev
    let cv := if rise then
        (if up then (if i1.cv = 0x7FFFFFFF#32 then i1.cv else i1.cv + 1)
         else (if i1.cv = 0x80000000#32 then i1.cv else i1.cv - 1)) else i1.cv
    let out := if up then decide (cv.toInt ≥ c.t.wa.toInt) else decide (cv.toInt ≤ 0)
    let m := c.comb c.t.lt c.t.ta
    let i2 := { i1 with stamp := c.t.nNow, cv := cv, out := out, tag := c.storeTag m,
                        upPrev := if up then c.t.la else i1.upPrev, dnPrev := if up then i1.dnPrev else c.t.la }
    { c with eng := c.eng.setInst i2, t := { c.t with la := out, lt := m } }
  | none => c.fail 2

/-- CRST, CLD: the count becomes `v` when LA = 1 (R107). -/
def opCountSet (load : Bool) (o : Opnd) : LCtx → LCtx := withOpnd o [5] true fun c =>
  match c.eng.inst? 5 o.word with
  | some i =>
    let i1 := { i with stamp := c.t.nNow, cv := if c.t.la then (if load then c.t.wa else 0) else i.cv }
    { c with eng := c.eng.setInst i1 }
  | none => c.fail 2

/-- REDGE, FEDGE on an edge instance (R105, R108, R111). -/
def opEdge (rising : Bool) (o : Opnd) : LCtx → LCtx := withOpnd o [6] true fun c =>
  match c.eng.inst? 6 o.word with
  | some i0 =>
    let (i1, _) := i0.begin c.t.nNow c.t.la
    let out := if rising then c.t.la && !i1.inPrev else i1.inPrev && !c.t.la
    let i2 := { i1 with inPrev := c.t.la, out := out, tag := c.storeTag c.t.lt }
    { c with eng := c.eng.setInst i2, t := { c.t with la := out } }
  | none => c.fail 2

end Sys2Proof.Machine
end

