-- ==== Sys2Proof/Machine/SafOps.lean ====
section
/-! DEFINITION. Shared operations of the safety function: channel faults, output faults, SLE fault, the outputs' state
machine and the delivered input values (R238–R257). -/

namespace Sys2Proof.Machine
open Sys2Proof

/-- Changes one safety input. -/
def modSi (s : State) (n : Fin 16) (f : SiCh → SiCh) : State := { s with saf := { s.saf with si := vmod s.saf.si n f } }
/-- Changes one test-pulse source. -/
def modTp (s : State) (k : Fin 4) (f : TpSrc → TpSrc) : State := { s with saf := { s.saf with tp := vmod s.saf.tp k f } }
/-- Changes one safety output. -/
def modSo (s : State) (k : Fin 8) (f : SoOut → SoOut) : State := { s with saf := { s.saf with so := vmod s.saf.so k f } }

/-- Number of a safety event source (R406). -/
def safSrc (i : Nat) : Nat := 432 + i

/-- MODE of a safety input (R243). -/
def SiCh.mode (c : SiCh) : Nat := fld c.cfg 0 2
/-- The input is pulsed from source `k`. -/
def SiCh.on (c : SiCh) (k : Fin 4) : Bool := c.mode == 1 && fld c.cfg 2 2 == k.val
/-- The other channel of a pair (R246). -/
def mateOf (n : Fin 16) : Fin 16 := ⟨if n.val % 2 = 0 then n.val + 1 else n.val - 1, by split <;> omega⟩
/-- PAIR of an input. -/
def SiCh.paired (c : SiCh) : Bool := bit c.cfg 4
/-- A channel fault stands (R247). -/
def SiCh.fault (c : SiCh) : Bool := !c.pend.isEmpty
/-- The source is used: a pulsed input is assigned to it (R244). -/
def tpUsed (s : State) (k : Fin 4) : Bool := s.saf.si.toList.any (fun c => c.on k)
/-- SAF.CFG.SO_WIRING: 0 single, 1 series, 2 parallel (R256). -/
def soWiring (s : State) : Nat := fld s.saf.cfg 1 2
/-- The output's HS is used by the wiring (R256). -/
def usesHs (s : State) : Bool := !(soWiring s == 1 && s.stn.pairIdPin)
/-- The output's LS is used by the wiring (R256). -/
def usesLs (s : State) : Bool := !(soWiring s == 1 && !s.stn.pairIdPin)

/-! ### Channel faults (R247) -/

/-- A cause of a channel fault arises; the fault latches when none stood. -/
def chFault (s : State) (n : Fin 16) (cause : Nat) : State :=
  let c := s.saf.si[n]
  let p : ChPend := { cause := cause, offNs := 0, offSeen := false, passes := 0 }
  let l := if c.pend.any (fun x => x.cause == cause) then c.pend.map (fun x => if x.cause = cause then p else x)
           else c.pend ++ [p]
  let s1 := modSi s n (fun c => { c with pend := l })
  if c.fault then s1 else raise (modSi s1 n (fun c => { c with latched := true, cnt := satInc c.cnt })) (safSrc 2)

/-- The present level of a channel as it counts for its pair: the unmasked filter level (R245, R246). -/
def SiCh.reading (c : SiCh) : Bool := if c.masked then c.held else c.level

/-- The channel reads its ON level (R246). -/
def onLevel (s : State) (n : Fin 16) : Bool :=
  let c := s.saf.si[n]
  if bit c.cfg 5 && n.val % 2 = 1 then !c.reading else c.reading

/-- The value and tag that SAF delivers for an input (R243, R246–R248). -/
def siValue (s : State) (n : Fin 16) : TWord :=
  let c := s.saf.si[n]
  let m := s.saf.si[mateOf n]
  let t := fun (q : BitVec 3) => mkTag q false 0 true 7
  if c.mode = 0 then { val := 0, tag := t 6 }
  else if c.fault then { val := 0, tag := t 4 }
  else
    let v := if c.paired then onLevel s n && onLevel s (mateOf n) && !m.fault else c.reading
    { val := if v then 1 else 0, tag := t 0 }

/-- One sampler read in the stable-time filter, which starts at OFF (R214, R243). -/
def SiCh.sampler (c : SiCh) (stableNs : Nat) (x : Bool) : SiCh :=
  if x == c.level then { c with run := 0 }
  else if c.run * 2000 ≥ stableNs then { c with level := x, run := 0 }
  else { c with run := c.run + 1 }

/-- Stable time of a safety input (R214, R243). -/
def SiCh.stableNs (c : SiCh) : Nat :=
  match fld c.cfg 8 3 with
  | 0 => 0 | 1 => 100000 | 2 => 1000000 | 3 => 3000000 | 4 => 10000000 | _ => 20000000

/-- One read of 2 µs in the clearing conditions of the pending causes (R247); `tpFree` says that the source has been free
of its TP fault for 10 ms, `bothOff` that both channels of the pair read their OFF levels. -/
def ChPend.read (p : ChPend) (x tpFree bothOff : Bool) : ChPend :=
  let off := if p.cause = 3 then bothOff else if p.cause = 4 then !x && tpFree else !x
  let ns := if off then min (p.offNs + 2000) 10000000 else 0
  { p with offNs := ns, offSeen := p.offSeen || ns = 10000000 }

/-- The sampler reads of one input since the last T0 boundary: the filter and the clearing conditions (R245, R247). -/
def siReads (s : State) (n : Fin 16) (l : List Bool) : State :=
  let c := s.saf.si[n]
  if c.mode = 0 then s else
  let free := c.mode ≠ 1 || (s.saf.tp[(⟨fld c.cfg 2 2 % 4, by omega⟩ : Fin 4)]).freeNs = 10000000
  let both := !onLevel s n && !onLevel s (mateOf n)
  let step := fun (c : SiCh) (x : Bool) =>
    { c.sampler c.stableNs x with pend := c.pend.map (fun p => p.read x free both) }
  let c1 := l.foldl step c
  modSi s n (fun _ => { c1 with pend := c1.pend.filter (fun p => !(p.cause = 3 && p.offSeen)) })

/-- An own-pulse judgement of an input (R245, R247). -/
def judgeOwn (s : State) (n : Fin 16) (k : Fin 4) (x : Bool) : State :=
  let c := s.saf.si[n]
  if !c.before.getLsbD k.val then modSi s n (fun c => { c with stuck := 0 })
  else if x then
    let s1 := modSi s n (fun c => { c with stuck := c.stuck + 1, pend := c.pend.map (fun p => { p with passes := 0 }) })
    if c.stuck + 1 ≥ 2 then chFault s1 n 1 else s1
  else
    modSi s n (fun c =>
      let l := c.pend.map (fun p => if p.offSeen && p.cause ≠ 3 then { p with passes := p.passes + 1 } else p)
      { c with stuck := 0, pend := l.filter (fun p => p.passes < 2) })

/-! ### Outputs -/

/-- An output with both switches off. -/
def SoOut.off (o : SoOut) : SoOut := { o with hs := false, ls := false, dark := none }

/-- USED of an output. -/
def SoOut.used (o : SoOut) : Bool := bit o.cfg 0

/-- A cause of R251 arises: the output goes to FAULT (R252). -/
def soFault (s : State) (k : Fin 8) (cause : Nat) : State :=
  let o := s.saf.so[k]
  if !o.used then s else
  let s1 := modSo s k (fun o => { o.off with
    state := 2, latched := true, pend := if o.pend.contains cause then o.pend else o.pend ++ [cause] })
  if o.state = 2 then s1 else raise s1 (safSrc 4)

/-- A trip of an output in ON: 1 enable request 0, 2 Q ≥ 2, 3 SL+ absent (R252, R367). -/
def soTrip (s : State) (k : Fin 8) (cause : Nat) : State :=
  let s1 := modSo s k (fun o => { o.off with state := 0, tripCnt := satInc o.tripCnt })
  raise (logLedger s1 0x3801 k.val sevNotice ([BitVec.ofNat 8 cause, 0, 0, 0, 0, 0, 0, 0] ++ wB (vget s.stn.cnt 1 0)))
    (safSrc (8 + k.val))

/-- A rejected reset of an output (R253). -/
def soReject (s : State) (k : Fin 8) : State :=
  raise (modSo s k (fun o => { o with rej := true, rejCnt := satInc o.rejCnt, rise := none })) (safSrc 5)

/-- An output switches on after a valid reset pulse of `n` T1 cycles that ended at count `nf` (R252, R253). -/
def soOn (s : State) (k : Fin 8) (n : Nat) (nf : Word) : State :=
  let o := s.saf.so[k]
  let s1 := modSo s k (fun o => { o with state := 1, hs := usesHs s, ls := usesLs s, dark := none })
  logLedger s1 0x3802 k.val sevNotice
    ([BitVec.ofNat 8 (fld o.cfg 1 1), BitVec.ofNat 8 (fld o.cfg 2 4), 0, 0] ++ leN 4 n ++ wB nf)

/-- The reset source of an output as the snapshot of a T1 boundary shows it (R253). -/
def rstSource (s : State) (o : SoOut) : TWord :=
  if fld o.cfg 1 1 = 1 then readBind s o.rst
  else
    let n : Fin 16 := ⟨fld o.cfg 2 4 % 16, by omega⟩
    if isStandby s then (aget s.saf.dist n.val).getD (siValue s n) else siValue s n

/-- What one T1 snapshot makes of an output's reset pulse: the tracker afterwards, and a valid pulse's length, or a
rejection (R253). -/
def trackReset (o : SoOut) (v : Bool) (bad : Bool) (cnt : Word) : SoOut × Option (Option Nat) :=
  let o1 := { o with prev := some v }
  match o.rise with
  | some r =>
    let n := (cnt - r).toNat
    if bad then ({ o1 with rise := none, waitLow := v }, some none)
    else if v then (if n ≥ 50001 then ({ o1 with rise := none, waitLow := true }, some none) else (o1, none))
    else if 500 ≤ n && n ≤ 50000 then ({ o1 with rise := none }, some (some n))
    else ({ o1 with rise := none }, some none)
  | none =>
    if o.waitLow then ({ o1 with waitLow := v }, none)
    else if v && o.prev == some false then
      (if bad then ({ o1 with waitLow := true }, some none) else ({ o1 with rise := some cnt }, none))
    else (o1, none)

/-- The state machine of one output at a T1 boundary (R252, R253). -/
def soEvaluate (s : State) (k : Fin 8) : State :=
  let o := s.saf.so[k]
  if !o.used then s else
  let r := readBind s o.req
  let en := bit r.val 0
  let src := rstSource s o
  let cnt := vget s.stn.cnt 1 0
  let (o1, ev) := trackReset o (bit src.val 0) (src.tag.q.toNat ≥ 2) cnt
  let s1 := modSo s k (fun _ => { o1 with reqNow := en && r.tag.q.toNat ≤ 1 })
  let s2 := match ev with
    | some none => soReject s1 k
    | some (some n) =>
      if o.state = 0 then (if en && r.tag.q.toNat ≤ 1 then soOn s1 k n cnt else soReject s1 k) else s1
    | none => s1
  if o.state = 1 then
    (if !en then soTrip s2 k 1 else if r.tag.q.toNat ≥ 2 then soTrip s2 k 2 else if s.saf.lpGone then soTrip s2 k 3 else s2)
  else s2

/-- Every used output enters TRIPPED at a start of the SLE, but for one with a cause still pending (R251–R253). -/
def soStart (o : SoOut) : SoOut :=
  if o.used then { o.off with state := if o.pend.isEmpty then 0 else 2, prev := none, rise := none, waitLow := false }
  else { o.off with state := 3 }

/-- The value and tag that SAF produces for the state of an output (R248). -/
def soValue (s : State) (k : Fin 8) : TWord :=
  let o := s.saf.so[k]
  { val := if o.state = 1 then 1 else 0, tag := mkTag (if o.state = 2 then 4 else 0) false 0 true 7 }

/-- The variable carries the state of output `k`: writing block 7, writing instance `k`, neither bound to a safety input nor
exported by the SLE (R239, R248; assumption log 72). -/
def isSoVar (s : State) (k : Fin 8) (v : Var) : Bool :=
  v.wblk == 7 && v.winst == k.val && s.saf.so[k].used && !s.saf.si.toList.any (fun c => bindVar c.var == some v.idx)
    && !s.le[(16 : Fin 17)].exports.any (fun w => bindVar w == some v.idx)

/-! ### SLE -/

/-- The code under which the SLE stores the word `v` of address `a` a second time (R240). -/
def sleCode (v : Word) (a : Nat) : Word := (~~~v).rotateLeft (a % 32)
/-- The value that a code stored at address `a` stands for (R240). -/
def sleDecode (c : Word) (a : Nat) : Word := ~~~(c.rotateRight (a % 32))
/-- The shadow checker's comparison fails: the decoded result is not the main one (R240). -/
def checkerMismatch (main coded : Word) (a : Nat) : Bool := sleDecode coded a != main
/-- The code stored beside a value does not decode to it (R240). -/
def codeError (v c : Word) (a : Nat) : Bool := sleDecode c a != v

/-- SLE fault with the cause of R242; `instr` is the instruction index. -/
def sleFault (s : State) (cause instr : Nat) : State :=
  if s.saf.sleFault then s else
  let s1 := { s with
    le := vmod s.le 16 (fun g => { g with running := false, window := false, cyc := { g.cyc with phase := .idle, out := [] } })
    saf := { s.saf with sleFault := true, sleCause := BitVec.ofNat 3 cause, startReq := false } }
  let s2 := (allFin 8).foldl (fun s k => soFault s k 6) s1
  raise (logLedger s2 0x3800 noSrc sevMajor ([BitVec.ofNat 8 cause, 0, 0, 0] ++ leN 2 instr ++ [0, 0] ++ wB (vget s.stn.cnt 1 0)))
    (safSrc 0)

/-- An SLE scan's refresh of the watchdog at its handover (R241). -/
def wdRefresh (s : State) (cnt : Word) : State :=
  if !s.saf.wdOn || cnt = s.saf.wdLast + 1 then { s with saf := { s.saf with wdOn := true, wdLast := cnt } } else s

/-- Every SO and TP switches off: at entry to a reset (R242) and at step 5 of R387. -/
def safOff (s : State) : State :=
  { s with
    le := vmod s.le 16 (fun g => { g with running := false, window := false, cyc := { g.cyc with phase := .idle, out := [] } })
    saf := { s.saf with
      so := s.saf.so.map (fun o => if o.used then { o.off with state := 0 } else o.off)
      tp := s.saf.tp.map (fun t => { t with high := false, pulsing := false, retry := false }), wdOn := false } }

/-- What every start of SAF clears: filters at OFF, masks, pulses and judgements (R243). -/
def SiCh.started (c : SiCh) : SiCh :=
  { c with level := false, run := 0, masked := false, held := false, before := 0, offAt := 0, stuck := 0 }

/-- A cold or warm reset or a wake clears every channel fault and TP fault, and the outputs' causes (R247, R251). -/
def safRestart (s : State) : State :=
  let b := s.saf
  { s with saf := { b with
      si := b.si.map (fun c => { c.started with pend := [] })
      tp := b.tp.map (fun t => { t with high := false, pulsing := false, retry := false, fault := false, cause := 0
                                        freeNs := 10000000 })
      so := b.so.map (fun o => soStart { o with pend := [] }), sleFault := false, sleCause := 0, wdOn := false, wdExpired := false
      startReq := bit b.cfg 0, dist := [] } }

end Sys2Proof.Machine
end

