-- ==== Sys2Proof/Machine/LogicRun.lean ====
section
/-! DEFINITION. Running one instruction on the register set of a task (R85, R86, R112, R239). -/

namespace Sys2Proof.Machine
open Sys2Proof

/-- The run of task `k` of an engine. -/
def Engine.task (g : Engine) (k : Fin 5) : TaskRun := if k = 0 then g.cyc else vget g.evt (k.val - 1) .fresh

/-- The engine with the run of task `k` replaced. -/
def Engine.setTask (g : Engine) (k : Fin 5) (t : TaskRun) : Engine :=
  if k = 0 then { g with cyc := t } else { g with evt := vmodN g.evt (k.val - 1) (fun _ => t) }

/-- An event task of the engine is in its run. -/
def Engine.evtActive (g : Engine) : Bool := g.evt.toList.any (fun t => t.phase == .run)

/-- Task `k` may execute its next instruction: its run is in progress, event tasks go in ascending order, and the cyclic
task stands still once an event-task run has begun (R60, R86). -/
def Engine.mayRun (g : Engine) (k : Fin 5) : Bool :=
  g.running && (g.task k).phase == .run &&
    (if k = 0 then !(g.evtActive && g.evtBegun)
     else (allFin 4).all (fun j => !(j.val < k.val - 1 && g.evt[j].phase == .run)))

/-- What instructions are charged beside their own cost: 2 cycles more in the SLE (R239). -/
def sleCost (e : Fin 17) : Nat := if e.val = 16 then 2 else 0

/-- The context of the next instruction of task `k` of engine `e`, with the instruction index moved on. -/
def logicCtx (s : State) (e : Fin 17) (k : Fin 5) (cost : Nat) : LCtx :=
  let g := s.le[e]
  let t := g.task k
  { eng := g, t := { t with pc := t.pc + 1, cost := t.cost + cost + sleCost e }, sle := e.val == 16, eIdx := e.val,
    task := k.val, period := if k = 0 then tierUs g.tier.toNat else 100, vars := s.vars, idxLog := false,
    raiseEvt := false, fault := none }

/-- Statistics at the end of a cyclic scan (SCAN_LAST, SCAN_MAX, SCAN_CNT, FIRST_SCAN). -/
def Engine.scanEnded (g : Engine) (cost : Nat) : Engine :=
  { g with scanLast := satNat 26 cost, scanMax := bmax g.scanMax (satNat 26 cost), scanCnt := g.scanCnt + 1 : Engine }.flagged

/-- A fault that an instruction met: an engine fault, or an SLE fault in the SLE (R65, R242). -/
def logicFault (s : State) (e : Fin 17) (kind instr : Nat) (evt : Bool) : State :=
  if e.val = 16 then sleFault s 6 instr else engineFault s e kind instr evt

/-- A cyclic task in its run stands before the instruction of an enabled breakpoint (R76). -/
def Engine.atBreak (g : Engine) : Bool := g.bkptEn && g.cyc.phase == .run && g.cyc.pc == g.bkptAddr.toNat

/-- The result of an instruction put back: the engine, the run, the first out-of-range entry of the run (R101), the
program event, and the breakpoint before the next instruction of a cyclic task (R76): a scan that STEP continues freezes there
again when it comes back to it (assumption log 68). -/
def logicLeave (s : State) (e : Fin 17) (k : Fin 5) (instr : Nat) (c : LCtx) : State :=
  let ended := c.t.phase == .done
  let g1 := c.eng.setTask k (if ended && k ≠ 0 then { c.t with phase := .done } else c.t)
  let g2 := if k = 0 then (if ended then g1.scanEnded c.t.cost else g1) else { g1 with evtBegun := g1.evtActive : Engine }.flagged
  let s1 := { s with le := vmod s.le e (fun _ => g2) }
  let s2 := if c.idxLog then logEntry s1 0x1800 e.val sevNotice (leN 2 instr ++ [BitVec.ofNat 8 k.val]) else s1
  let s3 := if c.raiseEvt then raise s2 (304 + 4 * e.val + 3) else s2
  if e.val < 16 && k = 0 && g2.atBreak then freezeEngine s3 e 1 else s3

/-- One instruction of task `k` of engine `e`: `sleOk` says that the SLE has it, and `f` is its effect. An index beyond
the program counts as an undefined opcode (R65, R91). -/
def logicStep (s : State) (e : Fin 17) (k : Fin 5) (cost : Nat) (sleOk : Bool) (f : LCtx → LCtx) : State :=
  let g := s.le[e]
  let instr := (g.task k).pc
  if instr ≥ g.code.length || (e.val == 16 && !sleOk) then logicFault s e 2 instr (k ≠ 0)
  else
    let c := f (logicCtx s e k cost)
    match c.fault with
    | some kind => logicFault s e kind instr (k ≠ 0)
    | none => logicLeave s e k instr c

/-- The instruction at the index of task `k` is `i`: its word stands there (R88). An index beyond the program has no word, and whatever
is met there counts as an undefined opcode (R65, R91). -/
def fetched (s : State) (e : Fin 17) (k : Fin 5) (i : Instr) : Bool :=
  match s.le[e].code[(s.le[e].task k).pc]? with
  | some w => logicWord i == some w
  | none => true

/-- The window of an event task opens 4 µs after the T1 boundary at which it starts (R26, R60, R267); time passes to it. -/
def evtOpens (s : State) (k : Fin 5) : State := if k = 0 then s else passTo s (lastOf s 1 + 4000 + lateOf s (lastOf s 1))

/-- An instruction comes about only while its task may execute, and where it is the next one of the program (R88; assumption log 7). -/
def logicCmd (i : Instr) (s : State) (e : Fin 17) (k : Fin 5) (cost : Nat) (sleOk : Bool) (f : LCtx → LCtx) :
    Host.Outcome State Fault Refusal :=
  guarded s (alive s && s.le[e].mayRun k && fetched s e k i) (fun s => logicStep (evtOpens s k) e k cost sleOk f)

/-- An instruction with an operand: the indexed form costs one cycle more and is not in the SLE (R112, R239). -/
def logicOpnd (i : Instr) (s : State) (e : Fin 17) (k : Fin 5) (cost : Nat) (ix : Bool) (sp : BitVec 4) (ad : BitVec 20)
    (f : Opnd → LCtx → LCtx) : Host.Outcome State Fault Refusal :=
  logicCmd i s e k (cost + b2n ix) (!ix) (f { ix := ix, sp := sp, ad := ad })

/-- The operand of an instance instruction (R106–R108). -/
def instOpnd (sp : BitVec 4) (ad : BitVec 20) : Opnd := { ix := false, sp := sp, ad := ad }

end Sys2Proof.Machine
end

