-- ==== Sys2Proof/Machine/ModeCmds.lean ====
section
/-! DEFINITION. The meanings of the mode, hold and engine commands (R58, R64, R65, R69, R75–R79, R83). -/

namespace Sys2Proof.Machine
open Sys2Proof

/-- Whether a mode command is allowed now (R69): 1 STOP, 2 RUN cold, 3 RUN warm, 4 RUN hot, 5 RELEASE. -/
def modeAllowed (s : State) (cmd : Nat) : Bool :=
  s.img.running.isSome &&
  match cmd with
  | 1 => inRunHold s
  | 2 => s.stn.mode == .stop
  | 3 => s.stn.mode == .stop
  | 4 => s.stn.mode == .stop && !s.stn.faultStop && (s.stn.stopCause == 2#4 || s.stn.stopCause == 6#4)
  | 5 => s.stn.mode == .hold
  | _ => false

/-- A refused mode command: MODE_CMD reads 0, and a Daybook entry records it (R69). -/
def modeRefused (s : State) (cmd sess : Nat) : State :=
  let s1 := { s with stn := { s.stn with modeCmd := 0, runCarried := false } }
  logEntry s1 0x5005 sess sevNotice
    [BitVec.ofNat 8 cmd, BitVec.ofNat 8 s.stn.mode.code, BitVec.ofNat 8 s.stn.stopCause.toNat]

/-- Whether an accepted command is a mode command. -/
def DistCmd.isMode : DistCmd → Bool
  | .mode _ _ => true
  | _ => false

/-- A mode command is accepted now: allowed, not at a standby, and not while STN is quiesced (R69, R394). -/
def modeOk (s : State) (cmd : Nat) : Bool := modeAllowed s cmd && !isStandby s && !s.pwr.quiet.getLsbD 13

/-- A mode command at the supervisor: the first check of R69; a later command replaces one not yet in effect. A refused
command leaves a pending one pending (R394: refused while STN is quiesced). -/
def modeCommand (s : State) (cmd sess : Nat) : State :=
  if cmd = 0 then s
  else if modeOk s cmd then
    let n := { s.stn with modeCmd := BitVec.ofNat 3 cmd, modeSess := sess, runCarried := false,
                          accepted := s.stn.accepted.filter (fun c => !c.isMode) }
    accept { s with stn := n } (.mode (BitVec.ofNat 3 cmd) sess)
  else if s.stn.modeCmd = 0 then modeRefused s cmd sess
  else logEntry s 0x5005 sess sevNotice
    [BitVec.ofNat 8 cmd, BitVec.ofNat 8 s.stn.mode.code, BitVec.ofNat 8 s.stn.stopCause.toNat]

/-- STOP written to STN.MODE_CMD by session `sess` (R69). -/
def execStop (sess : Fin 4) (s : State) : Host.Outcome State Fault Refusal :=
  keyedCmd s sess 0x304 (fun s => modeCommand s 1 sess.val)
/-- RUN cold (R69). -/
def execRunCold (sess : Fin 4) (s : State) : Host.Outcome State Fault Refusal :=
  keyedCmd s sess 0x304 (fun s => modeCommand s 2 sess.val)
/-- RUN warm (R69). -/
def execRunWarm (sess : Fin 4) (s : State) : Host.Outcome State Fault Refusal :=
  keyedCmd s sess 0x304 (fun s => modeCommand s 3 sess.val)
/-- RUN hot (R69). -/
def execRunHot (sess : Fin 4) (s : State) : Host.Outcome State Fault Refusal :=
  keyedCmd s sess 0x304 (fun s => modeCommand s 4 sess.val)
/-- RELEASE (R69). -/
def execRelease (sess : Fin 4) (s : State) : Host.Outcome State Fault Refusal :=
  keyedCmd s sess 0x304 (fun s => modeCommand s 5 sess.val)

/-- Base address of engine `e`'s registers (R4). -/
def leAddr (e : Nat) (o : Nat) : Nat := 0x100000 + e * 0x10000 + o

/-- A breakpoint enable, STEP or FREEZE is accepted (R75). -/
def holdOk (s : State) : Bool := inRunHold s && s.stn.commissioning && s.stn.holdPermit

/-- A write of LE.LE_e.BKPT (R75, R79). -/
def bkptWrite (s : State) (e : Fin 16) (addr : BitVec 16) (en : Bool) : State :=
  if !isStandby s && (!en || holdOk s) then accept s (.bkpt e addr en) else s

/-- A write of LE.LE_e.HOLD_CMD: STEP and RESUME restart the hold timer (R75, R77, R79). -/
def holdWrite (s : State) (e : Fin 16) (cmd : BitVec 2) : State :=
  if cmd = 0 || isStandby s then s
  else if cmd = 2 || holdOk s then
    let s1 := { s with le := vmodN s.le e.val (fun g => { g with holdCmd := cmd }) }
    let s2 := if cmd = 3 then s1 else { s1 with stn := { s1.stn with holdT0 := s1.stn.time } }
    accept s2 (.hold e cmd (refNow s))
  else s

/-- A write of LE.LE_e.CTRL: CLR_STAT and RESTART (R7, R83). -/
def leCtrlWrite (s : State) (e : Fin 16) (clr restart : Bool) : State :=
  let s1 := if clr then { s with le := vmodN s.le e.val (fun g => { g with scanMax := 0, mergeCnt := 0 }) } else s
  if !restart then s1
  else if s1.stn.mode == .run || isStandby s1 then logEntry s1 0x1801 e.val sevNotice [BitVec.ofNat 8 s1.stn.mode.code]
  else accept { s1 with le := vmodN s1.le e.val (fun g => { g with restart := true }) } (.engRestart e)

/-- BREAKPOINT_SET: a session writes LE.LE_e.BKPT (R75). -/
def execBreakpointSet (sess : Fin 4) (e : Fin 16) (addr : BitVec 16) (en : Bool) (s : State) :
    Host.Outcome State Fault Refusal :=
  keyedCmd s sess (leAddr e 0x18) (fun s => bkptWrite s e addr en)
/-- STEP (R76). -/
def execStep (sess : Fin 4) (e : Fin 16) (s : State) : Host.Outcome State Fault Refusal :=
  keyedCmd s sess (leAddr e 0x1C) (fun s => holdWrite s e 1)
/-- RESUME (R76). -/
def execResume (sess : Fin 4) (e : Fin 16) (s : State) : Host.Outcome State Fault Refusal :=
  keyedCmd s sess (leAddr e 0x1C) (fun s => holdWrite s e 2)
/-- FREEZE (R76). -/
def execFreeze (sess : Fin 4) (e : Fin 16) (s : State) : Host.Outcome State Fault Refusal :=
  keyedCmd s sess (leAddr e 0x1C) (fun s => holdWrite s e 3)
/-- LE_CLR_STAT clears SCAN_MAX and MERGE_CNT; the register holds an RWK field, so R10 asks for the window (R7, R10). -/
def execLeClrStat (sess : Fin 4) (e : Fin 16) (s : State) : Host.Outcome State Fault Refusal :=
  keyedCmd s sess (leAddr e 0x28) (fun s => leCtrlWrite s e true false)
/-- ENGINE_RESTART: requested through LE.LE_e.CTRL.RESTART, accepted in STOP and HOLD only (R83). -/
def execEngineRestart (sess : Fin 4) (e : Fin 16) (s : State) : Host.Outcome State Fault Refusal :=
  keyedCmd s sess (leAddr e 0x28) (fun s => leCtrlWrite s e false true)

/-- The instant at which the execution window of an engine's cyclic task opens (R26, R267). -/
def opening (s : State) (e : Fin 17) : Nat :=
  let b := lastOf s s.le[e].tier.toNat
  b + 4000 + lateOf s b

/-- Where the execution window of a tier ends, from its boundary (R26). -/
def windowNs : Nat → Nat
  | 1 => 94000
  | 2 => 990000
  | 3 => 9980000
  | _ => 99900000

/-- The instant at which the window of task `k` of engine `e` ends; event tasks and the SLE have that of T1 (R26, R60, R238). Where the
boundary's set was composed the deadline moves by the delay (R267). -/
def windowEnd (s : State) (e : Fin 17) (k : Fin 5) : Nat :=
  let t := if k = 0 then s.le[e].tier.toNat else 1
  lastOf s t + windowNs t + lateOf s (lastOf s t)

/-- Opens the execution window of a cyclic task (R58 step 2, R76, R85, R86, R112): a new scan from its entry, with the
breakpoint checked before its first instruction, or a scan that continues from a breakpoint. -/
def scanStart (s : State) (e : Fin 17) : State :=
  let s := passTo s (opening s e)
  let g := s.le[e]
  if g.cyc.phase = .resume then
    { s with le := vmod s.le e (fun g => { g with window := false, cyc := { g.cyc with phase := .run } }) }
  else
    let s1 := { s with le := vmod s.le e (fun g =>
      { g with window := false, cyc := { g.cyc with phase := .run, cost := if e.val = 16 then 128 else 32 } }) }
    if e.val < 16 && s1.le[e].atBreak then freezeEngine s1 e 1 else s1

/-- SCAN_START comes about when the window of a frozen snapshot, or of a scan released from a breakpoint, opens and no
event task that started at the same boundary is in its run (R58, R86). -/
def execScanStart (e : Fin 17) (s : State) : Host.Outcome State Fault Refusal :=
  let g := s.le[e]
  guarded s (alive s && g.running && g.window && !g.evtActive && (g.cyc.phase == .ready || g.cyc.phase == .resume))
    (fun s => scanStart s e)

/-- A task that has not finished by the end of its window (R64). -/
def unfinished (s : State) (x : Fin 16 × Fin 5) : Bool :=
  let g := vget s.le x.1.val Engine.unused
  let ph := (g.task x.2).phase
  g.running && !g.frozen && (ph == .ready || ph == .run || ph == .resume)

/-- The earliest end of window among some tasks. -/
def firstEnd (s : State) (l : List (Fin 16 × Fin 5)) : Option Nat :=
  (l.map (fun x => windowEnd s ⟨x.1.val, by omega⟩ x.2)).min?

/-- Those of some tasks that are unfinished and whose windows end first. -/
def overrunning (s : State) (l : List (Fin 16 × Fin 5)) : List (Fin 16 × Fin 5) :=
  let u := l.filter (unfinished s)
  u.filter (fun x => firstEnd s u == some (windowEnd s ⟨x.1.val, by omega⟩ x.2))

/-- Every engine of the list that overruns in this fabric cycle is flagged and raises its event; the lowest is named, by its cyclic
task when that and an event task overrun together (R64, R66; assumption log 68). -/
def taskOverrun (s : State) (l : List (Fin 16 × Fin 5)) : State :=
  let l := overrunning s l
  let s := passTo s ((firstEnd s l).getD 0)
  match (l.mergeSort (fun a b => a.1.val < b.1.val || (a.1 == b.1 && a.2.val ≤ b.2.val))).head? with
  | none => s
  | some (e, k) =>
    let s1 := l.foldl (fun s x =>
      raise { s with le := vmodN s.le x.1.val (fun g => { g with overrun := true }) } (304 + 4 * x.1.val)) s
    let g := vget s.le e.val Engine.unused
    faultStop s1 3 e.val (k ≠ 0) 0 (g.task k).pc (engineCnt s g)

/-- TASK_OVERRUN (R64). -/
def execTaskOverrun (l : List (Fin 16 × Fin 5)) (s : State) : Host.Outcome State Fault Refusal :=
  guarded s (alive s && l.any (unfinished s)) (fun s => taskOverrun s l)

/-- Code of an engine fault in the FAULT_STOP entry (R367). -/
def EngFault.code : EngFault → Nat
  | .ecc => 1
  | .opcode => 2
  | .branchStack => 3

/-- ENGINE_FAULT: an uncorrectable ECC error, an undefined opcode or a branch-stack overflow of a running engine (R65). -/
def execEngineFault (e : Fin 16) (kind : EngFault) (s : State) : Host.Outcome State Fault Refusal :=
  let g := vget s.le e.val Engine.unused
  let evt := g.evtActive && g.evtBegun
  let pc := if evt then (((g.evt.toList.find? (fun t => t.phase == .run)).map (fun t => t.pc)).getD 0) else g.cyc.pc
  guarded s (alive s && g.running) (fun s => engineFault s ⟨e.val, by omega⟩ kind.code pc evt)

/-- HOLD_TIMEOUT: the hold timer, which runs while an engine is frozen, reaches its limit (R77). -/
def execHoldTimeout (s : State) : Host.Outcome State Fault Refusal :=
  guarded s (alive s && anyFrozen s) (fun s => faultStop s 5 noSrc false 0 0 0)

/-- HOLD_PERMIT_CHANGE: the debounced pin takes a level; a fall in HOLD starts the count of R78 and a rise ends it.
A standby counts by the active station's pin (R262). -/
def execHoldPermitChange (level : Bool) (s : State) : Host.Outcome State Fault Refusal :=
  guarded s (alive s) (fun s =>
    { s with stn := { s.stn with holdPermit := level
                                 permitCount := if isStandby s then s.stn.permitCount else !level && s.stn.mode == .hold } })

/-- HOLD_PERMIT_WITHDRAWN: the 10 ms are complete and HOLD has lasted throughout; commanded STOP with cause 6 follows at
the next T1 boundary (R78). -/
def execHoldPermitWithdrawn (s : State) : Host.Outcome State Fault Refusal :=
  guarded s (alive s && !isStandby s && s.stn.permitCount && s.stn.mode == .hold && !s.stn.holdPermit)
    (fun s => accept { s with stn := { s.stn with permitCount := false } } .holdPermitStop)

end Sys2Proof.Machine
end

