-- ==== Sys2Proof/Machine/Crypto.lean ====
section
/-! DEFINITION. The integrity and signing functions of the published standards that the spec names: CRC-32C, CRC-64,
SHA-256, SHA-512, HMAC-SHA-256 and Ed25519 (R271, R330, R340–R343, R371, R382). -/

namespace Sys2Proof.Machine
open Sys2Proof

/-- One bit of the reflected CRC-32C register. -/
def crcBit (c : Nat) : Nat := if c % 2 = 1 then (c / 2) ^^^ 0x82F63B78 else c / 2

/-- One byte into the CRC-32C register. -/
def crcByte (c : Nat) (b : Byte) : Nat :=
  crcBit (crcBit (crcBit (crcBit (crcBit (crcBit (crcBit (crcBit (c ^^^ b.toNat))))))))

/-- CRC-32C of a byte string. -/
def crc32c (l : List Byte) : Word := BitVec.ofNat 32 ((l.foldl crcByte 0xFFFFFFFF) ^^^ 0xFFFFFFFF)

/-- `n` bits of the CRC-64 register with the polynomial 0x42F0_E1EB_A9EA_3693, most significant bit first (R271). -/
def crc64Bits : Nat → Nat → Nat
  | 0, c => c
  | n + 1, c =>
    crc64Bits n (if c ≥ 2 ^ 63 then ((2 * c) % 2 ^ 64) ^^^ 0x42F0E1EBA9EA3693 else 2 * c)

/-- CRC-64 of a list of words, each most significant byte first, initial value and final XOR all ones (R271). -/
def crc64 (l : List Word) : BitVec 64 :=
  BitVec.ofNat 64 ((l.foldl (fun c w => crc64Bits 32 (c ^^^ (w.toNat * 2 ^ 32))) (2 ^ 64 - 1)) ^^^ (2 ^ 64 - 1))

/-- The round constants of SHA-512. -/
def k512 : List Nat := 
  [0x428a2f98d728ae22, 0x7137449123ef65cd, 0xb5c0fbcfec4d3b2f, 0xe9b5dba58189dbbc]
  ++ [0x3956c25bf348b538, 0x59f111f1b605d019, 0x923f82a4af194f9b, 0xab1c5ed5da6d8118]
  ++ [0xd807aa98a3030242, 0x12835b0145706fbe, 0x243185be4ee4b28c, 0x550c7dc3d5ffb4e2]
  ++ [0x72be5d74f27b896f, 0x80deb1fe3b1696b1, 0x9bdc06a725c71235, 0xc19bf174cf692694]
  ++ [0xe49b69c19ef14ad2, 0xefbe4786384f25e3, 0x0fc19dc68b8cd5b5, 0x240ca1cc77ac9c65]
  ++ [0x2de92c6f592b0275, 0x4a7484aa6ea6e483, 0x5cb0a9dcbd41fbd4, 0x76f988da831153b5]
  ++ [0x983e5152ee66dfab, 0xa831c66d2db43210, 0xb00327c898fb213f, 0xbf597fc7beef0ee4]
  ++ [0xc6e00bf33da88fc2, 0xd5a79147930aa725, 0x06ca6351e003826f, 0x142929670a0e6e70]
  ++ [0x27b70a8546d22ffc, 0x2e1b21385c26c926, 0x4d2c6dfc5ac42aed, 0x53380d139d95b3df]
  ++ [0x650a73548baf63de, 0x766a0abb3c77b2a8, 0x81c2c92e47edaee6, 0x92722c851482353b]
  ++ [0xa2bfe8a14cf10364, 0xa81a664bbc423001, 0xc24b8b70d0f89791, 0xc76c51a30654be30]
  ++ [0xd192e819d6ef5218, 0xd69906245565a910, 0xf40e35855771202a, 0x106aa07032bbd1b8]
  ++ [0x19a4c116b8d2d0c8, 0x1e376c085141ab53, 0x2748774cdf8eeb99, 0x34b0bcb5e19b48a8]
  ++ [0x391c0cb3c5c95a63, 0x4ed8aa4ae3418acb, 0x5b9cca4f7763e373, 0x682e6ff3d6b2b8a3]
  ++ [0x748f82ee5defb2fc, 0x78a5636f43172f60, 0x84c87814a1f0ab72, 0x8cc702081a6439ec]
  ++ [0x90befffa23631e28, 0xa4506cebde82bde9, 0xbef9a3f7b2c67915, 0xc67178f2e372532b]
  ++ [0xca273eceea26619c, 0xd186b8c721c0c207, 0xeada7dd6cde0eb1e, 0xf57d4f7fee6ed178]
  ++ [0x06f067aa72176fba, 0x0a637dc5a2c898a6, 0x113f9804bef90dae, 0x1b710b35131c471b]
  ++ [0x28db77f523047d84, 0x32caab7b40c72493, 0x3c9ebe0a15c9bebc, 0x431d67c49c100d4c]
  ++ [0x4cc5d4becb3e42b6, 0x597f299cfc657e2a, 0x5fcb6fab3ad6faec, 0x6c44198c4a475817]

/-- The round constants of SHA-256. -/
def k256 : List Nat := 
  [0x428a2f98, 0x71374491, 0xb5c0fbcf, 0xe9b5dba5, 0x3956c25b, 0x59f111f1, 0x923f82a4, 0xab1c5ed5]
  ++ [0xd807aa98, 0x12835b01, 0x243185be, 0x550c7dc3, 0x72be5d74, 0x80deb1fe, 0x9bdc06a7, 0xc19bf174]
  ++ [0xe49b69c1, 0xefbe4786, 0x0fc19dc6, 0x240ca1cc, 0x2de92c6f, 0x4a7484aa, 0x5cb0a9dc, 0x76f988da]
  ++ [0x983e5152, 0xa831c66d, 0xb00327c8, 0xbf597fc7, 0xc6e00bf3, 0xd5a79147, 0x06ca6351, 0x14292967]
  ++ [0x27b70a85, 0x2e1b2138, 0x4d2c6dfc, 0x53380d13, 0x650a7354, 0x766a0abb, 0x81c2c92e, 0x92722c85]
  ++ [0xa2bfe8a1, 0xa81a664b, 0xc24b8b70, 0xc76c51a3, 0xd192e819, 0xd6990624, 0xf40e3585, 0x106aa070]
  ++ [0x19a4c116, 0x1e376c08, 0x2748774c, 0x34b0bcb5, 0x391c0cb3, 0x4ed8aa4a, 0x5b9cca4f, 0x682e6ff3]
  ++ [0x748f82ee, 0x78a5636f, 0x84c87814, 0x8cc70208, 0x90befffa, 0xa4506ceb, 0xbef9a3f7, 0xc67178f2]

/-- The start value of SHA-512. -/
def h512 : List Nat := 
  [0x6a09e667f3bcc908, 0xbb67ae8584caa73b, 0x3c6ef372fe94f82b, 0xa54ff53a5f1d36f1]
  ++ [0x510e527fade682d1, 0x9b05688c2b3e6c1f, 0x1f83d9abfb41bd6b, 0x5be0cd19137e2179]

/-- The start value of SHA-256. -/
def h256 : List Nat := 
  [0x6a09e667, 0xbb67ae85, 0x3c6ef372, 0xa54ff53a, 0x510e527f, 0x9b05688c, 0x1f83d9ab, 0x5be0cd19]

/-- Rotation right of a `w`-bit number. -/
def rotr (w n x : Nat) : Nat := (x / 2 ^ n) + (x % 2 ^ n) * 2 ^ (w - n)

/-- What tells SHA-256 and SHA-512 apart: word width and the amounts of Σ0, Σ1, σ0, σ1 (the last of each σ a shift). -/
structure ShaPar where
  w : Nat
  s0 : Nat × Nat × Nat
  s1 : Nat × Nat × Nat
  t0 : Nat × Nat × Nat
  t1 : Nat × Nat × Nat

/-- Amounts of SHA-256. -/
def par256 : ShaPar := { w := 32, s0 := (2, 13, 22), s1 := (6, 11, 25), t0 := (7, 18, 3), t1 := (17, 19, 10) }
/-- Amounts of SHA-512. -/
def par512 : ShaPar := { w := 64, s0 := (28, 34, 39), s1 := (14, 18, 41), t0 := (1, 8, 7), t1 := (19, 61, 6) }

/-- Three rotations combined. -/
def rot3 (w : Nat) (a : Nat × Nat × Nat) (x : Nat) : Nat := rotr w a.1 x ^^^ rotr w a.2.1 x ^^^ rotr w a.2.2 x
/-- Two rotations and a shift combined. -/
def rot2s (w : Nat) (a : Nat × Nat × Nat) (x : Nat) : Nat := rotr w a.1 x ^^^ rotr w a.2.1 x ^^^ (x / 2 ^ a.2.2)

/-- The message schedule, newest word first, extended by `n` words. -/
def shaSched (p : ShaPar) : Nat → List Nat → List Nat
  | 0, ws => ws
  | n + 1, ws =>
    let v := (rot2s p.w p.t1 (ws.getD 1 0) + ws.getD 6 0 + rot2s p.w p.t0 (ws.getD 14 0) + ws.getD 15 0) % 2 ^ p.w
    shaSched p n (v :: ws)

/-- One round on the eight working words. -/
def shaRound (p : ShaPar) (v : List Nat) (kw : Nat × Nat) : List Nat :=
  match v with
  | [a, b, c, d, e, f, g, h] =>
    let m := 2 ^ p.w
    let t1 := h + rot3 p.w p.s1 e + ((e &&& f) ^^^ ((m - 1 - e) &&& g)) + kw.1 + kw.2
    let t2 := rot3 p.w p.s0 a + ((a &&& b) ^^^ (a &&& c) ^^^ (b &&& c))
    [(t1 + t2) % m, a, b, c, (d + t1) % m, e, f, g]
  | _ => v

/-- One block of 16 words into the hash value. -/
def shaBlock (p : ShaPar) (ks : List Nat) (h : List Nat) (blk : List Byte) : List Nat :=
  let ws := (chunks (p.w / 8) blk).map ofBe
  let sch := (shaSched p (ks.length - 16) ws.reverse).reverse
  let v := (ks.zip sch).foldl (shaRound p) h
  (h.zip v).map (fun q => (q.1 + q.2) % 2 ^ p.w)

/-- The message padded to whole blocks. -/
def shaPad (blk lenB : Nat) (l : List Byte) : List Byte :=
  let z := (blk - (l.length + 1 + lenB) % blk) % blk
  l ++ [0x80#8] ++ List.replicate z 0#8 ++ beN lenB (8 * l.length)

/-- SHA-256, 32 bytes. -/
def sha256 (l : List Byte) : List Byte :=
  ((chunks 64 (shaPad 64 8 l)).foldl (shaBlock par256 k256) h256).flatMap (beN 4)

/-- SHA-512, 64 bytes. -/
def sha512 (l : List Byte) : List Byte :=
  ((chunks 128 (shaPad 128 16 l)).foldl (shaBlock par512 k512) h512).flatMap (beN 8)

/-- HMAC-SHA-256 under a key of at most 64 bytes. -/
def hmac (key msg : List Byte) : List Byte :=
  let k := fit 64 key
  sha256 (k.map (· ^^^ 0x5C#8) ++ sha256 (k.map (· ^^^ 0x36#8) ++ msg))

/-- The field prime of edwards25519. -/
def edP : Nat := 2 ^ 255 - 19
/-- The group order. -/
def edL : Nat := 2 ^ 252 + 27742317777372353535851937790883648493

/-- Modular power, square and multiply over `n` bits of the exponent. -/
def powMod (m : Nat) : Nat → Nat → Nat → Nat
  | 0, _, _ => 1 % m
  | n + 1, b, e => let r := powMod m n (b * b % m) (e / 2); if e % 2 = 1 then r * b % m else r

/-- The inverse modulo the field prime. -/
def edInv (x : Nat) : Nat := powMod edP 255 x (edP - 2)

/-- The curve constant d. -/
def edD : Nat := (edP - 121665) * edInv 121666 % edP

/-- A point in extended coordinates. -/
abbrev EdPt := Nat × Nat × Nat × Nat

/-- Point addition. -/
def edAdd (a b : EdPt) : EdPt :=
  let (x1, y1, z1, t1) := a
  let (x2, y2, z2, t2) := b
  let ua := (y1 + edP - x1) * (y2 + edP - x2) % edP
  let ub := (y1 + x1) * (y2 + x2) % edP
  let uc := 2 * t1 * t2 * edD % edP
  let ud := 2 * z1 * z2 % edP
  let e := ub + edP - ua
  let f := ud + edP - uc
  let g := ud + uc
  let h := ub + ua
  (e * f % edP, g * h % edP, f * g % edP, e * h % edP)

/-- Scalar multiple over `n` bits of the scalar. -/
def edMul : Nat → Nat → EdPt → EdPt
  | 0, _, _ => (0, 1, 1, 0)
  | n + 1, k, q => let r := edMul n (k / 2) (edAdd q q); if k % 2 = 1 then edAdd r q else r

/-- The point that 32 bytes encode, none when they encode no point. -/
def edDecode (l : List Byte) : Option EdPt :=
  let v := ofLe l
  let sgn := v / 2 ^ 255 % 2
  let y := v % 2 ^ 255
  if l.length ≠ 32 || y ≥ edP then none else
    let u := (y * y + edP - 1) % edP
    let w := (edD * y * y + 1) % edP
    let x2 := u * edInv w % edP
    let x0 := powMod edP 255 x2 ((edP + 3) / 8)
    let x1 := if x0 * x0 % edP = x2 then x0 else x0 * powMod edP 255 2 ((edP - 1) / 4) % edP
    if x1 * x1 % edP ≠ x2 then none
    else if x1 = 0 ∧ sgn = 1 then none
    else
      let x := if x1 % 2 = sgn then x1 else edP - x1
      some (x, y, 1, x * y % edP)

/-- The base point. -/
def edBase : EdPt :=
  let y := 4 * edInv 5 % edP
  match edDecode (leN 32 y) with
  | some p => p
  | none => (0, 1, 1, 0)

/-- Whether two points are the same. -/
def edEq (a b : EdPt) : Bool :=
  (a.1 * b.2.2.1 + edP * edP - b.1 * a.2.2.1) % edP == 0
    && (a.2.1 * b.2.2.1 + edP * edP - b.2.1 * a.2.2.1) % edP == 0

/-- Ed25519 verification of a 64-byte signature. -/
def edVerify (key msg sig : List Byte) : Bool :=
  let r := sig.take 32
  let s := ofLe (sub sig 32 32)
  match edDecode key, edDecode r with
  | some a, some rp =>
    sig.length == 64 && s < edL &&
      (let k := ofLe (sha512 (r ++ key ++ msg)) % edL
       edEq (edMul 253 s edBase) (edAdd rp (edMul 253 k a)))
  | _, _ => false

end Sys2Proof.Machine
end

