-- ==== Sys2Proof/Machine/Digest.lean ====
section
/-! DEFINITION. The partitions of the deterministic state and their digests (R271). A partition's covered state stands in a State of
which every other field has its reset value. -/

namespace Sys2Proof.Config
open Sys2Proof.Machine

/-- The words of a partition of R271 in ascending address order, as a function of the state it covers: the spec lists what each
partition covers and gives no layout (R271; assumption log 16). -/
opaque partitionWords : Nat → State → List Word

end Sys2Proof.Config

namespace Sys2Proof.Machine
open Sys2Proof

/-- Modes, tier counts, hold timer, force table, on-line change state and RETAIN halves. Of an on-line change the two stations share
what the carried COMMIT has fixed and the commits made; staging, checking and persisting are each station's own (R117, R128). -/
def Stn.covered (n : Stn) (frozen : Bool) : Stn :=
  { Stn.reset with
    mode := n.mode, faultStop := n.faultStop, stopCause := n.stopCause, ovrEngine := n.ovrEngine, ovrEvent := n.ovrEvent
    lastStart := n.lastStart, runCarried := n.runCarried, autoStart := n.autoStart, cnt := n.cnt, holdTmo := n.holdTmo
    holdT0 := if frozen then n.time - n.holdT0 else 0
    forces := n.forces, olcCount := n.olcCount, olcTier := n.olcTier, olcGen := n.olcGen, staged := if n.olcFixed then n.staged else []
    olcFixed := n.olcFixed, retainSeq := n.retainSeq, retHalf := n.retHalf, halves := n.halves, dirs := n.dirs, retDir := n.retDir }

/-- M, W, instances and task state of an engine; triggers are each station's own until the set carries their starts (R62). -/
def Engine.covered (g : Engine) : Engine :=
  { Engine.unused with
    m := g.m, w := g.w, insts := g.insts, cyc := g.cyc, evt := g.evt, running := g.running, frozen := g.frozen
    frozenBy := g.frozenBy, released := g.released, freezeReq := g.freezeReq, stepOne := g.stepOne, firstCyc := g.firstCyc
    firstEvt := g.firstEvt, window := g.window, bkptAddr := g.bkptAddr, bkptEn := g.bkptEn }

/-- Addresses of a slot's memory that the QP partition covers: SIG, STATE, the returned iterate, the check references and the factor
(R164, R187). -/
def qpCovers (a : Nat) : Bool :=
  (0x30 ≤ a && a < 0x34) || (0x3C ≤ a && a < 0x40) || (0x7540 ≤ a && a < 0x7E40) || (0x8680 ≤ a && a < 0xF340)

/-- What R187 lists of a timed slot; of any other slot nothing. -/
def QSlot.covered (q : QSlot) : QSlot :=
  if 1 ≤ q.tier.toNat && q.tier.toNat ≤ 4 then
    { QSlot.unused with
      mem := q.mem.filter (fun c => qpCovers c.1), facKey := q.facKey, facFloored := q.facFloored, itSig := q.itSig
      status := q.status, wsRej := q.wsRej, cold := q.cold, pivotFixed := q.pivotFixed, refact := q.refact, iter := q.iter, pivFirst := q.pivFirst, pivCount := q.pivCount }
  else QSlot.unused

/-- Marks, arm states and fire counts of an event (R208). -/
def AEvt.covered (e : AEvt) : AEvt :=
  { AEvt.unused with mark := e.mark, armed := e.armed, armMode := e.armMode, seqTaken := e.seqTaken, fireCnt := e.fireCnt }

/-- Latched command and PWM phase of an output. -/
def Pt.covered (p : Pt) : Pt :=
  if [2, 4, 7].contains (fld p.cfg 0 4) then
    { Pt.unused with smp := p.smp, eff := p.eff, pwmDue := p.pwmDue, pwmRun := p.pwmRun, duty := p.duty, onNs := p.onNs }
  else Pt.unused

/-- SAF and SLE state (R255). -/
def SafBlk.covered (f : SafBlk) : SafBlk :=
  { SafBlk.reset with
    sleFault := f.sleFault, sleCause := f.sleCause, startReq := f.startReq, wdOn := f.wdOn, wdLast := f.wdLast, wdExpired := f.wdExpired
    so := f.so }

/-- Time-triggered schedule state and transmit buffers; transmission progress, and with it the requests still pending, lies
outside (R310). -/
def CanCtl.covered (c : CanCtl) : CanCtl :=
  { CanCtl.reset with cycle := c.cycle, bufs := c.bufs, prev := c.prev, runNew := c.runNew }

/-- Receive state without the port counters (R323). -/
def RxTel.portless (x : RxTel) : RxTel := { x with missA := 0, missB := 0, errA := 0, errB := 0, late := 0 }

/-- What partition `p` of R271 covers of a station's state, in a state that is otherwise the one after reset. -/
def covered (s : State) (p : Nat) : State :=
  let o := State.reset
  match p with
  | 0 => { o with stn := s.stn.covered (anyFrozen s) }
  | 1 => { o with vars := s.vars, le := (s.le.map Engine.covered).set 16 Engine.unused }
  | 2 => { o with lp := s.lp }
  | 3 => { o with qp := { o.qp with slots := s.qp.slots.map QSlot.covered } }
  | 4 => { o with ang := { o.ang with evt := s.ang.evt.map AEvt.covered } }
  | 5 => { o with fld := { o.fld with
      pts := s.fld.pts.map Pt.covered
      banks := s.fld.banks.map (fun b => { Bank.reset with open_ := b.open_, drive := b.drive, closeCnt := b.closeCnt }) } }
  | 6 => { o with saf := s.saf.covered, le := o.le.set 16 s.le[16].covered }
  | 7 => { o with can := { o.can with ctl := s.can.ctl.map CanCtl.covered } }
  | 8 => { o with net := { o.net with tx := s.net.tx, rx := s.net.rx.map (Option.map RxTel.portless) } }
  | _ => { o with evr := { o.evr with queue := s.evr.queue } }

/-- The ten digests of a station (R271). -/
def digestsOf (s : State) : List (BitVec 64) := (List.range 10).map (fun p => crc64 (Config.partitionWords p (covered s p)))

end Sys2Proof.Machine
end

