-- ==== Sys2Proof/Machine/Image.lean ====
section
/-! DEFINITION. The layout of a Jamexa image (R336–R342, R346): header, section table, records, and the checks of R344
with codes 1 to 9 and the record format of code 10. -/

namespace Sys2Proof.Machine
open Sys2Proof

/-- A used entry of the section table (R338). -/
structure Sect where
  type : Nat
  fmt : Nat
  ofs : Nat
  len : Nat
  crc : Word
deriving DecidableEq, Repr

/-- The section-table entry `i` (R338). -/
def sectEntry (b : List Byte) (i : Nat) : Sect :=
  let o := 0x40 + 16 * i
  { type := rd b o 2, fmt := rd b (o + 2) 2, ofs := rd b (o + 4) 4, len := rd b (o + 8) 4, crc := rdW b (o + 12) }

/-- SEC_COUNT (R337). -/
def secCount (b : List Byte) : Nat := rd b 0x21 1

/-- The used entries of the section table. -/
def sects (b : List Byte) : List Sect := (List.range (min (secCount b) 12)).map (sectEntry b)

/-- The bytes of the section of a type, empty when it is absent. -/
def sectionOf (b : List Byte) (type : Nat) : Option (List Byte) :=
  ((sects b).find? (fun x => x.type == type)).map (fun x => sub b x.ofs x.len)

/-- The bytes of a section, none of them when it is absent. -/
def sectBytes (b : List Byte) (type : Nat) : List Byte := (sectionOf b type).getD []

/-- IMAGE_ID (R337). -/
def imageId (b : List Byte) : Nat := rd b 0x10 8
/-- PROFILE (R337). -/
def imageProfile (b : List Byte) : Nat := rd b 0x20 1
/-- FLAGS.COMMISSIONING (R337). -/
def imageCommissioning (b : List Byte) : Bool := rd b 0x0E 2 % 2 == 1
/-- SIG_OFS (R337). -/
def sigOfs (b : List Byte) : Nat := rd b 0x28 4

/-- The first multiple of 64 at or after `n` (R336). -/
def up64 (n : Nat) : Nat := (n + 63) / 64 * 64

/-- Checks of R344 with codes 1 to 3, on a header. -/
def headerCode (b : List Byte) : Nat :=
  if sub b 0 4 ≠ [0x4A#8, 0x4D#8, 0x58#8, 0x41#8] || rd b 4 2 ≠ 1 || rd b 6 2 ≠ 256 then 1
  else if crc32c (sub b 0 0x3C ++ [0, 0, 0, 0] ++ sub b 0x40 192) ≠ rdW b 0x3C then 2
  else if rd b 8 4 ≠ 0x00960001 || rd b 0x0C 2 > Config.hwIssue.toNat then 3
  else 0

/-- Whether the sections follow the packing of R336, from offset `o`, with zeros between them; answers where the
signature block must stand. -/
def packed (b : List Byte) : List Sect → Nat → Option Nat
  | [], o => some o
  | x :: r, o =>
    if x.ofs = o && allZero (sub b (o + x.len) (up64 (o + x.len) - (o + x.len))) then packed b r (up64 (o + x.len))
    else none

/-- The section table keeps R336, R338 and R339 (code 6). -/
def tableOk (b : List Byte) : Bool :=
  let n := secCount b
  let xs := sects b
  2 ≤ n && n ≤ 11
    && xs.all (fun x => 1 ≤ x.type && x.type ≤ 11 && x.fmt == 1 && 1 ≤ x.len)
    && (xs.map (fun x => x.type)).Nodup
    && xs.any (fun x => x.type == 1) && xs.any (fun x => x.type == 2)
    && allZero (sub b (0x40 + 16 * n) (192 - 16 * n))
    && allZero (sub b 0x22 2) && allZero (sub b 0x30 12) && rd b 0x0E 2 < 2
    && packed b xs 0x100 == some (sigOfs b)

/-- The image signature verifies under its key (R341; code 8). -/
def sigOk (keys : Vector (List Byte) 4) (b : List Byte) : Bool :=
  let blk := sub b (sigOfs b) 96
  let k := vget keys (rd blk 4 1) []
  sub blk 0 4 == [0x4A#8, 0x53#8, 0x49#8, 0x47#8] && allZero (sub blk 5 27) && !allZero k
    && edVerify k (sha512 (b.take (sigOfs b + 0x20))) (sub blk 0x20 64)

/-- The digest of a SAFETY section (R342). -/
def safDigest (x : List Byte) : List Byte := sha512 (x.take (x.length - 64))

/-- The safety trailer and signature are right, or there is no SAFETY section (R342; code 9). -/
def safSigOk (keys : Vector (List Byte) 2) (b : List Byte) : Bool :=
  match sectionOf b 4 with
  | none => true
  | some x =>
    let t := sub x (x.length - 80) 80
    let k := vget keys (rd t 4 1) []
    x.length ≥ 80 && sub t 0 4 == [0x4A#8, 0x53#8, 0x41#8, 0x46#8] && allZero (sub t 5 11) && !allZero k
      && edVerify k (safDigest x) (sub t 16 64)

/-- A record of a section (R346). -/
structure Rec where
  rtype : Nat
  inst : Nat
  body : List Byte
deriving DecidableEq, Repr

/-- The records of a section, none when the record format is broken (R346). -/
def parseRecs : Nat → List Byte → Option (List Rec)
  | _, [] => some []
  | 0, _ => none
  | n + 1, l =>
    let len := rd l 4 4
    let pad := (4 - len % 4) % 4
    if l.length < 8 + len + pad || !allZero (sub l (8 + len) pad) then none
    else (parseRecs n (l.drop (8 + len + pad))).map
      (fun r => { rtype := rd l 0 2, inst := rd l 2 2, body := sub l 8 len } :: r)

/-- The record bytes of a section: the SAFETY section ends in its trailer, which is not a record (R346). -/
def recBytes (type : Nat) (x : List Byte) : List Byte := if type = 4 then x.take (x.length - 80) else x

/-- The records of the section of a type; none of them when it is absent. -/
def recs (b : List Byte) (type : Nat) : List Rec :=
  match sectionOf b type with
  | none => []
  | some x => (parseRecs x.length (recBytes type x)).getD []

/-- The body of a record. -/
def recBody (l : List Rec) (rtype inst : Nat) : Option (List Byte) :=
  (l.find? (fun r => r.rtype == rtype && r.inst == inst)).map (fun r => r.body)

/-- Records stand in ascending RTYPE and INST, none twice (R346). -/
def recsOrdered : List Rec → Bool
  | a :: b :: r => (a.rtype < b.rtype || (a.rtype == b.rtype && a.inst < b.inst)) && recsOrdered (b :: r)
  | _ => true

/-- Number of instances an RTYPE has (R347–R351); 0 for an RTYPE that is not listed. -/
def recInsts (rtype : Nat) : Nat :=
  match rtype with
  | 0x0101 => 1 | 0x0102 => 1
  | 0x0201 => 8 | 0x0202 => 96
  | 0x0301 => 1 | 0x0302 => 16 | 0x0303 => 16 | 0x0304 => 16 | 0x0305 => 16 | 0x0306 => 16 | 0x0307 => 16
  | 0x0308 => 16 | 0x0309 => 16
  | 0x0401 => 1 | 0x0402 => 1 | 0x0403 => 1 | 0x0404 => 1 | 0x0405 => 1 | 0x0406 => 1 | 0x0407 => 1
  | 0x0408 => 16 | 0x0409 => 8 | 0x040A => 64 | 0x040B => 128
  | 0x0501 => 192 | 0x0502 => 192 | 0x0503 => 192 | 0x0504 => 384
  | 0x0601 => 8 | 0x0602 => 64 | 0x0603 => 64 | 0x0604 => 64
  | 0x0701 => 8 | 0x0702 => 2 | 0x0703 => 128
  | 0x0801 => 8 | 0x0802 => 2048 | 0x0803 => 8 | 0x0804 => 3 | 0x0805 => 1 | 0x0806 => 64 | 0x0807 => 128
  | 0x0901 => 1 | 0x0902 => 65536 | 0x0903 => 1
  | 0x0A01 => 1
  | 0x0B01 => 1
  | _ => 0

/-- A record's body has the length of its table (R347–R351). -/
def recLenOk (r : Rec) : Bool :=
  let n := r.body.length
  match r.rtype with
  | 0x0101 => n % 20 == 0 | 0x0102 => n == 2048
  | 0x0201 => n == 8 | 0x0202 => n == 24
  | 0x0301 => n == 4 | 0x0302 => n == 44
  | 0x0303 => n % 4 == 0 | 0x0304 => n % 4 == 0 | 0x0305 => n % 4 == 0 | 0x0306 => n % 4 == 0
  | 0x0307 => n % 8 == 0 | 0x0308 => n % 8 == 0 | 0x0309 => n % 8 == 0
  | 0x0401 => n == 24
  | 0x0402 => n % 4 == 0 | 0x0403 => n % 4 == 0 | 0x0404 => n % 4 == 0 | 0x0405 => n % 4 == 0
  | 0x0406 => n % 8 == 0 | 0x0407 => n % 8 == 0
  | 0x0408 => n == 8 | 0x0409 => n == 12
  | 0x040A => n == 20 + 4 * rd r.body 5 1 | 0x040B => n == 12 + 8 * rd r.body 6 1
  | 0x0501 => n == 108 | 0x0502 => n % 8 == 0 | 0x0503 => n % 12 == 0 | 0x0504 => n == 1028
  | 0x0601 => n == 4 | 0x0602 => n == 34372 | 0x0603 => n % 4 == 0 | 0x0604 => n ≥ 34376 && n % 4 == 0
  | 0x0701 => n == 40 | 0x0702 => n == 4 | 0x0703 => n == 32
  | 0x0801 => n == 48 | 0x0802 => n == 24 + 8 * rd r.body 20 2 | 0x0803 => n % 8 == 0 | 0x0804 => n == 16
  | 0x0805 => n == 8 + 8 * rd r.body 6 1
  | 0x0806 => n == 20 + 4 * rd r.body 5 1 | 0x0807 => n == 12 + 8 * rd r.body 6 1
  | 0x0901 => n == 4 | 0x0902 => n == 8 + 8 * rd r.body 4 2 | 0x0903 => n % 4 == 0
  | 0x0A01 => n == 12
  | 0x0B01 => n == 4
  | _ => false

/-- The fields an image sets in the register words of a record, as (offset, mask); every other bit is 0 (R346). -/
def recMasks (rtype : Nat) : List (Nat × Nat) :=
  match rtype with
  | 0x0201 => [(0, 0x1FFF), (4, 0xFFFF)]
  | 0x0202 => [(0, 0x3FFFF), (8, 0xFFFFFF)]
  | 0x0301 => [(0, 0x0103)]
  | 0x0302 => [(0, 0x1FFFF77)]
  | 0x0401 => [(0, 0x3F00F7)]
  | 0x0408 => [(0, 0xFFF7FF)]
  | 0x0409 => [(0, 0x3F)]
  | 0x0501 => [(0, 0x3FFFFFFF), (4, 0xFFFFFF), (8, 0xFFFFF)]
  | 0x0701 => [(0, 0x1FFFFFFF), (4, 0xFFFFF)]
  | 0x0702 => [(0, 0xFFFF)]
  | 0x0703 => [(0, 0x7FFF), (8, 0x7FFFFFF)]
  | 0x0801 => [(0, 0xFFF), (4, 0x7FFFFFF), (8, 0x7FFFFFF), (12, 0xF3F), (16, 0x1FF), (20, 0x1FFFFFFF), (24, 0x1FFFFFFF)]
  | 0x0901 => [(0, 0xFFFF011F)]
  | 0x0A01 => [(0, 1)]
  | 0x0B01 => [(0, 7)]
  | _ => []

/-- The bytes of a record that its table gives as 0 or leaves unnamed, as (offset, length) (R346). -/
def recZeros (r : Rec) : List (Nat × Nat) :=
  let b := r.body
  match r.rtype with
  | 0x0101 => (List.range (b.length / 20)).map (fun i => (20 * i + 14, 2))
  | 0x0504 => [(3, 1)]
  | 0x0602 => [(1, 3)]
  | 0x0604 => [(2, 2)]
  | 0x0801 => [(46, 2)]
  | 0x0802 => [(22, 2)]
  | 0x0804 => if r.inst = 2 then [(8, 4)] else []
  | 0x0805 => (7, 1) :: (List.range (rd b 6 1)).map (fun i => (14 + 8 * i, 2))
  | 0x0806 | 0x040A => [(18, 2)]
  | 0x0807 | 0x040B => [(7, 1)]
  | 0x0A01 => [(1, 3), (10, 2)]
  | 0x0B01 => [(1, 3)]
  | _ => []

/-- The flag bytes of a record, as (offset, bound): the bits that its table leaves unnamed are 0 (R346). -/
def recFlags (rtype : Nat) (b : List Byte) : List (Nat × Nat) :=
  match rtype with
  | 0x0101 => (List.range (b.length / 20)).map (fun i => (20 * i + 9, 4))
  | 0x0308 | 0x0407 => (List.range (b.length / 8)).map (fun i => (8 * i + 5, 2))
  | 0x0802 => (8, 64) :: (List.range (rd b 20 2)).map (fun i => (27 + 8 * i, 4))
  | 0x0805 => [(5, 16)]
  | 0x0901 => [(1, 2)]
  | 0x0A01 => [(0, 2)]
  | _ => []

/-- The offsets of a record's binding words (R348–R351). -/
def recBinds (rtype : Nat) (b : List Byte) : List Nat :=
  let every := fun (ofs step : Nat) => (List.range ((b.length - ofs) / step)).map (fun i => ofs + step * i)
  match rtype with
  | 0x0202 => [16, 20]
  | 0x0304 | 0x0305 | 0x0403 | 0x0404 | 0x0603 => every 0 4
  | 0x0408 => [4]
  | 0x0409 => [4, 8]
  | 0x0501 => (List.range 8).map (fun i => 12 + 4 * i)
  | 0x0604 => 4 :: every 34376 4
  | 0x0701 => (List.range 5).map (fun i => 20 + 4 * i)
  | 0x0703 => [20, 24, 28]
  | 0x0802 => 12 :: 16 :: every 28 8
  | 0x0806 | 0x040A => every 20 4
  | 0x0807 | 0x040B => every 12 8
  | 0x0902 => every 8 4
  | _ => []

/-- A binding word: a DATA index, a field point or none (R346). -/
def bindFormOk (w : Nat) : Bool := w < 2 ^ 20 || w == 0xFFFFFFFF || (2 ^ 31 ≤ w && w < 2 ^ 31 + 96)

/-- One record keeps R346. -/
def recOk (type : Nat) (r : Rec) : Bool :=
  r.rtype / 256 == type && r.inst < recInsts r.rtype && recLenOk r
    && (recMasks r.rtype).all (fun m => rd r.body m.1 4 &&& m.2 == rd r.body m.1 4)
    && (recZeros r).all (fun z => allZero (sub r.body z.1 z.2))
    && (recFlags r.rtype r.body).all (fun f => rd r.body f.1 1 < f.2)
    && (recBinds r.rtype r.body).all (fun o => bindFormOk (rd r.body o 4))

/-- A section keeps the record format of R346 (part of code 10). -/
def sectFormatOk (type : Nat) (x : List Byte) : Bool :=
  match parseRecs x.length (recBytes type x) with
  | none => false
  | some l => recsOrdered l && l.all (recOk type)

/-- The checks of R344 with codes 1 to 9, in order: (code, section). -/
def imageCode (imgKeys : Vector (List Byte) 4) (safKeys : Vector (List Byte) 2) (target : Nat) (b : List Byte) :
    Nat × Nat :=
  let h := headerCode b
  if h ≠ 0 then (h, 0)
  else if imageProfile b ≠ target then (4, 0)
  else if rd b 0x24 4 > 0x10000000 || rd b 0x24 4 ≠ b.length || sigOfs b + 96 ≠ b.length then (5, 0)
  else if !tableOk b then (6, 0)
  else match (sects b).find? (fun x => crc32c (sub b x.ofs x.len) ≠ x.crc) with
    | some x => (7, x.type)
    | none =>
      if !sigOk imgKeys b then (8, 0)
      else if !safSigOk safKeys b then (9, 0)
      else match (sects b).find? (fun x => !sectFormatOk x.type (sub b x.ofs x.len)) with
        | some x => (10, x.type)
        | none => (0, 0)

end Sys2Proof.Machine
end

