-- ==== Sys2Proof/Machine/LoadCan.lean ====
section
/-! DEFINITION. The CAN controllers as the COMMS records of an image give them, the limits of R297 and check 5 of R47
(R300, R303, R306, R308, R350). -/

namespace Sys2Proof.Machine
open Sys2Proof

/-- A signal of a CANOBJ record (R350). -/
def sigOfRec (x : List Byte) : CanSig :=
  { start := rd x 0 1, bitNo := rd x 1 1, size := rd x 2 1, be := rd x 3 1 % 2 == 1, signed := rd x 3 1 / 2 % 2 == 1
    var := rdW x 4 }

/-- An object of a CANOBJ record (R350). -/
def objOfRec (i : Nat) (b : List Byte) : CanObj :=
  let fl := rdW (sub b 8 1 ++ [0, 0, 0]) 0
  { idx := i, id := rdW b 0, mask := rdW b 4, ide := bit fl 0, fdf := fld fl 1 2, brs := bit fl 3, oneShot := bit fl 4
    txBad := bit fl 5, len := rd b 9 1, kind := rd b 10 1, rep := rd b 11 1, trig := rdW b 12, ack := rdW b 16
    sigs := (chunks 8 (b.drop 24)).map sigOfRec }

/-- A window of a CANWIN record (R350). -/
def winOfRec (x : List Byte) : CanWin :=
  { cycle := rd x 0 1, kind := rd x 1 1, start := rd x 2 2, len := rd x 4 2, obj := rd x 6 2 }

/-- The objects of controller `k`. -/
def objsOfRec (l : List Rec) (k : Nat) : List CanObj :=
  (l.filter (fun r => r.rtype == 0x0802 && r.inst / 256 == k)).map (fun r => objOfRec (r.inst % 256) r.body)

/-- Controller `k` as an image gives it; a controller that was bus-off stays bus-off (R312, R350). -/
def canOfRec (l : List Rec) (k : Nat) (role : BitVec 3) (old : CanCtl) : CanCtl :=
  match recBody l 0x0801 k with
  | none => old.cleared
  | some b =>
    let used := bit (rdW b 0) 0
    { old.cleared with
      cfg := rdW b 0, nbt := rdW b 4, dbt := rdW b 8, sjw := rdW b 12, wakeCfg := rdW b 16, wakeId := rdW b 20
      wakeIdm := rdW b 24, wakeDm := BitVec.ofNat 64 (rd b 28 8), refId := rdW b 36, refOfs := rd b 40 4, bcLen := rd b 44 2
      objs := objsOfRec l k, wins := (chunks 8 ((recBody l 0x0803 k).getD [])).map winOfRec
      state := if old.state == 5#3 || old.state == 6#3 then 5 else if !used then 0 else if role == 7#3 then 7 else 1 }

/-- CAN takes the COMMS section of an image (R312). -/
def canLoad (l : List Rec) (role : BitVec 3) (old : CanBlk) : CanBlk :=
  { ctl := Vector.ofFn (fun k => canOfRec l k.val role old.ctl[k]) }

/-- The limits of R297, which every controller that a COMMS section describes keeps in both phases. -/
def canTimingOk (c : CanCtl) : Bool :=
  let q := 4 + fld c.nbt 9 6 + fld c.nbt 15 6 + fld c.nbt 21 6
  let dq := 3 + fld c.dbt 5 5 + fld c.dbt 10 5 + fld c.dbt 15 4
  let nom := 1 ≤ fld c.nbt 21 6 && fld c.sjw 0 6 ≤ min (fld c.nbt 15 6) (fld c.nbt 21 6) && 8 ≤ q && q ≤ 193 && 100 ≤ nbtClk c
  let dat := fld c.sjw 8 4 ≤ min (fld c.dbt 10 5) (fld c.dbt 15 4) && 5 ≤ dq && dq ≤ 80 && 20 ≤ dbtClk c && dbtClk c ≤ nbtClk c
  nom && dat

/-- The tier of an object by the variable table `tierOf` of an image (R301). -/
def objTierOf (tierOf : Nat → Nat) (c : CanCtl) (o : CanObj) : Nat :=
  objTier c o ((o.vars ++ (bindVar o.trig).toList).head?.map tierOf)

/-- Point 3 of R308: an exclusive window holds the longest frame of its object. -/
def winFits (c : CanCtl) (w : CanWin) : Bool :=
  w.kind ≠ 1 || (match c.obj? w.obj with | none => false | some o => w.len * nbtClk c ≥ objClk c o)

/-- The objects whose frames a window carries: its own, or in an arbitrating window of no object every transmit object that has
no exclusive one (R306). -/
def winObjs (c : CanCtl) (w : CanWin) : List CanObj :=
  if w.obj ≠ 0xFFFF then (c.obj? w.obj).toList
  else if w.kind = 2 then c.objs.filter (fun o => o.kind ≠ 0 && !c.exclusive o.idx)
  else []

/-- Point 5 of R308 for a window of a bound matrix, times in ns from the matrix boundary. The window returns in each matrix cycle:
every time it closes at least 5 µs before the next boundary of a receive object's tier, when the object is timed, and it opens at
least 2 µs after the last boundary of a transmit object's tier (R84). -/
def winApart (tierOf : Nat → Nat) (c : CanCtl) (w : CanWin) : Bool :=
  let bitNs := nbtClk c * 10
  let m := tierNs c.tier
  let a := c.refOfs + w.cycle * (m / c.nbc) + w.start * bitNs
  let e := a + w.len * bitNs
  (winObjs c w).all (fun o =>
    let t := tierNs (objTierOf tierOf c o)
    (List.range (max 1 (t / m))).all (fun i =>
      if o.kind = 0 then w.kind ≠ 1 || t - (e + i * m - 1) % t - 1 ≥ 5000 else (a + i * m) % t ≥ 2000))

/-- R308 for one controller: points 1 and 6, points 2 and 5 for a bound matrix, points 3 and 4 for every matrix. -/
def canCtlOk (tierOf : Nat → Nat) (c : CanCtl) : Bool :=
  !c.used ||
  (canTimingOk c && (!bit c.cfg 1 || dbtClk c ≥ 100 || bit c.dbt 19) &&
   (!c.bound || (c.nbc * c.bcLen * nbtClk c * 10 == tierNs c.tier && c.wins.all (winApart tierOf c))) &&
   (c.tt == 0 || (c.wins.all (winFits c)
      && (List.range c.nbc).all (fun i => match (c.wins.filter (fun w => w.cycle == i)).head? with
          | some w => w.kind == 0 && w.start == 0 && w.len == 65
          | none => false))))

/-- The contents of the CAN records: R297 and the ranges of R295, R300, R301 and R350 (code 10 of R344). -/
def canRecsOk (isVar : Nat → Bool) (tierOf : Nat → Nat) (l : List Rec) : Bool :=
  let b := canLoad l 2 CanBlk.reset
  (allFin 8).all (fun k => (recBody l 0x0801 k.val).isNone || canTimingOk b.ctl[k])
    && b.ctl.toList.all (fun c => c.tt ≠ 3 && c.tier ≤ 4 && fld c.cfg 7 3 ≤ 6 && c.wakeKind ≠ 3
        && c.objs.all (fun o => o.idx < 192 && o.len ≤ 64 && o.fdf ≤ 2 && (o.kind == 0) == (o.idx < 128) && o.kind ≤ 3
          && (o.kind ≠ 2 || 1 ≤ o.rep) && (o.kind ≠ 1 || c.bound)
          && (o.kind == 0 || ((o.fdf ≠ 1 || bit c.cfg 1) && (o.len ≤ 8 || c.sendsFd o)))
          && o.sigs.all (fun g => [0, 1, 2, 4].contains g.size && g.bitNo < 8 && g.start + max 1 g.size ≤ o.len
              && (match bindVar g.var with | some n => isVar n | none => false))
          && (o.vars.map tierOf).eraseDups.length ≤ 1)
        && c.wins.all (fun w => w.cycle < c.nbc && w.kind ≤ 2 && (w.obj == 0xFFFF || (c.obj? w.obj).isSome)))

/-- Check 5 of R47: the first controller that R308 refuses, with the tier of its matrix. -/
def canAdmitFail (tierOf : Nat → Nat) (l : List Rec) : Option (Nat × Nat) :=
  let b := canLoad l 2 CanBlk.reset
  ((allFin 8).find? (fun k => !canCtlOk tierOf b.ctl[k])).map (fun k =>
    (if b.ctl[k].bound then b.ctl[k].tier else 7, k.val))

end Sys2Proof.Machine
end

