-- ==== Sys2Proof/Machine/NetOps.lean ====
section
/-! DEFINITION. Twin-leaf telegrams, ports and placed frames (R313–R324). -/

namespace Sys2Proof.Machine
open Sys2Proof

/-- Changes port `p`. -/
def modPort (s : State) (p : Fin 3) (f : NetPort → NetPort) : State :=
  modNet s (fun n => { n with ports := vmod n.ports p f })
/-- Event source `i` of NET (R406). -/
def netSrc (i : Nat) : Nat := 464 + i

/-- NET_A and NET_B carry traffic only with an admitted image (R314). -/
def portUp (s : State) (p : Fin 3) : Bool := s.net.ports[p].link && (p = 2 || s.img.running.isSome)

/-- The IPv4 address in use at a port (R314). -/
def portIp (s : State) (p : Fin 3) : Word :=
  let n := s.net.ports[p]
  if s.img.running.isSome then (if s.pair.member && s.stn.pairIdPin then n.ipHigh else n.ip)
  else if p = 2 then (if s.stn.pairIdPin then 0xC0A8FA02 else 0xC0A8FA01) else 0

/-- A placed frame joins the queue of its port, which holds 64 (R315). -/
def enqueue (s : State) (p : Fin 3) (f : NetFrame) : State :=
  if s.net.ports[p].queue.length < 64 then modPort s p (fun n => { n with queue := n.queue ++ [f] })
  else raise (modPort s p (fun n => { n with qdrop := satInc n.qdrop })) (netSrc 14)

/-! ### Telegrams -/

/-- The MAC address of a port: the station's MAC base plus 0, 1 or 2 (R313). -/
def portMac (p : Fin 3) : BitVec 48 := Config.mac + BitVec.ofNat 48 p.val

/-- A frame sent to this address is for port `p`: its own address, broadcast, or a listed group address (R316, R324). -/
def macTaken (s : State) (p : Fin 3) (m : BitVec 48) : Bool :=
  m == portMac p || m == BitVec.allOnes 48 || s.net.groups.contains m.toNat

/-- The payload of a telegram before its CRC (R316). -/
def telBytes (c : TelCopy) (leaf : Byte) : List Byte :=
  [c.ver, c.kind] ++ leN 2 c.telId.toNat ++ leN 2 c.src.toNat ++ leN 2 c.dst.toNat ++ wB c.seq ++ [c.len, leaf] ++ leN 2 c.rsv.toNat
    ++ c.words.flatMap (fun w => wB w.val ++ leN 2 (tagBits w.tag).toNat)

/-- CRC of a telegram on a leaf (R316). -/
def telCrc (c : TelCopy) (leaf : Byte) : Word := crc32c (telBytes c leaf)

/-- The telegram that a station with this network station ID sends (R316). -/
def telMade (own : BitVec 12) (kind : Nat) (id dst : BitVec 16) (seq : Word) (ws : List TWord) : TelCopy :=
  { ver := 1, kind := BitVec.ofNat 8 kind, telId := id, src := own.zeroExtend 16, dst := dst, seq := seq
    len := BitVec.ofNat 8 ws.length, rsv := 0, words := ws }

/-- The copy of a telegram that leaves at a leaf's port (R316, R317). -/
def telOn (n : NetBlk) (leafB : Bool) (mac : Nat) (c : TelCopy) : TelFrame :=
  let leaf : Byte := if leafB then 1 else 0
  { mac := BitVec.ofNat 48 mac, from_ := portMac (if leafB then 1 else 0), tci := n.vlan, etype := n.etype, tel := c, leaf := leaf
    crc := telCrc c leaf }

/-- One copy leaves on NET_A and one on NET_B (R317). -/
def sendLeaves (s : State) (mac : Nat) (c : TelCopy) : State :=
  send (send s (.telegram false (telOn s.net false mac c))) (.telegram true (telOn s.net true mac c))

/-- The station sends, or as a standby counts, telegrams (R317). -/
def telSends (s : State) : Bool := s.pair.state == 0#3 || s.pair.state == 2#3 || s.pair.state == 3#3

/-- Changes receive telegram `r`. -/
def modRx (s : State) (r : Fin 128) (f : RxTel → RxTel) : State := modNet s (fun n => { n with rx := vmod n.rx r (Option.map f) })

/-- Telegrams take their values at a boundary (R317). -/
def telTake (s : State) (slow : Nat) : State :=
  (allFin 64).foldl (fun s t => match s.net.tx[t] with
    | some x =>
      if x.tier ≤ slow && (tierCnt s x.tier).toNat % (max x.rep 1) = 0 && !(s.stn.mode == .stop && telLogic s x) then
        modTx s t (fun y => { y with due := some (x.binds.map (readBind s)) })
      else s
    | none => s) s

/-- SEQ `a` is newer than `b` (R318). -/
def seqNewer (a b : Word) : Bool := let d := (a - b).toNat; 1 ≤ d && d ≤ 2 ^ 31 - 1

/-- Whether a copy names receive telegram `r`, whatever its KIND (R318). -/
def RxTel.named (r : RxTel) (c : TelCopy) : Bool := c.telId == r.telId && c.src == r.src
/-- Whether a copy belongs to receive telegram `r` (R318). -/
def RxTel.matches (r : RxTel) (c : TelCopy) : Bool := r.named c && c.kind.toNat == r.kind

/-- Counts a discarded copy of a leaf (R318). -/
def RxTel.err (r : RxTel) (leafB : Bool) : RxTel :=
  if leafB then { r with errB := satInc r.errB } else { r with errA := satInc r.errA }

/-- Puts a copy into a held SEQ. -/
def HeldSeq.put (h : HeldSeq) (leafB : Bool) (c : TelCopy) : HeldSeq :=
  if leafB then { h with b := h.b.or (some c) } else { h with a := h.a.or (some c) }

/-- The safety-telegram event of KIND 1 (R322). -/
def safTel (s : State) (r : RxTel) : State := if r.kind = 1 then raise s 438 else s

/-- What one held SEQ decides to (R319): none while undecided; `late` says its window counts as elapsed. -/
def HeldSeq.decision (h : HeldSeq) (late : Bool) : Option TelIn :=
  match h.a, h.b with
  | some x, some y => if x = y then some (.vals true false x.words) else some .safe
  | some x, none => if late then some (.vals false false x.words) else none
  | none, some y => if late then some (.vals false false y.words) else none
  | none, none => some .safe

/-- What enters once newer words are accepted: they replace what an older SEQ would have entered (R319). -/
def RxTel.entering (y : RxTel) (both : Bool) (ws : List TWord) : TelIn :=
  match y.enter with
  | some (.vals b e _) => .vals (b || both) (e || (both && y.discarded)) ws
  | _ => .vals both (both && y.discarded) ws

/-- Counts and flags of one decision (R319): both copies identical end a discard's safe values at once, one copy leaves them
standing. -/
def decideHeld (s : State) (r : Fin 128) (x : RxTel) (h : HeldSeq) (d : TelIn) : State :=
  match d with
  | .vals true _ ws => modRx s r (fun y => { y with
      degraded := false, discarded := false, last := some h.seq, enter := some (y.entering true ws) })
  | .vals false _ ws =>
    raise (modRx s r (fun y => { y with
      degraded := true, last := some h.seq
      enter := if y.discarded then y.enter else some (y.entering false ws)
      missA := if h.a.isNone then satInc y.missA else y.missA
      missB := if h.b.isNone then satInc y.missB else y.missB
      ones := (h.a.or h.b).toList.map (fun c => (h.seq, h.b.isSome, c)) ++ y.ones })) (netSrc 5)
  | .safe =>
    safTel (raise (modRx s r (fun y => { y with diff := true, last := some h.seq, diffCnt := satInc y.diffCnt
                                                enter := some .safe, discarded := true })) (netSrc 6)) x

/-- Decides held SEQs in ascending order and stops at the first that stays undecided (R319). -/
def decideList : List HeldSeq → State → Fin 128 → RxTel → State
  | [], s, _, _ => s
  | h :: rest, s, r, x =>
    match h.decision (s.stn.time.toNat ≥ h.at_.toNat + x.cmpNs) with
    | none => s
    | some d => decideList rest (modRx (decideHeld s r x h d) r (fun y => { y with held := rest })) r x

/-- Safe values enter, with Q = 5 (R35, R319, R321). -/
def telSafe (s : State) (x : RxTel) : State :=
  x.binds.foldl (fun s b => writeBind s b.1 { val := b.2, tag := mkTag 5 false 0 false 2 }) s

/-- Accepted words enter (R319): carried value and Q, and S of KIND 1. -/
def telValues (s : State) (x : RxTel) (ws : List TWord) : State :=
  let s1 := (x.binds.zip ws).foldl (fun s p =>
    writeBind s p.1.1 { val := p.2.val, tag := mkTag p.2.tag.q false 0 (x.kind == 1 && p.2.tag.s) 2 }) s
  if ws.any (fun w => 2 ≤ w.tag.q.toNat) then safTel s1 x else s1

/-- The watchdog expires (R321). -/
def telExpire (s : State) (r : Fin 128) (x : RxTel) : State :=
  safTel (raise (modRx s r (fun y => { y with wdgExp := true, left := 0, expCnt := satInc y.expCnt })) (netSrc 7)) x

/-- The decisions of receive telegram `r` at a boundary of its tier, and what enters (R319–R321). -/
def telDecide (s : State) (r : Fin 128) : State :=
  match s.net.rx[r] with
  | none => s
  | some x =>
    let s0 := if x.lateDiff then
        safTel (raise (modRx s r (fun y => { y with lateDiff := false, diff := true, diffCnt := satInc y.diffCnt
                                                    discarded := true, enter := some .safe })) (netSrc 6)) x
      else s
    let s1 := decideList x.held s0 r x
    match s1.net.rx[r] with
    | none => s1
    | some y =>
      let s2 := modRx s1 r (fun y => { y with enter := none, fresh := false })
      let fewer := fun (s : State) => modRx s r (fun z => { z with left := z.left - (if z.left = 0 || y.fresh then 0 else 1) })
      let ends := y.left.toNat ≤ 1 && !y.wdgExp && !y.fresh
      let without := fun (s : State) (safe : Bool) =>
        if ends then telSafe (telExpire (fewer s) r x) x
        else if safe || (y.wdgExp && y.left.toNat = 1) then telSafe (fewer s) x else fewer s
      match y.enter with
      | some (.vals both ended ws) =>
        let s3 := modRx s2 r (fun z => { z with wdgExp := false, left := BitVec.ofNat 16 z.wdg })
        let s4 := telValues s3 x ws
        if both && (ended || x.wdgExp) then raise s4 (netSrc 8) else s4
      | some .safe => without s2 true
      | none => without s2 false

/-- Every receive telegram whose tier has a boundary (R319). -/
def telsDecide (s : State) (slow : Nat) : State :=
  (allFin 128).foldl (fun s r => match s.net.rx[r] with
    | some x => if x.tier ≤ slow then telDecide s r else s
    | none => s) s

/-- What R318 asks of a copy beside its SEQ: CRC, VER, KIND, DST_ID and LEN. -/
def telFits (s : State) (x : RxTel) (f : TelFrame) : Bool :=
  let c := f.tel
  f.crc == telCrc c f.leaf && c.ver == 1 && c.kind.toNat == x.kind && c.len.toNat == x.len
    && (c.dst.toNat == s.net.stnId.toNat || c.dst.toNat == 4095)

/-- A copy at a standby, which decides nothing: it serves the port counters alone (R323). -/
def telListen (s : State) (r : Fin 128) (x : RxTel) (leafB : Bool) (f : TelFrame) : State :=
  if telFits s x f then s else modRx s r (fun y => y.err leafB)

/-- A copy enters receive telegram `r` (R318, R320). -/
def telCopy (s : State) (r : Fin 128) (x : RxTel) (leafB : Bool) (f : TelFrame) : State :=
  let c := f.tel
  let bad := modRx s r (fun y => y.err leafB)
  if !telFits s x f then bad
  else match x.ones.find? (fun o => o.1 == c.seq && o.2.1 ≠ leafB) with
    | some o =>
      let s1 := modRx s r (fun y => { y with ones := y.ones.filter (fun z => z ≠ o) })
      if o.2.2 = c then modRx s1 r (fun y => { y with late := satInc y.late })
      else modRx s1 r (fun y => { y with lateDiff := true })
    | none =>
      if !(match x.last with | some l => seqNewer c.seq l | none => true) then bad
      else if x.held.any (fun h => h.seq == c.seq) then
        modRx s r (fun y => { y with held := y.held.map (fun h => if h.seq = c.seq then h.put leafB c else h) })
      else
        let newest := (x.held.getLast?.map (fun h => h.seq)).or x.last
        if !(match x.held.getLast? with | some h => seqNewer c.seq h.seq | none => true) then bad
        else
          let gap : Bool := match newest with | some l => c.seq != l + 1 | none => false
          let s1 := if gap then raise (modRx s r (fun y => { y with gap := satInc y.gap })) (netSrc 9) else s
          let h : HeldSeq := (HeldSeq.put { seq := c.seq, a := none, b := none, at_ := s.stn.time } leafB c)
          let s2 := match x.held with
            | o :: rest => if x.held.length ≥ 4 then
                (match o.decision true with
                  | some d => modRx (decideHeld s1 r x o d) r (fun y => { y with held := rest })
                  | none => s1)
              else s1
            | [] => s1
          modRx s2 r (fun y => { y with held := y.held ++ [h] })

/-- The receive telegram that a copy belongs to, or that it names with another KIND (R318). -/
def telFor (s : State) (c : TelCopy) : Option (Fin 128) :=
  let find := fun (f : RxTel → Bool) => (allFin 128).find? (fun r => (s.net.rx[r]).any f)
  (find (fun x => x.matches c)).or (find (fun x => x.named c))

/-- Decision state of a receive telegram with the port counters of another station's own copies (R323). -/
def RxTel.counts (x own : RxTel) : RxTel :=
  { x with missA := own.missA, missB := own.missB, errA := own.errA, errB := own.errB, late := own.late }

/-- The instant at which a telegram leaves next (R317). -/
def TxTel.next (s : State) (x : TxTel) : Nat :=
  let p := tierNs x.tier
  let b := refNow s / p * p
  let k := (tierCnt s x.tier).toNat % max x.rep 1
  if k = 0 && refNow s ≤ b + x.ofs then b + x.ofs else b + (max x.rep 1 - k) * p + x.ofs

/-- Presence telegrams as the schedule of a pair member sees them: one word at every T2 boundary + 500 µs (R325). -/
def presTel : TxTel := { (default : TxTel) with kind := 2, tier := 2, rep := 1, ofs := 500000, binds := [0] }

/-- Time in ns that a placed frame takes at 1 Gbit/s from its preamble to its FCS; an echo reply, whose length the request sets,
counts as the shortest frame (R315, R327; assumption log 48). -/
def NetFrame.ns : NetFrame → Nat
  | .resp _ _ _ _ _ payload _ => 8 * (8 + max 64 (82 + payload.length))
  | _ => 8 * 72

/-- A placed frame started now on NET_A or NET_B finishes at least 1 µs before the next telegram that the station sends there; SVC
carries none (R315). -/
def frameFits (s : State) (p : Fin 3) (f : NetFrame) : Bool :=
  let due := (if telSends s then s.net.tx.toList.filterMap id else []) ++ (if s.pair.member && s.img.running.isSome then [presTel] else [])
  p == 2 || due.all (fun x => refNow s + f.ns + 1000 ≤ x.next s)

/-- NET.CTRL.CLR_CNT clears every count of NET. -/
def netClr (s : State) : State :=
  modNet s (fun n => { n with
    drop := 0, authFail := 0
    ports := n.ports.map (fun p => { p with downCnt := 0, qdrop := 0 })
    rx := n.rx.map (Option.map (fun y => { y with missA := 0, missB := 0, errA := 0, errB := 0, late := 0, gap := 0
                                                  diffCnt := 0, expCnt := 0 })) })

/-- Closes session `i` with its keyed windows and latches (R9, R329). -/
def closeSession (s : State) (i : Fin 4) : State :=
  if s.net.sess[i].isNone then s else
  raise { modNet s (fun n => { n with
      sess := n.sess.set i none
      clearNonce := n.clearNonce.filter (fun c => c.sess ≠ i.val) }) with
    windows := s.windows.filter (fun w => w.1 ≠ i.val), armed := s.armed.filter (fun w => w.1 ≠ i.val)
    latch := vmodN s.latch (i.val + 1) (fun _ => { timeHi := none, stkHi := none, opmsHi := none, sleepHi := none, data := none }) }
    (netSrc 11)

/-- Closes every session (R329). -/
def closeSessions (s : State) : State := (allFin 4).foldl closeSession s

end Sys2Proof.Machine
end

