-- ==== Sys2Proof/Machine/QpSolve.lean ====
section
/-! DEFINITION. The computation of one solve: layout of the slot memory, factorisation, iteration, checks and certificates
(R159–R180). Vectors and matrix rows are lists of binary32 patterns. -/

namespace Sys2Proof.Machine
open Sys2Proof

/-! ### Layout (R164, R165) -/

/-- N of a slot memory. -/
def qN (m : Mem) : Nat := (m.word 0x00).toNat
/-- M of a slot memory. -/
def qM (m : Mem) : Nat := (m.word 0x04).toNat
/-- A binary32 pattern at an address. -/
def qF (m : Mem) (a : Nat) : Nat := (m.word a).toNat
/-- A vector of `n` entries at an address. -/
def qVec (m : Mem) (a n : Nat) : List Nat := (List.range n).map (fun i => qF m (a + 4 * i))
/-- The bytes of a vector. -/
def vecBytes (v : List Nat) : List Byte := v.flatMap (leN 4)
/-- Bit (i, j) of a mask. -/
def qMask (m : Mem) (a i j : Nat) : Bool := (m.get (a + 8 * i + j / 8)).getLsbD (j % 8)
/-- An entry of P as the cluster uses it: mirrored, masked (R166). -/
def qP (m : Mem) (i j : Nat) : Nat :=
  let r := min i j
  let c := max i j
  if qMask m 0x7E40 r c then qF m (0x0040 + 192 * r + 4 * c) else 0
/-- An entry of A as the cluster uses it (R166). -/
def qA (m : Mem) (i j : Nat) : Nat := if qMask m 0x7FC0 i j then qF m (0x2440 + 192 * i + 4 * j) else 0
/-- Row type (R160). -/
def qRow (m : Mem) (i : Nat) : Nat := (m.get (0x82C0 + i)).toNat
/-- Penalty of a row by its type (R160). -/
def qRho (m : Mem) (i : Nat) : Nat :=
  match qRow m i with
  | 0 => qF m 0x14
  | 1 => qF m 0x18
  | _ => 0x358637BD

/-- The structure signature (R178). -/
def qSig (m : Mem) : Word :=
  let n := qN m
  let k := cdiv n 8
  crc32c ([BitVec.ofNat 8 n, BitVec.ofNat 8 (qM m)]
    ++ (List.range n).flatMap (fun i => m.bytes (0x7E40 + 8 * i) k)
    ++ (List.range (qM m)).flatMap (fun i => m.bytes (0x7FC0 + 8 * i) k))

/-- What decides whether a cached factor still fits (R168). -/
def qFacKey (m : Mem) : List Byte :=
  m.bytes 0x00 8 ++ m.bytes 0x10 12 ++ m.bytes 0x0040 (192 * qN m) ++ m.bytes 0x2440 (192 * qM m)
    ++ m.bytes 0x7E40 (8 * qN m) ++ m.bytes 0x7FC0 (8 * qM m) ++ m.bytes 0x82C0 (qM m)

/-! ### Costs (R167) -/

/-- c_setup. -/
def cSetup (n m k : Nat) : Nat := cdiv (n + 2 * m + k) 4 + 32
/-- c_fact. -/
def cFact (n m : Nat) : Nat := cdiv (n * n * n + 3 * m * n * (n + 1)) 24 + 4 * n + 64
/-- c_it. -/
def cIt (n m : Nat) : Nat := cdiv (2 * m * n + n * n) 16 + 4
/-- c_chk. -/
def cChk (n m : Nat) : Nat := cdiv (2 * m * n + n * n) 16 + cdiv (n + m) 2 + 8

/-! ### Vector arithmetic in binary32 (R170) -/

/-- Every value is finite. -/
def allFinite (v : List Nat) : Bool := v.all (fun x => !f32.nonFinite x)
/-- The pattern with its sign cleared. -/
def fabs (x : Nat) : Nat := f32.mag x
/-- The larger of two finite numbers. -/
def fmaxS (a b : Nat) : Nat := if f32.lt a b then b else a
/-- The smaller of two finite numbers. -/
def fminS (a b : Nat) : Nat := if f32.lt b a then b else a
/-- ‖v‖∞. -/
def normInf (v : List Nat) : Nat := v.foldl (fun a x => fmaxS a (fabs x)) 0

/-- Adjacent pairs added: one level of the tree. -/
def pairSum : List Nat → List Nat
  | a :: b :: r => f32.add a b :: pairSum r
  | l => l

/-- A dot product over 16 lanes and the pairwise tree (R170). -/
def fdot (a b : List Nat) : Nat :=
  let t := (a.zip b).zipIdx
  let lanes := (List.range 16).map (fun k => t.foldl (fun s x => if x.2 % 16 = k then f32.fma x.1.1 x.1.2 s else s) 0)
  (pairSum (pairSum (pairSum (pairSum lanes)))).headD 0

/-- A matrix, by rows, times a vector. -/
def matVec (rows : List (List Nat)) (v : List Nat) : List Nat := rows.map (fun r => fdot r v)

/-- Element-wise operation on two vectors. -/
def vec2 (f : Nat → Nat → Nat) (a b : List Nat) : List Nat := List.zipWith f a b

/-- A fixed problem, as a solve works on it. -/
structure QData where
  n : Nat
  m : Nat
  sigma : Nat
  alpha : Nat
  epsAbs : Nat
  epsRel : Nat
  epsP : Nat
  epsD : Nat
  p : List (List Nat)
  a : List (List Nat)
  /-- transpose of A -/
  at_ : List (List Nat)
  q : List Nat
  l : List Nat
  u : List Nat
  rho : List Nat
  rinv : List Nat
deriving DecidableEq, Repr

/-- The problem that a slot memory holds. -/
def qData (m : Mem) : QData :=
  let n := qN m
  let k := qM m
  let rho := (List.range k).map (qRho m)
  { n := n, m := k, sigma := qF m 0x10, alpha := qF m 0x1C, epsAbs := qF m 0x20, epsRel := qF m 0x24, epsP := qF m 0x28
    epsD := qF m 0x2C, p := (List.range n).map (fun i => (List.range n).map (qP m i))
    a := (List.range k).map (fun i => (List.range n).map (qA m i))
    at_ := (List.range n).map (fun j => (List.range k).map (fun i => qA m i j))
    q := qVec m 0x6C40 n, l := qVec m 0x6D00 k, u := qVec m 0x6E80 k
    rho := rho, rinv := rho.map (fun r => f32.div 0x3F800000 r) }

/-! ### Factorisation (R168) -/

/-- A factor: L in binary64 by rows, L and 1 ÷ d rounded to binary32, and the floored pivots. -/
structure QFac where
  l64 : List (List Nat)
  l32 : List (List Nat)
  dinv : List Nat
  floored : List Nat
  /-- every value is finite -/
  ok : Bool
deriving DecidableEq, Repr

/-- A binary32 pattern as binary64. -/
def to64 (x : Nat) : Nat := f64.conv f32 x
/-- Entry (i, j) of a matrix by rows. -/
def ent (r : List (List Nat)) (i j : Nat) : Nat := (r.getD i []).getD j 0

/-- K in binary64 (R168 step 1). -/
def formK (d : QData) : List (List Nat) :=
  (List.range d.n).map (fun i => (List.range d.n).map (fun j =>
    let b := to64 (ent d.p i j)
    let s := if i = j then f64.add b (to64 d.sigma) else b
    (List.range d.m).foldl (fun acc r =>
      f64.add acc (f64.mul (f64.mul (to64 (ent d.a r i)) (to64 (d.rho.getD r 0))) (to64 (ent d.a r j)))) s))

/-- One column of the factorisation (R168 steps 2 and 3): columns of L below the diagonal, pivots, floored indices. -/
def factorColumn (k : List (List Nat)) (n floor : Nat) (s : List (List Nat) × List Nat × List Nat) (j : Nat) :
    List (List Nat) × List Nat × List Nat :=
  let (cols, d, fl) := s
  -- cols[c] holds column c of L from row c + 1 on
  let L := fun i c => (cols.getD c []).getD (i - c - 1) 0
  let v := (List.range j).map (fun c => f64.mul (L j c) (d.getD c 0))
  let dj := (List.range j).foldl (fun a c => f64.subt a (f64.mul (L j c) (v.getD c 0))) (ent k j j)
  let low := f64.le dj floor
  let dj' := if low then floor else dj
  let col := (List.range (n - j - 1)).map (fun t =>
    let i := j + 1 + t
    f64.div ((List.range j).foldl (fun a c => f64.subt a (f64.mul (L i c) (v.getD c 0))) (ent k i j)) dj')
  (cols ++ [col], d ++ [dj'], if low then fl ++ [j] else fl)

/-- The factorisation, not ok when a value is not finite or a rounded one overflows (R168). -/
def factorise (q : QData) : QFac :=
  let k := formK q
  let diag := (List.range q.n).map (fun j => ent k j j)
  let top := diag.foldl (fun a x => if f64.lt a x then x else a) (diag.headD 0)
  let floor := f64.div top (f64.ofInt (2 ^ 40))
  let (cols, d, fl) := (List.range q.n).foldl (factorColumn k q.n floor) ([], [], [])
  let one := f64.ofInt 1
  let l64 := (List.range q.n).map (fun i => (List.range q.n).map (fun j =>
    if i = j then one else if j < i then (cols.getD j []).getD (i - j - 1) 0 else 0))
  let l32 := l64.map (fun r => r.map (f32.conv f64))
  let dinv := d.map (fun x => f32.conv f64 (f64.div one x))
  let ok64 := (k ++ l64 ++ [d]).all (fun r => r.all (fun x => !f64.nonFinite x))
  { l64 := l64, l32 := l32, dinv := dinv, floored := fl, ok := ok64 && l32.all allFinite && allFinite dinv }

/-! ### Iteration (R170) -/

/-- An iterate. -/
structure QIter where
  x : List Nat
  z : List Nat
  y : List Nat
deriving DecidableEq, Repr

/-- The forward solve, column by column in ascending order. -/
def forwardSolve (l : List (List Nat)) (n : Nat) (b : List Nat) : List Nat :=
  (List.range n).foldl (fun v k =>
    let vk := v.getD k 0
    (v.zipIdx).map (fun (x, i) => if k < i then f32.fma (f32.flip (ent l i k)) vk x else x)) b

/-- The backward solve, column by column in descending order. -/
def backwardSolve (l : List (List Nat)) (n : Nat) (b : List Nat) : List Nat :=
  (List.range n).reverse.foldl (fun v k =>
    let vk := v.getD k 0
    (v.zipIdx).map (fun (x, i) => if i < k then f32.fma (f32.flip (ent l k i)) vk x else x)) b

/-- A value clipped to bounds, an absent one clipping nothing (R160, R170). -/
def clipF (v l u : Nat) : Nat :=
  let a := if f32.le l 0xE0AD78EC then v else fmaxS v l
  if f32.le 0x60AD78EC u then a else fminS a u

/-- One iteration; none when a value is not finite (R170, R174). -/
def iterate (d : QData) (l32 : List (List Nat)) (dinv : List Nat) (it : QIter) : Option QIter :=
  let one := 0x3F800000
  let w := (List.range d.m).map (fun i => f32.fma (d.rho.getD i 0) (it.z.getD i 0) (f32.flip (it.y.getD i 0)))
  let aw := matVec d.at_ w
  let rhs := (List.range d.n).map (fun j =>
    f32.add (f32.fma d.sigma (it.x.getD j 0) (f32.flip (d.q.getD j 0))) (aw.getD j 0))
  let f := forwardSolve l32 d.n rhs
  let g := vec2 f32.mul f dinv
  let xt := backwardSolve l32 d.n g
  let zt := matVec d.a xt
  let beta := f32.subt one d.alpha
  let x := vec2 (fun t o => f32.fma d.alpha t (f32.mul beta o)) xt it.x
  let zr := vec2 (fun t o => f32.fma d.alpha t (f32.mul beta o)) zt it.z
  let c := (List.range d.m).map (fun i => f32.fma (it.y.getD i 0) (d.rinv.getD i 0) (zr.getD i 0))
  let zn := (List.range d.m).map (fun i => clipF (c.getD i 0) (d.l.getD i 0) (d.u.getD i 0))
  let y := (List.range d.m).map (fun i => f32.fma (d.rho.getD i 0) (f32.subt (zr.getD i 0) (zn.getD i 0)) (it.y.getD i 0))
  if [w, aw, rhs, f, g, xt, zt, x, zr, c, zn, y].all allFinite then some { x := x, z := zn, y := y } else none

/-- Up to `j` iterations: the last iterate, and how many were left when a value was not finite, 0 otherwise. -/
def iterates (d : QData) (l32 : List (List Nat)) (dinv : List Nat) : Nat → QIter → QIter × Nat
  | 0, it => (it, 0)
  | j + 1, it =>
    match iterate d l32 dinv it with
    | some n => iterates d l32 dinv j n
    | none => (it, j + 1)

/-! ### Checks and certificates (R171, R173) -/

/-- The references that a check stores. -/
structure QRef where
  x : List Nat
  y : List Nat
  ax : List Nat
  px : List Nat
  aty : List Nat
deriving DecidableEq, Repr

/-- A check: references, r_p, r_d and μ; none when a value is not finite. -/
def qCheck (d : QData) (it : QIter) : Option (QRef × Nat × Nat × Nat) :=
  let ax := matVec d.a it.x
  let px := matVec d.p it.x
  let aty := matVec d.at_ it.y
  let dp := vec2 f32.subt ax it.z
  let rp := normInf dp
  let dd := vec2 f32.add (vec2 f32.add px d.q) aty
  let rd := normInf dd
  let np := f32.fma d.epsRel (fmaxS (normInf ax) (normInf it.z)) d.epsAbs
  let nd := f32.fma d.epsRel (fmaxS (fmaxS (normInf px) (normInf aty)) (normInf d.q)) d.epsAbs
  let sp := f32.div rp np
  let sd := f32.div rd nd
  let mu := fmaxS sp sd
  if [ax, px, aty, dp, dd, [rp, rd, np, nd, sp, sd]].all allFinite then
    some ({ x := it.x, y := it.y, ax := ax, px := px, aty := aty }, rp, rd, mu) else none

/-- An absent lower bound. -/
def noLower (l : Nat) : Bool := f32.le l 0xE0AD78EC
/-- An absent upper bound. -/
def noUpper (u : Nat) : Bool := f32.le 0x60AD78EC u

/-- The primal certificate with δy ÷ ‖δy‖∞ (R173); the outer option is none when a value is not finite. -/
def primalCert (d : QData) (a b : QRef) : Option (Option (List Nat)) :=
  let dy := vec2 f32.subt b.y a.y
  let nrm := normInf dy
  let aty := vec2 f32.subt b.aty a.aty
  let lim := f32.mul d.epsP nrm
  let sides := (List.range d.m).map (fun i => if f32.lt 0 (dy.getD i 0) then d.u.getD i 0 else d.l.getD i 0)
  let absent := (List.range d.m).any (fun i =>
    (f32.lt 0 (dy.getD i 0) && noUpper (d.u.getD i 0)) || (f32.lt (dy.getD i 0) 0 && noLower (d.l.getD i 0)))
  let sum := fdot sides dy
  if !f32.lt 0 nrm then (if allFinite dy then some none else none)
  else if !([dy, aty, [nrm, lim]].all allFinite) then none
  else if !f32.le (normInf aty) lim || absent then some none
  else if f32.nonFinite sum then none
  else if f32.le sum (f32.flip lim) then
    let c := dy.map (fun v => f32.div v nrm)
    if allFinite c then some (some c) else none
  else some none

/-- The dual certificate with δx ÷ ‖δx‖∞ (R173). -/
def dualCert (d : QData) (a b : QRef) : Option (Option (List Nat)) :=
  let dx := vec2 f32.subt b.x a.x
  let nrm := normInf dx
  let e := f32.mul d.epsD nrm
  let ne := f32.flip e
  let px := vec2 f32.subt b.px a.px
  let ax := vec2 f32.subt b.ax a.ax
  let qd := fdot d.q dx
  if !([dx, px, ax, [nrm, e, qd]].all allFinite) then none
  else if !f32.lt 0 nrm then some none
  else
    let rows := (List.range d.m).all (fun i =>
      let v := ax.getD i 0
      let nl := noLower (d.l.getD i 0)
      let nu := noUpper (d.u.getD i 0)
      if !nl && !nu then f32.le (fabs v) e else if !nl then f32.le ne v else if !nu then f32.le v e else true)
    if f32.le (normInf px) e && f32.le qd ne && rows then
      let c := dx.map (fun v => f32.div v nrm)
      if allFinite c then some (some c) else none
    else some none

/-! ### A solve (R172, R174, R175) -/

/-- Best iterate so far with its r_p, r_d and μ. -/
structure QBest where
  it : QIter
  rp : Nat
  rd : Nat
  mu : Nat
deriving DecidableEq, Repr

/-- Result of a solve. -/
structure QRes where
  /-- status code of R175 -/
  status : Nat
  ret : QIter
  /-- r_p, r_d and μ of the returned iterate; none when no check was completed -/
  res : Option (Nat × Nat × Nat)
  cert : Option (List Nat)
  iters : Nat
  used : Nat
  /-- current iterate -/
  cur : QIter
  ref : Option QRef
  /-- step of a NUMERIC end: 1 setup, 2 factorisation, 3 iteration, 4 check -/
  step : Nat
deriving DecidableEq, Repr

/-- The loop of R172. -/
def solveLoop (d : QData) (l32 : List (List Nat)) (dinv : List Nat) (b chk : Nat) :
    Nat → QBest → QIter → QRef → Nat → Nat → QRes
  | 0, best, cur, ref, used, its =>
    { status := 2, ret := best.it, res := some (best.rp, best.rd, best.mu), cert := none, iters := its, used := used
      cur := cur, ref := some ref, step := 0 }
  | fuel + 1, best, cur, ref, used, its =>
    let fin := fun (st : Nat) (best : QBest) (cur : QIter) (ref : QRef) (used its step : Nat) (c : Option (List Nat)) =>
      ({ status := st, ret := best.it, res := some (best.rp, best.rd, best.mu), cert := c, iters := its, used := used
         cur := cur, ref := some ref, step := step } : QRes)
    let ci := cIt d.n d.m
    let cc := cChk d.n d.m
    let j := min chk ((b - used - cc) / ci)
    if b < used + cc || j < 1 then fin 2 best cur ref used its 0 none
    else
      let (it, left) := iterates d l32 dinv j cur
      if left ≠ 0 then fin 5 best it ref (used + (j - left) * ci) (its + (j - left)) 3 none
      else
        let used := used + j * ci + cc
        let its := its + j
        match qCheck d it with
        | none => fin 5 best it ref used its 4 none
        | some (r, rp, rd, mu) =>
          let best := if f32.lt mu best.mu then { it := it, rp := rp, rd := rd, mu := mu } else best
          if f32.le mu 0x3F800000 then fin 1 best it r used its 0 none
          else match primalCert d ref r, dualCert d ref r with
            | some (some c), _ => fin 3 best it r used its 0 (some c)
            | none, _ => fin 5 best it r used its 4 none
            | some none, none => fin 5 best it r used its 4 none
            | some none, some (some c) => fin 4 best it r used its 0 (some c)
            | some none, some none => solveLoop d l32 dinv b chk fuel best it r used its

/-- A solve from a starting iterate with a factor at hand; `used0` is what setup and factorisation took (R172). -/
def solveFrom (d : QData) (l32 : List (List Nat)) (dinv : List Nat) (b chk used0 : Nat) (start : QIter) : QRes :=
  let used := used0 + cChk d.n d.m
  match qCheck d start with
  | none => { status := 5, ret := start, res := none, cert := none, iters := 0, used := used, cur := start, ref := none, step := 4 }
  | some (r, rp, rd, mu) =>
    let best : QBest := { it := start, rp := rp, rd := rd, mu := mu }
    if f32.le mu 0x3F800000 then
      { status := 1, ret := start, res := some (rp, rd, mu), cert := none, iters := 0, used := used, cur := start
        ref := some r, step := 0 }
    else solveLoop d l32 dinv b chk (b / (cIt d.n d.m) + 1) best start r used 0

end Sys2Proof.Machine
end

