-- ==== Sys2Proof/Machine/QpOps.lean ====
section
/-! DEFINITION. Shared operations of the solver slots: taking inputs, solving, results, placed requests (R168–R189). -/

namespace Sys2Proof.Machine
open Sys2Proof

/-- Changes one slot. -/
def modSlot (s : State) (p : Fin 64) (f : QSlot → QSlot) : State := { s with qp := { s.qp with slots := vmod s.qp.slots p f } }
/-- Cluster of a slot (R3). -/
def clusOf (p : Fin 64) : Fin 8 := ⟨p.val / 8, by omega⟩
/-- Changes one cluster's registers. -/
def modClus (s : State) (c : Fin 8) (f : QClus → QClus) : State := { s with qp := { s.qp with clus := vmod s.qp.clus c f } }
/-- Changes one template. -/
def modTmpl (s : State) (t : Fin 64) (f : QTmpl → QTmpl) : State :=
  { s with qp := { s.qp with tmpls := vmod s.qp.tmpls t (fun x => x.map f) } }

/-- Turns that a slot owns (R162). -/
def turnsOf (s : State) (p : Fin 64) : Nat :=
  let w := s.qp.clus[clusOf p].turns
  ((List.range 8).filter (fun j => bit w (24 + j) && fld w (3 * j) 3 == p.val % 8)).length

/-- Bits of the slot header's STATE (R165): iterate stored, factor valid, H pending. -/
def stateBit (m : Mem) (i : Nat) : Bool := bit (m.word 0x3C) i

/-- The slot memory with its penalties and its signature as the station computes them at a load (R164, R178). -/
def withStructure (m : Mem) : Mem :=
  let m1 := m.put 0x7000 (vecBytes ((List.range (qM m)).map (qRho m)))
  m1.putWord 0x30 (qSig m1)

/-- The content of a template enters a placed slot; the stored iterate, its state and the factor stay (R179, R185). -/
def loadTemplate (m : Mem) (c : List Byte) : Mem :=
  let m1 := (m.put 0 (c.take 0x30)).put 0x34 (sub c 0x34 8)
  withStructure ((m1.put 0x40 (sub c 0x40 (0x7180 - 0x40))).put 0x7E40 (sub c 0x7E40 (0x8640 - 0x7E40)))

/-! ### Inputs -/

/-- Word 0 and 1 of parameter `k`: DATA index, row, column and matrix (R169). -/
def paramOf (m : Mem) (k : Nat) : Nat × Nat × Nat × Bool :=
  let w0 := m.word (0x8340 + 12 * k)
  let w1 := m.word (0x8344 + 12 * k)
  (fld w0 0 20, fld w1 0 7, fld w1 8 6, bit w1 15)

/-- NPARAM. -/
def qNParam (m : Mem) : Nat := (m.word 0x34).toNat

/-- What a set of input bindings reads at a boundary (R181). -/
def takeIns (s : State) (bs : List Word) : List (Option TWord) :=
  bs.map (fun b => if connected' b then some (readBind s b) else none)
where
  connected' (b : Word) : Bool := b != 0xFFFFFFFF#32

/-- The variables of a memory's parameters as they read at a boundary (R169). -/
def takeParams (s : State) (m : Mem) : List TWord :=
  (List.range (qNParam m)).map (fun k => dataRead s (paramOf m k).1)

/-- The memory with captured inputs and parameters in their places (R169, R181). -/
def putInputs (m : Mem) (ins : List (Option TWord)) (params : List TWord) : Mem :=
  let n := qN m
  let k := qM m
  let addr := fun i => if i < n then 0x6C40 + 4 * i else if i < n + k then 0x6D00 + 4 * (i - n) else 0x6E80 + 4 * (i - n - k)
  let m1 := ins.zipIdx.foldl (fun m (x, i) => match x with
    | some w => m.putWord (addr i) w.val
    | none => m) m
  params.zipIdx.foldl (fun m (w, i) =>
    if m.word (0x8348 + 12 * i) = w.val then m
    else
      let (_, r, c, isA) := paramOf m i
      (m.putWord (0x8348 + 12 * i) w.val).putWord (if isA then 0x2440 + 192 * r + 4 * c else 0x0040 + 192 * r + 4 * c) w.val) m1

/-! ### A solve (R168–R180) -/

/-- The factor that a slot memory holds. -/
def factorIn (m : Mem) : List (List Nat) × List Nat :=
  let n := qN m
  ((List.range n).map (fun i => qVec m (0xCE80 + 192 * i) n), qVec m 0xF280 n)

/-- A new factor stored in the slot memory. -/
def storeFactor (m : Mem) (f : QFac) : Mem :=
  let m1 := f.l64.zipIdx.foldl (fun m (r, i) => m.put (0x8680 + 384 * i) (r.flatMap (leN 8))) m
  let m2 := f.l32.zipIdx.foldl (fun m (r, i) => m.put (0xCE80 + 192 * i) (vecBytes r)) m1
  m2.put 0xF280 (vecBytes f.dinv)

/-- An iterate from three vectors of the slot memory. -/
def iterIn (m : Mem) (ax az ay : Nat) : QIter := { x := qVec m ax (qN m), z := qVec m az (qM m), y := qVec m ay (qM m) }

/-- What a solve leaves in memory and reports. -/
structure SolveOut where
  mem : Mem
  res : QRes
  cold : Bool
  wsRej : Bool
  refact : Bool
  /-- floored pivots of a factorisation of this solve -/
  floored : Option (List Nat)
  /-- the factor cache is valid afterwards -/
  facValid : Bool
  /-- the solve went on to iterate with a factor -/
  facUsed : Bool
deriving Repr

/-- A solve that ends NUMERIC before any check. -/
def numericRes (start : QIter) (used step : Nat) : QRes :=
  { status := 5, ret := start, res := none, cert := none, iters := 0, used := used, cur := start, ref := none, step := step }

/-- What a solve has before its first computation: the memory with its inputs and the starting iterate (R169, R179). -/
def solveBase (q : QSlot) : SolveOut :=
  let m := putInputs q.mem q.ins q.params
  let n := qN m
  let k := qM m
  let stored := stateBit m 0
  let warmOk := bit (m.word 0x38) 0
  let sigOk := q.itSig == m.word 0x30
  let warm := warmOk && stored && sigOk && (q.status == 1#3 || q.status == 2#3) && !q.coldNow
  let zero := fun c => List.replicate c 0
  let start := if warm then iterIn m 0x7540 0x7600 0x7780 else { x := zero n, z := zero k, y := zero k }
  { mem := m, res := numericRes start (cSetup n k (qNParam m)) 1, cold := !warm, wsRej := stored && warmOk && !sigOk
    refact := false, floored := none, facValid := stateBit m 1, facUsed := false }

/-- One solve of a slot on its captured inputs (R168–R175, R179). -/
def solveSlot (q : QSlot) : SolveOut :=
  let base := solveBase q
  let m := base.mem
  let n := qN m
  let k := qM m
  let start := base.res.ret
  let setup := base.res.used
  let vals := (q.ins.filterMap id ++ q.params).map (fun w => w.val.toNat)
  let d := qData m
  if !allFinite vals || !allFinite d.rinv then base
  else
    let key := qFacKey m
    if stateBit m 1 && q.facKey == key then
      let (l32, dinv) := factorIn m
      { base with res := solveFrom d l32 dinv (m.word 0x0C).toNat (m.word 0x08).toNat setup start, facUsed := true }
    else
      let f := factorise d
      if !f.ok then
        { base with res := numericRes start (setup + cFact n k) 2, refact := true, floored := some f.floored, facValid := false }
      else
        { base with mem := storeFactor m f, refact := true, floored := some f.floored, facValid := true, facUsed := true
                    res := solveFrom d f.l32 f.dinv (m.word 0x0C).toNat (m.word 0x08).toNat (setup + cFact n k) start }

/-- The iterates, references and certificate of a solve stored in memory, and the header's STATE (R164, R171, R175, R180). -/
def storeResult (o : SolveOut) : Mem :=
  let r := o.res
  let ret := match r.status, r.cert with
    | 3, some c => { r.ret with y := c }
    | _, _ => r.ret
  let m1 := ((o.mem.put 0x7180 (vecBytes r.cur.x)).put 0x7240 (vecBytes r.cur.z)).put 0x73C0 (vecBytes r.cur.y)
  let m2 := ((m1.put 0x7540 (vecBytes ret.x)).put 0x7600 (vecBytes ret.z)).put 0x7780 (vecBytes ret.y)
  let m3 := match r.ref with
    | some f => ((((m2.put 0x7900 (vecBytes f.x)).put 0x79C0 (vecBytes f.y)).put 0x7B40 (vecBytes f.ax)).put 0x7CC0
        (vecBytes f.px)).put 0x7D80 (vecBytes f.aty)
    | none => m2
  let m4 := match r.cert with
    | some c => m3.put 0xF340 (vecBytes c)
    | none => m3
  let h := (stateBit o.mem 2 || o.cold) && r.status ≠ 1
  m4.putWord 0x3C (pack [(0, 1, 1), (1, 1, b2n o.facValid), (2, 1, b2n h)])

/-- The quality that a status gives the outputs (R175). -/
def statusQ (st : Nat) : BitVec 3 := if st = 1 then 0 else if st = 5 then 6 else 2

/-- Tag of the outputs of a solve: R14 over the operands, with S 0 as for every value of a solver (R35, R177). -/
def solveTag (q : QSlot) (placed : Bool) (st : Nat) (h : Bool) : Tag :=
  let ts := (q.ins.filterMap id ++ q.params).map (fun w => w.tag)
  let t := match ts with
    | [] => mkTag 0 false 0 false 5
    | a :: r => r.foldl (fun x y => combine x y placed 5) (combine a a placed 5)
  let u := tagAtLeast t (statusQ st)
  { u with c := placed, h := u.h || h, s := false }

/-- Number of a slot's event source (R407). -/
def slotSrc (p : Fin 64) : Nat := 192 + p.val

/-- The status word of a solve (R177). -/
def statusWord (st : Nat) (wsRej cold piv refact : Bool) (iters : Nat) (echo : Nat) : Word :=
  pack [(0, 3, st), (3, 1, b2n wsRej), (4, 1, b2n cold), (5, 1, b2n piv), (6, 1, b2n refact), (8, 12, min iters 4095),
        (20, 12, echo)]

/-- Outputs through a slot's bindings: X, Y, MERIT and STATUS (R177). -/
def slotOutputs (b : QBind) (x y : List Nat) (merit : Word) (st : Word) (t : Tag) (placed : Bool) : List (Word × TWord) :=
  let w := fun (v : Nat) => ({ val := BitVec.ofNat 32 v, tag := t } : TWord)
  let ts : Tag := { q := 0, c := placed, f := false, h := false, age := 0, s := false, origin := 5 }
  b.xs.zip (x.map w) ++ b.ys.zip (y.map w) ++ [(b.merit, { val := merit, tag := t }), (b.status, { val := st, tag := ts })]

/-- The end of a solve: memory, registers, outputs, entries and the slot's event (R172–R180). -/
def finishSolve (s : State) (p : Fin 64) (o : SolveOut) : State :=
  let q := s.qp.slots[p]
  let r := o.res
  let placed := q.tier == 7#3
  let mem := storeResult o
  let h := stateBit mem 2
  let fl := match o.floored with
    | some l => !l.isEmpty
    | none => q.facFloored
  let usesFloored := fl && o.facUsed
  let firstFl := usesFloored && !q.pivotSaid
  let piv := (o.floored.map (fun l => !l.isEmpty)).getD false || firstFl
  -- the residuals of a solve that completed no check are free
  let ((rp, rd), s1) : (Word × Word) × State := match r.res with
    | some (a, b, _) => ((BitVec.ofNat 32 a, BitVec.ofNat 32 b), s)
    | none => let (a, s1) := drawWord s; let (b, s2) := drawWord s1; ((a, b), s2)
  let merit : Word := match r.res with
    | some (_, _, c) => BitVec.ofNat 32 c
    | none => 0x7F800000
  let yOut := match r.status, r.cert with
    | 3, some c => c
    | _, _ => r.ret.y
  let stw := statusWord r.status o.wsRej o.cold piv o.refact r.iters (if placed then q.reqEcho.toNat else 0)
  let outs := slotOutputs q.bind r.ret.x yOut merit stw (solveTag q placed r.status h) placed
  let q1 : QSlot := { q with
    mem := mem, itSig := mem.word 0x30, phase := .idle, coldNow := false
    facKey := if o.refact then (if o.facValid then qFacKey o.mem else []) else q.facKey
    facFloored := fl, status := BitVec.ofNat 3 r.status, wsRej := o.wsRej, cold := o.cold, pivotFixed := piv
    refact := o.refact, iter := BitVec.ofNat 12 (min r.iters 4095), merit := merit, rp := rp, rd := rd
    used := BitVec.ofNat 32 r.used, solveCnt := q.solveCnt + 1
    deadlineCnt := if r.status = 2 then satInc q.deadlineCnt else q.deadlineCnt
    infeasCnt := if r.status = 3 || r.status = 4 then satInc q.infeasCnt else q.infeasCnt
    numericCnt := if r.status = 5 then satInc q.numericCnt else q.numericCnt
    pivFirst := match o.floored with | some l => BitVec.ofNat 6 (l.headD 0) | none => q.pivFirst
    pivCount := match o.floored with | some l => BitVec.ofNat 6 l.length | none => q.pivCount
    numericSaid := q.numericSaid || (r.status = 5 && r.step ≠ 0), pivotSaid := q.pivotSaid || usesFloored
    out := if placed then none else some outs, peer := none }
  -- the last problem of a slot that its profile no longer uses: the slot is cleared (R188)
  let s2 := modSlot s1 p (fun _ => if q.tier = 0 then { QSlot.unused with evtMask := q.evtMask } else q1)
  let s3 := if r.status = 5 && r.step ≠ 0 && !q.numericSaid then logEntry s2 0x2800 p.val sevNotice [BitVec.ofNat 8 r.step] else s2
  let s4 := if firstFl then logEntry s3 0x2801 p.val sevNotice [BitVec.ofNat 8 q1.pivFirst.toNat, BitVec.ofNat 8 q1.pivCount.toNat]
            else s3
  let ev := q.evtMask.getLsbD r.status || (q.evtMask.getLsbD 6 && o.wsRej) || (q.evtMask.getLsbD 7 && piv)
  let s5 := if ev then raise s4 (slotSrc p) else s4
  if !placed then s5
  else match q.peer with
    | some x => send s5 (.peerResult x.station x.template x.issue (outs.map (fun y => y.2)))
    | none => { s5 with qp := { s5.qp with tmpls := vmodN s5.qp.tmpls q.template.toNat (fun t => t.map (fun t =>
        match t.run with
        | some (_, .slot p') => if p' = p then { t with res := some outs } else t
        | _ => t)) } }

/-- A memory error ends the solve in progress with NUMERIC, returning its starting iterate with merit +∞ (R189); the slot
cycles it had used by then are free. -/
def memErrSolve (s : State) (p : Fin 64) : State :=
  let o := solveBase s.qp.slots[p]
  let (u, s1) := drawWord s
  finishSolve s1 p { o with res := { o.res with used := u.toNat, step := 0 } }

/-! ### AGE of waiting problems (R54) -/

/-- AGE of a template's waiting request (R54). -/
def reqAge (s : State) (x : QTmpl) (r : PReq) : Nat := min ((if x.soon then 125000 else 0) + (refNow s - r.t0) / 8) 0x7FFFFF

/-- AGE of a peer's waiting problem (R54). -/
def peerAge (s : State) (w : PeerWait) : Nat := min (w.prob.age + (refNow s - w.t0) / 8) 0x7FFFFF

/-! ### Boundaries -/

/-- RUN begins: slots are started, and what is reported once per RUN can be reported again (R174, R176, R181, R184). -/
def slotsStart (s : State) : State :=
  { s with qp := { s.qp with
      slots := s.qp.slots.map (fun q => { q with started := q.tier ≠ 0, numericSaid := false, pivotSaid := false })
      tmpls := s.qp.tmpls.map (fun t => t.map (fun t => { t with prev := none })) } }

/-- Timed slots of a tier take their inputs at its boundary (R181, R182). -/
def slotsTake (s : State) (k : Nat) : State :=
  (allFin 64).foldl (fun s p =>
    let q := s.qp.slots[p]
    if q.tier.toNat = k && q.started && q.phase == .idle && !q.reload then
      modSlot s p (fun q => { q with phase := .taken, ins := takeIns s q.bind.ins, params := takeParams s q.mem })
    else s) s

/-- Results written to output buffers are handed over at a boundary of tier `k`, and so are placed results handed back by then at
least 4 µs ago, the distribution window of R26 (R40, R50, R181, R185). -/
def slotsHandover (s : State) (k : Nat) : State :=
  let put := fun (s : State) (l : List (Word × TWord)) => l.foldl (fun s x => writeBind s x.1 x.2) s
  let s1 := (allFin 64).foldl (fun s p =>
    let q := s.qp.slots[p]
    match q.out with
    | some l => if q.tier.toNat = k then modSlot (put s l) p (fun q => { q with out := none }) else s
    | none => s) s
  if isStandby s then s1 else
  (allFin 64).foldl (fun s t =>
    match s.qp.tmpls[t] with
    | some x =>
      let due := fun (y : PReq × Nat × List (Word × TWord)) => x.tier == k && y.2.1 + 4000 ≤ s.stn.lastB
      let s1 := (x.deliver.filter due).foldl (fun s y =>
        put s (y.2.2.map (fun z => (z.1, { z.2 with tag := { z.2.tag with c := true, age := 0 } })))) s
      modTmpl s1 t (fun x => { x with deliver := x.deliver.filter (fun y => !due y) })
    | none => s) s1

/-- A change of REQ_VAR between two snapshots of the requesting tier issues a request (R184, R185). -/
def requestScan (s : State) (k : Nat) : State :=
  (allFin 64).foldl (fun s t =>
    match s.qp.tmpls[t] with
    | none => s
    | some x =>
      if x.tier ≠ k then s
      else
        let v := (readBind s x.req).val
        let new := match x.prev with
          | some o => o ≠ v
          | none => false
        let m := withStructure (Mem.put [] 0 x.content)
        let r : PReq := { val := v, t0 := s.stn.lastB, ins := takeIns s x.bind.ins, params := takeParams s m, sat := false }
        let sup := new && !x.wait.isEmpty
        let s1 := modTmpl s t (fun x => { x with
          prev := if inRunHold s || x.prev.isSome then some v else none
          wait := if new then x.wait.dropLast ++ [r] else x.wait })
        match sup, x.run with
        | true, some (_, .slot p) => modSlot s1 p (fun q => { q with supersede := satInc q.supersede })
        | _, _ => s1) s

/-- The requests of a template issued anew: those outstanding wait again, their AGE restarting now (R54, R186). -/
def QTmpl.reissue (t : QTmpl) (now : Nat) (runToo : Bool) : QTmpl :=
  let again := fun (r : PReq) => { r with t0 := now, sat := false }
  let run := match t.run with
    | some (r, _) => if runToo then [again r] else []
    | none => []
  { t with wait := run ++ t.wait.map again, run := if runToo then none else t.run, res := if runToo then none else t.res }

/-- When a peer is lost, the requests that run there wait again (R186, R288). -/
def replaceProblems (s : State) (which : PPlace → Bool) : State :=
  { s with qp := { s.qp with tmpls := s.qp.tmpls.map (fun t => t.map (fun t =>
      match t.run with
      | some (r, pl) => if which pl then { t with wait := { r with t0 := refNow s, sat := false } :: t.wait, run := none, res := none } else t
      | none => t)) } }

/-- After a switchover the new active station issues every recorded request again: those handed back and not delivered, those
running and those waiting. Its issues are numbered past all that the old one can have made since the last distributed set, so that no
result of an earlier issue is taken for one of these (R186; assumption log 81). -/
def reissueAll (s : State) : State :=
  { s with qp := { s.qp with issued := s.qp.issued + 256, tmpls := s.qp.tmpls.map (fun t => t.map (fun t =>
      let u := t.reissue (refNow s) true
      { u with wait := t.deliver.map (fun y => { y.1 with t0 := refNow s, sat := false }) ++ u.wait, deliver := [] })) } }

/-- The placed slots of a standby idle, and no problem waits there for one (R50, R187). -/
def QpBlk.placedIdle (q : QpBlk) : QpBlk :=
  { q with slots := q.slots.map (fun p => if p.tier == 7#3 then { p with phase := .idle, peer := none } else p), peers := [] }

/-- The image content of a slot enters its memory afresh: nothing is stored and no factor is valid (R188, R189). -/
def freshSlotMem (content : List Byte) : Mem :=
  let m := Mem.put [] 0 content
  withStructure (((m.putWord 0x30 0).putWord 0x3C 0))

end Sys2Proof.Machine
end

