-- ==== Sys2Proof/Machine/QpCmds.lean ====
section
/-! DEFINITION. The meanings of the solver commands (R172, R181, R185–R189). -/

namespace Sys2Proof.Machine
open Sys2Proof

/-- SOLVE_RELEASE: the solve of a timed slot is released at the rotation start 4 µs after its boundary, or at the next one where the
boundary's set was composed late (R181, R187, R267). -/
def execSolveRelease (p : Fin 64) (s : State) : Host.Outcome State Fault Refusal :=
  guarded s (alive s && s.qp.slots[p].phase == .taken) (fun s =>
    modSlot (passTo s (s.stn.lastB + 4000 + (if lateOf s s.stn.lastB = 0 then 0 else 4000))) p (fun q =>
      { q with phase := .solving, coldNow := q.coldCarried, coldReq := q.coldReq && !q.coldCarried, coldCarried := false }))

/-- SOLVE_COMPLETE: a solve ends and its results are written to the output buffer; the placed slots of a standby idle (R172, R187). -/
def execSolveComplete (p : Fin 64) (s : State) : Host.Outcome State Fault Refusal :=
  guarded s (alive s && s.qp.slots[p].phase == .solving && !(isStandby s && s.qp.slots[p].tier == 7)) (fun s => finishSolve s p (solveSlot s.qp.slots[p]))

/-- A placed slot that is free. -/
def slotFree (s : State) (p : Fin 64) : Bool :=
  let q := s.qp.slots[p]
  q.tier == 7#3 && q.phase == .idle && !q.reload

/-- The free placed slot that R52 chooses: the cluster with the most free placed slots, the lower index on a tie. -/
def freeSlot (s : State) : Option (Fin 64) :=
  let free := (allFin 64).filter (slotFree s)
  let cnt := fun (c : Fin 8) => (free.filter (fun p => clusOf p == c)).length
  free.foldl (fun a p => match a with
    | none => some p
    | some b => if cnt (clusOf b) < cnt (clusOf p) then some p else some b) none

/-- Loads a placed problem into a slot and starts it (R179, R185). -/
def startPlaced (s : State) (p : Fin 64) (t : Nat) (content : List Byte) (bind : QBind) (r : PReq)
    (peer : Option PeerProb) : State :=
  modSlot s p (fun q =>
    { q with mem := loadTemplate q.mem content, bind := bind, ins := r.ins, params := r.params, phase := .solving
             template := BitVec.ofNat 6 t, remote := peer.isSome, reqEcho := r.val.truncate 12, peer := peer
             coldNow := q.coldCarried, coldReq := q.coldReq && !q.coldCarried, coldCarried := false })

/-- The bindings of a peer's problem: nothing here is connected. -/
def peerBind (content : List Byte) (r : PReq) : QBind :=
  let w := 0xFFFFFFFF#32
  { ins := r.ins.map (fun _ => w), xs := List.replicate (rd content 0 4) w, ys := List.replicate (rd content 4 4) w
    merit := w, status := w }

/-! ### Choosing (R52, R53) -/

/-- AGE of the request of template `t` that may start; none when none waits or one runs. -/
def waitingAge (s : State) (t : Fin 64) : Option Nat :=
  match s.qp.tmpls[t] with
  | some x => if x.run.isSome then none else x.wait.head?.map (reqAge s x)
  | none => none

/-- How far a template stands behind the one whose request the solver intake took last (R53). -/
def tmplTurn (s : State) (t : Fin 64) : Nat := (t.val + 63 - s.qp.lastT.val) % 64

/-- The template whose request the solver intake takes next: the largest AGE, round robin among those that tie (R53). -/
def nextTmpl (s : State) : Option (Fin 64) :=
  (allFin 64).foldl (fun a t =>
    match a, waitingAge s t with
    | a, none => a
    | none, some _ => some t
    | some b, some k =>
      let kb := (waitingAge s b).getD 0
      if kb < k || (kb = k && tmplTurn s t < tmplTurn s b) then some t else some b) none

/-- How far a station stands behind the one whose problem the queue of the peers gave last (R53). -/
def stnTurn (s : State) (k : Nat) : Nat := (k + 127 - s.qp.lastStn) % 128

/-- The peers' problem that their queue gives next: the largest AGE, round robin among the stations that tie (R53). -/
def nextPeer (s : State) : Option PeerWait :=
  s.qp.peers.foldl (fun a w =>
    match a with
    | none => some w
    | some b =>
      if peerAge s b < peerAge s w || (peerAge s b = peerAge s w && stnTurn s w.prob.station < stnTurn s b.prob.station) then some w
      else some b) none

/-- The solver intake takes the peers' problem `w` before the own request of AGE `k`: it is older, or as old while the intake took an own
one last (R53). -/
def peerFirst (s : State) (w : PeerWait) (k : Nat) : Bool := k < peerAge s w || (k == peerAge s w && !s.qp.lastPeer)

/-- A free slot here is due to an own request, and not to a problem of a peer (R53). -/
def ownFirst (s : State) (t : Fin 64) : Bool :=
  match waitingAge s t, nextPeer s with
  | some k, some w => !peerFirst s w k
  | some _, none => true
  | none, _ => false

/-- Hops between two pairs along the tree (R277); a pair lies at most 5 levels deep. -/
def treeHops : Nat → Nat → Nat → Nat
  | 0, _, _ => 0
  | n + 1, a, b => if a = b then 0 else if a < b then treeHops n a (pairUp1 b) + 1 else treeHops n (pairUp1 a) b + 1

/-- The peer that R52 chooses among those that offer a free placed slot: the fewest Transom hops, the lower station number on a
tie. -/
def nearestPeer (s : State) (offers : List Nat) : Option Nat :=
  let hops := fun k => treeHops 10 s.stk.pairNum.toNat (k / 2)
  offers.foldl (fun a k => match a with
    | none => some k
    | some b => if hops k < hops b || (hops k = hops b && k < b) then some k else some b) none

/-- Words of the transfer that carries a problem: its content, and a word for each captured input (R185). -/
def problemWords (content : List Byte) (r : PReq) : Nat := cdiv content.length 4 + (r.ins.filterMap id).length + r.params.length

/-- Template `t` of the own array starts its oldest request: on a free placed slot here, otherwise on the nearest peer, to which its
content and inputs go as a placed transfer with the AGE that it has (R52, R54, R185). -/
def ownStart (s : State) (t : Fin 64) (offers : List Nat) : State :=
  match s.qp.tmpls[t] with
  | none => s
  | some x =>
    match x.wait with
    | [] => s
    | r :: w =>
      let began := fun (s : State) (pl : PPlace) =>
        let s1 := modTmpl s t (fun x => { x with wait := w, run := some (r, pl), res := none, issue := s.qp.issued + 1 })
        { s1 with qp := { s1.qp with lastT := t, lastPeer := false, issued := s.qp.issued + 1 } }
      match freeSlot s, nearestPeer s offers with
      | some p, _ => began (startPlaced s p t.val x.content x.bind r none) (.slot p)
      | none, some k =>
        let s1 := send (began s (.peer k)) (.peerProblem k t.val (s.qp.issued + 1) x.content r (reqAge s x r))
        plTakeAged s1 [(plOver s 2 x.soon 5 k (problemWords x.content r), reqAge s x r)]
      | none, none => s

/-- A waiting placed problem starts (R52, R185). -/
def placedStart (s : State) (src : PlacedSrc) : State :=
  match src with
  | .fromPeer x =>
    match freeSlot s with
    | some p =>
      let s1 := startPlaced s p x.template x.content (peerBind x.content x.req) x.req (some x)
      { s1 with qp := { s1.qp with peers := s1.qp.peers.eraseP (fun w => w.prob == x), lastStn := x.station, lastPeer := true } }
    | none => s
  | .own t offers => ownStart s t offers

/-- The problem of a command can start: the oldest one waiting, where there is a free slot here, or a peer that offers one in a
stack; a standby runs none (R50, R52, R53, R187). -/
def placedCan (s : State) (src : PlacedSrc) : Bool :=
  !isStandby s &&
  match src with
  | .fromPeer x => (freeSlot s).isSome &&
    (match nextPeer s with
     | some w => w.prob == x && (match nextTmpl s with | some t => !ownFirst s t | none => true)
     | none => false)
  | .own t offers => nextTmpl s == some t &&
    (if (freeSlot s).isSome then ownFirst s t else !offers.isEmpty && s.stk.inStack)

/-- A placed problem of a stack peer arrives and waits at the solver intake; a standby takes none (R50, R52, R53). -/
def problemHear (s : State) (x : PeerProb) : State :=
  if isStandby s || !s.stk.inStack then s
  else { s with qp := { s.qp with peers := s.qp.peers ++ [{ prob := x, t0 := refNow s, sat := false }] } }

/-- PLACED_PROBLEM_START (R52, R185). -/
def execPlacedProblemStart (src : PlacedSrc) (s : State) : Host.Outcome State Fault Refusal :=
  guarded s (alive s && placedCan s src) (fun s => placedStart s src)

/-- The words of a result in the order of its bindings (R177). -/
def bindOuts (b : QBind) (l : List TWord) : List (Word × TWord) := (b.xs ++ b.ys ++ [b.merit, b.status]).zip l

/-- The outputs that are handed back now: those of the local slot, or those that the peer returned for the present issue
(R185, R186). -/
def placedOuts (s : State) (t : Fin 64) (remote : Option (Nat × List TWord)) : Option (List (Word × TWord)) :=
  match s.qp.tmpls[t] with
  | none => none
  | some x =>
    match x.run, remote with
    | some (_, .slot _), _ => x.res
    | some (_, .peer _), some (i, l) => if i = x.issue then some (bindOuts x.bind l) else none
    | _, _ => none

/-- PLACED_RESULT: a result is handed back and enters the input set of the first boundary of the requesting tier at least 4 µs
on; the request stays recorded until then (R50, R185, R186). -/
def execPlacedResult (t : Fin 64) (remote : Option (Nat × List TWord)) (s : State) : Host.Outcome State Fault Refusal :=
  guarded s (alive s && !isStandby s && (placedOuts s t remote).isSome) (fun s =>
    modTmpl s t (fun x =>
      match x.run, placedOuts s t remote with
      | some (r, _), some l => { x with deliver := x.deliver ++ [(r, refNow s, l)], run := none, res := none }
      | _, _ => x))

/-- SLOT_MEM_ERR: an uncorrectable ECC error at a byte offset of a slot's memory (R189). -/
def execSlotMemErr (p : Fin 64) (ofs : BitVec 16) (s : State) : Host.Outcome State Fault Refusal :=
  guarded s (alive s && s.qp.slots[p].tier != 0) (fun s =>
    let s1 := modClus s (clusOf p) (fun k => { k with memErr := true })
    let s2 := if s.qp.slots[p].phase == .solving then memErrSolve s1 p else s1
    let s3 := modSlot s2 p (fun q => { q with phase := .idle, reload := true, facKey := [] })
    logEntry s3 0x2802 p.val sevMajor (leN 4 ofs.toNat))

/-- Slot content of the running image: the SLOT record of a timed slot, the template last run of a placed one (R189, R349). -/
def slotContent (s : State) (p : Fin 64) : List Byte :=
  let q := s.qp.slots[p]
  if q.tier = 7 then ((vget s.qp.tmpls q.template.toNat none).map (fun t => t.content)).getD []
  else match s.img.running with
    | some b => ((recBody (recs b 6) 0x0602 p.val).getD []).drop 4
    | none => []

/-- SLOT_RELOAD_DONE: the content stands again as the active image gives it; the next solve starts cold (R189). -/
def execSlotReloadDone (p : Fin 64) (s : State) : Host.Outcome State Fault Refusal :=
  guarded s (alive s && s.qp.slots[p].reload) (fun s =>
    modSlot s p (fun q => { q with mem := freshSlotMem (slotContent s p), facKey := [], reload := false }))

/-- Clears STAT_CNT of a slot. -/
def QSlot.clearStat (q : QSlot) : QSlot := { q with deadlineCnt := 0, infeasCnt := 0, numericCnt := 0 }

/-- QP.SC_c.CL_CTRL.CLR_STAT (R7). -/
def qpClrStat (s : State) (c : Fin 8) : State :=
  ((allFin 64).filter (fun p => clusOf p == c)).foldl (fun s p =>
    modSlot s p (fun q => { q.clearStat with supersede := 0 })) s

/-- QP_CL_CLR_STAT (R7). -/
def execQpClClrStat (sess : Fin 4) (c : Fin 8) (s : State) : Host.Outcome State Fault Refusal :=
  openCmd s sess (fun s => qpClrStat s c)

/-- Address of a register of a slot. -/
def slotAddr (p : Fin 64) (o : Nat) : Nat := 0xD0000 + (p.val / 8) * 0x2000 + 0x100 + (p.val % 8) * 0x40 + o

/-- A write of QP.SC_c.SLOT_s.CTRL (R7, R179, R187): a cold request travels only from the active station. -/
def slotCtrlWrite (s : State) (p : Fin 64) (cold clr : Bool) : State :=
  let s1 := if clr then modSlot s p QSlot.clearStat else s
  if cold && !isStandby s && !s.qp.slots[p].coldReq then
    accept (modSlot s1 p (fun q => { q with coldReq := true, coldCarried := false })) (.coldReq p)
  else s1

/-- COLD_REQ (R179). -/
def execColdReq (sess : Fin 4) (p : Fin 64) (s : State) : Host.Outcome State Fault Refusal :=
  keyedCmd s sess (slotAddr p 0x30) (fun s => slotCtrlWrite s p true false)
/-- SLOT_CLR_CNT (R7). -/
def execSlotClrCnt (sess : Fin 4) (p : Fin 64) (s : State) : Host.Outcome State Fault Refusal :=
  keyedCmd s sess (slotAddr p 0x30) (fun s => slotCtrlWrite s p false true)

/-- A read of QP.SC_c.MEM_DATA: the word, and the address one word on (R164). -/
def memDataRead (s : State) (c : Fin 8) : Word × State :=
  let k := s.qp.clus[c]
  let q := vget s.qp.slots (8 * c.val + k.slot.toNat) QSlot.unused
  (q.mem.word (4 * k.addr.toNat), modClus s c (fun k => { k with addr := k.addr + 1 }))

end Sys2Proof.Machine
end

