-- ==== Sys2Proof/Machine/StkOps.lean ====
section
/-! DEFINITION. Stack time, stack roles, timed stack transfers, barriers and snapshots (chapter 12). -/

namespace Sys2Proof.Machine
open Sys2Proof

/-- Changes STK. -/
def modStk (s : State) (f : StkBlk → StkBlk) : State := { s with stk := f s.stk }

/-- Event source `i` of the pair and stack group (R406). -/
def psSrc (i : Nat) : Nat := 448 + i

/-- Stack time (R282). -/
def stackTime (s : State) : BitVec 64 := s.stn.time + s.stk.ofs

/-- The depth of pair `p` (R277). -/
def pairDepth (p : Nat) : Nat := Nat.log2 (p + 1)

/-- Bit of the station's own pair in MEMBERS. -/
def ownPair (s : State) : Word := 1#32 <<< s.stk.pairNum.toNat

/-- The station is the master of the stack or of a fragment (R279, R289). -/
def isMaster (s : State) : Bool := s.stk.role == 2#3 || s.stk.role == 4#3

/-- A change of master or fragment master at this station (R289, R290). -/
def newMaster (s : State) : State :=
  raise (modStk s (fun k => { k with reroot := satInc k.reroot })) (psSrc 12)

/-! ### The tier reference (R22, R23) -/

/-- STN.TIER_REF.SRC (R22). The table has no row for an ACTIVE or ACTIVE_SOLO station of a pair outside a stack, which reads 0, nor
for a SEEKING, SYNCHRONISING, FAULTY or ISOLATED station of a pair, which reads 0, or 2 in a stack: the model's choice (assumption
log 67). -/
def tierSrc (s : State) : Nat := if isStandby s then 1 else if s.stk.inStack then 2 else 0

/-- A station that synchronises changes to the active station's tier reference (R23, R275); how far its boundaries lie off those of
the active station, the outside world settles (assumption log 66). -/
def slewToActive (s : State) : State :=
  let (w, s1) := drawWord s
  slewBy s1 ((w.toNat : Int) % 100000001 - 50000000)

/-- The station's boundaries change to stack time, where that is its reference (R22, R23). -/
def slewToStack (s : State) : State :=
  if isStandby s || s.pair.state == 5#3 then s else slewBy s (stepOff (stackTime s) s.stn.tierRef)

/-- A station outside a pair and outside a stack goes by its own station time (R22, R23). -/
def slewToOwn (s : State) : State :=
  if s.pair.member || s.stk.member then s else slewBy s (stepOff s.stn.time s.stn.tierRef)

/-- Where a change of role has made stack time the tier reference, its boundaries realign (R22, R23). -/
def slewFrom (src : Nat) (s : State) : State := if tierSrc s = 2 && src ≠ 2 then slewToStack s else s

/-! ### Roles (R279, R289, R290) -/

/-- The pair is the top of its stack or fragment: it is pair 0, or its parent is not reachable (R277, R289). -/
def isTop (k : StkBlk) : Bool := k.pairNum == 0#5 || !bit k.members (pairUp1 k.pairNum.toNat)

/-- The station is the active one of its pair, or stands alone. -/
def isActive (s : State) : Bool := s.pair.state == 0#3 || s.pair.state == 2#3 || s.pair.state == 3#3

/-- The stack role follows the pair role and what is reachable. At pair 0 the active station is the master, and its partner the backup
master, which takes over as master (R279, R290). Elsewhere, the active station of a pair that both trees have cut off from its parent
becomes the master of the fragment below it (R289). -/
def stkRoles (s : State) : State :=
  let k := s.stk
  if !k.member then s
  else if k.pairNum = 0#5 then
    if isActive s then
      if k.role == 2#3 then s
      else
        let s1 := modStk s (fun k => { k with role := 2, synced := true, members := k.members ||| ownPair s, masterSched := k.schedId
                                              mismatch := false })
        if k.role == 3#3 then newMaster s1 else s1
    else if isStandby s then modStk s (fun k => { k with role := 3, synced := true })
    else modStk s (fun k => { k with role := 5, synced := false })
  else if k.role == 1#3 && isTop k && isActive s then
    raise (newMaster (modStk s (fun k => { k with role := 4, holdover := true, masterSched := k.schedId, mismatch := false }))) (psSrc 13)
  else if k.role == 4#3 && !isActive s then modStk s (fun k => { k with role := 1, holdover := false })
  else s

/-! ### Messages of the stack -/

/-- A message of the stack leaves on these outputs: ports, or the Sash link where none is given. -/
def stkMsg (s : State) (outs : List (Option (Fin 3))) (p : TPkt) : State := if outs.isEmpty then s else sendLink s (.stack outs p)

/-- The ports of a list that are up. -/
def upPorts (s : State) (l : List (Fin 3)) : List (Option (Fin 3)) := (l.filter (fun q => s.stk.up[q])).map some

/-- The Sash link, in a pair. -/
def sashOut (s : State) : List (Option (Fin 3)) := if s.pair.member then [none] else []

/-- Where a message from the master goes on, by where it came from (4 the Sash link, 5 + q port q): from above down the own tree and to
the partner; from the partner down the own tree, where that is cut above (R291). -/
def downOuts (s : State) (from_ : Fin 8) : List (Option (Fin 3)) :=
  if from_ = 5 then upPorts s [1, 2] ++ sashOut s
  else if from_ = 4 && !s.stk.up[(0 : Fin 3)] then upPorts s [1, 2] else []

/-- Where a message to the master goes on: up the own tree, or over the Sash link where that is cut above (R292). -/
def upOuts (s : State) (from_ : Fin 8) : List (Option (Fin 3)) :=
  if s.stk.up[(0 : Fin 3)] then [some 0] else if from_ = 4 then [] else sashOut s

/-! ### Membership (R277, R284, R288) -/

/-- A word with the bits of the pairs that satisfy `f`. -/
def pairSet (f : Nat → Bool) : Word := (List.range 32).foldl (fun w p => if f p then w ||| (1#32 <<< p) else w) 0

/-- Pairs of `m` that hang together with those of `x` in the tree, found in as many steps as the first argument says (R277). -/
def growPairs : Nat → Word → Word → Word
  | 0, _, x => x
  | n + 1, m, x =>
    growPairs n m (x ||| pairSet (fun p => bit m p && ((p ≠ 0 && bit x (pairUp1 p)) || bit x (2 * p + 1) || bit x (2 * p + 2))))

/-- Pairs that a station of pair `own` reaches on one tree when it has heard of the pairs `m`; every pair but 0 requires its parent on the
way (R277). -/
def treeReach (own : Nat) (m : Word) : Word := growPairs 10 m (1#32 <<< own)

/-- The pairs that the station reaches on its own tree: those that its ports have heard of, each on its far side (R288). -/
def ownReach (s : State) : Word :=
  let own := s.stk.pairNum.toNat
  treeReach own ((allFin 3).foldl (fun w q =>
    if s.stk.up[q] then w ||| (s.stk.heard[q] &&& pairSet (farSide own q)) else w) 0)

/-- The pairs that are reachable on either tree (R288). -/
def reachable (s : State) : Word := ownReach s ||| treeReach s.stk.pairNum.toNat s.stk.mirror

/-- Depth D of the reachable stack (R277). -/
def stackDepth (m : Word) : Nat := (List.range 32).foldl (fun d p => if bit m p then max d (pairDepth p) else d) 0

/-! ### Barriers (R292) -/

/-- The barrier is released, or fails, at this station; one that waits at another barrier goes on waiting (R292). -/
def barrierEnd (s : State) (id : BitVec 16) (failed : Bool) : State :=
  let s1 := modStk s (fun k => { k with cols := k.cols.filter (fun c => c.id ≠ id) })
  if s.stk.barState == 1#2 && s.stk.barId != id then s1
  else raise (modStk s1 (fun k => { k with barId := id, barState := if failed then 3 else 2 })) (psSrc 14)

/-- The master releases a barrier at every station (R291, R292). -/
def barrierRelease (s : State) (id : BitVec 16) (failed : Bool) : State :=
  barrierEnd (stkMsg s (upPorts s [1, 2] ++ sashOut s) (.barRelease id failed)) id failed

/-- Barriers at which every reachable pair has arrived are released (R292). -/
def barriersDue (s : State) : State :=
  s.stk.cols.foldl (fun s c => if c.bits &&& s.stk.members == s.stk.members then barrierRelease s c.id false else s) s

/-- An arrival joins those of its barrier; the first one begins the 10 ms (R292). -/
def arrive (cols : List Collect) (id : BitVec 16) (pairs : Word) (now : Nat) : List Collect :=
  if cols.any (fun c => c.id == id) then cols.map (fun c => if c.id = id then { c with bits := c.bits ||| pairs } else c)
  else cols ++ [{ id := id, bits := pairs, t0 := now }]

/-- An arrival at the master, which releases when every reachable pair has arrived; elsewhere it goes on toward the master (R292). -/
def barrierCollect (s : State) (pair : Fin 32) (id : BitVec 16) (outs : List (Option (Fin 3))) : State :=
  if !isMaster s then stkMsg s outs (.barArrive pair id)
  else barriersDue (modStk s (fun k => { k with cols := arrive k.cols id (1#32 <<< pair.val) (refNow s) }))

/-- STK.BARRIER written by a session: the pair arrives, on both trees (R292). -/
def barrierWrite (s : State) (id : BitVec 16) : State :=
  if s.stk.role = 0 || isStandby s then s
  else if s.stk.barState = 1 then
    if s.stk.barId = id then s
    else logEntry s 0x4000 (2 * s.stk.pairNum.toNat + b2n s.stn.pairIdPin) sevNotice (leN 2 id.toNat ++ leN 2 s.stk.barId.toNat)
  else
    let s1 := modStk s (fun k => { k with barId := id, barState := 1 })
    barrierCollect s1 s.stk.pairNum.toFin id (upPorts s [0] ++ sashOut s)

/-! ### Changes of membership (R284, R288, R289) -/

/-- The stack time that the station carries, if it takes part in a stack with one (R283). -/
def timeCarried (s : State) : Option (BitVec 64) := if s.stk.inStack && s.stk.synced then some (stackTime s) else none

/-- What the station reaches on its own tree goes to its neighbours and to its partner, with the stack time that it carries (R283, R288). -/
def tellMembers (s : State) : State :=
  stkMsg s (upPorts s [0, 1, 2] ++ sashOut s) (.members (ownReach s) s.stk.masterSched (timeCarried s))

/-- The reachable pairs are found anew (R288): lost pairs count, the placed work sent there is placed again, events are raised, the fragment
takes its master, and barriers that waited for a lost pair are released (R289, R292). -/
def membersNow (s : State) : State :=
  if !s.stk.member then s else
  let m := reachable s
  let lost := (List.range 32).filter (fun p => bit s.stk.members p && !bit m p)
  let new := (List.range 32).filter (fun p => !bit s.stk.members p && bit m p)
  let s1 := modStk s (fun k => { k with members := m, depth := BitVec.ofNat 3 (stackDepth m), peerLost := satAdd k.peerLost lost.length })
  let s2 := if lost.isEmpty then s1
    else raise (replaceProblems s1 (fun pl => match pl with | .peer st => lost.contains (st / 2) | _ => false)) (psSrc 10)
  let s3 := if new.isEmpty then s2 else raise s2 (psSrc 11)
  let s4 := stkRoles s3
  if isMaster s4 then barriersDue s4 else s4

/-- The schedule ID of the master as a notice carries it: from above, or from the partner where the own tree is cut above (R284). -/
def StkBlk.schedHeard (k : StkBlk) (from_ : Fin 8) (sched : BitVec 16) : StkBlk :=
  if k.member && k.role ≠ 2#3 && k.role ≠ 4#3 && (from_ == 5 || (from_ == 4 && !k.up[(0 : Fin 3)])) then
    { k with masterSched := sched, mismatch := sched != k.schedId }
  else k

/-- An event of the pair and stack group is raised where the station is not in a reset. -/
def raiseUp (s : State) (n : Nat) : State := if alive s then raise s n else s

/-- A port goes down (R281): what is reachable changes, and the neighbours are told (R288). -/
def portFalls (s : State) (q : Fin 3) (f : StkBlk → StkBlk) : State :=
  let t := membersNow (modStk (raiseUp s (psSrc 8)) (fun k => f { k with
    up := k.up.set q false, heard := k.heard.set q 0, ports := vmod k.ports q (fun c => { c with down := satInc c.down, run := 0 }) }))
  if t.stk.member then tellMembers t else t

/-! ### Stack time (R282, R283) -/

/-- Stack time that the stack carries is adopted: the station leaves joining, or the fragment of which it was the master (R283, R289). -/
def adoptTime (s : State) (t : BitVec 64) : State :=
  let re := s.stk.role == 4#3
  let s1 := modStk s (fun k => { k with ofs := t - s.stn.time, synced := true, holdover := false, carried := true
                                        role := if (k.role == 4#3 || k.role == 5#3) && k.pairNum != 0#5 then 1 else k.role })
  let s2 := slewToStack s1
  if re then newMaster s2 else s2

/-- The station adopts the stack time `t` that it hears: while it starts, from any station, and so does a master that has started time
afresh and has met no other pair; a member takes its parent's when its own is off by more than the 50 ns of R282, and so leaves a fragment
(R283, R289). -/
def adopts (s : State) (fromParent : Bool) (t : BitVec 64) : Bool :=
  let k := s.stk
  k.member && (k.role == 5#3 || (k.role == 2#3 && !k.carried)
    || ((k.role == 1#3 || k.role == 4#3) && fromParent && 50 < (t - stackTime s).toInt.natAbs))

/-- The stack time of a notice is adopted; at a master that has started time afresh, a station that carries none takes the master's. -/
def timeHear (s : State) (from_ : Fin 8) (time : Option (BitVec 64)) : State :=
  match time with
  | some t => if adopts s (from_ == 5) t then adoptTime s t else s
  | none => if s.stk.role == 2#3 && from_ != 4 then modStk s (fun k => { k with carried := true }) else s

/-- A notice from a port or from the partner: what is reachable, the master's schedule ID and stack time (R283, R284, R288, R289). Where
it changes what this station has to tell, the neighbours are told. -/
def membersHear (s : State) (from_ : Fin 8) (m : Word) (sched : BitVec 16) (time : Option (BitVec 64)) : State :=
  let s1 := timeHear s from_ time
  let f := fun (k : StkBlk) => StkBlk.schedHeard (match from_.val with
    | 5 => { k with heard := k.heard.set 0 m }
    | 6 => { k with heard := k.heard.set 1 m }
    | 7 => { k with heard := k.heard.set 2 m }
    | _ => { k with mirror := m }) from_ sched
  let t := membersNow (modStk s1 f)
  if t.stk.member && (ownReach t ≠ ownReach s || t.stk.masterSched ≠ s.stk.masterSched || t.stk.ofs ≠ s.stk.ofs) then tellMembers t else t

/-- A timing exchange corrects the offset by at most 10 ns in a T1 period, which is 100 ppm; SYNCED shows whether what is left lies within
50 ns. The tier reference follows stack time where that is the reference (R22, R282). -/
def timingTake (s : State) (ns : Int) : State :=
  if s.stk.role == 1#3 && s.stk.asked then
    let d := max (-10) (min 10 ns)
    let w : BitVec 64 := BitVec.ofInt 64 d
    let s1 := modStk s (fun k => { k with ofs := k.ofs + w, synced := (ns - d).natAbs ≤ 50, asked := false })
    if isStandby s || s.pair.state == 5#3 then s1
    else { s1 with stn := if s.stn.slewing then { s.stn with slewLeft := s.stn.slewLeft + d } else { s.stn with tierRef := s.stn.tierRef + w } }
  else s

/-- At a T1 boundary every station but those of pair 0 sends its parent a timing packet (R282). -/
def timingAsk (s : State) : State :=
  if s.stk.role == 1#3 && s.stk.up[(0 : Fin 3)] then stkMsg (modStk s (fun k => { k with asked := true })) [some 0] (.timing 0) else s

/-- A station whose image makes it a member finds what its ports have heard, and tells its neighbours (R283, R288). -/
def joinStack (s : State) : State :=
  let t := membersNow s
  if t.stk.member then tellMembers t else t

/-! ### Snapshots (R293) -/

/-- The top pair of what is reachable, where the master or the fragment master is (R289). -/
def topPair : Nat → Word → Nat → Nat
  | 0, _, p => p
  | n + 1, m, p => if p ≠ 0 && bit m (pairUp1 p) then topPair n m (pairUp1 p) else p

/-- The announcement of a snapshot arrives (R293). -/
def snapHear (s : State) (id : BitVec 16) (ts : BitVec 64) : State :=
  let s1 := modStk s (fun k => { k with snapId := id, snapT := ts, snapState := 1 })
  if (stackTime s).toNat ≤ ts.toNat then s1
  else raise (modStk s1 (fun k => { k with snapState := 3 })) (psSrc 15)

/-- STK.CTRL.SNAP_REQ at the master: t_s is fixed and announced on both trees (R293). -/
def snapRequest (s : State) : State :=
  if !isMaster s then s else
  let (w, s1) := drawWord s
  let t := (stackTime s).toNat + 1600 * s.stk.depth.toNat + 1000
  let ts : BitVec 64 := BitVec.ofNat 64 (cdiv t 100000 * 100000)
  let id : BitVec 16 := w.truncate 16
  stkMsg (modStk s1 (fun k => { k with snapId := id, snapState := 1, snapT := ts, snapSets := [] })) (upPorts s [1, 2] ++ sashOut s)
    (.snapAnnounce id ts)

/-- A latched set arrives in the master's DRAM pool (R293). -/
def snapCollect (s : State) (stn : Fin 64) (id : BitVec 16) (t : BitVec 64) (d : List (Nat × TWord)) : State :=
  if isMaster s && id == s.stk.snapId then
    modStk s (fun k => { k with snapSets := k.snapSets.filter (fun x => x.1 ≠ stn.val) ++ [(stn.val, t, d)] })
  else s

/-- The boundary actions of t_s have run: the last boundary lies at or after t_s, within the 50 ns of R22, and a standby's set for it has
come (R25, R293). -/
def snapDue (s : State) : Bool :=
  s.stk.snapState == 1#2 && s.pair.await.isNone
    && (s.stk.snapT.toNat : Int) ≤ ((stackTime s).toNat : Int) - (refNow s : Int) + (s.stn.lastB : Int) + 50

/-- The station latches its snapshot list at t_s and sends the set to the master's DRAM pool as placed background traffic (R293). -/
def snapLatch (s : State) : State :=
  let d := s.stk.snapList.map (fun n => (n, dataRead s n))
  let s1 := raise (modStk s (fun k => { k with snapState := 2, snapData := d, snapTime := s.stn.time })) (psSrc 15)
  if isMaster s1 then snapCollect s1 ⟨ownStation s1 % 64, by omega⟩ s1.stk.snapId s.stn.time d
  else
    let top := treeStn s1 (topPair 6 s1.stk.members s1.stk.pairNum.toNat)
    plTake (send s1 (.snapSet s1.stk.snapId s.stn.time d)) [plOver s1 0 false 13 top (d.length + 2)]

/-! ### Timed stack transfers (R284–R287) -/

/-- Every transfer of the schedule that this station's pair sends at a boundary; none while its schedule ID differs from the master's
(R284–R286). -/
def stkSend (s : State) (slow : Nat) : State :=
  if !s.stk.inStack || s.stk.mismatch then s else
  ((List.range s.stk.xfers.length).zip s.stk.xfers).foldl (fun s x =>
    if x.2.src == s.stk.pairNum.toNat && x.2.tier ≤ slow then
      sendLink s (.stackXfer x.1 (x.2.words.map (fun w => readBind s w.1)))
    else s) s

/-- A received copy of a timed transfer: of a cycle the first valid one stands, in place of the cycles before it, and a standby passes it to
the active station (R285, R286). -/
def xferTake (s : State) (i : Nat) (vals : List TWord) : State :=
  match s.stk.xfers[i]? with
  | none => s
  | some x =>
    let c := refNow s / tierNs x.tier
    if !s.stk.inStack || s.stk.mismatch || x.dst ≠ s.stk.pairNum.toNat then s
    else if isStandby s then sendLink s (.sashXfer i vals)
    else if s.stk.rx.any (fun r => r.1 == i && r.2.1 == c) then s
    else modStk s (fun k => { k with rx := k.rx.filter (fun r => r.1 ≠ i) ++ [(i, c, vals)] })

/-- A transfer received takes effect at this boundary: widening at every T0 boundary, an exchange at a boundary of the
consuming tier (R286). -/
def xferDue (s : State) (slow : Nat) (x : Xfer) : Bool :=
  x.kind ≠ 2 || x.words.all (fun w => match (bindVar w.2).bind (var? s) with | some v => v.tier ≤ slow || v.tier == 7 | none => true)

/-- One word of a transfer reaches its destination: a point latches its command (R286, R287), a variable takes the value as
carried with ORIGIN 8 (R35). -/
def xferWord (s : State) (x : Xfer) (w : Word) (v : TWord) : State :=
  if x.kind = 1 then
    match bindPoint w with
    | some p => if h : p < 96 then
        let s1 := latchAt s ⟨p, h⟩ v (s.stn.lastB + 1000)
        modStk s1 (fun k => { k with miss := adel k.miss p, remSafe := k.remSafe.filter (· ≠ p) })
      else s
    | none => s
  else writeBind s w { v with tag := { v.tag with origin := 8 } }

/-- The variables of transfers to this pair are missed at a boundary while its schedule ID differs from the master's (R49, R284). -/
def stkMissed (s : State) (slow : Nat) : State :=
  ((List.range s.stk.xfers.length).zip s.stk.xfers).foldl (fun s x =>
    if x.2.dst == s.stk.pairNum.toNat && x.2.kind ≠ 1 && xferDue s slow x.2 then
      timedMiss s 8 x.1 x.2.tier (BitVec.ofNat 32 (s.stn.lastB / 2)) (x.2.words.filterMap (fun w => bindVar w.2))
    else s) s

/-- Variables that stack transfers bring take their values at a boundary (R286). -/
def stkTake (s : State) (slow : Nat) : State :=
  if s.stk.inStack && s.stk.mismatch then stkMissed s slow else
  let due := s.stk.rx.filter (fun r => match s.stk.xfers[r.1]? with | some x => x.kind ≠ 1 && xferDue s slow x | none => true)
  let s1 := due.foldl (fun s r => match s.stk.xfers[r.1]? with
    | some x => (x.words.zip r.2.2).foldl (fun s p => xferWord s x p.1.2 p.2) s
    | none => s) s
  modStk s1 (fun k => { k with rx := k.rx.filter (fun r => !due.contains r) })

/-- A remote output point has had no command at this T0 boundary (R287). -/
def remMissed (s : State) (p : Nat) : State :=
  modStk s (fun k => { k with miss := aset k.miss p (min 255 ((aget k.miss p).getD 0 + 1)) })

/-- Remote output points latch their commands at a T0 boundary; a point without one counts a miss (R286, R287). -/
def stkLatch (s : State) : State :=
  let mine := ((List.range s.stk.xfers.length).zip s.stk.xfers).filter (fun x => x.2.kind == 1 && x.2.dst == s.stk.pairNum.toNat)
  let s1 := mine.foldl (fun s x =>
    match s.stk.rx.find? (fun r => r.1 == x.1) with
    | some r => (x.2.words.zip r.2.2).foldl (fun s p => xferWord s x.2 p.1.2 p.2) s
    | none => x.2.words.foldl (fun s w => match bindPoint w.2 with
        | some p => remMissed s p
        | none => s) s) s
  modStk s1 (fun k => { k with rx := k.rx.filter (fun r => !mine.any (fun x => x.1 == r.1)) })

/-- REM_LOSS_T0 of remote output point `p`, none when it is none of this pair's. -/
def remLoss (s : State) (p : Nat) : Option Nat :=
  (s.stk.xfers.find? (fun x => x.kind == 1 && x.dst == s.stk.pairNum.toNat && x.words.any (fun w => bindPoint w.2 == some p))).map (fun x => x.loss)

/-- Readbacks of remote output points in their safe state carry Q = 5 (R287). -/
def remReadback (s : State) : State :=
  s.stk.remSafe.foldl (fun s p => if h : p < 96 then match bindVar s.fld.pts[p].rbVar with
    | some n => raiseVarQ s n 5
    | none => s
    else s) s

/-- STK.CTRL.CLR_CNT. -/
def stkClr (s : State) : State :=
  modStk s (fun k => { k with ports := k.ports.map (fun c => { PortCnt.zero with run := c.run }), peerLost := 0, reroot := 0 })

end Sys2Proof.Machine
end

