-- ==== Sys2Proof/Machine/LoadNet.lean ====
section
/-! DEFINITION. Ports, telegrams and the STACK section as the records of an image give them, and check 6 of R47 (R277, R284,
R316–R326, R350, R351). -/

namespace Sys2Proof.Machine
open Sys2Proof

/-- A transmit telegram of a TXTEL or STX record (R348, R350); SEQ starts at 1 (R317). -/
def txOfRec (b : List Byte) : TxTel :=
  { telId := BitVec.ofNat 16 (rd b 0 2), kind := rd b 2 1, tier := rd b 3 1, rep := rd b 4 1
    dst := BitVec.ofNat 16 (rd b 6 2), ofs := rd b 8 4, mac := ofBe (sub b 12 6)
    binds := (wordsOf (b.drop 20)).take (rd b 5 1), seq := 0, due := none }

/-- A receive telegram of an RXTEL or SRX record (R348, R350), its watchdog started (R321). -/
def rxOfRec (b : List Byte) : RxTel :=
  { telId := BitVec.ofNat 16 (rd b 0 2), kind := rd b 2 1, tier := rd b 3 1, src := BitVec.ofNat 16 (rd b 4 2)
    len := rd b 6 1, cmpNs := rd b 8 2 * 1000, wdg := rd b 10 2
    binds := (chunks 8 (b.drop 12)).map (fun x => (rdW x 0, rdW x 4))
    held := [], degraded := false, diff := false, wdgExp := false, discarded := false, left := BitVec.ofNat 16 (rd b 10 2)
    fresh := false, last := none, ones := [], lateDiff := false, enter := none, missA := 0, missB := 0, errA := 0, errB := 0, late := 0
    gap := 0, diffCnt := 0, expCnt := 0 }

/-- Transmit telegram `t` of an image, from COMMS or SAFETY. -/
def imageTx (c f : List Rec) (t : Nat) : Option TxTel := ((recBody c 0x0806 t).or (recBody f 0x040A t)).map txOfRec
/-- Receive telegram `r` of an image. -/
def imageRx (c f : List Rec) (r : Nat) : Option RxTel := ((recBody c 0x0807 r).or (recBody f 0x040B r)).map rxOfRec

/-- A port takes its addresses. -/
def portOfRec (c : List Rec) (p : Nat) (old : NetPort) : NetPort :=
  let b := (recBody c 0x0804 p).getD []
  { old with ip := rdW b 0, mask := rdW b 4, gw := rdW b 8, ipHigh := rdW b 12 }

/-- NET takes the COMMS, SAFETY and PAIR sections of an image (R317, R321, R351); links, counts, sessions and keys stay. -/
def netLoad (c f p : List Rec) (old : NetBlk) : NetBlk :=
  let g := (recBody c 0x0805 0).getD []
  { old with
    ports := Vector.ofFn (fun p => portOfRec c p.val old.ports[p])
    etype := if g.isEmpty then 0x88B5 else BitVec.ofNat 16 (rd g 0 2)
    vlan := BitVec.ofNat 16 (rd g 2 2)
    stnId := BitVec.ofNat 12 (rd g 4 2)
    groups := ((chunks 8 (g.drop 8)).take (rd g 6 1)).map (fun x => ofBe (x.take 6))
    presMac := ofBe (sub ((recBody p 0x0A01 0).getD []) 4 6)
    tx := Vector.ofFn (fun t => imageTx c f t.val)
    rx := Vector.ofFn (fun r => imageRx c f r.val) }

/-- Time in ns that a telegram of LEN words takes on a port (R326 point 3). -/
def telNs (len : Nat) : Nat := if len ≤ 3 then 84 * 8 else (62 + 6 * len) * 8

/-- Send period of a telegram in ns. -/
def TxTel.period (t : TxTel) : Nat := tierNs t.tier * max t.rep 1

/-- Two telegrams never overlap on a port (R326 point 3). -/
def telApart (x y : TxTel) : Bool :=
  let g := Nat.gcd x.period y.period
  let d1 := (x.ofs + g - y.ofs % g) % g
  let d2 := (y.ofs + g - x.ofs % g) % g
  telNs y.binds.length ≤ d1 && telNs x.binds.length ≤ d2

/-- The T1 periods that a telegram's frames occupy, each as residue and modulus, with the time in ns: a frame that crosses a boundary
counts in both periods with its part (R326 point 4). -/
def TxTel.slots (t : TxTel) : List ((Nat × Nat) × Nat) :=
  let m := t.period / 100000
  let k := t.ofs / 100000
  let first := min (telNs t.binds.length) (100000 - t.ofs % 100000)
  ((k % m, m), first) :: (if first < telNs t.binds.length then [(((k + 1) % m, m), telNs t.binds.length - first)] else [])

/-- Two frames come in the same T1 period at some time. -/
def sameSlot (a b : Nat × Nat) : Bool := let g := Nat.gcd a.2 b.2; a.1 % g == b.1 % g

/-- Some T1 period holds more than 50 µs of telegrams (R326 point 4). -/
def slotOver : List ((Nat × Nat) × Nat) → List (Nat × Nat) → Nat → Bool
  | [], _, ns => ns > 50000
  | t :: r, chosen, ns =>
    slotOver r chosen ns || (chosen.all (sameSlot t.1) && slotOver r (t.1 :: chosen) (ns + t.2))

/-- The contents of the network records: the ranges of R314, R316–R322 and R350, and words of a telegram's own tier (code 10 of
R344, R317). -/
def netRecsOk (isVar : Nat → Bool) (tierOf : Nat → Nat) (c f : List Rec) : Bool :=
  let bindOk := fun (w : Word) => match bindVar w with | some n => isVar n | none => false
  let g := (recBody c 0x0805 0).getD []
  (g.isEmpty || (rd g 6 1 ≤ 64 && g.length == 8 + 8 * rd g 6 1 && rd g 4 2 < 4096))
  && (List.range 64).all (fun t =>
      !((recBody c 0x0806 t).isSome && (recBody f 0x040A t).isSome) &&
      (match imageTx c f t with
       | some x => 1 ≤ x.tier && x.tier ≤ 4 && 1 ≤ x.rep && 1 ≤ x.binds.length && x.binds.length ≤ 128
          && x.binds.all (fun w => bindOk w && (bindVar w).all (fun n => tierOf n == x.tier))
       | none => true)
      && (match recBody c 0x0806 t with | some b => rd b 2 1 == 0 | none => true))
  && (List.range 128).all (fun r =>
      !((recBody c 0x0807 r).isSome && (recBody f 0x040B r).isSome) &&
      (match imageRx c f r with
       | some x => 1 ≤ x.tier && x.tier ≤ 4 && 1 ≤ x.len && x.len ≤ 128 && x.binds.length == x.len && 10000 ≤ x.cmpNs && 1 ≤ x.wdg
          && x.binds.all (fun b => bindOk b.1)
       | none => true)
      && (match recBody c 0x0807 r with | some b => rd b 2 1 == 0 | none => true))

/-- Check 6 of R47 by R326: the first failing telegram with its tier. Safety telegrams carry SLE outputs and bring SLE inputs
(R322). -/
def netAdmitFail (img : List Byte) (c f : List Rec) : Option (Nat × Nat) :=
  let words := fun (t : Nat) => (wordsOf ((recBody f t 0).getD [])).filterMap bindVar
  -- the presence telegrams of a pair member are part of the schedule (R325)
  let pres := if ((recBody (recs img 10) 0x0A01 0).map (fun r => rd r 0 1 % 2)).getD 0 = 1 then [presTel] else []
  let txs := (List.range 64).filterMap (fun t => (imageTx c f t).map (fun x => (t, x)))
  let bad := txs.find? (fun p =>
    p.2.ofs < 2000 || p.2.ofs + telNs p.2.binds.length ≥ tierNs p.2.tier
    || txs.any (fun q => q.1 < p.1 && !telApart p.2 q.2) || pres.any (fun q => !telApart p.2 q)
    || ((recBody f 0x040A p.1).isSome && !(p.2.kind == 1 && p.2.tier == 1 && p.2.binds.all (fun w => (bindVar w).any (words 0x0404).contains))))
  match bad with
  | some p => some (p.2.tier, p.1)
  | none =>
    if slotOver ((txs.map (fun p => p.2) ++ pres).flatMap TxTel.slots) [] 0 then some (1, 0)
    else
      ((List.range 128).findSome? (fun r => match imageRx c f r with
        | some x =>
          if x.cmpNs + 2 * Config.senderNs img r > x.wdg * tierNs x.tier
            || ((recBody f 0x040B r).isSome
              && !(x.kind == 1 && x.tier == 1 && x.binds.all (fun b => (bindVar b.1).any (words 0x0403).contains))) then some (x.tier, r) else none
        | none => none))

/-- A transfer of a STACK section (R351). -/
def xferOfRec (b : List Byte) : Xfer :=
  { kind := rd b 0 1, tier := rd b 1 1, src := rd b 2 1, dst := rd b 3 1, bank := rd b 6 1, loss := rd b 7 1
    words := ((chunks 8 (b.drop 8)).take (rd b 4 2)).map (fun x => (rdW x 0, rdW x 4)) }

/-- STK takes the STACK section of an image (R277, R284, R293); ports, their counts and a stack time carried stay. -/
def stkLoad (l : List Rec) (old : StkBlk) : StkBlk :=
  match recBody l 0x0901 0 with
  | none => { StkBlk.reset with up := old.up, heard := old.heard, ports := old.ports, ofs := old.ofs, carried := old.carried }
  | some b =>
    let p := rd b 0 1
    { StkBlk.reset with
      member := true, pairNum := BitVec.ofNat 5 p, single := rd b 1 1 % 2 == 1, schedId := BitVec.ofNat 16 (rd b 2 2)
      role := 5, up := old.up, heard := old.heard, ports := old.ports, ofs := old.ofs, carried := old.carried, depth := BitVec.ofNat 3 (pairDepth p)
      members := 1#32 <<< p
      xfers := (l.filter (fun r => r.rtype == 0x0902)).map (fun r => xferOfRec r.body)
      snapList := (wordsOf ((recBody l 0x0903 0).getD [])).map (fun w => w.toNat) }

/-- The contents of the STACK section (R277, R284, R287, R351). -/
def stkOk (isVar : Nat → Bool) (l : List Rec) : Bool :=
  match recBody l 0x0901 0 with
  | none => l.isEmpty
  | some b =>
    rd b 0 1 < 32
    && (l.filter (fun r => r.rtype == 0x0902)).all (fun r =>
        let x := xferOfRec r.body
        x.kind ≤ 2 && x.tier ≤ 4 && x.src < 32 && x.dst < 32 && x.src ≠ x.dst && x.words.length == rd r.body 4 2
          && r.body.length == 8 + 8 * x.words.length
          && (x.kind ≠ 1 || 1 ≤ x.loss)
          && x.words.all (fun w =>
              (x.src ≠ rd b 0 1 || (match bindVar w.1 with | some n => isVar n | none => false))
              && (x.dst ≠ rd b 0 1 || (if x.kind = 1 then (match bindPoint w.2 with | some p => p < 96 | none => false)
                                       else (match bindVar w.2 with | some n => isVar n | none => false)))))
    && (wordsOf ((recBody l 0x0903 0).getD [])).all (fun w => isVar w.toNat)

end Sys2Proof.Machine
end

