-- ==== Sys2Proof/Machine/ImageLogic.lean ====
section
/-! DEFINITION. The checks of the LOGIC section and of the SLE's program: R60, R63, R87, R91, R113, R239. -/

namespace Sys2Proof.Machine
open Sys2Proof

/-- How an opcode uses its operand fields (R88, R94–R102). -/
inductive OpClass
  /-- no operand: [23:0] is 0 -/
  | plain
  /-- an operand in one of the spaces; the flag says a whole word is named; the second that an indexed form exists -/
  | opnd (spaces : List Nat) (wordOp : Bool) (indexed : Bool)
  /-- shift count in ADDR [4:0] -/
  | shift
  /-- quality in ADDR [2:0] -/
  | setq
  /-- jump, with its two costs: taken and not taken -/
  | jump (cond : Bool)
  | call
  | ret
  | end_
  /-- an instance of the kinds given -/
  | inst (space : Nat) (kinds : List Nat)
deriving DecidableEq, Repr

/-- Class, cost (R112) and whether the SLE has it (R239) of an opcode's base code; none when it is undefined. -/
def opInfo (op : Nat) : Option (OpClass × Nat × Bool) :=
  match op with
  | 0x00 => some (.plain, 1, true)
  | 0x01 => some (.opnd spBitRead false true, 2, true) | 0x02 => some (.opnd spBitRead false true, 2, true)
  | 0x03 => some (.opnd spBitRead false true, 2, true) | 0x04 => some (.opnd spBitRead false true, 2, true)
  | 0x05 => some (.opnd spBitRead false true, 2, true) | 0x06 => some (.opnd spBitRead false true, 2, true)
  | 0x07 => some (.opnd spBitRead false true, 2, true) | 0x08 => some (.opnd spBitRead false true, 2, true)
  | 0x09 => some (.plain, 2, true)
  | 0x0C => some (.plain, 2, true) | 0x0D => some (.plain, 2, true) | 0x0E => some (.plain, 2, true)
  | 0x0F => some (.plain, 2, true)
  | 0x10 => some (.opnd spBitStore false true, 2, true) | 0x11 => some (.opnd spBitStore false true, 2, true)
  | 0x12 => some (.opnd spBitStore false true, 2, true) | 0x13 => some (.opnd spBitStore false true, 2, true)
  | 0x14 => some (.inst 6 [5], 3, true) | 0x15 => some (.inst 6 [5], 3, true)
  | 0x18 => some (.inst 4 [1], 10, true) | 0x19 => some (.inst 4 [2], 10, true) | 0x1A => some (.inst 4 [3], 10, true)
  | 0x1C => some (.inst 5 [4], 5, true) | 0x1D => some (.inst 5 [4], 5, true)
  | 0x1E => some (.inst 5 [4], 3, true) | 0x1F => some (.inst 5 [4], 3, true)
  | 0x20 => some (.opnd spWordRead true true, 2, true) | 0x21 => some (.opnd spWordStore true true, 2, true)
  | 0x22 => some (.plain, 1, true) | 0x23 => some (.plain, 1, false)
  | 0x28 => some (.plain, 1, true) | 0x29 => some (.plain, 1, true) | 0x2A => some (.plain, 3, true)
  | 0x2B => some (.plain, 18, true) | 0x2C => some (.plain, 18, true) | 0x2D => some (.plain, 1, true)
  | 0x2E => some (.plain, 1, true)
  | 0x30 => some (.plain, 4, false) | 0x31 => some (.plain, 4, false) | 0x32 => some (.plain, 4, false)
  | 0x33 => some (.plain, 16, false) | 0x34 => some (.plain, 1, false) | 0x35 => some (.plain, 1, false)
  | 0x36 => some (.plain, 16, false) | 0x38 => some (.plain, 4, false) | 0x39 => some (.plain, 4, false)
  | 0x40 => some (.plain, 1, true) | 0x41 => some (.plain, 1, true) | 0x42 => some (.plain, 1, true)
  | 0x43 => some (.plain, 1, true)
  | 0x44 => some (.shift, 1, true) | 0x45 => some (.shift, 1, true) | 0x46 => some (.shift, 1, true)
  | 0x48 => some (.plain, 1, true) | 0x49 => some (.plain, 1, true) | 0x4A => some (.plain, 1, true)
  | 0x4B => some (.plain, 1, true) | 0x4C => some (.plain, 1, true) | 0x4D => some (.plain, 1, true)
  | 0x50 => some (.plain, 2, false) | 0x51 => some (.plain, 2, false) | 0x52 => some (.plain, 2, false)
  | 0x53 => some (.plain, 2, false) | 0x54 => some (.plain, 2, false) | 0x55 => some (.plain, 2, false)
  | 0x58 => some (.plain, 1, true) | 0x59 => some (.plain, 1, true) | 0x5A => some (.plain, 1, true)
  | 0x60 => some (.opnd spTagRead true true, 2, true) | 0x61 => some (.opnd spTagRead true true, 2, true)
  | 0x62 => some (.setq, 1, true)
  | 0x70 => some (.jump false, 4, true) | 0x71 => some (.jump true, 4, true) | 0x72 => some (.jump true, 4, true)
  | 0x73 => some (.jump true, 4, true) | 0x74 => some (.call, 5, true) | 0x75 => some (.ret, 5, true)
  | 0x76 => some (.end_, 2, true) | 0x77 => some (.plain, 2, false)
  | _ => none

/-- The program of one engine as its records give it. -/
structure Prog where
  sle : Bool
  code : List Word
  /-- declared sizes of I, Q, M, W, T, C, E and K -/
  sizes : List Nat
  bounds : List (Nat × Nat)
  /-- instances as (kind, number) -/
  insts : List (Nat × Nat)
  /-- entries of the cyclic task and of the event tasks -/
  tasks : List Nat
deriving DecidableEq, Repr

/-- OPCODE without the indexed bit (R88). -/
def opBase (w : Word) : Nat := fld w 24 7
/-- The operand fields of a word. -/
def opndOf (w : Word) : Opnd := { ix := bit w 31, sp := BitVec.ofNat 4 (fld w 20 4), ad := BitVec.ofNat 20 (fld w 0 20) }
/-- A jump or call target. -/
def jumpTargetOf (w : Word) : Nat := fld w 0 20

/-- Declared size of a space in a program. -/
def Prog.size (p : Prog) (sp : Nat) : Nat := if sp = 8 then 16 else if sp = 9 then 2 ^ 15 else p.sizes.getD sp 0

/-- The instances of the INST record have a kind and stand inside the declared sizes of T, C and E (R89, R91, R348). -/
def Prog.instsOk (p : Prog) : Bool :=
  p.insts.all (fun i => 1 ≤ i.1 && i.1 ≤ 5 && i.2 < p.size (if i.1 ≤ 3 then 4 else i.1 + 1))

/-- Whether the program's INST record has an instance of a space. -/
def Prog.hasInst (p : Prog) (sp num : Nat) : Bool :=
  p.insts.any (fun i => i.2 == num && (if sp = 4 then i.1 ≤ 3 else if sp = 5 then i.1 == 4 else i.1 == 5))

/-- One instruction word is well formed (R91, R239). -/
def Prog.wordOk (p : Prog) (i : Nat) (w : Word) : Bool :=
  match opInfo (opBase w) with
  | none => false
  | some (cls, _, sleOk) =>
    let o := opndOf w
    (!p.sle || (sleOk && !o.ix)) &&
    match cls with
    | .plain => !o.ix && fld w 0 24 == 0
    | .ret => !o.ix && fld w 0 24 == 0
    | .end_ => !o.ix && fld w 0 24 == 0
    | .shift => !o.ix && fld w 5 19 == 0
    | .setq => !o.ix && fld w 3 21 == 0
    | .jump _ => !o.ix && fld w 20 4 == 0 && jumpTargetOf w < p.code.length
        && ((opBase w ≠ 0x73 && jumpTargetOf w > i) || !p.bounds.any (fun b => b.1 == i && b.2 == 0))
    | .call => !o.ix && fld w 20 4 == 0 && jumpTargetOf w < p.code.length
    | .opnd sps wordOp _ =>
      let sp := o.sp.toNat
      o.wf sps wordOp &&
        ((!(sp = 4 || sp = 5 || sp = 6) || p.hasInst sp o.word) && (sp == 9 || o.ix || o.word < p.size sp))
    | .inst sp kinds => !o.ix && o.sp.toNat == sp && o.bitNo == 0 && o.word < p.size sp
        && p.insts.any (fun i => i.2 == o.word && kinds.contains i.1)

/-- Where control can go from index `i`, subroutines included. -/
def Prog.succ (p : Prog) (i : Nat) : List Nat :=
  let w := p.code.getD i 0
  match opInfo (opBase w) with
  | some (.jump false, _, _) => [jumpTargetOf w]
  | some (.jump true, _, _) => [jumpTargetOf w, i + 1]
  | some (.call, _, _) => [jumpTargetOf w, i + 1]
  | some (.ret, _, _) => []
  | some (.end_, _, _) => []
  | _ => [i + 1]

/-- Indices reached from a work list by the steps `next`. -/
def reachBy (next : Nat → List Nat) : Nat → List Nat → List Nat → List Nat
  | 0, _, seen => seen
  | _, [], seen => seen
  | n + 1, i :: r, seen => if seen.contains i then reachBy next n r seen else reachBy next n (next i ++ r) (i :: seen)

/-- Indices reachable from an entry, through jumps and subroutines; an index past the program shows as itself. -/
def Prog.reach (p : Prog) (entry : Nat) : List Nat := reachBy p.succ (3 * p.code.length + 8) [entry] []

/-- A task's paths end: it reaches an END and never runs past the last instruction (R91). -/
def Prog.taskOk (p : Prog) (entry : Nat) : Bool :=
  let l := p.reach entry
  entry < p.code.length && l.all (· < p.code.length) && l.any (fun i => opBase (p.code.getD i 0) == 0x76)

/-- The program is well formed by R91. -/
def Prog.wf (p : Prog) : Bool :=
  ((List.range p.code.length).all (fun i => p.wordOk i (p.code.getD i 0))) && p.tasks.all p.taskOk

/-- Instances that instructions reachable from an entry evaluate, as (space, number) (R87). -/
def Prog.evals (p : Prog) (entry : Nat) : List (Nat × Nat) :=
  (p.reach entry).filterMap (fun i =>
    let w := p.code.getD i 0
    match opInfo (opBase w) with
    | some (.inst sp _, _, _) => some (sp, (opndOf w).word)
    | _ => none)

/-- No instance is evaluated by two tasks (R87). -/
def Prog.instOk : Prog → List Nat → Bool
  | _, [] => true
  | p, e :: r => r.all (fun e2 => (p.evals e).all (fun x => !(p.evals e2).contains x)) && p.instOk r

/-- Q entries that a task's reachable stores name; an indexed store names every entry from its base on (R60). -/
def Prog.stores (p : Prog) (entry : Nat) : List Nat :=
  ((p.reach entry).flatMap (fun i =>
    let w := p.code.getD i 0
    let o := opndOf w
    if o.sp.toNat = 1 && (opBase w == 0x21 || (0x10 ≤ opBase w && opBase w ≤ 0x13)) then
      (if o.ix then (List.range (p.size 1)).filter (o.word ≤ ·) else [o.word])
    else [])).eraseDups

/-- Cost of the instruction at `i`, for a jump that is taken or not (R112, R239). -/
def Prog.cost (p : Prog) (i : Nat) (taken : Bool) : Nat :=
  let w := p.code.getD i 0
  let extra := (if p.sle then 2 else 0) + b2n (bit w 31)
  match opInfo (opBase w) with
  | some (.jump true, _, _) => (if taken then 4 else 2) + extra
  | some (_, c, _) => c + extra
  | none => extra

/-- The larger of two path costs. -/
def maxO : Option Nat → Option Nat → Option Nat
  | none, b => b
  | a, none => a
  | some a, some b => some (max a b)

/-- Backward jumps and LOOPs, ascending. -/
def Prog.backs (p : Prog) : List Nat :=
  (List.range p.code.length).filter (fun i =>
    match opInfo (opBase (p.code.getD i 0)) with
    | some (.jump _, _, _) => jumpTargetOf (p.code.getD i 0) ≤ i
    | _ => false)

/-- Where control can go from index `i` within a task or a subroutine, over a CALL to what follows it, taking the backward jumps for
which `back` holds. -/
def Prog.inner (p : Prog) (back : Nat → Bool) (i : Nat) : List Nat :=
  let w := p.code.getD i 0
  let to_ := if jumpTargetOf w > i || back i then [jumpTargetOf w] else []
  match opInfo (opBase w) with
  | some (.jump false, _, _) => to_
  | some (.jump true, _, _) => to_ ++ [i + 1]
  | some (.ret, _, _) => []
  | some (.end_, _, _) => []
  | _ => [i + 1]

/-- Indices reached from `i` in that way, itself among them. -/
def Prog.flow (p : Prog) (back : Nat → Bool) (i : Nat) : List Nat := reachBy (p.inner back) (3 * p.code.length + 8) [i] []

/-- Backward jumps that close a loop by themselves: control can come from their target down to them (R113). -/
def Prog.loopEdges (p : Prog) : List Nat :=
  p.backs.filter (fun j => (p.flow (fun _ => false) (jumpTargetOf (p.code.getD j 0))).contains j)

/-- Backward jumps that close a loop together with others: control comes from their target to them over other backward jumps. -/
def Prog.crossEdges (p : Prog) : List Nat :=
  p.backs.filter (fun j => !p.loopEdges.contains j
    && (p.flow (fun i => !p.loopEdges.contains i) (jumpTargetOf (p.code.getD j 0))).contains j)

/-- The instructions of the loop that the jump at `j` closes: those between its target and it on some way round. -/
def Prog.body (p : Prog) (back : Nat → Bool) (j : Nat) : List Nat :=
  (p.flow back (jumpTargetOf (p.code.getD j 0))).filter (fun n => (p.flow back n).contains j)

/-- How paths of a program are walked: the index at which a path stops (none for END, or for RET inside a subroutine), the
cost of a subroutine by target, the backward jumps that are not followed because they close a loop by themselves, and the loops,
each with its instructions and what its passes before the last cost. -/
structure Walk where
  goal : Option Nat
  inSub : Bool
  sub : Nat → Option Nat
  isLoop : Nat → Bool
  loops : List (List Nat × Nat)

/-- What a path is charged where it comes to index `v`, from `u` or as its first instruction: the passes before the last of each
loop that it enters there, at its head or elsewhere (R113; assumption log 70). -/
def Walk.entered (k : Walk) (u : Option Nat) (v : Nat) : Nat :=
  k.loops.foldl (fun a x => if x.1.contains v && !u.any x.1.contains then a + x.2 else a) 0

/-- Costliest path from each index below the first argument on, downward from the end; `acc` lists the values from there on; a
backward jump that closes no loop by itself is followed, with `back` giving the value at its target (R113; assumption log 70). -/
def Prog.pathGo (p : Prog) (k : Walk) (back : Nat → Option Nat) : Nat → List (Option Nat) → List (Option Nat)
  | 0, acc => acc
  | i + 1, acc =>
    let w := p.code.getD i 0
    let from_ := fun (t : Nat) (v : Option Nat) => v.map (· + k.entered (some i) t)
    let at_ := fun t => from_ t (acc.getD (t - (i + 1)) none)
    let dest := if jumpTargetOf w > i then at_ (jumpTargetOf w) else if k.isLoop i then none else from_ (jumpTargetOf w) (back (jumpTargetOf w))
    let here : Option Nat :=
      if k.goal = some i then some (p.cost i true)
      else match opInfo (opBase w) with
        | some (.end_, _, _) => if k.goal.isNone && !k.inSub then some (p.cost i true) else none
        | some (.ret, _, _) => if k.goal.isNone && k.inSub then some (p.cost i true) else none
        | some (.jump false, _, _) => dest.map (· + p.cost i true)
        | some (.jump true, _, _) => maxO (dest.map (· + p.cost i true)) ((at_ (i + 1)).map (· + p.cost i false))
        | some (.call, _, _) =>
          match k.sub (jumpTargetOf w), at_ (i + 1) with
          | some c, some r => some (p.cost i true + c + r)
          | _, _ => none
        | _ => (at_ (i + 1)).map (· + p.cost i true)
    p.pathGo k back i (here :: acc)

/-- The values of `pathGo` for paths that follow at most `n` backward jumps. -/
def Prog.paths (p : Prog) (k : Walk) : Nat → List (Option Nat)
  | 0 => p.pathGo k (fun _ => none) p.code.length []
  | n + 1 => let prev := p.paths k n; p.pathGo k (fun t => prev.getD t none) p.code.length []

/-- Costliest path from `entry` to the goal. -/
def Prog.path (p : Prog) (k : Walk) (entry : Nat) : Option Nat :=
  ((p.paths k (p.backs.filter (fun j => !k.isLoop j)).length).getD entry none).map (· + k.entered none entry)

/-- What the passes before the last of the loop closed at `j` cost: a backward JMP closes every one of its `bound` passes, a
conditional jump and LOOP all but the last, each with the taken cost (R113). -/
def Prog.passes (p : Prog) (k : Walk) (j : Nat) : Nat :=
  let w := p.code.getD j 0
  let bound := ((p.bounds.find? (fun b => b.1 == j)).map (fun b => b.2)).getD 1
  (if opBase w = 0x70 then bound else bound - 1) * (p.path { k with goal := some j, inSub := false } (jumpTargetOf w)).getD 0

/-- Puts a loop into a list in ascending size. -/
def insertLoop (x : Nat × List Nat) : List (Nat × List Nat) → List (Nat × List Nat)
  | [] => [x]
  | y :: r => if x.2.length ≤ y.2.length then x :: y :: r else y :: insertLoop x r

/-- The charges of loops, given the smaller first, so that the body of each holds the loops inside it (R113). -/
def Prog.loopCharges (p : Prog) (k : Walk) (l : List (Nat × List Nat)) : List (List Nat × Nat) :=
  l.foldl (fun acc x => acc ++ [(x.2, p.passes { k with loops := acc } x.1)]) []

/-- Worst-case cost of a task, or of a subroutine to its RET, with CALL chains of at most the depth given; none when no
path ends, as in a recursive or too deep chain (R113). -/
def Prog.worst (p : Prog) : Nat → Bool → Nat → Option Nat
  | 0, _, _ => none
  | d + 1, inSub, entry =>
    let own := fun (j : Nat) => (p.reach entry).contains j
    let edges := p.loopEdges.filter own
    let k : Walk := { goal := none, inSub := inSub, sub := p.worst d true, isLoop := fun j => edges.contains j, loops := [] }
    let plain := p.loopCharges k ((edges.map (fun j => (j, p.body (fun _ => false) j))).foldr insertLoop [])
    let cross := (p.crossEdges.filter own).map (fun j =>
      (p.body (fun i => !edges.contains i) j, p.passes { k with loops := plain } j))
    p.path { k with loops := plain ++ cross } entry

/-- Every backward jump and LOOP reachable from a task has a declared bound (R113). -/
def Prog.bounded (p : Prog) (entry : Nat) : Bool :=
  (p.reach entry).all (fun i =>
    let w := p.code.getD i 0
    match opInfo (opBase w) with
    | some (.jump _, _, _) => (opBase w ≠ 0x73 && jumpTargetOf w > i) || p.bounds.any (fun b => b.1 == i)
    | _ => true)

/-- The CALL chain from an entry is neither recursive nor more than `d` levels deep (R113). -/
def Prog.callsOk (p : Prog) : Nat → Nat → Bool
  | d, entry =>
    let calls := (p.reach entry).filter (fun i => opBase (p.code.getD i 0) == 0x74)
    match d with
    | 0 => calls.isEmpty
    | d + 1 => calls.all (fun i => p.callsOk d (jumpTargetOf (p.code.getD i 0)))

/-- Worst-case cost of a task with its overhead (R112, R113); none when check 3 fails for it. -/
def Prog.taskCost (p : Prog) (entry overhead : Nat) : Option Nat :=
  if p.bounded entry && p.callsOk 15 entry then (p.worst 16 false entry).map (· + overhead) else none

/-- Execution window W of a tier in fabric cycles, and T1 periods in its period (R63). -/
def window63 : Nat → Nat × Nat
  | 1 => (45000, 1)
  | 2 => (493000, 10)
  | 3 => (4988000, 100)
  | _ => (49948000, 1000)

/-- The program of logic engine `e`. -/
def progOf (l : List Rec) (e : Nat) : Option Prog :=
  (recBody l 0x0302 e).map (fun b =>
    let codes := wordsOf ((recBody l 0x0303 e).getD [])
    let ents := (List.range 5).map (fun i => rd b (4 + 4 * i) 4)
    { sle := false, code := codes, sizes := (List.range 8).map (fun i => rd b (24 + 2 * i) 2),
      bounds := (chunks 8 ((recBody l 0x0307 e).getD [])).map (fun x => (rd x 0 4, rd x 4 4)),
      insts := (chunks 8 ((recBody l 0x0308 e).getD [])).map (fun x => (rd x 4 1, rd x 6 2)),
      tasks := ents.filter (· ≠ 0xFFFFFFFF) })

/-- The program of the SLE (R348). -/
def progSle (l : List Rec) : Option Prog :=
  (recBody l 0x0401 0).map (fun b =>
    { sle := true, code := wordsOf ((recBody l 0x0402 0).getD []),
      sizes := (List.range 8).map (fun i => rd b (8 + 2 * i) 2),
      bounds := (chunks 8 ((recBody l 0x0406 0).getD [])).map (fun x => (rd x 0 4, rd x 4 4)),
      insts := (chunks 8 ((recBody l 0x0407 0).getD [])).map (fun x => (rd x 4 1, rd x 6 2)),
      tasks := [rd b 4 4] })

/-- Limits of the declared sizes (R89). -/
def sizesOk (z : List Nat) : Bool :=
  (z.zip [32768, 32768, 2048, 32768, 1024, 512, 2048, 16384]).all (fun p => p.1 ≤ p.2)

/-- Entry indices of the event tasks an ENGINE record `b` declares (record 0x0302): EVT_0 to EVT_3 without the empty ones. -/
def evtEntries (b : List Byte) : List Nat :=
  ((List.range 4).map (fun i => rd b (8 + 4 * i) 4)).filter (fun x => x ≠ 0xFFFFFFFF)

/-- The LOGIC section keeps R57, R87, R89 and R91 (code 10). -/
def logicOk (l : List Rec) : Bool :=
  (match recBody l 0x0301 0 with | some b => rd b 0 1 ≤ 2 | none => true) &&
  (List.range 16).all (fun e =>
    match recBody l 0x0302 e, progOf l e with
    | some b, some p =>
      let cfg := rdW b 0
      fld cfg 0 3 ≤ 4 && fld cfg 4 3 ≤ 4 && fld cfg 8 17 == p.code.length && sizesOk p.sizes
        && ((fld cfg 0 3 == 0) == (rd b 4 4 == 0xFFFFFFFF))
        && (evtEntries b).length == fld cfg 4 3
        && ((recBody l 0x0304 e).getD []).length == 4 * p.sizes.getD 0 0
        && ((recBody l 0x0305 e).getD []).length == 4 * p.sizes.getD 1 0
        && ((recBody l 0x0306 e).getD []).length == 4 * p.sizes.getD 7 0
        && p.code.length ≤ 65536 && p.instsOk
        && p.wf && p.instOk p.tasks
    | _, _ => !l.any (fun r => 0x0303 ≤ r.rtype && r.rtype ≤ 0x0309 && r.inst == e))

/-- Cost of the cyclic task, and of the event tasks together (R63); none when check 3 fails. -/
def engineCost (l : List Rec) (e : Nat) : Option (Nat × Nat) :=
  match recBody l 0x0302 e, progOf l e with
  | some b, some p =>
    let cyc := if fld (rdW b 0) 0 3 = 0 then some 0 else p.taskCost (rd b 4 4) 64
    let evs := (evtEntries b).map (fun x => p.taskCost x 96)
    let evt := evs.foldl (fun a x => match a, x with | some a, some x => some (a + x) | _, _ => none) (some 0)
    match cyc, evt with
    | some c, some v => some (c, v)
    | _, _ => none
  | _, _ => some (0, 0)

/-- Admitted budget W − n × C_evt of an engine; 0 without a cyclic task (R63). -/
def engineBudget (l : List Rec) (e : Nat) : Nat :=
  match recBody l 0x0302 e, engineCost l e with
  | some b, some (_, v) =>
    let t := fld (rdW b 0) 0 3
    if t = 0 then 0 else (window63 t).1 - (window63 t).2 * v
  | _, _ => 0

/-- Check 3 of R47 for the logic engines: the first engine that fails, with its tier (R63, R113). -/
def logicCostFail (l : List Rec) : Option (Nat × Nat) :=
  ((List.range 16).find? (fun e =>
    match recBody l 0x0302 e with
    | none => false
    | some b =>
      match engineCost l e with
      | none => true
      | some (c, v) =>
        let t := fld (rdW b 0) 0 3
        v > 45000 || (t ≠ 0 && c + (window63 t).2 * v > (window63 t).1))).map
    (fun e => ((match recBody l 0x0302 e with | some b => (let t := fld (rdW b 0) 0 3; if t = 0 then 1 else t) | none => 7), e))

/-- The SLE's program keeps R87, R91 and R239 (code 10). -/
def sleOk (l : List Rec) : Bool :=
  match recBody l 0x0401 0, progSle l with
  | some b, some p =>
    sizesOk p.sizes && p.code.length ≤ 65536 && p.wf && p.instsOk
      && ((recBody l 0x0403 0).getD []).length == 4 * p.sizes.getD 0 0
      && ((recBody l 0x0404 0).getD []).length == 4 * p.sizes.getD 1 0
      && ((recBody l 0x0405 0).getD []).length == 4 * p.sizes.getD 7 0
      && fld (rdW b 0) 1 2 ≤ 2
  | _, _ => true

/-- Worst-case cost of an SLE scan, none when check 3 fails for it (R239). -/
def sleCostOf (l : List Rec) : Option Nat :=
  match recBody l 0x0401 0, progSle l with
  | some b, some p =>
      match p.taskCost (rd b 4 4) 256 with
      | some c => if c ≤ 45000 then some c else none
      | none => none
  | _, _ => some 0

end Sys2Proof.Machine
end

