-- ==== Sys2Proof/Machine/LoadLogic.lean ====
section
/-! DEFINITION. The variable table, the routes and the engines as the records of an image give them (R39, R89, R347, R348). -/

namespace Sys2Proof.Machine
open Sys2Proof

/-- One entry of the VAR record (R347). -/
def varOfRec (x : List Byte) : Var :=
  let wblk := rd x 11 1
  let w : TWord := { val := rdW x 16, tag := initTag false (BitVec.ofNat 5 wblk) }
  { idx := rd x 4 4 % 2 ^ 20, id := rdW x 0, ty := BitVec.ofNat 8 (rd x 8 1), retain := rd x 9 1 % 2 == 1,
    opw := rd x 9 1 / 2 % 2 == 1, stale := BitVec.ofNat 4 (rd x 10 1), wblk := wblk, winst := rd x 12 1,
    tier := rd x 13 1, init := rdW x 16, cur := w, unf := w, forced := false, wrote := false, placed := false }

/-- The variable table of an image (R347). -/
def varsOf (l : List Rec) : List Var := (chunks 20 ((recBody l 0x0101 0).getD [])).map varOfRec

/-- The event routes of an image (R347, R408). -/
def routesOf (l : List Rec) : Vector Word 512 :=
  let ws := wordsOf ((recBody l 0x0102 0).getD [])
  Vector.ofFn (fun i => ws.getD i.val 0)

/-- Instances of an INST record in their initialised state (R110, R348); the ORIGIN of their tags, that of their engine, is the
model's choice (assumption log 62). -/
def instsOf (body : List Byte) (origin : BitVec 5) : List Inst :=
  (chunks 8 body).map (fun x =>
    let i := Inst.initial (rd x 4 1) (rd x 6 2) (rdW x 0) (rd x 5 1 % 2 == 1)
    { i with tag := { i.tag with origin := origin } })

/-- An entry index, none for 0xFFFF_FFFF. -/
def entryOf (b : List Byte) (o : Nat) : Option Nat := if rd b o 4 = 0xFFFFFFFF then none else some (rd b o 4)

/-- Engine `e` freshly loaded (R57, R89, R110, R348); its registers stand at their reset values. -/
def engineOf (l : List Rec) (e : Nat) : Engine :=
  match recBody l 0x0302 e with
  | none => Engine.unused
  | some b =>
    let cfg := rdW b 0
    { Engine.unused with
      used := fld cfg 0 3 ≠ 0 || fld cfg 4 3 ≠ 0
      tier := BitVec.ofNat 3 (fld cfg 0 3)
      nEvt := BitVec.ofNat 3 (fld cfg 4 3)
      entry := if fld cfg 0 3 = 0 then none else entryOf b 4
      evtEntry := Vector.ofFn (fun i => entryOf b (8 + 4 * i.val))
      evtId := Vector.ofFn (fun i => BitVec.ofNat 8 (rd b (40 + i.val) 1))
      sizes := Vector.ofFn (fun i => rd b (24 + 2 * i.val) 2)
      code := wordsOf ((recBody l 0x0303 e).getD [])
      imports := wordsOf ((recBody l 0x0304 e).getD [])
      exports := wordsOf ((recBody l 0x0305 e).getD [])
      consts := wordsOf ((recBody l 0x0306 e).getD [])
      bounds := (chunks 8 ((recBody l 0x0307 e).getD [])).map (fun x => (rd x 0 4, rd x 4 4))
      insts := instsOf ((recBody l 0x0308 e).getD []) 3
      mwmap := (chunks 8 ((recBody l 0x0309 e).getD [])).map (fun x => (rd x 0 2, rd x 2 2, rd x 4 4))
      budget := satNat 26 (engineBudget l e) }

/-- The SLE freshly loaded; it keeps no RETAIN counters (R238, R348). -/
def sleOf (l : List Rec) : Engine :=
  match recBody l 0x0401 0 with
  | none => Engine.unused
  | some b =>
    { Engine.unused with
      used := true
      tier := 1
      entry := entryOf b 4
      sizes := Vector.ofFn (fun i => rd b (8 + 2 * i.val) 2)
      code := wordsOf ((recBody l 0x0402 0).getD [])
      imports := wordsOf ((recBody l 0x0403 0).getD [])
      exports := wordsOf ((recBody l 0x0404 0).getD [])
      consts := wordsOf ((recBody l 0x0405 0).getD [])
      bounds := (chunks 8 ((recBody l 0x0406 0).getD [])).map (fun x => (rd x 0 4, rd x 4 4))
      insts := (instsOf ((recBody l 0x0407 0).getD []) 7).map (fun i => { i with retain := false }) }

/-- Station settings of the LOGIC section: start mode and forcing permission (R72, R123). -/
def globalOf (l : List Rec) : Nat × Bool :=
  match recBody l 0x0301 0 with
  | none => (0, false)
  | some b => (rd b 0 1, rd b 1 1 % 2 == 1)

end Sys2Proof.Machine
end

