-- ==== Sys2Proof/Machine/Force.lean ====
section
/-! DEFINITION. Forcing, and the variables of a staged change (R115, R119, R121, R123–R127, R352). -/

namespace Sys2Proof.Machine
open Sys2Proof

/-- The STRUCT section carried by a change package (R352). -/
def pkgStruct (p : List Byte) : List Byte := sub p (rd p 0x18 4) (rd p 0x1C 4)
/-- The LOGIC section carried by a change package (R352). -/
def pkgLogic (p : List Byte) : List Byte := sub p (rd p 0x20 4) (rd p 0x24 4)
/-- Records of a section's bytes, none of them when the format is broken. -/
def recsOf (x : List Byte) : List Rec := (parseRecs x.length x).getD []
/-- The variables of a change package. -/
def pkgVars (p : List Byte) : List Var := varsOf (recsOf (pkgStruct p))

/-- The staged change deletes or retypes the variable (R119, R121). -/
def changeTouches (p : List Byte) (v : Var) : Bool := !(pkgVars p).any (fun w => w.id == v.id && w.ty == v.ty)

/-- COMMIT has been accepted and its boundary has not come (R119). -/
def commitPending (s : State) : Bool := s.stn.olcState == 4#3 || s.stn.accepted.contains .commit

/-- The writer of a variable lets it be forced (R123). -/
def forceable (v : Var) : Bool := [0, 1, 2, 3, 10].contains v.wblk

/-- New forces accepted and not yet carried by a T1 boundary. -/
def pendingForces (s : State) : Nat :=
  ((s.stn.accepted.filterMap (fun c => match c with
    | .forceSet i _ => if s.stn.forces.any (fun f => f.idx == i) then none else some i
    | _ => none)).eraseDups).length

/-- Result of a set command, in the order of R123. -/
def forceSetCode (s : State) (idx : Nat) : Nat :=
  if isStandby s then 6
  else if !(s.stn.commissioning || s.stn.forcePermit) then 3
  else match var? s idx with
    | none => 4
    | some v =>
      if !forceable v then 1
      else if commitPending s && changeTouches s.stn.staged v then 5
      else if !s.stn.forces.any (fun f => f.idx == idx) && s.stn.forces.length + pendingForces s ≥ 1024 then 2
      else 0

/-- Result of a remove command (R123). -/
def forceRemoveCode (s : State) (idx : Nat) : Nat :=
  if isStandby s then 6
  else if !(s.stn.commissioning || s.stn.forcePermit) then 3
  else if (var? s idx).isNone then 4 else 0

/-- Result of a remove-all command, which names a variable in VAR like the others and is checked against 6, 3 and 4 too
(R123; assumption log 13). -/
def forceRemoveAllCode (s : State) (idx : Nat) : Nat := forceRemoveCode s idx

/-- A write of STN.FORCE_CTRL: VAR is stored, and an action other than 0 is checked and accepted or refused (R123, R124). -/
def forceCtrl (s : State) (idx act : Nat) : State :=
  let s1 := { s with stn := { s.stn with forceVar := BitVec.ofNat 20 idx } }
  if act = 0 then s1 else
  let code := if act = 1 then forceSetCode s1 idx else if act = 2 then forceRemoveCode s1 idx else forceRemoveAllCode s1 idx
  let n := { s1.stn with forceRes := BitVec.ofNat 3 code, forceAct := if code = 0 then BitVec.ofNat 2 act else 0 }
  let s2 := { s1 with stn := n }
  if code ≠ 0 then s2
  else accept s2 (if act = 1 then .forceSet idx s.stn.forceVal else if act = 2 then .forceRemove idx else .forceRemoveAll)

/-- The Ledger record and the event of a force set (1), removed (2), cleared (3) or dropped (4) (R126, R127, R367, R407). -/
def forceRecord (s : State) (f : Force) (act : Nat) : State :=
  raise (logLedger s 0x500D noSrc sevNotice (wB f.id ++ [BitVec.ofNat 8 act, 0, 0, 0] ++ wB f.value)) 506

/-- A set carried by its T1 boundary enters the table or replaces the value there (R123, R124). -/
def forceSetApply (s : State) (idx : Nat) (val : Word) : State :=
  match var? s idx with
  | none => s
  | some v =>
    let f : Force := { id := v.id, idx := idx, value := val }
    let l := if s.stn.forces.any (fun g => g.id == v.id) then s.stn.forces.map (fun g => if g.id == v.id then f else g)
             else s.stn.forces ++ [f]
    forceRecord { s with stn := { s.stn with forces := l, forceAct := 0 } } f 1

/-- Operator-writable variables whose force is gone take what was written under it; any other variable gets its unforced
value back at its next write (R44, R124). -/
def releaseForces (s : State) : State :=
  { s with vars := s.vars.map (fun v =>
      if v.forced && v.wblk == 10 && !s.stn.forces.any (fun f => f.id == v.id) then { v with cur := v.unf, forced := false }
      else v) }

/-- A remove carried by its T1 boundary (R44, R124). -/
def forceRemoveApply (s : State) (idx : Nat) : State :=
  let s0 := { s with stn := { s.stn with forceAct := 0 } }
  match s.stn.forces.find? (fun f => f.idx == idx) with
  | none => s0
  | some f =>
    forceRecord (releaseForces { s0 with stn := { s0.stn with forces := s0.stn.forces.filter (fun g => g.idx ≠ idx) } }) f 2

/-- A remove-all carried by its T1 boundary (R44, R124). -/
def forceRemoveAllApply (s : State) : State :=
  let s0 := releaseForces { s with stn := { s.stn with forceAct := 0, forces := [] } }
  s.stn.forces.foldl (fun s f => forceRecord s f 2) s0

/-- Every force cleared by a reset or a profile switch (R126). -/
def clearForces (s : State) : State :=
  let s0 := { s with stn := { s.stn with forces := [], forceAct := 0 },
                     vars := s.vars.map (fun v => if v.forced then { v with cur := v.unf, forced := false } else v) }
  s.stn.forces.foldl (fun s f => forceRecord s f 3) s0

/-- FORCE_SET (R123, R124). -/
def execForceSet (sess : Fin 4) (var : BitVec 20) (s : State) : Host.Outcome State Fault Refusal :=
  keyedCmd s sess 0x420 (fun s => forceCtrl s var.toNat 1)
/-- FORCE_REMOVE (R123, R124). -/
def execForceRemove (sess : Fin 4) (var : BitVec 20) (s : State) : Host.Outcome State Fault Refusal :=
  keyedCmd s sess 0x420 (fun s => forceCtrl s var.toNat 2)
/-- FORCE_REMOVE_ALL (R123, R124). -/
def execForceRemoveAll (x : RemoveAll) (s : State) : Host.Outcome State Fault Refusal :=
  keyedCmd s x.sess 0x420 (fun s => forceCtrl s x.var.toNat 3)

end Sys2Proof.Machine
end

