-- ==== Sys2Proof/Machine/LoadLoop.lean ====
section
/-! DEFINITION. Loops as the records of the LOOP section give them, the checks of their content, and their admission
(R129, R130, R133, R137–R139, R143, R149, R349). -/

namespace Sys2Proof.Machine
open Sys2Proof

/-- A signed 32-bit value at an offset. -/
def rdS (b : List Byte) (o : Nat) : Int := sext 32 (rd b o 4)

/-- A coefficient of 8 bytes (R139). -/
def coefOf (x : List Byte) : Coef := { k := rdS x 0, s := rd x 4 1 % 32 }

/-- Reserved bits of a coefficient are 0 (R139). -/
def coefOk (x : List Byte) : Bool := rd x 4 1 < 32 && allZero (sub x 5 3)

/-- Configuration of a loop (R349). -/
def loopCfgOf (l : List Rec) (n : Nat) (b : List Byte) : LoopCfg :=
  let cfg := rdW b 0
  let c0 : LoopCfg :=
    { LoopCfg.none with
      cfg := cfg, cfg2 := rdW b 4, outDly := rd b 8 4
      pv := rdW b 12, sp := rdW b 16, ext := rdW b 20, ff := rdW b 24, sched := rdW b 28, ctl := rdW b 32
      man := rdW b 36, out := rdW b 40
      outMin := rdS b 44, outMax := rdS b 48, spMin := rdS b 52, spMax := rdS b 56, spOfs := rdS b 60
      rateUp := rdS b 64, rateDn := rdS b 68, initOut := rdS b 72, safeOut := rdS b 76, stopRate := rdS b 80
      kExt := coefOf (sub b 84 8), kTrim := coefOf (sub b 92 8), biasDecay := coefOf (sub b 100 8) }
  let co := (chunks 8 ((recBody l 0x0502 n).getD [])).map coefOf
  let nc := c0.nCoef
  let c1 : LoopCfg :=
    { c0 with
      coefs := (List.range (fld cfg 16 3 + 1)).map (fun r => (co.drop (r * nc)).take nc)
      bounds := (chunks 12 ((recBody l 0x0503 n).getD [])).map (fun x => (rdS x 0, rdS x 4, rdS x 8))
      tables := (List.range (fld cfg 19 2)).map (fun j =>
        let t := (recBody l 0x0504 (2 * n + j)).getD []
        { src := rd t 0 1, mult := rd t 1 1, signMode := rd t 2 1,
          ents := (List.range 256).map (fun i => rdS t (4 + 4 * i)) }) }
  { c1 with cost := loopCost c1 }

/-- Loop `n` as an image gives it, its state discarded (R129). -/
def loopOf (l : List Rec) (n : Nat) : Loop :=
  match recBody l 0x0501 n with
  | none => .unused
  | some b =>
    let c := loopCfgOf l n b
    if c.law = 0 then .unused else { Loop.unused with used := true, c := c }

/-- A binding of a loop input or output names an integer variable or, where allowed, a field point (R130). -/
def loopBindOk (tyOf : Nat → Option Nat) (pointOk : Nat → Bool) (b : Word) : Bool :=
  match bindVar' b, bindPoint' b with
  | some n, _ => (match tyOf n with | some t => t ≠ 4 | none => false)
  | none, some p => pointOk p
  | none, none => !connected b
where
  bindVar' (b : Word) : Option Nat := if b.toNat < 2 ^ 20 then some b.toNat else none
  bindPoint' (b : Word) : Option Nat := if b ≠ 0xFFFFFFFF#32 && bit b 31 && fld b 7 24 = 0 then some (fld b 0 7) else none

/-- The boundaries of a loop keep R143. -/
def boundsOk (c : LoopCfg) : Bool :=
  c.bounds.all (fun b => 0 ≤ b.2.1 && 0 ≤ b.2.2 && (b.2.1 = 0 || b.2.2 = 0))
    && (c.bounds.zip (c.bounds.drop 1)).all (fun (a, b) => a.1 < b.1
        && (a.2.2 = 0 || b.2.2 = 0 || a.1 + a.2.2 ≤ b.1 - b.2.2))
    && c.bounds.zipIdx.all (fun (b, k) => b.2.2 = 0
        || ((c.coefs.getD k []).zip (c.coefs.getD (k + 1) [])).all (fun (x, y) => x.s == y.s))

/-- One loop's records keep R130, R139, R143 and R149; `inPt`, `extPt` and `outPt` say which points may be bound. -/
def loopRecOk (tyOf : Nat → Option Nat) (inPt extPt outPt : Nat → Bool) (l : List Rec) (r : Rec) : Bool :=
  let b := r.body
  let n := r.inst
  let c := loopCfgOf l n b
  let nreg := fld c.cfg 16 3 + 1
  let ntbl := fld c.cfg 19 2
  let none' := fun (_ : Nat) => false
  c.law = 0 || (c.law ≤ 2 && c.src ≤ 4 && c.spMode ≤ 2 && c.stopAct ≤ 2 && c.pvBadAct ≤ 2 && ntbl ≤ 2 && c.nsos ≤ 4
    && c.nss ≤ 8
    && connected c.pv && loopBindOk tyOf inPt c.pv
    && (c.spMode = 1 || connected c.sp) && loopBindOk tyOf none' c.sp
    && (c.spMode = 0 || connected c.ext) && loopBindOk tyOf extPt c.ext
    && loopBindOk tyOf none' c.ff && loopBindOk tyOf none' c.ctl && loopBindOk tyOf none' c.man
    && (nreg = 1 || connected c.sched) && loopBindOk tyOf none' c.sched
    && c.ctlEn == connected c.ctl && (!c.ctlEn || connected c.man)
    && connected c.out && loopBindOk tyOf outPt c.out && c.outField == bit c.out 31
    && coefOk (sub b 84 8) && coefOk (sub b 92 8) && coefOk (sub b 100 8)
    && 0 ≤ c.rateUp && 0 ≤ c.rateDn && 0 ≤ c.stopRate
    && ((recBody l 0x0502 n).getD []).length == 8 * nreg * c.nCoef
    && (chunks 8 ((recBody l 0x0502 n).getD [])).all coefOk
    && c.bounds.length == nreg - 1 && boundsOk c
    && (List.range 2).all (fun j => (recBody l 0x0504 (2 * n + j)).isSome == decide (j < ntbl))
    && c.tables.all (fun t => t.src < 8 && 1 ≤ t.mult && t.mult ≤ 64 && t.signMode ≤ 1)
    && (List.range ntbl).all (fun j => rd ((recBody l 0x0504 (2 * n + j)).getD []) 3 1 == 0))

/-- The LOOP section keeps its rules (code 10 of R344). -/
def loopsOk (tyOf : Nat → Option Nat) (inPt extPt outPt : Nat → Bool) (l : List Rec) : Bool :=
  l.all (fun r => r.rtype ≠ 0x0501 || loopRecOk tyOf inPt extPt outPt l r)
    && l.all (fun r => r.rtype == 0x0501
        || (recBody l 0x0501 (if r.rtype = 0x0504 then r.inst / 2 else r.inst)).isSome)

/-- Release offset plus the 0.6 µs of R133, in fabric cycles. -/
def LoopCfg.leadCycles (c : LoopCfg) : Nat := c.relNs / 2 + 300

/-- d_i of R138 in fabric cycles. -/
def LoopCfg.dCycles (c : LoopCfg) : Int := c.outDly * 50 - c.leadCycles

/-- OUT_DLY lies within R133. -/
def dlyOk (c : LoopCfg) : Bool :=
  cdiv (c.leadCycles + c.cost) 50 ≤ c.outDly
    && c.outDly ≤ (if c.src = 0 then 200 else if c.src = 1 then 1000 else if c.src = 2 then 10000
                   else if c.src = 3 then 100000 else 10000)

/-- Least sample interval in fabric cycles (R138): a tier's period, or `angP` of the angle source; none is unbounded. -/
def sampleCycles (angP : Nat → Option Rat) (c : LoopCfg) : Option Rat :=
  if c.src = 0 then some 10000 else if c.src = 1 then some 50000 else if c.src = 2 then some 500000
  else if c.src = 3 then some 5000000 else angP c.ang

/-- The loops of engine `e` of an image. -/
def engineLoops (l : List Rec) (e : Nat) : List LoopCfg :=
  ((List.range 8).map (fun i => loopOf l (8 * e + i))).filterMap (fun x => if x.used then some x.c else none)

/-- Samples of a loop that can fall within `d` cycles (R138); an interval of 0 bounds nothing. -/
def samplesWithin (p : Option Rat) (d : Int) : Option Nat :=
  match p with
  | none => some 1
  | some q => if q ≤ 0 then none else some (((d : Rat) / q).ceil.toNat)

/-- Check 3 of R47 on loop engine `e` (R133, R138). -/
def loopEngineOk (angP : Nat → Option Rat) (l : List Rec) (e : Nat) : Bool :=
  let cs := engineLoops l e
  let util : Rat := cs.foldl (fun a c => match sampleCycles angP c with
    | some p => a + (if p ≤ 0 then 1 else (c.cost : Rat) / p)
    | none => a) 0
  cs.all dlyOk
    && cs.all (fun ci =>
        let d := ci.dCycles
        let blk := cs.foldl (fun m ck => if ck.dCycles > d then max m ck.cost else m) 0
        let sum := cs.foldl (fun (a : Option Nat) cj => if cj.dCycles ≤ d then
            (match a, samplesWithin (sampleCycles angP cj) d with
              | some x, some k => some (x + k * cj.cost)
              | _, _ => none)
          else a) (some blk)
        match sum with
        | some x => (x : Int) ≤ d
        | none => false)
    && util ≤ 4 / 5

/-- The first loop engine that check 3 of R47 refuses. -/
def loopAdmitFail (angP : Nat → Option Rat) (l : List Rec) : Option Nat :=
  (List.range 24).find? (fun e => !loopEngineOk angP l e)

end Sys2Proof.Machine
end

