-- ==== Sys2Proof/Machine/LoadAng.lean ====
section
/-! DEFINITION. Angle sources and events as the records of the ANGLE section give them, the checks of their content, and
the least interval between a source's loop-sample events (R138, R192–R205, R209, R350). -/

namespace Sys2Proof.Machine
open Sys2Proof

/-- Source `a` as an image gives it, restarted as at power-on (R209). -/
def srcOfRec (l : List Rec) (a : Nat) : ASrc :=
  match recBody l 0x0701 a with
  | none => .unused
  | some b =>
    { ASrc.unused with
      cfg := rdW b 0, span := rdW b 4, still := rdW b 8, zeroOfs := rdW b 12, topSpeed := rdS b 16
      binds := Vector.ofFn (fun i => rdW b (20 + 4 * i.val))
      sync := if fld (rdW b 0) 0 3 = 0 then 0 else 1 }

/-- Event `n` as an image gives it, disarmed (R209). -/
def evtOfRec (l : List Rec) (n : Nat) : AEvt :=
  match recBody l 0x0703 n with
  | none => .unused
  | some b =>
    { AEvt.unused with
      cfg := rdW b 0, tgt := rdW b 4, adv := BitVec.ofNat 27 (rd b 8 4), vmin := rdW b 12, vmax := rdW b 16
      tgtB := rdW b 20, advB := rdW b 24, ctrlB := rdW b 28 }

/-- VS set `v` as an image gives it. -/
def vsOfRec (l : List Rec) (v : Nat) : VsSet :=
  let z : VsSet := { vnom := 0, used := false, rms := Vector.replicate 3 0, freq := 0, present := 0, seqErr := false, last := none }
  match recBody l 0x0702 v with
  | none => z
  | some b => { z with vnom := BitVec.ofNat 16 (rd b 0 4), used := true }

/-- One SOURCE record keeps R192–R198 and R202. -/
def srcRecOk (l : List Rec) (r : Rec) : Bool :=
  let s := srcOfRec l r.inst
  let t := s.type
  t ≤ 5 && (t = 0 || (
    (t = 5 || 1 ≤ s.k)
    && (t ≠ 1 || 1 ≤ s.revEdges)
    && (t ≠ 2 || (8 ≤ s.lines && s.lines ≤ 360 && 1 ≤ s.gap && s.gap ≤ 2))
    && (t < 3 || t = 5 || (recBody l 0x0702 (t - 3)).isSome)
    && (t = 5 || 1 ≤ fld s.still 0 16)
    && (t ≠ 5 || (fld s.cfg 22 3 < r.inst && fld s.cfg 25 3 < r.inst
        && (srcOfRec l (fld s.cfg 22 3)).type ≠ 0 && (srcOfRec l (fld s.cfg 25 3)).type ≠ 0))))

/-- One EVENT record keeps R204 and R205; `isDo` says that a point is in digital-output mode. -/
def evtRecOk (isDo : Nat → Bool) (l : List Rec) (r : Rec) : Bool :=
  let e := evtOfRec l r.inst
  e.kind = 0 || (fld e.cfg 4 2 ≠ 3 && (srcOfRec l (r.inst / 16)).type ≠ 0 && e.adv.toNat ≤ 100000000
    && rd r.body 8 4 ≤ 100000000
    && bit e.cfg 7 == connected e.ctrlB && !bit e.ctrlB 31 == (connected e.ctrlB)
    && (e.kind ≠ 1 || (isDo e.point && l.all (fun q => q.rtype ≠ 0x0703 ||
        (let f := evtOfRec l q.inst
         f.kind ≠ 1 || f.point ≠ e.point || bit f.cfg 6 == bit e.cfg 6)))))

/-- The ANGLE section keeps its rules (code 10 of R344). -/
def anglesOk (isDo : Nat → Bool) (l : List Rec) : Bool :=
  l.all (fun r => if r.rtype = 0x0701 then srcRecOk l r else if r.rtype = 0x0703 then evtRecOk isDo l r else true)

/-- Positions in turns at which the loop-sample events of a source act at its declared top speed. -/
def sampleTargets (l : List Rec) (a : Nat) : List Rat :=
  let v : Rat := ((srcOfRec l a).topSpeed.natAbs : Rat) / 65536
  ((List.range 16).map (fun i => evtOfRec l (16 * a + i))).filterMap (fun e =>
    if e.kind = 2 then
      let p : Rat := (e.tgt.toNat : Rat) / 4294967296 - v * (e.adv.toNat : Rat) / 500000000
      some (p - p.floor)
    else none)

/-- Least interval in fabric cycles between the loop-sample events of source `a` at its declared top speed (R138). -/
def angInterval (l : List Rec) (a : Nat) : Option Rat :=
  let v : Rat := ((srcOfRec l a).topSpeed.natAbs : Rat) / 65536
  let ts := (sampleTargets l a).mergeSort (fun x y => x ≤ y)
  match ts.head? with
  | none => none
  | some h =>
    if v = 0 then none
    else
      let gaps := (ts.zip (ts.drop 1 ++ [h + 1])).map (fun x => x.2 - x.1)
      some (gaps.foldl min 1 / v * 500000000)

end Sys2Proof.Machine
end

