-- ==== Sys2Proof/Machine/LoadField.lean ====
section
/-! DEFINITION. Points and banks as the FIELD records of an image give them, their limits, and what a profile switch keeps
(R211, R216–R228, R258, R348, R363). -/

namespace Sys2Proof.Machine
open Sys2Proof

/-- Point `n` takes the settings of a POINT record; what it has delivered or latched stays. -/
def Pt.withRec (p : Pt) (b : List Byte) : Pt :=
  { p with cfg := rdW b 0, safeVal := rdW b 4, pwmPeriod := rdW b 8, cmp := rdW b 12, var := rdW b 16, rbVar := rdW b 20, gone := false }

/-- A point that an image does not configure. -/
def Pt.noRec (p : Pt) : Pt := { Pt.unused with diagCnt := p.diagCnt, count := p.count }

/-- A bank takes its settings; its next refresh is the first under them (R72, R227, R235). -/
def Bank.withRec (k : Bank) (l : List Rec) (b : Nat) (member : Bool) : Bank :=
  let r := (recBody l 0x0201 b).getD []
  { k with cfg := BitVec.ofNat 32 (fld (rdW r 0) 0 12 + 4096 * b2n member), tmo := BitVec.ofNat 16 (rd r 4 4), adm := true }

/-- When a configuration takes effect: station time and tier reference. -/
structure LoadAt where
  time : BitVec 64
  ref : Nat

/-- Point `n` acts as at a profile switch when its configuration is not the one it stands under (R230, R363). -/
def Pt.changed (c : LoadAt) (p : Pt) (b : Option (List Byte)) : Pt :=
  match b with
  | none =>
    if p.isOut then { p.toSafe c.ref with var := 0xFFFFFFFF, rbVar := 0xFFFFFFFF, gone := true } else p.noRec
  | some b =>
    let q := p.withRec b
    if q.isIn then { q.restartInput c.time (!(p.isIn && p.mode = q.mode)) with eff := none }
    else { q.deEnergised with prot := 0, smp := { val := 0, tag := initTag false 0 } }

/-- A point at a load that follows a reset: configured as before it keeps what the reset left it (R230). -/
def Pt.loaded (c : LoadAt) (l : List Rec) (n : Nat) (p : Pt) : Pt :=
  match recBody l 0x0202 n with
  | none => p.changed c none
  | some b => if p.withRec b = p then p else p.changed c (some b)

/-- A point where no image is admitted: an output is de-energised and is none until an image configures it again (R230). -/
def Pt.unloaded (p : Pt) : Pt :=
  if p.isOut then { p.noRec with diag := p.diag, diagL := p.diagL, smp := p.smp, rb := p.rb } else p.deEnergised

/-- FLD takes the FIELD section at a load that follows a reset. -/
def fieldLoad (c : LoadAt) (l : List Rec) (member : Bool) (old : FldBlk) : FldBlk :=
  { old with banks := Vector.ofFn (fun b => old.banks[b].withRec l b.val member)
             pts := Vector.ofFn (fun n => Pt.loaded c l n.val old.pts[n]) }

/-- Point `n` at a profile switch (R363). -/
def Pt.switched (c : LoadAt) (old new : List Rec) (n : Nat) (p : Pt) : Pt :=
  let b := recBody new 0x0202 n
  if recBody old 0x0202 n = b && b.isSome && !p.gone then p else p.changed c b

/-- FLD at a profile switch: Shutters go on (R363). -/
def fieldSwitch (c : LoadAt) (old new : List Rec) (member : Bool) (f : FldBlk) : FldBlk :=
  { f with banks := Vector.ofFn (fun b => f.banks[b].withRec new b.val member)
           pts := Vector.ofFn (fun n => Pt.switched c old new n.val f.pts[n]) }

/-- Mode of a point in an image, 0 when it is unused. -/
def imgMode (l : List Rec) (n : Nat) : Nat := match recBody l 0x0202 n with | some b => fld (rdW b 0) 0 4 | none => 0

/-- One POINT record keeps R211 to R228, and of a pair member R235. -/
def pointOk (isVar : Nat → Bool) (paired : Bool) (b : List Byte) : Bool :=
  let c := rdW b 0
  let m := fld c 0 4
  let sub := fld c 4 2
  let filt := fld c 6 3
  let safe := fld c 12 2
  let opt := fun (w : Word) => match bindVar w with | some n => isVar n | none => w == 0xFFFFFFFF
  let per := fld (rdW b 8) 0 24
  m ≤ 7
  && (m == 0 || m == 2 || m == 7
      || (m == 1 && sub ≤ 1 && filt ≤ 5) || (m == 3 && sub ≤ 2 && filt ≤ 3) || (m == 4 && sub ≤ 1)
      || ((m == 5 || m == 6) && sub ≤ 2 && filt ≤ 3 && (m == 5 || fld c 9 2 ≤ 2)))
  && (!(m == 4 && safe == 1) && !(m == 2 && safe == 3))
  && (m ≠ 7 || (500 ≤ per && per ≤ 1000000))
  && opt (rdW b 16) && opt (rdW b 20)
  && (!bit c 14 || m == 1 || m == 3 || m == 5)
  && (!paired || m == 0 || 1 ≤ fld (rdW b 12) 24 8)
  && (!paired || !(m == 2 || m == 4 || m == 7) || safe == 0)

/-- The FIELD section keeps R210 to R228 and R235, and its pair declarations agree with the PAIR section (R258). -/
def fieldOk (isVar : Nat → Bool) (member : Bool) (l : List Rec) : Bool :=
  l.all (fun r => if r.rtype = 0x0202 then pointOk isVar member r.body else true)
  && (List.range 8).all (fun b =>
      let r := (recBody l 0x0201 b).getD []
      let used := fld (rdW r 0) 0 12
      (List.range 12).all (fun p => used.testBit p == (imgMode l (12 * b + p) ≠ 0))
      && (used == 0 || 1 ≤ rd r 4 4)
      && (!(member && (List.range 12).any (fun p => imgMode l (12 * b + p) == 4)) || rd r 4 4 ≤ 100)
      && ((recBody l 0x0201 b).isNone || bit (rdW r 0) 12 == member))

end Sys2Proof.Machine
end

