-- ==== Sys2Proof/Machine/LoadQp.lean ====
section
/-! DEFINITION. Clusters, slots and templates as the records of an image give them, their checks, and what a profile switch
keeps (R161, R183, R188, R349). -/

namespace Sys2Proof.Machine
open Sys2Proof

/-- Bindings laid out as QBIND for a problem of N variables and M rows (R349). -/
def bindsOf (n m : Nat) (b : List Byte) : QBind :=
  let w := wordsOf b
  { ins := w.take (n + 2 * m), xs := (w.drop (n + 2 * m)).take n, ys := (w.drop (2 * n + 2 * m)).take m
    merit := w.getD (2 * n + 3 * m) 0xFFFFFFFF, status := w.getD (2 * n + 3 * m + 1) 0xFFFFFFFF }

/-- TURNS of a cluster in an image. -/
def turnsWord (l : List Rec) (c : Nat) : Word := ((recBody l 0x0601 c).map (fun b => rdW b 0)).getD 0

/-- Slot `p` freshly loaded (R188, R349). -/
def slotOfRec (l : List Rec) (p : Nat) : QSlot :=
  match recBody l 0x0602 p with
  | none => QSlot.unused
  | some b =>
    let t := rd b 0 1
    let c := b.drop 4
    { QSlot.unused with tier := BitVec.ofNat 3 t, mem := if t = 0 then [] else freshSlotMem c
                        bind := bindsOf (rd c 0 4) (rd c 4 4) ((recBody l 0x0603 p).getD []) }

/-- Template `t` of an image (R184, R349). -/
def tmplOfRec (l : List Rec) (t : Nat) : Option QTmpl :=
  (recBody l 0x0604 t).map (fun b =>
    let c := sub b 8 34368
    { soon := rd b 0 1 = 1, tier := rd b 1 1, req := rdW b 4, content := c
      bind := bindsOf (rd c 0 4) (rd c 4 4) (b.drop (8 + 34368)), prev := none, wait := [], run := none, res := none
      deliver := [], issue := 0 })

/-- Whether a pattern lies in a closed range of binary32 numbers. -/
def f32In (lo hi x : Nat) : Bool := f32.le lo x && f32.le x hi

/-- Content checks of R161 on a slot content. -/
def contentOk (c : List Byte) : Bool :=
  let m : Mem := Mem.put [] 0 c
  let n := qN m
  let k := qM m
  let x := fun a => (m.word a).toNat
  let f := fun a => f32.le 1 (x a) && !f32.nonFinite (x a)
  let lo := 0x358637BD
  let hi := 0x49742400
  1 ≤ n && n ≤ 48 && k ≤ 96 && 1 ≤ x 0x08 && x 0x08 ≤ 64
    && f32In lo hi (x 0x10) && f32In lo hi (x 0x14) && f32In lo hi (x 0x18) && f32In 0x3DCCCCCD 0x3FF33333 (x 0x1C)
    && f 0x20 && f 0x24 && f 0x28 && f 0x2C
    && (List.range k).all (fun i => qRow m i ≤ 2)
    && qNParam m ≤ 64
    && (List.range (qNParam m)).all (fun i =>
        let (_, r, col, isA) := paramOf m i
        if isA then r < k && col < n && qMask m 0x7FC0 r col else r ≤ col && col < n && qMask m 0x7E40 r col)
    && x 0x0C ≥ cSetup n k (qNParam m) + cFact n k + 2 * cChk n k + cIt n k
    && (List.range n).all (fun i => (List.range n).all (fun j => !f32.nonFinite (qP m i j)))
    && (List.range k).all (fun i => (List.range n).all (fun j => !f32.nonFinite (qA m i j)))
    && allFinite (qVec m 0x6C40 n) && allFinite (qVec m 0x6D00 k) && allFinite (qVec m 0x6E80 k)
    && allZero (sub c 0x30 4) && allZero (sub c 0x3C 4) && x 0x38 < 2
    && allZero (sub c 0x7000 0xE40)

/-- The binding words of a problem name variables of type REAL, or nothing (R181, R346). -/
def qBindOk (tyOf : Nat → Option Nat) (b : QBind) : Bool :=
  let real := fun (w : Word) => w == 0xFFFFFFFF#32 || (match bindVar w with | some n => tyOf n == some 4 | none => false)
  b.ins.all real && b.xs.all real && b.ys.all real && real b.merit
    && (b.status == 0xFFFFFFFF#32 || (match bindVar b.status with | some n => (tyOf n).isSome | none => false))

/-- The QP section keeps R161 and R349 (code 10 of R344). -/
def qpOk (tyOf : Nat → Option Nat) (l : List Rec) : Bool :=
  l.all (fun r =>
    if r.rtype = 0x0601 then
      (List.range 8).all (fun j => bit (rdW r.body 0) (24 + j) || fld (rdW r.body 0) (3 * j) 3 == 0)
    else if r.rtype = 0x0602 then
      let t := rd r.body 0 1
      let c := r.body.drop 4
      (t ≤ 4 || t == 7) && allZero (sub r.body 1 3)
        && (t = 0 || (contentOk c && (t = 7 ||
            ( ((recBody l 0x0603 r.inst).getD []).length == 4 * (2 * rd c 0 4 + 3 * rd c 4 4 + 2)
            && qBindOk tyOf (bindsOf (rd c 0 4) (rd c 4 4) ((recBody l 0x0603 r.inst).getD []))
            && (List.range (rd c 0x34 4)).all (fun i => tyOf (rd c (0x8340 + 12 * i) 4 % 2 ^ 20) == some 4)))))
    else if r.rtype = 0x0603 then (recBody l 0x0602 r.inst).isSome
    else
      let c := sub r.body 8 34368
      rd r.body 0 1 ≤ 1 && 1 ≤ rd r.body 1 1 && rd r.body 1 1 ≤ 4 && allZero (sub r.body 2 2) && contentOk c
        && r.body.length == 8 + 34368 + 4 * (2 * rd c 0 4 + 3 * rd c 4 4 + 2)
        && qBindOk tyOf (bindsOf (rd c 0 4) (rd c 4 4) (r.body.drop (8 + 34368)))
        && (match bindVar (rdW r.body 4) with | some n => (tyOf n).isSome | none => false)
        && (List.range (rd c 0x34 4)).all (fun i => tyOf (rd c (0x8340 + 12 * i) 4 % 2 ^ 20) == some 4))

/-- R_max of a tier (R183). -/
def rMax : Nat → Nat
  | 1 => 22
  | 2 => 246
  | 3 => 2494
  | _ => 24974

/-- Check 3 of R47 on slot `p`: budget, rotations and turns (R162, R183). -/
def slotAdmitOk (l : List Rec) (p : Nat) : Bool :=
  match recBody l 0x0602 p with
  | none => true
  | some b =>
    let t := rd b 0 1
    let w := turnsWord l (p / 8)
    let turns := ((List.range 8).filter (fun j => bit w (24 + j) && fld w (3 * j) 3 == p % 8)).length
    let c := b.drop 4
    t = 0 || (turns ≥ 1 && (t = 7 ||
      (cSetup (rd c 0 4) (rd c 4 4) (rd c 0x34 4) + cFact (rd c 0 4) (rd c 4 4) + 2 * cChk (rd c 0 4) (rd c 4 4)
        + cIt (rd c 0 4) (rd c 4 4) ≤ rd c 0x0C 4 && cdiv (rd c 0x0C 4) (250 * turns) ≤ rMax t)))

/-- The first slot that check 3 of R47 refuses: (tier, solver problem number). -/
def qpAdmitFail (l : List Rec) : Option (Nat × Nat) :=
  ((List.range 64).find? (fun p => !slotAdmitOk l p)).map (fun p =>
    (((recBody l 0x0602 p).map (fun b => rd b 0 1)).getD 7, p))

/-- Slots that a QP section uses, timed or placed: each holds 64 KiB of on-die SRAM (R164). -/
def usedSlots (l : List Rec) : Nat := ((List.range 64).filter (fun p =>
  ((recBody l 0x0602 p).map (fun b => rd b 0 1)).getD 0 ≠ 0)).length

/-- KiB of on-die SRAM that an image takes as timed data (R47 check 9, R164). -/
def imageKib (b : List Byte) : Nat := Config.timedKib b + 64 * usedSlots (recs b 6)

/-- QP as an image load or a reset leaves it; EVT_MASK and the counts of the registers stay as given (R188). -/
def qpLoad (l : List Rec) : QpBlk :=
  { clus := Vector.ofFn (fun c => { turns := turnsWord l c.val, memErr := false, addr := 0, slot := 0 })
    slots := Vector.ofFn (fun p => slotOfRec l p.val), tmpls := Vector.ofFn (fun t => tmplOfRec l t.val), lastT := 63
    peers := [], lastStn := 63, lastPeer := true, issued := 0 }

/-- A slot at a profile switch (R188). Its registers stay. A slot used in both profiles keeps its stored iterate under the same
signature, and a problem that runs in a placed slot goes on to its end, unless a timed slot takes its place (assumption log 74). -/
def switchSlot (old new : QSlot) : QSlot :=
  let timed := fun (q : QSlot) => 1 ≤ q.tier.toNat && q.tier.toNat ≤ 4
  let regs : QSlot := { old with tier := new.tier, mem := new.mem, bind := new.bind, phase := .idle, ins := [], params := []
                                 out := none, facKey := [], facFloored := false, started := false }
  let both := old.tier ≠ 0 && new.tier ≠ 0 && (timed old || timed new)
  if both && old.mem.word 0x30 == new.mem.word 0x30 then
    let m1 := ((new.mem.put 0x7540 (old.mem.bytes 0x7540 960)).put 0x7900 (old.mem.bytes 0x7900 1344)).put 0x7180
      (old.mem.bytes 0x7180 960)
    let m2 := ((m1.put 0x8680 (old.mem.bytes 0x8680 18432)).put 0xCE80 (old.mem.bytes 0xCE80 9216)).put 0xF280
      (old.mem.bytes 0xF280 192)
    { regs with mem := m2.putWord 0x3C (old.mem.word 0x3C), facKey := old.facKey, facFloored := old.facFloored }
  else if both then
    -- the stored iterate stays under its old signature, so that the next solve sets WS_REJECT
    { regs with mem := new.mem.putWord 0x3C (pack [(0, 1, b2n (stateBit old.mem 0))]) }
  else if old.tier == 7#3 && new.tier == 7#3 then old
  else if old.tier == 7#3 && old.phase == .solving && new.tier == 0#3 then { old with tier := 0, bind := .none, out := none }
  else { QSlot.unused with tier := new.tier, mem := new.mem, bind := new.bind, evtMask := old.evtMask }

/-- QP at switch boundary S (R188): placed problems that wait are discarded, and so are the results of those that run. -/
def qpSwitch (s : State) (l : List Rec) : State :=
  let n := qpLoad l
  { s with qp := { clus := Vector.ofFn (fun c => { s.qp.clus[c] with turns := n.clus[c].turns })
                   slots := Vector.ofFn (fun p => switchSlot s.qp.slots[p] n.slots[p]), tmpls := n.tmpls, lastT := 63, peers := [], lastStn := 63
                   lastPeer := true, issued := s.qp.issued } }

end Sys2Proof.Machine
end

