-- ==== Sys2Proof/Machine/LoadSaf.lean ====
section
/-! DEFINITION. The SAFETY section: its checks, and SAF as an image gives it (R238, R243–R257, R348). -/

namespace Sys2Proof.Machine
open Sys2Proof

/-- SEC_ID: the first 64 bits of the section's digest, in the byte order of R5 (R257). -/
def secIdOf (b : List Byte) : BitVec 64 :=
  match sectionOf b 4 with
  | some x => BitVec.ofNat 64 (ofLe ((safDigest x).take 8))
  | none => 0

/-- SAF as an image load leaves it, its registers at their reset values (R257). -/
def safLoad (b : List Byte) : SafBlk :=
  let l := recs b 4
  match recBody l 0x0401 0 with
  | none => SafBlk.reset
  | some g =>
    { SafBlk.reset with
      cfg := rdW g 0 ||| 1#32
      budget := satNat 16 ((sleCostOf l).getD 0)
      secId := secIdOf b
      si := Vector.ofFn (fun n => match recBody l 0x0408 n.val with
        | some r => { SiCh.unused with cfg := rdW r 0, var := rdW r 4 }
        | none => SiCh.unused)
      -- every used source drives high from its start (R244)
      tp := Vector.ofFn (fun k => { TpSrc.idle with high := (allFin 16).any (fun n => match recBody l 0x0408 n.val with
        | some r => SiCh.on { SiCh.unused with cfg := rdW r 0 } k
        | none => false) })
      so := Vector.ofFn (fun k => match recBody l 0x0409 k.val with
        | some r => soStart { SoOut.unused with cfg := rdW r 0, req := rdW r 4, rst := rdW r 8 }
        | none => SoOut.unused)
      startReq := true }

/-- A SAFETY section takes effect without a reset: SL+, the counts, an SLE fault, and every channel fault, TP fault and output cause
still pending stay (R242, R247, R251, R257). -/
def SafBlk.keeping (n o : SafBlk) : SafBlk :=
  { n with
    lp := o.lp, lpGone := o.lpGone, dist := o.dist, sleFault := o.sleFault, sleCause := o.sleCause, wdLast := o.wdLast
    wdExpired := o.wdExpired, startReq := n.startReq && !o.sleFault
    si := Vector.ofFn (fun i => { n.si[i] with pend := o.si[i].pend, latched := o.si[i].latched, seenTp := o.si[i].seenTp
                                               cnt := o.si[i].cnt })
    tp := Vector.ofFn (fun i => { n.tp[i] with
      high := n.tp[i].high && !o.tp[i].fault && !o.wdExpired, fault := o.tp[i].fault, cause := o.tp[i].cause
      latched := o.tp[i].latched, curr := o.tp[i].curr, freeNs := o.tp[i].freeNs })
    so := Vector.ofFn (fun i => soStart { n.so[i] with
      pend := o.so[i].pend, foreign := o.so[i].foreign, rej := o.so[i].rej, latched := o.so[i].latched, curr := o.so[i].curr
      tripCnt := o.so[i].tripCnt, rejCnt := o.so[i].rejCnt }) }

/-- What a profile switch keeps: everything under the same SAFETY section, and under another one what outlasts it (R257). -/
def safSwitch (s : State) (b : List Byte) : State :=
  let n := safLoad b
  if n.secId = s.saf.secId && bit n.cfg 0 == bit s.saf.cfg 0 then s
  else
    { s with saf := n.keeping s.saf, le := s.le.set 16 (sleOf (recs b 4)) }

/-- The image declares the station a pair member in its FIELD section (R235). -/
def fieldPaired (f : List Rec) : Bool := f.any (fun r => r.rtype == 0x0201 && bit (rdW r.body 0) 12)

/-- A binding word names a variable for which `p` holds, or, where `opt`, nothing. -/
def bindIs (p : Nat → Bool) (opt : Bool) (w : Word) : Bool :=
  if w = 0xFFFFFFFF then opt else match bindVar w with
    | some n => p n
    | none => false

/-- The SAFETY section keeps R239 and R243–R257 beside the SLE's program (code 10 of R344): enable requests and reset bits are SLE
outputs; `isVar` says that the image has the variable. -/
def safOk (isVar : Nat → Bool) (l f : List Rec) : Bool :=
  match recBody l 0x0401 0 with
  | none => l.isEmpty
  | some g =>
    let cfg := rdW g 0
    let outs := (wordsOf ((recBody l 0x0404 0).getD [])).filterMap bindVar
    let siCfg := fun (n : Nat) => ((recBody l 0x0408 n).map (fun b => rdW b 0)).getD 0
    fld cfg 1 2 ≤ 2 && 2 ≤ fld cfg 4 4 && fld cfg 4 4 ≤ 10 && 2 ≤ fld cfg 16 6 && fld cfg 16 6 ≤ 50
      && (fld cfg 1 2 ≠ 0) == fieldPaired f
      && (List.range 16).all (fun n =>
          let c := siCfg n
          let m := siCfg (if n % 2 = 0 then n + 1 else n - 1)
          fld c 0 2 ≤ 2 && fld c 8 3 ≤ 5
            && (!bit c 4 || (bit m 4 && fld c 0 2 == fld m 0 2 && bit c 5 == bit m 5 && fld c 12 12 == fld m 12 12
                  && 1 ≤ fld c 12 12 && (fld c 0 2 ≠ 1 || fld c 2 2 ≠ fld m 2 2))))
      && l.all (fun r => r.rtype ≠ 0x0408 || bindIs isVar true (rdW r.body 4))
      && l.all (fun r => r.rtype ≠ 0x0409 ||
          (!bit (rdW r.body 0) 0 ||
            (bindIs outs.contains false (rdW r.body 4)
              && (if bit (rdW r.body 0) 1 then bindIs outs.contains false (rdW r.body 8) else rdW r.body 8 == 0xFFFFFFFF#32))))

end Sys2Proof.Machine
end

