-- ==== Sys2Proof/Machine/ImageChecks.lean ====
section
/-! DEFINITION. What an image must keep beyond its format: section contents (code 10 of R344) and the admission checks of
R47 (code 11). -/

namespace Sys2Proof.Machine
open Sys2Proof

/-- Strictly rising numbers. -/
def rising : List Nat → Bool
  | a :: b :: r => a < b && rising (b :: r)
  | _ => true

/-- The STRUCT section keeps R347 and R408. -/
def structOk (l lg : List Rec) : Bool :=
  let vs := varsOf l
  let b := (recBody l 0x0101 0).getD []
  let rs := wordsOf ((recBody l 0x0102 0).getD [])
  rising (vs.map (fun v => v.idx))
    && (chunks 20 b).all (fun x => rd x 4 4 < 2 ^ 20 && 1 ≤ rd x 8 1 && rd x 8 1 ≤ 5 && rd x 9 1 < 4 && rd x 10 1 ≤ 15
        && rd x 11 1 ≤ 10 && (rd x 13 1 ≤ 4 || rd x 13 1 == 7) && rd x 14 2 == 0)
    && (vs.map (fun v => v.id)).Nodup
    && (vs.filter (fun v => v.retain)).length ≤ 65536
    && rs.all (fun w => fld w 16 16 == 0)
    && (rs.getD 510 0 == 0 && rs.getD 511 0 == 0)
    && rs.all (fun w => !bit w 1 || (match recBody lg 0x0302 (fld w 2 4) with
        | some e => rd e (8 + 4 * fld w 6 2) 4 ≠ 0xFFFFFFFF | none => false))

/-- Tasks of an engine as (entry, tier) (R57, R60). -/
def tasksOf (l : List Rec) (e : Nat) : List (Nat × Nat) :=
  match recBody l 0x0302 e with
  | none => []
  | some b =>
    let t := fld (rdW b 0) 0 3
    (if t = 0 then [] else [(rd b 4 4, t)]) ++ (evtEntries b).map (fun x => (x, 1))

/-- Tiers of the tasks that write a DATA index through a Q entry, with the engine (R60). -/
def writersOf (l : List Rec) (n : Nat) : List (Nat × Nat) :=
  (List.range 16).flatMap (fun e =>
    match progOf l e with
    | none => []
    | some p =>
      let ex := wordsOf ((recBody l 0x0305 e).getD [])
      (tasksOf l e).filterMap (fun t =>
        if (p.stores t.1).any (fun q => bindVar (ex.getD q 0xFFFFFFFF) == some n) then some (e, t.2) else none))

/-- The M and W words that are mapped to a DATA index, as engine and the tier at whose boundaries they count as handed over
(R29, R89). -/
def wordsMapped (l : List Rec) (n : Nat) : List (Nat × Nat) :=
  (List.range 16).flatMap (fun e =>
    let t := ((recBody l 0x0302 e).map (fun b => fld (rdW b 0) 0 3)).getD 0
    ((chunks 8 ((recBody l 0x0309 e).getD [])).filter (fun x => rd x 4 4 == n)).map (fun _ => (e, if t = 0 then 1 else t)))

/-- Check 8 of R47 on a logic variable: exactly one writer, which is one engine's tasks through Q, or one M or W word, and the
declared writing tier is theirs (R29, R60). An operator-writable variable has the supervisor as its only writer (R42, R130). -/
def writerOk (l : List Rec) (v : Var) : Bool :=
  let ws := writersOf l v.idx
  let ms := wordsMapped l v.idx
  let one := fun (x : Nat × Nat) => x.1 == v.winst && x.2 == v.tier
  if v.opw then v.wblk == 10 && ws.isEmpty && ms.isEmpty
  else if v.wblk = 3 then (if ms.isEmpty then !ws.isEmpty && ws.all one else ws.isEmpty && ms.length == 1 && ms.all one)
  else ws.isEmpty && ms.isEmpty

/-- The first variable that breaks check 8. -/
def writerFail (l lg : List Rec) : Option Nat := ((varsOf l).find? (fun v => !writerOk lg v)).map (fun v => v.idx)

/-- The variables that blocks other than the logic engines write, with the block (R29). -/
def otherWriters (b : List Byte) : List (Nat × Nat) :=
  let fl := recs b 2
  let sf := recs b 4
  let lp := recs b 5
  let qp := recs b 6
  let an := recs b 7
  let cm := recs b 8
  let st := recs b 9
  let tag := fun (k : Nat) (l : List Word) => (l.filterMap bindVar).map (fun n => (n, k))
  let can := (canLoad cm 2 CanBlk.reset).ctl.toList
  let qb := fun (x : QBind) => x.xs ++ x.ys ++ [x.merit, x.status]
  let pair := ((recBody st 0x0901 0).map (fun r => rd r 0 1)).getD 32
  -- a point in another mode, or none, still writes the field variable bound to it, with Q 6 (R212)
  let isFld := fun (w : Word) => (bindVar w).any (fun n => (varsOf (recs b 1)).any (fun v => v.idx == n && v.wblk == 0))
  tag 0 (fl.flatMap (fun r => if r.rtype = 0x0202 then
      (if [1, 3, 5, 6].contains (fld (rdW r.body 0) 0 4) || isFld (rdW r.body 16) then [rdW r.body 16] else []) ++ [rdW r.body 20]
      else []))
  ++ tag 1 (can.flatMap (fun c => c.objs.flatMap (fun o => (if o.kind = 0 then o.sigs.map (fun g => g.var) else []) ++ [o.ack])))
  ++ tag 2 ((List.range 128).flatMap (fun r => ((imageRx cm sf r).map (fun x => x.binds.map (fun y => y.1))).getD []))
  ++ tag 4 ((lp.filter (fun r => r.rtype == 0x0501)).map (fun r => rdW r.body 40))
  ++ tag 5 ((List.range 64).flatMap (fun p => qb (slotOfRec qp p).bind))
  ++ tag 5 ((List.range 64).flatMap (fun t => ((tmplOfRec qp t).map (fun x => qb x.bind)).getD []))
  ++ tag 6 ((List.range 8).flatMap (fun a => (srcOfRec an a).binds.toList))
  ++ tag 7 ((sf.filter (fun r => r.rtype == 0x0408)).map (fun r => rdW r.body 4) ++ wordsOf ((recBody sf 0x0404 0).getD []))
  ++ tag 8 ((st.filter (fun r => r.rtype == 0x0902)).flatMap (fun r =>
      let x := xferOfRec r.body
      if x.dst = pair && x.kind ≠ 1 then x.words.map (fun w => w.2) else []))

/-- How many drivers an output point has (R29): its command variable, loops, the angle source of its events, and remote
outputs. -/
def driversOf (b : List Byte) (n : Nat) : Nat :=
  let cmd := match recBody (recs b 2) 0x0202 n with
    | some r => b2n (bindVar (rdW r 16)).isSome
    | none => 0
  let loops := ((recs b 5).filter (fun r => r.rtype == 0x0501 && fld (rdW r.body 0) 0 2 ≠ 0 && bindPoint (rdW r.body 40) == some n)).length
  let evts := (((recs b 7).filter (fun r => r.rtype == 0x0703 && fld (rdW r.body 0) 0 2 == 1 && fld (rdW r.body 0) 8 7 == n)).map
    (fun r => r.inst / 16)).eraseDups.length
  let pair := ((recBody (recs b 9) 0x0901 0).map (fun r => rd r 0 1)).getD 32
  let rem := ((recs b 9).filter (fun r => r.rtype == 0x0902)).foldl (fun k r =>
    let x := xferOfRec r.body
    if x.kind = 1 && x.dst = pair then k + (x.words.filter (fun w => bindPoint w.2 == some n)).length else k) 0
  cmd + loops + evts + rem

/-- A variable of a block beyond the logic engines has exactly one writer, of the block that it declares; one of the safety block
may instead be the state of an output (R29, R248; assumption log 72). -/
def blockWriterOk (b : List Byte) (ws : List (Nat × Nat)) (v : Var) : Bool :=
  let l := ws.filter (fun x => x.1 == v.idx)
  if v.wblk = 3 || v.wblk ≥ 9 then l.isEmpty
  else if v.wblk = 7 && l.isEmpty then ((recBody (recs b 4) 0x0409 v.winst).map (fun r => bit (rdW r 0) 0)).getD false
  else l == [(v.idx, v.wblk)]

/-- Check 8 of R47 beyond the logic engines: one declared writer for each variable that a block writes, and one driver for
each output point; answers the first object that breaks it. -/
def otherWriterFail (b : List Byte) : Option Nat :=
  let vs := varsOf (recs b 1)
  let ws := otherWriters b
  match vs.find? (fun v => !blockWriterOk b ws v) with
  | some v => some v.idx
  | none =>
  match ws.find? (fun w => !vs.any (fun v => v.idx == w.1)) with
  | some w => some w.1
  | none => (List.range 96).find? (fun n => [2, 4, 7].contains (imgMode (recs b 2) n) && driversOf b n ≠ 1)

/-- Tagged words of the distributed input set: its T0 part, and all of it at a boundary at which every tier opens (R47 check 4,
R262): a sample or readback for each used point, one word of diagnostics for each used bank, five words and the samples of its
loops for each angle source, one for each used safety input; then one for each value that CAN, NET, the stack and placed work
deliver, the pins, and each event task that can start (assumption log 75). -/
def inputSetWords (b : List Byte) : Nat × Nat :=
  let pts := (List.range 96).filter (fun n => imgMode (recs b 2) n ≠ 0)
  let src := ((recs b 7).filter (fun r => r.rtype == 0x0701 && fld (rdW r.body 0) 0 3 ≠ 0)).length
  let ang := ((recs b 2).filter (fun r => r.rtype == 0x0202 && bit (rdW r.body 0) 14)).length
  let si := ((recs b 4).filter (fun r => r.rtype == 0x0408 && fld (rdW r.body 0) 0 2 ≠ 0)).length
  let t0 := pts.length + ((pts.map (· / 12)).eraseDups).length + 5 * src + ang + si
  let got := ((otherWriters b).filter (fun w => w.2 == 1 || w.2 == 2 || w.2 == 8)).length
  let placed := ((List.range 64).map (fun t => ((tmplOfRec (recs b 6) t).map (fun x =>
    ((x.bind.xs ++ x.bind.ys ++ [x.bind.merit, x.bind.status]).filter (· ≠ 0xFFFFFFFF#32)).length)).getD 0)).sum
  let evts := ((List.range 16).map (fun e => ((recBody (recs b 3) 0x0302 e).map (fun r => (evtEntries r).length)).getD 0)).sum
  (t0, t0 + got + placed + 1 + evts)

/-- Writing tier and class of the variables whose writers the image's other sections give: the sample tier of a loop, T2 for an
angle-sampled one (R157), a slot's tier and the requesting tier of a template (R181, R185), and the class of CAN data (R302). -/
def writerTiers (b : List Byte) : List (Nat × Nat × Bool) :=
  let qb := fun (x : QBind) => (x.xs ++ x.ys ++ [x.merit, x.status]).filterMap bindVar
  ((List.range 192).flatMap (fun n => match (recBody (recs b 5) 0x0501 n).bind (fun r => bindVar (rdW r 40)) with
    | some v => let c := (loopOf (recs b 5) n).c; [(v, if c.src ≤ 3 then c.src else 2, false)]
    | none => []))
  ++ (List.range 64).flatMap (fun p => let q := slotOfRec (recs b 6) p; (qb q.bind).map (fun v => (v, q.tier.toNat, q.tier == 7#3)))
  ++ (List.range 64).flatMap (fun t => match tmplOfRec (recs b 6) t with
    | some x => (qb x.bind).map (fun v => (v, x.tier, true))
    | none => [])

/-- Writing tier and class of the variables that CAN and NET write: an object's tier, by the tiers `tierOf` of the other variables,
with class C but for the data of a timed object; a receive telegram's tier, which owns its reception schedule (R35, R37, R302). -/
def receptionTiers (b : List Byte) (tierOf : Nat → Nat) : List (Nat × Nat × Bool) :=
  (canLoad (recs b 8) 2 CanBlk.reset).ctl.toList.flatMap (fun c => c.objs.flatMap (fun o =>
    let t := objTierOf tierOf c o
    (if o.kind = 0 then o.vars.map (fun v => (v, t, !c.timed o.idx)) else []) ++ (bindVar o.ack).toList.map (fun v => (v, t, true))))
  ++ (List.range 128).flatMap (fun r => match imageRx (recs b 8) (recs b 4) r with
    | some x => (x.binds.filterMap (fun y => bindVar y.1)).map (fun v => (v, x.tier, false))
    | none => [])

/-- The variable as its writer has it: the tier that counts its AGE, class C of its initial tag, and no RETAIN in the safety
function (R29, R37, R39, R42, R157, R181, R185, R238). -/
def withWriter (b : List Byte) (ts : List (Nat × Nat × Bool)) (si : List Nat) (v : Var) : Var :=
  let w := ts.find? (fun x => x.1 == v.idx)
  let tier :=
    if v.opw then 1
    else if v.wblk = 0 || v.wblk = 6 then 0
    else if v.wblk = 7 then (if si.contains v.idx || !(wordsOf ((recBody (recs b 4) 0x0404 0).getD [])).any (fun x => bindVar x == some v.idx)
      then 0 else 1)
    else (w.map (fun x => x.2.1)).getD v.tier
  let c := (w.map (fun x => x.2.2)).getD false
  let f := fun (x : TWord) => { x with tag := { x.tag with c := c } }
  { v with tier := tier, placed := c, retain := v.retain && v.wblk ≠ 7, cur := f v.cur, unf := f v.unf }

/-- The writing tier of a variable in a table, 7 for none. -/
def tierIn (vs : List Var) (n : Nat) : Nat := ((vs.find? (fun v => v.idx == n)).map (fun v => v.tier)).getD 7

/-- The variable table of an image, each variable with the writing tier and class that the image gives its writer. -/
def imageVars (b : List Byte) : List Var :=
  let ts := writerTiers b
  let si := ((recs b 4).filter (fun r => r.rtype == 0x0408)).filterMap (fun r => bindVar (rdW r.body 4))
  let sent := (varsOf (recs b 1)).map (withWriter b ts si)
  (varsOf (recs b 1)).map (withWriter b (ts ++ receptionTiers b (tierIn sent)) si)

/-- The PAIR section keeps R351 and agrees with FIELD and SAFETY (R258). -/
def pairMember (b : List Byte) : Bool := match recBody (recs b 10) 0x0A01 0 with | some r => rd r 0 1 % 2 == 1 | none => false

/-- The first section whose content is malformed (code 10). -/
def contentFail (b : List Byte) : Option Nat :=
  let vs := varsOf (recs b 1)
  let var? := fun n => vs.find? (fun v => v.idx == n)
  let isVar := fun n => (var? n).isSome
  let tyOf := fun n => (var? n).map (fun v => v.ty.toNat)
  let tierOf := tierIn (imageVars b)
  let mode := imgMode (recs b 2)
  let inPt := fun n => n < 96 && [1, 3, 5, 6].contains (mode n)
  let extPt := fun n => n < 96 && [3, 5, 6].contains (mode n)
  let outPt := fun n => n < 96 && [4, 7].contains (mode n)
  let isDo := fun n => n < 96 && mode n == 2
  let member := pairMember b
  let g := (recBody (recs b 11) 0x0B01 0).getD []
  if !structOk (recs b 1) (recs b 3) then some 1
  else if !fieldOk isVar member (recs b 2) then some 2
  else if !logicOk (recs b 3) then some 3
  else if !sleOk (recs b 4) || !safOk isVar (recs b 4) (recs b 2)
    || (member && sectionOf b 4 ≠ none && soWiringOf (recs b 4) = 0) then some 4
  else if !loopsOk tyOf inPt extPt outPt (recs b 5) then some 5
  else if !qpOk tyOf (recs b 6) then some 6
  else if !anglesOk isDo (recs b 7) then some 7
  else if !canRecsOk isVar tierOf (recs b 8) || !netRecsOk isVar tierOf (recs b 8) (recs b 4) then some 8
  else if !stkOk isVar (recs b 9) then some 9
  else if rd g 0 1 > 7 || allZero (sub g 1 3) = false then some 11
  else none
where
  /-- SAF.CFG.SO_WIRING of a SAFETY section. -/
  soWiringOf (l : List Rec) : Nat := match recBody l 0x0401 0 with | some r => fld (rdW r 0) 1 2 | none => 1

/-- The first failing admission check of R47, with tier and object (code 11). Where several objects break check 3, the one reported
is the first in the order logic engines, SLE (numbered 16), loops, solver slots (R48; assumption log 76). -/
def admitFail (b : List Byte) : Option (Nat × Nat × Nat) :=
  let tierOf := tierIn (imageVars b)
  let w := inputSetWords b
  if Config.xbarPeak b > 2250 then some (1, 7, (Config.slotObject b).1)
  else if Config.xbarClash b then some (2, 7, (Config.slotObject b).2.1)
  else match logicCostFail (recs b 3) with
    | some (t, e) => some (3, t, e)
    | none =>
      if (sleCostOf (recs b 4)).isNone then some (3, 1, 16)
      else match loopAdmitFail (angInterval (recs b 7)) (recs b 5) with
      | some e => some (3, 7, e)
      | none =>
        match qpAdmitFail (recs b 6) with
        | some (t, p) => some (3, t, p)
        | none =>
          if w.2 > 640 || w.1 > 256 then some (4, 7, 0)
          else match canAdmitFail tierOf (recs b 8) with
          | some (t, k) => some (5, t, k)
          | none =>
            match netAdmitFail b (recs b 8) (recs b 4) with
            | some (t, n) => some (6, t, n)
            | none =>
              if (Config.linkBits b).1 > 140000 || (Config.linkBits b).2 > 35000 then some (7, 7, (Config.slotObject b).2.2)
              else match writerFail (recs b 1) (recs b 3) with
                | some n => some (8, 7, n)
                | none =>
                  match otherWriterFail b with
                  | some n => some (8, 7, n)
                  | none => if imageKib b > 40 * 1024 then some (9, 7, 0) else none

/-- ADMIT_RESULT of a failing or passing check (R48). -/
def setAdmit (s : State) (f : Option (Nat × Nat × Nat)) : State :=
  let (c, t, o) := f.getD (0, 7, 0)
  { s with stn := { s.stn with admCode := BitVec.ofNat 8 c, admTier := BitVec.ofNat 3 t, admObj := BitVec.ofNat 20 o } }

/-- Every check of R344 with codes 1 to 11 on an image for profile `target`: (code, section), with the admission failure. -/
def checkImage (s : State) (target : Nat) (b : List Byte) : (Nat × Nat) × Option (Nat × Nat × Nat) :=
  let c := imageCode s.img.imgKeys s.img.safKeys target b
  let stack := recBody (recs b 9) 0x0901 0
  if c.1 ≠ 0 then (c, none)
  -- STACK_ROOT and the pair number must agree (R279)
  else if (match stack with | some r => s.stn.stackRoot != (rd r 0 1 == 0) | none => false) then ((10, 9), none)
  else match contentFail b with
    | some x => ((10, x), none)
    | none =>
      match admitFail b with
      | some f => ((11, 0), some f)
      | none => ((0, 0), none)

end Sys2Proof.Machine
end

