-- ==== Sys2Proof/Machine/Olc.lean ====
section
/-! DEFINITION. On-line change: building and checking the resulting image, PREPARE, COMMIT, DISCARD, and what happens at
the commit boundary (R114–R122, R127, R128, R352, R356). -/

namespace Sys2Proof.Machine
open Sys2Proof

/-- The sections of an image laid out in the order of a carried table, from offset `o`; `get` gives a section's bytes. -/
def layOut (get : Nat → List Byte) : List Sect → Nat → List Byte
  | [], _ => []
  | x :: r, o =>
    let c := get x.type
    c ++ List.replicate (up64 (o + c.length) - (o + c.length)) 0#8 ++ layOut get r (up64 (o + c.length))

/-- The resulting image of a change package on the running image (R115, R336). -/
def resultImage (running p : List Byte) : List Byte :=
  let hdr := sub p 0x40 256
  let get := fun t => if t = 1 then pkgStruct p else if t = 3 then pkgLogic p else sectBytes running t
  hdr ++ layOut get (sects hdr) 0x100 ++ sub p (rd p 0x28 4) 96

/-- A package's own format, as IMG_END checks it (R352). -/
def packageOk (p : List Byte) : Bool :=
  sub p 0 4 == [0x4A#8, 0x43#8, 0x48#8, 0x47#8] && rd p 4 2 == 1 && rd p 6 2 == 0 && p.length ≤ 0x1000000
    && rd p 0x18 4 == 0x140 && rd p 0x20 4 == up64 (0x140 + rd p 0x1C 4)
    && rd p 0x28 4 == up64 (rd p 0x20 4 + rd p 0x24 4) && rd p 0x2C 4 == rd p 0x28 4 + 96 && rd p 0x2C 4 == p.length
    && allZero (sub p 0x30 12)
    && crc32c (p.take 0x3C ++ [0, 0, 0, 0] ++ p.drop 0x40) == rdW p 0x3C
    && allZero (sub p (0x140 + rd p 0x1C 4) (rd p 0x20 4 - (0x140 + rd p 0x1C 4)))
    && allZero (sub p (rd p 0x20 4 + rd p 0x24 4) (rd p 0x28 4 - (rd p 0x20 4 + rd p 0x24 4)))
    && headerCode (sub p 0x40 256) == 0 && imageId (sub p 0x40 256) == rd p 0x10 8

/-- Records of engine `e` in a LOGIC section. -/
def engineRecs (l : List Rec) (e : Nat) : List Rec := l.filter (fun r => r.rtype ≠ 0x0301 && r.inst == e)

/-- Engines whose LOGIC content a change alters (R114). -/
def changedEngines (old new : List Rec) : List (Fin 17) :=
  logicEngines.filter (fun e => engineRecs old e.val ≠ engineRecs new e.val)

/-- A variable is the same in everything but what the station adds. -/
def sameVar (v w : Var) : Bool :=
  v.idx == w.idx && v.id == w.id && v.ty == w.ty && v.retain == w.retain && v.opw == w.opw && v.stale == w.stale
    && v.wblk == w.wblk && v.winst == w.winst && v.tier == w.tier && v.init == w.init

/-- The change stays within R114: only STRUCT and LOGIC differ, both as the carried table says; in LOGIC the settings of the
station stay, and in STRUCT only the variables that changed engines write differ (R114, R352; code 5). -/
def changeInBounds (running p : List Byte) : Bool :=
  let hdr := sub p 0x40 256
  (sects hdr).all (fun x =>
      if x.type = 1 then x.len == (pkgStruct p).length && x.crc == crc32c (pkgStruct p)
      else if x.type = 3 then x.len == (pkgLogic p).length && x.crc == crc32c (pkgLogic p)
      else (sects running).any (fun y => y.type == x.type && y.len == x.len && y.crc == x.crc))
    && (sects running).all (fun y => (sects hdr).any (fun x => x.type == y.type))
    && (let old := varsOf (recs running 1)
        let new := pkgVars p
        let ch := changedEngines (recs running 3) (recsOf (pkgLogic p))
        let free := fun (v : Var) => v.wblk == 3 && ch.any (fun e => e.val == v.winst)
        old.all (fun v => free v || new.any (sameVar v)) && new.all (fun w => free w || old.any (sameVar w)))
    && recBody (recs running 3) 0x0301 0 == recBody (recsOf (pkgLogic p)) 0x0301 0
    && recBody (recs running 1) 0x0102 0 == recBody (recsOf (pkgStruct p)) 0x0102 0

/-- A forced variable is retyped, or loses its logic writer (code 6; R127). -/
def forceClash (s : State) (p : List Byte) : Bool :=
  s.stn.forces.any (fun f =>
    (pkgVars p).any (fun w => w.id == f.id && (match s.vars.find? (fun v => v.id == f.id) with
      | some v => w.ty ≠ v.ty || (v.wblk == 3 && w.wblk ≠ 3)
      | none => false)))

/-- DATA indices that a section's records bind, for the sections other than STRUCT and LOGIC (code 7). -/
def boundBySections (b : List Byte) : List Nat :=
  let words := fun (t : Nat) (rt from_ : Nat) => ((recs b t).filter (fun r => r.rtype == rt)).flatMap (fun r =>
    (wordsOf (r.body.drop from_)).filterMap bindVar)
  let loops := ((recs b 5).filter (fun r => r.rtype == 0x0501)).flatMap (fun r => (wordsOf (sub r.body 12 32)).filterMap bindVar)
  let objs := ((recs b 8).filter (fun r => r.rtype == 0x0802)).flatMap (fun r =>
    (wordsOf (sub r.body 12 8)).filterMap bindVar ++ (chunks 8 (r.body.drop 24)).filterMap (fun x => bindVar (rdW x 4)))
  let rx := ((recs b 8).filter (fun r => r.rtype == 0x0807) ++ (recs b 4).filter (fun r => r.rtype == 0x040B)).flatMap
    (fun r => (chunks 8 (r.body.drop 12)).filterMap (fun x => bindVar (rdW x 0)))
  -- of a transfer, the bindings of this pair's own end (R351)
  let pair := ((recBody (recs b 9) 0x0901 0).map (fun r => rd r 0 1)).getD 32
  let xf := ((recs b 9).filter (fun r => r.rtype == 0x0902)).flatMap (fun r =>
    let x := xferOfRec r.body
    (if x.src = pair then x.words.filterMap (fun w => bindVar w.1) else [])
      ++ (if x.dst = pair then x.words.filterMap (fun w => bindVar w.2) else []))
  let slots := ((recs b 6).filter (fun r => r.rtype == 0x0603)).flatMap (fun r => (wordsOf r.body).filterMap bindVar)
  -- parameters of a slot content name their DATA indices (R169)
  let params := fun (c : List Byte) => (List.range (rd c 0x34 4)).map (fun i => rd c (0x8340 + 12 * i) 4 % 2 ^ 20)
  let contents := ((recs b 6).filter (fun r => r.rtype == 0x0602)).flatMap (fun r => params (r.body.drop 4))
  let tmpls := ((recs b 6).filter (fun r => r.rtype == 0x0604)).flatMap (fun r =>
    (wordsOf (sub r.body 4 4) ++ wordsOf (r.body.drop (8 + 34368))).filterMap bindVar ++ params (sub r.body 8 34368))
  words 2 0x0202 16 ++ words 4 0x0403 0 ++ words 4 0x0404 0 ++ words 4 0x0408 4 ++ words 4 0x0409 4 ++ words 4 0x040A 20
    ++ words 7 0x0701 20 ++ words 7 0x0703 20 ++ words 8 0x0806 20 ++ words 9 0x0903 0 ++ loops ++ objs ++ rx ++ xf ++ slots ++ contents ++ tmpls

/-- A deleted variable, or one retyped and so deleted (R121), is still read by an unchanged engine or named by another section (code 7). -/
def deletedInUse (s : State) (running p : List Byte) : Bool :=
  let lg := recsOf (pkgLogic p)
  let ch := changedEngines (recs running 3) lg
  let gone := (s.vars.filter (fun v => !(pkgVars p).any (fun w => w.id == v.id && w.ty == v.ty))).map (fun v => v.idx)
  let read := (logicEngines.filter (fun e => !ch.contains e)).flatMap (fun e =>
    (s.le[e].imports ++ s.le[e].exports).filterMap bindVar)
  gone.any (fun n => read.contains n || (boundBySections running).contains n)

/-- A kept variable has a different DATA index (code 8). -/
def indexMoved (s : State) (p : List Byte) : Bool :=
  s.vars.any (fun v => (pkgVars p).any (fun w => w.id == v.id && w.ty == v.ty && w.idx ≠ v.idx))

/-- A changed engine is frozen or has a breakpoint enabled (code 9). -/
def changedFrozen (s : State) (running p : List Byte) : Bool :=
  (changedEngines (recs running 3) (recsOf (pkgLogic p))).any (fun e => s.le[e].frozen || s.le[e].bkptEn)

/-- A change committed earlier is not yet persisted, or the committed image of the active profile is not the running
image (code 11; R120, R356). -/
def notPersisted (s : State) : Bool :=
  !s.stn.persisted ||
  (match s.img.running, s.img.commits[s.img.actProf.toFin] with
   | some b, some c => c.imageId ≠ imageId b
   | _, _ => true)

/-- A synchronised standby is present at the active station of a pair (STATE 2 of R260). -/
def hasStandby (s : State) : Bool := s.pair.state == 2#3

/-- The checks that COMMIT repeats, in the order 12, 13, 11, 6, 7, 9, 10 (R116; assumption log 28). A standby that synchronised after
PREPARE has not checked the change, and COMMIT is refused with code 10: the model's choice (assumption log 78). -/
def commitCode (s : State) : Nat :=
  if isStandby s then 12
  else match s.img.running with
    | none => 13
    | some b =>
      if notPersisted s then 11
      else if forceClash s s.stn.staged then 6
      else if deletedInUse s b s.stn.staged then 7
      else if changedFrozen s b s.stn.staged then 9
      else if hasStandby s && !s.stn.olcPartner then 10
      else 0

/-- The checks of PREPARE (R116), the package's own first; where several fail, the first in this order gives the code (assumption
log 28). Answers the code and the admission failure. -/
def prepareCode (s : State) : Nat × Option (Nat × Nat × Nat) :=
  match s.img.running with
  | none => (13, none)
  | some b =>
    let p := s.stn.staged
    let r := resultImage b p
    if rd p 8 8 ≠ imageId b then (3, none)
    else if !sectFormatOk 3 (pkgLogic p) || !sectFormatOk 1 (pkgStruct p) then (4, none)
    else if !changeInBounds b p then (5, none)
    else if !sigOk s.img.imgKeys r then (2, none)
    else if deletedInUse s b p then (7, none)
    else if (contentFail r).isSome then (4, none)
    else if forceClash s p then (6, none)
    else if indexMoved s p then (8, none)
    else if changedFrozen s b p then (9, none)
    else match admitFail r with
      | some f => (1, some f)
      | none => (0, none)

/-- STN.ADMIT_RESULT as a word. -/
def admitWord (n : Stn) : Word := pack [(0, 8, n.admCode.toNat), (8, 3, n.admTier.toNat), (12, 20, n.admObj.toNat)]

/-- A refused on-line change command (R116): RESULT, the entry and the event. `st` is the STATE that follows. -/
def olcRefused (s : State) (sess code cmd : Nat) (st : BitVec 3) : State :=
  let n := { s.stn with olcResult := BitVec.ofNat 4 code, olcCmd := 0, olcState := st }
  raise (logEntry { s with stn := n } 0x5007 sess sevNotice ([BitVec.ofNat 8 code, BitVec.ofNat 8 cmd, 0, 0] ++ wB (admitWord n)))
    505

/-- The STATE that a refused command leaves: STAGED while a package is held, IDLE otherwise (R116; assumption log 14). -/
def afterRefusal (s : State) : BitVec 3 :=
  if s.stn.olcState == 4#3 || s.stn.olcState == 5#3 then s.stn.olcState
  else if s.stn.staged.isEmpty then 0 else 1

/-- The staged package goes to the standby over the Sash link as placed work (R128). -/
def sendPackage (s : State) : State :=
  plTake (send s (.changePackage s.stn.staged)) [plSash s 10 (cdiv s.stn.staged.length 4)]

/-- A write of STN.OLC_CTRL.CMD: 1 PREPARE, 2 COMMIT, 3 DISCARD (R116, R117, R119). When PREPARE begins, the package goes to a
synchronised standby (R128). A PREPARE without a package and a COMMIT outside PREPARED change nothing and record nothing, which is the
model's choice (assumption log 78). -/
def olcCommand (s : State) (sess cmd : Nat) : State :=
  let st := s.stn.olcState
  if cmd = 1 then
    if isStandby s then olcRefused s sess 12 1 (afterRefusal s)
    else if s.img.running.isNone then olcRefused s sess 13 1 (afterRefusal s)
    else if notPersisted s then olcRefused s sess 11 1 (afterRefusal s)
    else if st == 1#3 || st == 3#3 then
      let s1 := { s with stn := { s.stn with olcCmd := 1, olcSess := sess, olcState := 2, olcResult := 0 } }
      if hasStandby s then sendPackage s1 else s1
    else s
  else if cmd = 2 then
    if st == 3#3 && s.stn.olcCmd ≠ 2#2 then
      let c := commitCode s
      if c ≠ 0 then olcRefused s sess c 2 1
      else accept { s with stn := { s.stn with olcCmd := 2, olcResult := 0 } } .commit
    else if isStandby s then olcRefused s sess 12 2 (afterRefusal s)
    else if s.img.running.isNone then olcRefused s sess 13 2 (afterRefusal s)
    else s
  else if cmd = 3 then
    if isStandby s then olcRefused s sess 12 3 (afterRefusal s)
    else if st == 1#3 || (st == 3#3 && s.stn.olcCmd ≠ 2#2) then
      { s with stn := { s.stn with olcState := 0, staged := [], olcResult := 0, olcCmd := 0 } }
    else s
  else s

/-- PREPARE (R116). -/
def execPrepare (sess : Fin 4) (s : State) : Host.Outcome State Fault Refusal :=
  keyedCmd s sess 0x400 (fun s => olcCommand s sess.val 1)
/-- COMMIT (R117). -/
def execCommit (sess : Fin 4) (s : State) : Host.Outcome State Fault Refusal :=
  keyedCmd s sess 0x400 (fun s => olcCommand s sess.val 2)
/-- DISCARD (R119). -/
def execDiscard (sess : Fin 4) (s : State) : Host.Outcome State Fault Refusal :=
  keyedCmd s sess 0x400 (fun s => olcCommand s sess.val 3)

/-- PREPARE's checks are complete at the station that was told to PREPARE; `partnerOk` is the standby's verdict (R116, R128). That
they pass leaves STN.ADMIT_RESULT as it stands (assumption log 76). -/
def preparedHere (s : State) (partnerOk : Bool) : State :=
  let (c, f) := prepareCode s
  let s1 := if c = 1 then setAdmit s f else s
  if c ≠ 0 then olcRefused s1 s.stn.olcSess c 1 1
  else if hasStandby s1 && !partnerOk then olcRefused s1 s.stn.olcSess 10 1 1
  else { s1 with stn := { s1.stn with olcState := 3, olcCmd := 0, olcResult := 0, olcPartner := hasStandby s1 } }

/-- The standby has checked the package `p` that the active station sent: where it passes, the standby stands PREPARED too, so that
it can take the commit, and shows it after a takeover (R128). -/
def preparedThere (s : State) (p : List Byte) : State :=
  let s1 := { s with stn := { s.stn with staged := p } }
  if (prepareCode s1).1 = 0 then { s1 with stn := { s1.stn with olcState := 3, olcCmd := 0, olcResult := 0 } } else s

/-- PREPARE_DONE: the checks are complete at this station; a standby checks the package `x.pkg` that it has received (R116, R128). -/
def execPrepareDone (x : PrepareEnd) (s : State) : Host.Outcome State Fault Refusal :=
  guarded s (alive s && (s.stn.olcState == 2#3 || (isStandby s && x.pkg.isSome))) (fun s =>
    if isStandby s then (match x.pkg with | some p => preparedThere s p | none => s) else preparedHere s x.partnerOk)

/-- Slowest tier with a cyclic task of a changed engine, before or after the change; event tasks alone count as T1 (R117). -/
def commitTier (s : State) : Nat :=
  match s.img.running with
  | none => 1
  | some b =>
    let lg := recsOf (pkgLogic s.stn.staged)
    (changedEngines (recs b 3) lg).foldl (fun m e =>
      max m (max (s.le[e].tier.toNat) (match recBody lg 0x0302 e.val with | some x => fld (rdW x 0) 0 3 | none => 0))) 1

/-- The T1 boundary that carries COMMIT fixes the commit boundary; `slow` is the slowest tier of this boundary (R117). -/
def fixCommit (s : State) (slow : Nat) : State :=
  if inRunHold s then
    let t := commitTier s
    let c := if t ≤ slow then tierCnt s t else tierCnt s t + 1
    { s with stn := { s.stn with olcState := 4, olcFixed := true, olcTier := BitVec.ofNat 3 t, olcCount := c } }
  else { s with stn := { s.stn with olcState := 4, olcFixed := true, olcTier := 1, olcCount := tierCnt s 1 } }

/-- An operator write carried while a commit is pending: one to a variable that the change deletes is noted, for its entry at the
commit boundary (R119). -/
def noteWrite (s : State) (n : Nat) : State :=
  if s.stn.olcFixed && s.vars.any (fun v => v.idx == n && !(pkgVars s.stn.staged).any (fun w => w.id == v.id)) then
    { s with stn := { s.stn with olcWrites := s.stn.olcWrites ++ [n] } }
  else s

/-- The commit boundary falls at this boundary. -/
def commitDue (s : State) (slow : Nat) : Bool :=
  s.stn.olcFixed && s.stn.olcTier.toNat ≤ slow && tierCnt s s.stn.olcTier.toNat == s.stn.olcCount

/-- The tier of the task that owns an instance (R87, R122): that of the cyclic task, or T1 for an event task. -/
def ownerTier (l : List Rec) (e : Nat) (i : Inst) : Nat :=
  let key := (if i.kind ≤ 3 then 4 else i.kind + 1, i.num)
  match progOf l e with
  | some p => (((tasksOf l e).find? (fun t => (p.evals t.1).contains key)).map (fun t => t.2)).getD 1
  | none => 1

/-- Kinds of R122: the three timers, C and E. -/
def sameKind (a b : Inst) : Bool := a.kind == b.kind

/-- A timer's times in the cycles of tier `u`, having been in those of tier `t` (R104, R122). -/
def Inst.retimed (i : Inst) (t u : Nat) : Inst :=
  { i with et := BitVec.ofNat 32 (i.et.toNat * tierUs t / tierUs u), ptc := presetCycles i.pt (tierUs u), pus := tierUs u }

/-- An instance kept across a change, whose owning task was in tier `t` and is in tier `u`, whose count is `cnt` (R122). -/
def keepInst (old : Inst) (t u : Nat) (cnt : Word) (new : Inst) : Inst :=
  let k := { old with num := new.num, retain := new.retain }
  if t = u then k else { (if old.kind ≤ 3 then k.retimed t u else k) with stamp := cnt }

/-- Every instance of the station before a change, with its engine. -/
def allInsts (s : State) : List (Fin 17 × Inst) := logicEngines.flatMap (fun e => s.le[e].insts.map (fun i => (e, i)))

/-- The old instance of a changed engine that the new instance `j` of engine `e` carries on: same ID and kind, of the same engine
where there is one (R122). -/
def oldInst (old : List (Fin 17 × Inst)) (e : Fin 17) (j : Inst) : Option (Fin 17 × Inst) :=
  let l := old.filter (fun x => x.2.id == j.id && sameKind x.2 j)
  (l.find? (fun x => x.1 == e)).or l.head?

/-- The variable that a change keeps under the new variable `w` (R121). -/
def keptVar (s : State) (w : Var) : Option Var := s.vars.find? (fun v => v.id == w.id && v.ty == w.ty)

/-- Value and tag that an M or W word mapped to the new variable `w` starts with: those of the kept variable, from the word that
held it or as it stands in the process image; none for a new or retyped one (R121). -/
def keptWord (s : State) (w : Var) : Option TWord :=
  match keptVar s w with
  | none => none
  | some v =>
    let held := logicEngines.findSome? (fun e => (s.le[e].mwmap.find? (fun m => m.2.2 == v.idx)).bind (fun m =>
      aget (if m.1 = 2 then s.le[e].m else s.le[e].w) m.2.1))
    some (held.getD (varOwn v))

/-- A changed engine's new program with its kept instances, words, triggers and registers (R118, R121, R122): `ch` are the changed
engines, `lg0` and `lg` the LOGIC sections before and after, `new` the variables after the change. An engine that was frozen after the
acceptance of COMMIT is not frozen any more, which is the model's choice (assumption log 78). -/
def switchEngine (s : State) (ch : List (Fin 17)) (lg0 lg : List Rec) (new : List Var) (e : Fin 17) : Engine :=
  let g := s.le[e]
  let n := engineOf lg e.val
  let old := (allInsts s).filter (fun x => ch.contains x.1)
  let insts := n.insts.map (fun j =>
    let u := ownerTier lg e.val j
    match oldInst old e j with
    | some (f, i) => keepInst i (ownerTier lg0 f.val i) u (tierCnt s u) j
    | none => startInst (tierCnt s u) j)
  let word := fun (sp : Nat) (l : List (Nat × TWord)) =>
    let plain := l.filter (fun p => !(n.mwmap ++ g.mwmap).any (fun m => m.1 == sp && m.2.1 == p.1))
    (n.mwmap.filter (fun m => m.1 == sp)).foldl (fun a m =>
      match (new.find? (fun w => w.idx == m.2.2)).bind (keptWord s) with
      | some w => aset a m.2.1 w
      | none => a) plain
  { n with
    insts := insts, m := word 2 g.m, w := word 3 g.w
    running := inRunHold s && n.used
    pending := Vector.ofFn (fun i => (allFin 4).any (fun j => g.pending[j] && g.evtEntry[j].isSome && n.evtEntry[i].isSome
      && g.evtId[j] == n.evtId[i]))
    scanLast := g.scanLast, scanMax := g.scanMax, scanCnt := g.scanCnt, overrun := g.overrun, fault := g.fault
    merged := g.merged, mergeCnt := g.mergeCnt, bkptAddr := g.bkptAddr, bkptEn := g.bkptEn
    firstEvt := Vector.replicate 4 false }

/-- Entries for the variables that a change retypes or deletes (R121). -/
def logVarChanges (s : State) (new : List Var) : State :=
  s.vars.foldl (fun s v =>
    match new.find? (fun w => w.id == v.id) with
    | some w => if w.ty = v.ty then s else
        logEntry s 0x500B noSrc sevNotice (wB v.id ++ [1, 0, 0, 0] ++ leN 4 v.idx)
    | none => logEntry s 0x500B noSrc sevNotice (wB v.id ++ [2, 0, 0, 0] ++ leN 4 v.idx)) s

/-- Entries for deleted instances, up to 64 and then one with the remaining count (R122). -/
def logInstDeletes (s : State) (l : List (Fin 17 × Inst)) : State :=
  let s1 := (l.take 64).foldl (fun s x =>
    logEntry s 0x500C x.1.val sevNotice (wB x.2.id ++ [BitVec.ofNat 8 x.2.kind])) s
  if l.length > 64 then
    match l[64]? with
    | some x => logEntry s1 0x500C x.1.val sevNotice (wB 0 ++ [0, 0, 0, 0] ++ leN 4 (l.length - 64))
    | none => s1
  else s1

/-- IMG begins to write an image to the bank not in force of profile `p`, BANK_0 of an empty one; while another write is in
progress the image waits (R120, R355). -/
def Img.startWrite (i : Img) (p : BitVec 2) (olc : Bool) (b : List Byte) : Img :=
  if i.wState ≠ 0 then { i with wWait := i.wWait ++ [(p, olc, b)] }
  else
    let bank := !(match i.commits[p.toFin] with | some c => c.bank | none => true)
    { i with marker := some { profile := p, bank := bank, imageId := imageId b, olc := olc }
             wState := 2, wProf := p, wBank := bank, wProgress := 0, wBytes := b, wOwnDone := false, wOlc := olc }

/-- The write in progress has ended: the oldest waiting one begins. -/
def Img.nextWrite (i : Img) : Img :=
  let j := { i with wState := 0, wBytes := [], wOwnDone := false, wOlc := false }
  match i.wWait with
  | [] => j
  | (p, olc, b) :: r => ({ j with wWait := r } : Img).startWrite p olc b

/-- The commit boundary (R118, R121, R122, R127): programs, variables, instances, forces, triggers, the retain save, the
Ledger record and the start of the persisting write (R120). Snapshots follow by the boundary's own step. -/
def commitApply (s : State) : State :=
  match s.img.running with
  | none => s
  | some b =>
    let p := s.stn.staged
    let r := resultImage b p
    let lg := recsOf (pkgLogic p)
    let new := imageVars r
    let ch := changedEngines (recs b 3) lg
    let oldI := (allInsts s).filter (fun x => ch.contains x.1)
    let newI := ch.flatMap (fun e => (instsOf ((recBody lg 0x0308 e.val).getD []) 3).map (fun i => (e, i)))
    let isKept := fun (x : Fin 17 × Inst) => newI.any (fun y => oldInst oldI y.1 y.2 == some x)
    let kept := (oldI.filter isKept).length
    let del := oldI.filter (fun x => !isKept x)
    let delVars := (s.vars.filter (fun v => !new.any (fun w => w.id == v.id && w.ty == v.ty))).length
    -- triggers of removed tasks
    let s1 := ch.foldl (fun (s : State) (e : Fin 17) =>
      let g := s.le[e]
      let n := engineOf lg e.val
      (allFin 4).foldl (fun (s : State) (j : Fin 4) =>
        if g.pending[j] && !(allFin 4).any (fun (i : Fin 4) => n.evtEntry[i].isSome && n.evtId[i] == g.evtId[j]) then
          logEntry s 0x5009 e.val sevNotice ([1, 0, 0, 0] ++ leN 4 (g.evtId[j]).toNat)
        else s) s) s
    let s2 := logInstDeletes (logVarChanges s1 new) del
    -- operator writes and forces on what goes
    let s3 := s2.stn.olcWrites.foldl (fun s n => logEntry s 0x5009 noSrc sevNotice ([2, 0, 0, 0] ++ leN 4 n)) s2
    let dropped := s3.stn.forces.filter (fun f => !new.any (fun w => w.id == f.id))
    let s4 := dropped.foldl (fun s f => forceRecord s f 4) s3
    let forces := s4.stn.forces.filter (fun f => new.any (fun w => w.id == f.id))
    let vars := new.map (fun w =>
      match keptVar s w with
      | some v => { w with cur := v.cur, unf := v.unf, forced := v.forced, wrote := v.wrote }
      | none => w)
    let s5 : State := { s4 with vars := vars }
    let le := ch.foldl (fun v e => v.set e (switchEngine s4 ch (recs b 3) lg new e)) s5.le
    let n := { s5.stn with
      forces := forces, olcWrites := [], olcPartner := false, forcePermit := (globalOf lg).2
      olcState := 5, olcFixed := false, olcCmd := 0, persisted := false, staged := []
      olcKept := satNat 16 kept, olcNew := satNat 16 (newI.length - kept), olcDelInst := satNat 16 del.length
      olcDelVars := satNat 16 delVars, olcGen := s5.stn.olcGen + 1, olcForceDrop := satNat 11 dropped.length }
    let im := ({ s5.img with running := some r } : Img).startWrite s.img.actProf true r
    let s6 := refreshHold (retainSave (retainDirectory { s5 with le := le, stn := n, img := im } (imageId r)))
    let inst := pack [(0, 16, n.olcKept.toNat), (16, 16, n.olcNew.toNat)]
    let dels := pack [(0, 16, n.olcDelInst.toNat), (16, 16, n.olcDelVars.toNat)]
    raise (logLedger s6 0x5008 n.olcTier.toNat sevMajor (leN 8 (imageId r) ++ [0, 0, 0, 0] ++ wB inst ++ wB dels)) 504

/-- A pending change that a reset or a profile switch discards before its commit boundary (R119); no commit boundary is fixed any more. -/
def discardPending (s : State) : State :=
  if s.stn.olcState == 4#3 || s.stn.accepted.contains .commit then
    let n := { s.stn with olcState := 0, olcFixed := false, olcCmd := 0, olcResult := 14, staged := [], olcWrites := [], olcTier := 7, olcCount := 0,
                          accepted := s.stn.accepted.filter (· ≠ .commit) }
    logEntry { s with stn := n } 0x5009 noSrc sevNotice [3]
  else { s with stn := { s.stn with olcState := if s.stn.olcState == 5#3 then 5 else 0, staged := [], olcCmd := 0 } }

end Sys2Proof.Machine
end

