-- ==== Sys2Proof/Machine/Load.lean ====
section
/-! DEFINITION. An image takes effect: at the load that follows a reset, and at switch boundary S (R39, R72, R209, R257, R357,
R362–R364). -/

namespace Sys2Proof.Machine
open Sys2Proof

/-- A tier-reference or supervisor event source (R407). -/
def supSrc (i : Nat) : Nat := 496 + i

/-- Changes IMG. -/
def modImg (s : State) (f : Img → Img) : State := { s with img := f s.img }
/-- Changes PAIR. -/
def modPair (s : State) (f : PairBlk → PairBlk) : State := { s with pair := f s.pair }
/-- Changes PWR. -/
def modPwr (s : State) (f : PwrBlk → PwrBlk) : State := { s with pwr := f s.pwr }
/-- Changes STN. -/
def modStn (s : State) (f : Stn → Stn) : State := { s with stn := f s.stn }

/-- The station drives its banks: STATE 0, 2 or 3 (R260). -/
def drivesBanks (s : State) : Bool := s.pair.state == 0#3 || s.pair.state == 2#3 || s.pair.state == 3#3

/-- Rejoins of the last hour of Ledger time (R274). -/
def recentRejoins (s : State) : List (BitVec 44) := s.pair.rejoins.filter (fun t => t.toNat + 3600000 > s.log.opms.toNat)

/-- The pair role at admission (R261, R274): a member seeks, unless it has been declared faulty three times within an hour. -/
def pairAdmit (s : State) (member : Bool) : State :=
  let r := recentRejoins s
  let p := { s.pair with member := member, heard := false, idConflict := false, misses := 0, setMiss := none, await := none }
  if !member then { s with pair := { p with state := 0 } }
  else if !p.faulty then { s with pair := { p with state := 1 } }
  else if r.length ≥ 3 then { s with pair := { p with state := 6, rejoins := r } }
  else { s with pair := { p with state := 1, faulty := false, rejoins := s.log.opms :: r } }

/-- The settings of an image outside the blocks: routes, DB_SEV_MIN, commissioning, forcing and the load figures (R48, R72, R123,
R369, R408). -/
def imageSettings (s : State) (b : List Byte) : State :=
  let g := globalOf (recs b 3)
  let s1 := modStn (setAdmit s none) (fun n => { n with
    commissioning := imageCommissioning b, forcePermit := g.2
    peakSlots := satNat 12 (Config.xbarPeak b), timedKib := satNat 16 (imageKib b) })
  { s1 with
    evr := { s1.evr with routes := routesOf (recs b 1) }
    log := { s1.log with dbSevMin := BitVec.ofNat 3 (fld (rdW ((recBody (recs b 11) 0x0B01 0).getD []) 0) 0 3) } }

/-- The reset in force is a warm one (R389). -/
def warmCause (s : State) : Bool := 1 ≤ s.pwr.cause.toNat && s.pwr.cause.toNat ≤ 7

/-- An admitted image takes effect after a reset or a wake (R22, R39, R72, R357, R390). -/
def loadImage (s : State) (b : List Byte) : State :=
  let warm := warmCause s
  let an := recs b 7
  let s1 := imageSettings s b
  let s2 : State := { s1 with
    vars := (imageVars b).map (fun v => if warm then varRestore s.stn v else v)
    le := Vector.ofFn (fun e => if e.val = 16 then sleOf (recs b 4) else engineOf (recs b 3) e.val)
    lp := { s1.lp with loops := Vector.ofFn (fun n => loopOf (recs b 5) n.val) }
    qp := { qpLoad (recs b 6) with issued := s1.qp.issued }
    ang := { s1.ang with src := Vector.ofFn (fun a => srcOfRec an a.val), evt := Vector.ofFn (fun n => evtOfRec an n.val)
                         vs := Vector.ofFn (fun v => vsOfRec an v.val) }
    fld := fieldLoad ⟨s.stn.time, refNow s⟩ (recs b 2) (pairMember b) s1.fld
    saf := (safLoad b).keeping s1.saf
    net := netLoad (recs b 8) (recs b 4) (recs b 10) s1.net
    stk := stkLoad (recs b 9) s1.stk
    img := { s1.img with running := some b } }
  let s3 := slewFrom 0 (joinStack (stkRoles (pairAdmit s2 (pairMember b))))
  let s4 : State := { s3 with can := canLoad (recs b 8) (canRole s3) s3.can }
  retainDirectory (modStn (slewToOwn s4) (fun n => { n with
    stopCause := if n.faultStop then n.stopCause else 1
    autoStart := if n.faultStop then 0 else (globalOf (recs b 3)).1 })) (imageId b)

/-- No image is admitted after a reset: STOP_CAUSE reads 7 and every output is de-energised (R69, R72, R230); the station goes by its own
time (R22). -/
def loadFails (s : State) : State :=
  modStn (slewToOwn { s with fld := { s.fld with pts := s.fld.pts.map Pt.unloaded } })
    (fun n => { n with mode := .stop, faultStop := false, stopCause := 7 })

/-- The bytes of the committed image of a profile, none when it is empty (R353). -/
def committed (s : State) (p : BitVec 2) : Option (List Byte) :=
  (s.img.commits[p.toFin]).map (fun c => (s.img.banks[(⟨2 * p.toNat + b2n c.bank, by
    have := p.isLt; cases c.bank <;> simp [b2n] <;> omega⟩ : Fin 8)]).take c.totalLen)

/-! ### Profile switch -/

/-- Loops at a switch: their state is discarded and every one initialises; the counts of a loop that stays used go on (R153,
R363). -/
def switchLoop (old new : Loop) : Loop :=
  if old.used && new.used then { new with missCnt := old.missCnt, skipCnt := old.skipCnt, sampleCnt := old.sampleCnt } else new

/-- The records of angle source `a`, or event `n`, are the same in both images. -/
def sameRec (old new : List Rec) (rtype inst : Nat) : Bool := recBody old rtype inst == recBody new rtype inst

/-- Angle sources and events at a switch (R209). -/
def angSwitch (s : State) (old new : List Rec) : State :=
  let changed := (allFin 8).filter (fun a => !sameRec old new 0x0701 a.val)
  let s1 := changed.foldl stopPredictions s
  { s1 with ang := { s1.ang with
      src := Vector.ofFn (fun a => if sameRec old new 0x0701 a.val then s1.ang.src[a] else srcOfRec new a.val)
      evt := Vector.ofFn (fun n => if sameRec old new 0x0703 n.val then s1.ang.evt[n] else evtOfRec new n.val)
      vs := Vector.ofFn (fun v => if sameRec old new 0x0702 v.val then s1.ang.vs[v] else vsOfRec new v.val) } }

/-- The records of CAN controller `k` are the same in both images. -/
def sameCan (old new : List Rec) (k : Nat) : Bool :=
  sameRec old new 0x0801 k && sameRec old new 0x0803 k
    && old.filter (fun r => r.rtype == 0x0802 && r.inst / 256 == k) == new.filter (fun r => r.rtype == 0x0802 && r.inst / 256 == k)

/-- CAN controllers at a switch (R363). -/
def canSwitch (s : State) (old new : List Rec) : State :=
  { s with can := { ctl := Vector.ofFn (fun k =>
      if sameCan old new k.val then s.can.ctl[k] else canOfRec new k.val (canRole s) s.can.ctl[k]) } }

/-- The configuration of a receive telegram, everything else as at its load. -/
def RxTel.config (x : RxTel) : RxTel :=
  { x with
    held := [], degraded := false, diff := false, wdgExp := false, discarded := false, left := BitVec.ofNat 16 x.wdg, fresh := false
    last := none, ones := [], lateDiff := false, enter := none, missA := 0, missB := 0, errA := 0, errB := 0, late := 0, gap := 0
    diffCnt := 0, expCnt := 0 }

/-- Telegrams at a switch: one that both images configure alike goes on, and any other starts with SEQ 1, its watchdog restarting at
S (R321, R363). -/
def netSwitch (old new : NetBlk) : NetBlk :=
  { new with
    tx := new.tx.map (Option.map (fun t =>
      ((old.tx.toList.filterMap id).find? (fun o => { o with seq := 0, due := none } == t)).getD t))
    rx := new.rx.map (Option.map (fun r =>
      ((old.rx.toList.filterMap id).find? (fun o => o.config == r)).getD { r with fresh := true })) }

/-- Variables at a switch: initial values, but for those of the safety function while it continues (R39, R69, R363). -/
def switchVars (s : State) (new : List Var) (safGoesOn : Bool) : List Var :=
  new.map (fun w => match s.vars.find? (fun v => v.id == w.id && v.ty == w.ty && isSafVar v && isSafVar w) with
    | some v => if safGoesOn then { w with cur := v.cur, unf := v.unf, wrote := v.wrote } else w
    | none => w)

/-- The raises in the supervisor queue whose route is gone are discarded (R363). -/
def dropRaises (s : State) : State :=
  { s with evr := { s.evr with queue := s.evr.queue.filter (fun q => bit (vget s.evr.routes q.1 0) 0) } }

/-- The image `b` replaces the running one at S, steps 2 and 3 of R362 and R363, R364; no commit has been made since then (OLC_GEN);
modes and starts follow. -/
def switchImage (s : State) (old b : List Byte) : State :=
  let s1 := closeSessions (discardPending (clearForces (retainSave s)))
  let safOn := secIdOf b = s1.saf.secId && (sectionOf b 4).isSome == bit s1.saf.cfg 0
  let s2 := dropRaises (imageSettings s1 b)
  let lg := recs b 3
  let s3 : State := { s2 with
    vars := switchVars s2 (imageVars b) safOn
    le := Vector.ofFn (fun e => if e.val = 16 then s2.le[(16 : Fin 17)] else engineOf lg e.val)
    lp := { s2.lp with loops := Vector.ofFn (fun n => switchLoop s2.lp.loops[n] (loopOf (recs b 5) n.val)) }
    fld := fieldSwitch ⟨s2.stn.time, refNow s2⟩ (recs old 2) (recs b 2) (pairMember b) s2.fld
    net := netSwitch s2.net (netLoad (recs b 8) (recs b 4) (recs b 10) s2.net) }
  let s4 := canSwitch (angSwitch (safSwitch (qpSwitch s3 (recs b 6)) b) (recs old 7) (recs b 7)) (recs old 8) (recs b 8)
  let t := s4.img.swTarget
  let was := s4.img.actProf
  let s5 := modImg (modStn s4 (fun n => { n with olcGen := 0, olcTier := 7, olcCount := 0 })) (fun i => { i with
    running := some b, prepared := none, actProf := t, selCmd := i.swSrc, swState := 0, swPending := false, swReq := false, swResult := 0
    swT4 := tierCnt s4 4, swDone := satInc i.swDone, profWord := some (t, i.swSrc, i.pinProf) })
  let s6 := retainDirectory s5 (imageId b)
  raise (logLedger s6 0x6003 t.toNat sevMajor ([BitVec.ofNat 8 was.toNat, 0, 0, 0] ++ leN 8 (imageId b) ++ leN 8 (imageId old)))
    (supSrc 3)

/-- The switch is refused (R360). -/
def switchRefused (s : State) (result : Nat) : State :=
  raise (modImg s (fun i => { i with
    swState := 0, swPending := false, swReq := false, prepared := none, swResult := BitVec.ofNat 4 result, swRefused := satInc i.swRefused })) (supSrc 4)

/-- LOAD_RESULT of a check, with the load-refused event when it fails (R344). -/
def setLoad (s : State) (c : Nat × Nat) (prof : BitVec 2) (flash : Bool) : State :=
  let s1 := modImg s (fun i => { i with loadCode := BitVec.ofNat 4 c.1, loadSect := BitVec.ofNat 4 c.2, loadProf := prof
                                        fromFlash := flash })
  if c.1 = 0 then s1 else raise s1 (supSrc 5)

/-- A check of R344 is made: its code, and the state with LOAD_RESULT and, where it came so far, ADMIT_RESULT. -/
def runCheck (s : State) (prof : BitVec 2) (flash : Bool) (b : List Byte) : Nat × State :=
  let (c, f) := checkImage s prof.toNat b
  (c.1, setLoad (if c.1 = 11 then setAdmit s f else s) c prof flash)

/-- The sections of an image that differ from the running one (R361). -/
def stagedBytes (old b : List Byte) : List Byte :=
  (sects b).flatMap (fun x => let c := sub b x.ofs x.len; if sectionOf old x.type = some c then [] else c)

/-- KiB of on-die SRAM that the staged blocks take (R164, R361). -/
def stagedKib (old b : List Byte) : Nat :=
  Config.timedKib (stagedBytes old b) + (if sectionOf old 6 = sectionOf b 6 then 0 else 64 * usedSlots (recs b 6))

/-- The checks of the preparation: the result, 0 when the switch is prepared (R360, R361). -/
def prepareSwitch (s : State) : Nat × State :=
  let t := s.img.swTarget
  match committed s t, s.img.running with
  | none, _ => (1, s)
  | some b, some old =>
    let (c, s1) := runCheck s t true b
    if c ≠ 0 then (2, s1)
    else if sectionOf old 10 ≠ sectionOf b 10 || sectionOf old 9 ≠ sectionOf b 9 then (3, s1)
    else if imageKib old + stagedKib old b > 40 * 1024 then (4, s1)
    else if s.img.wState ≠ 0 && s.img.wProf == t then (5, s1)
    else (0, s1)
  | some _, none => (2, s)

/-- The active station's preparation is complete, for the image of this ID: a standby prepares the same image, or holds none (R360, R362). -/
def carryPrepared (s : State) (id : Nat) : State :=
  if s.img.swState ≠ 1#3 then s
  else
    let s1 := if isStandby s && (prepareSwitch s).1 = 0 && (committed s s.img.swTarget).any (fun b => imageId b == id) then
        modImg s (fun i => { i with prepared := committed s i.swTarget })
      else s
    modImg s1 (fun i => { i with swState := 2 })

/-- A request carried by its T1 boundary: preparation begins, or the request is for what runs already (R359, R360). -/
def carryProfile (s : State) (t : BitVec 2) (byCmd : Bool) : State :=
  let same := t == s.img.actProf && (match s.img.commits[t.toFin], s.img.running with
    | some c, some b => c.imageId == imageId b
    | _, _ => false)
  if same then modImg s (fun i => { i with swState := 0, swPending := false, swReq := false, prepared := none, swResult := 7 })
  else modImg s (fun i => { i with swState := 1, swPending := true, prepared := none, swTarget := t, swSrc := byCmd, swReq := byCmd
                                   swResult := if i.swState == 0#3 then i.swResult else 6 })

/-- A switch that a reset discards before S (R358). -/
def discardSwitch (s : State) : State :=
  if s.img.swPending || s.img.swReq then
    logLedger (modImg s (fun i => { i with swState := 0, swPending := false, swReq := false })) 0x6002 s.img.swTarget.toNat sevNotice
      [BitVec.ofNat 8 (b2n s.img.swSrc)]
  else s

end Sys2Proof.Machine
end

