-- ==== Sys2Proof/Machine/LogOps.lean ====
section
/-! DEFINITION. The Ledger in MRAM: bytes of records, flushes, start-up, clearing and reading (R368–R383). -/

namespace Sys2Proof.Machine
open Sys2Proof

/-- Changes LOG. -/
def modLog (s : State) (f : LogBlk → LogBlk) : State := { s with log := f s.log }
/-- Event source `i` of the Ledger (R406). -/
def ledSrc (i : Nat) : Nat := 488 + i

/-- The 32 bytes of a Daybook entry (R368). -/
def DbEntry.bytes (e : DbEntry) : List Byte :=
  leN 8 e.stamp.toNat ++ wB e.num ++ leN 2 e.code.toNat ++ leN 2 e.source.toNat
    ++ [BitVec.ofNat 8 (e.sev.toNat + 8 * b2n e.ledger + 16 * b2n e.lostBefore), 0, 0, 0] ++ fit 12 e.payload

/-- The 64 bytes of a Ledger record (R371). -/
def LgRec.bytes (r : LgRec) : List Byte :=
  let b := wB r.seq
    ++ wB (pack [(0, 24, r.pcyc.toNat), (24, 1, b2n r.acrossSleep), (25, 1, b2n r.fromDaybook), (26, 1, b2n r.lostBefore),
                 (27, 1, b2n r.standby), (28, 1, b2n r.unclean)])
    ++ leN 8 (r.opms.toNat + 2 ^ 44 * r.sev.toNat) ++ leN 2 r.code.toNat ++ leN 2 r.source.toNat ++ fit 36 r.payload ++ wB r.stimeLo
  b ++ wB (crc32c b)

/-- The bytes of a Ledger slot; an empty one is zeros, and those of a slot with a wrong CRC are free values. -/
def slotBytes (x : Option Slot) : List Byte :=
  match x with
  | none => List.replicate 64 0
  | some (.good r) => r.bytes
  | some (.bad n) => (List.range 64).map (fun i => Config.freeByte (n + i))

/-- A later SEQ by the rule of R318 (R373). -/
def seqAfter (a b : Word) : Bool := let d := (a - b).toNat; 1 ≤ d && d ≤ 2 ^ 31 - 1

/-- The valid records of an area. -/
def goodRecs (l : List (Nat × Slot)) : List LgRec := l.filterMap (fun x => match x.2 with | .good r => some r | .bad _ => none)

/-- The newest SEQ of a list of records. -/
def newestSeq (l : List LgRec) : Option Word :=
  l.foldl (fun m r => match m with | none => some r.seq | some q => if seqAfter r.seq q then some r.seq else some q) none

/-- The oldest SEQ of a list of records. -/
def oldestSeq (l : List LgRec) : Option Word :=
  l.foldl (fun m r => match m with | none => some r.seq | some q => if seqAfter q r.seq then some r.seq else some q) none

/-- LOG writes the time word; the mark is set only at the end of the power-fail flush (R378). -/
def writeTime (g : LogBlk) (clean : Bool) : LogBlk := { g with twPcyc := g.pcyc, twOpms := g.opms, twClean := clean }

/-- The flush in progress ends: the time word is written, and a LOST record follows drops (R375, R378). -/
def flushEnds (s : State) : State :=
  let n := s.log.dropped
  let s1 := modLog s (fun g => { writeTime g false with flush := .idle, flushLeft := 0, cmdLeft := 0, dropped := 0 })
  if n = 0 then s1 else logItem s1 true true 0x5807 noSrc sevNotice (leN 4 n)

/-- The record at the front of the buffer has been written to its slot, or its second read-back has failed (R373–R376). -/
def flushRecord (s : State) (ok : Bool) : State :=
  match s.log.buf with
  | [] => s
  | (r, own) :: rest =>
    let slot := r.seq.toNat % 65536
    let s1 : State :=
      if ok then
        let permFree := r.seq.toNat < 4096 && (match aget s.log.perm slot with | some (.good _) => false | _ => true)
        let t := modLog s (fun g => { g with
          circ := aset g.circ slot (.good r)
          perm := if permFree then aset g.perm slot (.good r) else g.perm
          clearStep := if g.clearStep = 2 && g.clearSeq == r.seq then 3 else g.clearStep })
        if permFree && (goodRecs t.log.perm).length = 4096 then raise t (ledSrc 5) else t
      else
        let (_, t) := drawWord s
        let t1 := raise (modLog t (fun g => { g with
          circ := aset g.circ slot (.bad s.free)
          mramErr := true
          clearStep := if g.clearStep = 2 && g.clearSeq == r.seq then 3 else g.clearStep })) (ledSrc 6)
        if own then t1 else logItem t1 true true 0x5808 noSrc sevNotice (leN 4 slot ++ [0])
    let s2 := modLog s1 (fun g => { g with buf := rest, flushLeft := g.flushLeft - 1, cmdLeft := g.cmdLeft - 1 })
    if s2.log.flushLeft = 0 then flushEnds s2 else s2

/-- Every flush that a reset or SLEEP entry waits for, carried out at once (R374, R387, R396). -/
def flushAll : Nat → State → State
  | 0, s => s
  | n + 1, s => if s.log.buf.isEmpty then s else flushAll n (flushRecord s true)

/-- A flush of every buffered record of kind `k`, complete (R374). -/
def flushNow (s : State) (k : FlushKind) : State :=
  flushAll 512 (modLog s (fun g => startFlush g k g.buf.length))

/-- A warm reset lets the flush in progress complete (R374). -/
def flushFinish (s : State) : State :=
  if s.log.flush == .idle then s else flushAll s.log.flushLeft s

/-- Erases every circulating record older than `c` (R383). -/
def eraseBefore (g : LogBlk) (c : Word) : LogBlk :=
  { g with circ := g.circ.filter (fun x => match x.2 with | .good r => !seqAfter c r.seq | .bad _ => true) }

/-- Step 3 of R383 ends. -/
def clearEnds (s : State) : State :=
  raise (modLog s (fun g => { eraseBefore g g.clearSeq with clearStep := 0 })) (ledSrc 3)

/-- A torn slot is reported (R379). -/
def tornRec (s : State) (slot area : Nat) (restored : Bool) : State :=
  raise (logItem (modLog s (fun g => { g with torn := satInc g.torn })) true true 0x5803 noSrc sevNotice
    (leN 4 slot ++ [BitVec.ofNat 8 area, BitVec.ofNat 8 (b2n restored)])) (ledSrc 1)

/-- Step 3 of R379: the slot after the newest valid circulating record. -/
def scanTorn (s : State) : State :=
  match newestSeq (goodRecs s.log.circ) with
  | none => s
  | some q =>
    let h := (q + 1).toNat % 65536
    match aget s.log.circ h with
    | some (.bad _) => tornRec (modLog s (fun g => { g with circ := adel g.circ h })) h 0 false
    | _ => s

/-- Step 4 of R379. -/
def scanPerm (s : State) : State :=
  s.log.perm.foldl (fun s x => match x.2 with
    | .good _ => s
    | .bad _ =>
      match aget s.log.circ x.1 with
      | some (.good r) => if r.seq.toNat = x.1 then tornRec (modLog s (fun g => { g with perm := aset g.perm x.1 (.good r) })) x.1 1 true
                          else tornRec (modLog s (fun g => { g with perm := adel g.perm x.1 })) x.1 1 false
      | _ => tornRec (modLog s (fun g => { g with perm := adel g.perm x.1 })) x.1 1 false) s

/-- Step 5 of R379. -/
def scanCorrupt (s : State) : State :=
  let bad := (s.log.circ.filter (fun x => match x.2 with | .bad _ => true | .good _ => false)).map (fun x => x.1)
  let s1 := modLog s (fun g => { g with corrupt := satAdd g.corrupt bad.length })
  let s2 := (bad.take 16).foldl (fun s i => logItem s true true 0x5804 noSrc sevNotice (leN 4 i ++ [0])) s1
  if bad.isEmpty then s2 else raise s2 (ledSrc 2)

/-- An interrupted clear completes at start-up (R383). -/
def finishClear (s : State) : State :=
  match s.log.hist.getLast? with
  | none => s
  | some r => modLog s (fun g =>
      let g1 := if (goodRecs g.circ).any (fun x => x.seq == r.seq) then g
                else { g with circ := aset g.circ (r.seq.toNat % 65536) (.good r) }
      eraseBefore g1 r.seq)

/-- The start-up of LOG (R379, R380): `wake` makes no power cycle and ends in the WAKE record. -/
def logStart (s : State) (wake : Bool) (cause prof : Nat) (sleepCnt : Nat) : State :=
  let unclean := !wake && !s.log.twClean
  let s1 := modLog s (fun g =>
    let g1 := if wake then g else { g with pcyc := g.twPcyc + 1, opms := g.twOpms, unclean := unclean }
    let all := goodRecs g1.circ ++ goodRecs g1.perm ++ g1.hist
    let g2 := { g1 with lgNext := match newestSeq all with | some q => q + 1 | none => 0 }
    if wake then g2 else writeTime g2 false)
  let t0 := s1.log.torn
  let c0 := s1.log.corrupt
  let s2 := finishClear (scanCorrupt (scanPerm (scanTorn s1)))
  let torn := s2.log.torn.toNat - t0.toNat
  let corr := s2.log.corrupt.toNat - c0.toNat
  let s3 := if unclean then raise s2 (ledSrc 7) else s2
  if wake then
    let ms := (sleepCnt * 1000 * 2 + 32768) / 65536
    let s4 := modLog s3 (fun g => { g with opms := g.opms + BitVec.ofNat 44 ms, acrossSleep := true })
    logItem s4 true true 0x5801 noSrc sevNotice (leN 8 sleepCnt)
  else
    logItem s3 true true 0x5800 noSrc sevNotice
      ([BitVec.ofNat 8 cause, BitVec.ofNat 8 prof, BitVec.ofNat 8 (b2n unclean), 0] ++ leN 4 torn ++ leN 4 corr)

/-- LOG loses what is volatile; MRAM stays (R369, R379). -/
def LogBlk.powerOff (g : LogBlk) : LogBlk :=
  { g with dbSevMin := 0, dbNext := 0, dbDrop := 0, dbLost := false, ring := [], intake := [], fresh := [], lgNext := 0,
           buf := [], flush := .idle, flushLeft := 0, cmdLeft := 0, dropped := 0, lgLost := false, acrossSleep := false,
           unclean := false, mramErr := false, pcyc := 0, opms := 0, opNs := 0, lost := 0, torn := 0, corrupt := 0,
           failCnt := 0, clearStep := 0, clearSeq := 0, lockout := false, lockT0 := 0, hmacFails := [] }

/-- LOG.CTRL.CLR_CNT. -/
def logClr (s : State) : State := modLog s (fun g => { g with dbDrop := 0, lost := 0, failCnt := 0 })

/-- LOG.CTRL written (R7, R374). -/
def logCtrlWrite (s : State) (flush clr : Bool) : State :=
  let s1 := if clr then logClr s else s
  if flush then modLog s1 (fun g => { startFlush g .command g.buf.length with cmdLeft := g.buf.length }) else s1

end Sys2Proof.Machine
end

