-- ==== Sys2Proof/Machine/SafCmds.lean ====
section
/-! DEFINITION. The meanings of the safety commands (R241–R253). -/

namespace Sys2Proof.Machine
open Sys2Proof

/-- SAF runs: its slot of the sleep sequence has not opened (R393, R394). -/
def safUp (s : State) : Bool := alive s && !s.pwr.quiet.getLsbD 7

/-- A pulse of source `k` begins: its inputs are masked, and what every pulsed input read just before is kept (R245). -/
def pulseStart (s : State) (k : Fin 4) (reads : BitVec 16) : State :=
  let s1 := modTp s k (fun t => { t with high := false, pulsing := true })
  { s1 with saf := { s1.saf with si := Vector.ofFn (fun n =>
      let c := s1.saf.si[n]
      if c.mode ≠ 1 then c else
      let c1 := { c with before := if reads.getLsbD n.val then c.before ||| (1#4 <<< k.val) else c.before &&& ~~~(1#4 <<< k.val)
                         offAt := c.offAt &&& ~~~(1#4 <<< k.val) }
      if c.on k then { c1 with held := c.reading, masked := true } else c1) } }

/-- TP_PULSE_START: a used source begins its pulse, or a retry while its TP fault stands; `reads` are the sampler reads of
the inputs just before (R244). -/
def execTpPulseStart (k : Fin 4) (reads : BitVec 16) (s : State) : Host.Outcome State Fault Refusal :=
  guarded s (safUp s && tpUsed s k && !s.saf.wdExpired) (fun s =>
    if s.saf.tp[k].fault then modTp s k (fun t => { t with high := true, retry := true }) else pulseStart s k reads)

/-- TP_PULSE_END: the pulse ends; `reads` are the last sampler reads before (R245). -/
def execTpPulseEnd (k : Fin 4) (reads : BitVec 16) (s : State) : Host.Outcome State Fault Refusal :=
  guarded s (safUp s && s.saf.tp[k].pulsing) (fun s =>
    (allFin 16).foldl (fun s n =>
      let c := s.saf.si[n]
      let x := reads.getLsbD n.val
      if c.on k then judgeOwn s n k x
      else if c.mode = 1 && c.before.getLsbD k.val && !x then modSi s n (fun c => { c with offAt := c.offAt ||| (1#4 <<< k.val) })
      else s) (modTp s k (fun t => { t with high := true, pulsing := false })))

/-- TP_MASK_END: 200 µs after the pulse its inputs follow again; an input of another source that read OFF at the pulse and
ON before it and now has seen a foreign pulse (R245). -/
def execTpMaskEnd (k : Fin 4) (reads : BitVec 16) (s : State) : Host.Outcome State Fault Refusal :=
  guarded s (safUp s && s.saf.si.toList.any (fun c => (c.on k && c.masked) || c.offAt.getLsbD k.val)) (fun s =>
    (allFin 16).foldl (fun s n =>
      let c := s.saf.si[n]
      if c.on k then modSi s n (fun c => { c with masked := false })
      else
        let s1 := modSi s n (fun c => { c with offAt := c.offAt &&& ~~~(1#4 <<< k.val) })
        if c.offAt.getLsbD k.val && reads.getLsbD n.val then
          chFault (modSi s1 n (fun c => { c with seenTp := BitVec.ofNat 2 k.val })) n 2
        else s1) s)

/-- TP_FAULT: the source's switch conducts during a pulse, or its limit has acted for 1 ms (R244). -/
def execTpFault (k : Fin 4) (overload : Bool) (s : State) : Host.Outcome State Fault Refusal :=
  guarded s (safUp s && tpUsed s k && !s.saf.tp[k].fault && (overload || s.saf.tp[k].pulsing)) (fun s =>
    let s1 := modTp s k (fun t => { t with
      high := false, pulsing := false, retry := false, fault := true, latched := true, freeNs := 0
      cause := if overload then 2 else 1 })
    (allFin 16).foldl (fun s n => if s.saf.si[n].on k then chFault s n 4 else s) (raise s1 (safSrc 3)))

/-- TP_RETRY_END: the 1 ms retry ends; the TP fault ends with it when the limit did not act and the switch has not
conducted while commanded off for 10 ms (R244). -/
def execTpRetryEnd (k : Fin 4) (limit conducted : Bool) (s : State) : Host.Outcome State Fault Refusal :=
  guarded s (safUp s && s.saf.tp[k].retry) (fun s =>
    modTp s k (fun t =>
      if limit || conducted then { t with high := false, retry := false }
      else { t with high := true, retry := false, fault := false, cause := 0, freeNs := 0 }))

/-- DISCREPANCY: the channels 2p and 2p + 1 of a pair have disagreed for longer than DISC (R246). -/
def execDiscrepancy (p : Fin 8) (s : State) : Host.Outcome State Fault Refusal :=
  let a : Fin 16 := ⟨2 * p.val, by omega⟩
  let b := mateOf a
  let ca := s.saf.si[a]
  let cb := s.saf.si[b]
  guarded s (safUp s && ca.mode != 0 && ca.paired && !ca.fault && !cb.fault && (onLevel s a != onLevel s b))
    (fun s => chFault (chFault s a 3) b 3)

/-- SLE_WATCHDOG_EXPIRE: SWD_TMO has passed without an accepted refresh; every SO and TP switches off (R241, R242). -/
def execSleWatchdogExpire (s : State) : Host.Outcome State Fault Refusal :=
  guarded s (safUp s && s.saf.wdOn && !s.saf.wdExpired) (fun s =>
    let b := s.saf
    let s1 := { s with saf := { b with
      wdExpired := true, wdOn := false
      tp := b.tp.map (fun t => { t with high := false, pulsing := false, retry := false }) } }
    raise (sleFault s1 5 0) (safSrc 1))

/-- Code of a hardware cause of SLE fault (R242). -/
def SleCause.num : SleCause → Nat
  | .checker _ _ _ => 1
  | .code _ _ _ => 2
  | .overrun => 3
  | .ecc => 4

/-- A cause can arise now: a mismatch and a code error where the coded copy does not fit, the overrun only while a scan has not
finished (R240, R242; assumption log 71). -/
def sleCan (s : State) (c : SleCause) : Bool :=
  let g := s.le[(16 : Fin 17)]
  g.running && !s.saf.sleFault &&
    (match c with
     | .checker main coded a => checkerMismatch main coded a
     | .code v c a => codeError v c a
     | .overrun => g.cyc.phase == .ready || g.cyc.phase == .run
     | .ecc => true)

/-- SLE_FAULT (R242). -/
def execSleFault (c : SleCause) (s : State) : Host.Outcome State Fault Refusal :=
  guarded s (alive s && sleCan s c) (fun s => sleFault s c.num s.le[(16 : Fin 17)].cyc.pc)

/-- SLPLUS_LOSS: SL+ has been absent for 1 ms; every output in ON trips (R249, R252). -/
def execSlplusLoss (s : State) : Host.Outcome State Fault Refusal :=
  guarded s (alive s && s.saf.lp == 0) (fun s =>
    (allFin 8).foldl (fun s k => if s.saf.so[k].state = 1 then soTrip s k 3 else s)
      { s with saf := { s.saf with lpGone := true } })

/-- DARK_TEST: a used switch of an output in ON is switched off for 300 µs (R250, R256). -/
def execDarkTest (k : Fin 8) (ls : Bool) (s : State) : Host.Outcome State Fault Refusal :=
  guarded s (alive s && s.saf.so[k].state == 1 && s.saf.so[k].dark.isNone && (if ls then usesLs s else usesHs s))
    (fun s => modSo s k (fun o => { o with dark := some ls, hs := if ls then o.hs else false, ls := if ls then false else o.ls }))

/-- DARK_TEST_END: a switch that still conducts is stuck, and otherwise it is switched on again (R250, R251). -/
def execDarkTestEnd (k : Fin 8) (ls : Bool) (conducting : Bool) (s : State) : Host.Outcome State Fault Refusal :=
  guarded s (alive s && s.saf.so[k].dark == some ls) (fun s =>
    let s1 := modSo s k (fun o => { o with dark := none, hs := o.hs || !ls, ls := o.ls || ls })
    if conducting then soFault s1 k (if ls then 2 else 1) else s1)

/-- SO_SHUTOFF: an output has stood at its current limit for 500 µs (R249, R251). -/
def execSoShutoff (k : Fin 8) (s : State) : Host.Outcome State Fault Refusal :=
  guarded s (alive s && s.saf.so[k].state == 1) (fun s => soFault s k 4)

/-- SL_PLUS_CHANGE: SL+ is measured at `mv` mV and changes class (R249). -/
def execSlPlusChange (mv : Nat) (s : State) : Host.Outcome State Fault Refusal :=
  guarded s (alive s) (fun s =>
    let c := supplyClass 12000 16000 mv s.saf.lp
    let s1 := { s with saf := { s.saf with lp := c, lpGone := s.saf.lpGone && c == 0 } }
    if c ≠ s.saf.lp && c ≠ 2 then raise s1 (safSrc 7) else s1)

/-- SAF.CTRL.CLR_SO_FAULT: causes 4 and 5 whose condition is absent are cleared (R251, R252). -/
def clrSoFault (s : State) : State :=
  { s with saf := { s.saf with so := s.saf.so.map (fun o =>
      if o.state ≠ 2 then o else
      let l := o.pend.filter (fun c => !(c == 4 || (c == 5 && !o.foreign)))
      { o with pend := l, state := if l.isEmpty then 0 else 2 }) } }

/-- SAF.CTRL.CLR_CNT: SLE_CYC.MAX, every CNT, TRIP_CNT and REJ_CNT (R7). -/
def safClrCnt (s : State) : State :=
  { s with
    le := vmod s.le 16 (fun g => { g with scanMax := 0 })
    saf := { s.saf with si := s.saf.si.map (fun c => { c with cnt := 0 })
                        so := s.saf.so.map (fun o => { o with tripCnt := 0, rejCnt := 0 }) } }

/-- A write of SAF.CTRL. -/
def safCtrlWrite (s : State) (clr so : Bool) : State :=
  let s1 := if clr then safClrCnt s else s
  if so then clrSoFault s1 else s1

/-- SAF_CLR_CNT; the register holds an RWK field (R7, R10). -/
def execSafClrCnt (sess : Fin 4) (s : State) : Host.Outcome State Fault Refusal :=
  keyedCmd s sess 0xA0020 (fun s => safCtrlWrite s true false)
/-- CLR_SO_FAULT (R251). -/
def execClrSoFault (sess : Fin 4) (s : State) : Host.Outcome State Fault Refusal :=
  keyedCmd s sess 0xA0020 (fun s => safCtrlWrite s false true)

/-- The SLE starts (R238): initial values of its own variables, TRIPPED outputs, a watchdog that waits for its first refresh. -/
def sleStart (s : State) : State :=
  let g := s.le[(16 : Fin 17)]
  let b := s.saf
  if !b.startReq || !g.used || b.sleFault then s else
  let h := g.coldInit s.vars false
  { s with
    le := s.le.set 16 { h with running := true, scanCnt := 0, firstCyc := true, insts := h.insts.map (startInst (tierCnt s 1)) }
    vars := s.vars.map (fun v => if isSafVar v && !(b.si.toList.any (fun c => bindVar c.var == some v.idx))
      && !((allFin 8).any (fun k => isSoVar s k v)) then varInit v else v)
    saf := { b with startReq := false, wdOn := false, so := b.so.map soStart } }

/-- What SAF does at a T0 boundary with the sampler reads, the outputs' terminals and currents (R243, R245, R247, R250). -/
def safT0 (s : State) (si : List (Fin 16 × List Bool)) (so : List (Fin 8 × SoRead)) (tp : List (Fin 4 × Nat)) : State :=
  let s1 := (allFin 16).foldl (fun s n =>
    siReads s n (((si.find? (fun x => x.1 == n)).map (fun x => x.2)).getD [])) s
  let s2 := so.foldl (fun s x =>
    let o := s.saf.so[x.1]
    let f := x.2.plusHigh && !o.hs && o.dark.isNone && soWiring s ≠ 2
    let s1 := modSo s x.1 (fun o => { o with foreign := f, curr := satNat 16 x.2.ma })
    if !o.used then s1
    else if f && !o.pend.contains 5 then soFault s1 x.1 5
    else if o.state = 1 && o.dark.isNone && !x.2.railsOk then soFault s1 x.1 3
    else s1) s1
  let s3 := tp.foldl (fun s x => modTp s x.1 (fun t => { t with curr := satNat 16 x.2 })) s2
  { s3 with saf := { s3.saf with tp := s3.saf.tp.map (fun t =>
      { t with freeNs := if t.fault then 0 else min (t.freeNs + 20000) 10000000 }) } }

/-- Writes the value variables of the outputs' states and of the safety inputs; where `own` does not hold, the used inputs'
variables take the active station's values from the input set (R243, R248, R255). -/
def publishSi (s : State) (own : Bool) : State :=
  let s1 := (allFin 16).foldl (fun s n =>
    if own || s.saf.si[n].mode = 0 then writeBind s s.saf.si[n].var (siValue s n) else s) s
  (allFin 8).foldl (fun s k => s.vars.foldl (fun t v => if isSoVar s k v then writeVar t v.idx (soValue s k) else t) s) s1

/-- The SLE's scan is handed over at a T1 boundary and refreshes the watchdog (R238, R241). -/
def sleHandover (s : State) : State :=
  let g := s.le[(16 : Fin 17)]
  if g.running && g.cyc.phase == .done then
    let s1 := g.cyc.out.foldl (fun s x => if x.1 < 0x100000 then writeVar s x.1 x.2 else s) s
    let s2 := { s1 with le := vmod s1.le 16 (fun g => { g with cyc := { g.cyc with phase := .idle, out := [] } }) }
    wdRefresh s2 g.cyc.nNow
  else s

end Sys2Proof.Machine
end

