-- ==== Sys2Proof/Machine/PwrOps.lean ====
section
/-! DEFINITION. Resets, power states, the SLEEP vote and its slots, and a station's fault of its own (R19, R265, R274, R384–R404).
-/

namespace Sys2Proof.Machine
open Sys2Proof

/-- Event source `i` of the power group (R406). -/
def pwrSrc (i : Nat) : Nat := 480 + i

/-! ### Heartbeats (R264) -/

/-- Some bank drives, and every bank has released. -/
def anyDrive (s : State) : Bool := s.fld.banks.toList.any (fun b => b.drive)

/-- The heartbeat word (R264). -/
def heartbeatWord (s : State) (seq : BitVec 8) (fault : Bool) : Word :=
  pack [(0, 8, seq.toNat), (8, 3, s.pair.state.toNat), (11, 1, b2n (anyDrive s)), (12, 1, b2n fault), (13, 1, b2n (!anyDrive s)),
        (14, 1, b2n s.stn.refLoss)]

/-- A heartbeat leaves on both lanes, with the departure mark while PAIR is quiesced (R264, R394). -/
def sendHeartbeat (s : State) (fault : Bool) : State :=
  let q := s.pair.seq + 1
  sendLink (modPair s (fun p => { p with seq := q })) (.heartbeat (heartbeatWord s q fault) (s.pwr.quiet.getLsbD 9))

/-! ### What a reset keeps (R390) -/

/-- STN through a warm reset. -/
def Stn.afterWarm (n : Stn) : Stn :=
  { Stn.reset with
    olcResult := n.olcResult
    time := n.time, tierRef := n.tierRef, lastB := n.lastB, aligned := n.aligned, slewing := n.slewing, slewLeft := n.slewLeft
    slewRem := n.slewRem, cnt := n.cnt
    refOk := n.refOk, pllLock := n.pllLock, refLoss := n.refLoss, faultStop := n.faultStop
    stopCause := if n.faultStop then n.stopCause else 1
    ovrEngine := n.ovrEngine, ovrEvent := n.ovrEvent, lastStart := n.lastStart, holdPermit := n.holdPermit, holdTmo := n.holdTmo
    retHalf := n.retHalf, restoreFail := n.restoreFail, retainSeq := n.retainSeq, halves := n.halves, dirs := n.dirs
    retDir := n.retDir, wakePins := n.wakePins, stackRoot := n.stackRoot, pairIdPin := n.pairIdPin }

/-- STN at a power-on: what MRAM keeps, and that a pending change was discarded (R119); `ran` says that the main domain ran until
now. -/
def Stn.afterCold (n : Stn) (ran : Bool) : Stn :=
  { Stn.reset with
    olcResult := if !ran then n.olcResult else if n.olcState == 4#3 || n.accepted.contains .commit then 14 else 0
    halves := n.halves, dirs := n.dirs, retDir := n.retDir, retHalf := n.retHalf, retainSeq := n.retainSeq }

/-- IMG through any reset: flash, MRAM and the pins. -/
def Img.afterReset (i : Img) : Img :=
  { Img.reset with pinProf := i.pinProf, banks := i.banks, commits := i.commits, marker := i.marker, profWord := i.profWord
                   wWait := i.wWait.filter (fun x => x.2.1)
                   imgKeys := i.imgKeys, safKeys := i.safKeys, writeLost := i.writeLost }

/-- NET through any reset: MRAM and the links. -/
def NetBlk.afterReset (n : NetBlk) : NetBlk :=
  { NetBlk.reset n.keys with ports := Vector.ofFn (fun p => { NetPort.reset with link := n.ports[p].link }) }

/-- SLEEP entry ends before its commit: RESULT 4 (R397). -/
def abandonSleep (s : State) : State :=
  if s.pwr.entry = .none then s else
  raise (logEntry (modPwr s (fun p => { p with
    entry := .none, quiet := 0, sleepReq := false, slResult := 4, slBlock := 0, slReason := 0, refuseCnt := satInc p.refuseCnt }))
    0x8002 noSrc sevNotice [4, 0, 0]) (pwrSrc 5)

/-- What the image in force left pending ends in entries at a reset (R119, R126, R329, R358, R397). -/
def resetEntries (s : State) : State :=
  closeSessions (discardSwitch (discardPending (clearForces (abandonSleep (modStn s (fun n => { n with olcResult := 0 }))))))

/-- A warm reset with `cause` begins: everything but what R390 keeps takes its reset value, and every SO and TP switches off (R66,
R242, R389, R390); the station, in no pair or stack, goes by its own time (R22). -/
def resetNow (s : State) (cause : BitVec 4) : State :=
  let s1 := safOff s
  let c := canReset s1
  slewToOwn { State.reset with
    stn := s1.stn.afterWarm, log := s1.log, img := s1.img.afterReset, ang := { AngBlk.reset with bNs := s1.ang.bNs, winB := s1.ang.winB, ran := s1.ang.ran }
    fld := { s1.fld with dist := [], distRb := [], distDiag := [] }, saf := { SafBlk.reset with lp := s1.saf.lp, lpGone := s1.saf.lpGone }
    pair := { PairBlk.reset with
      rejoins := s1.pair.rejoins, laneUp := s1.pair.laneUp, lanes := s1.pair.lanes, seq := s1.pair.seq, hbT := s1.pair.hbT
      state := if s1.pair.faulty && cause ≠ 1#4 then 6 else 0, member := s1.pair.faulty && cause ≠ 1#4
      faulty := s1.pair.faulty && cause ≠ 1#4 }
    stk := { StkBlk.reset with
      up := s1.stk.up, heard := s1.stk.heard, ofs := s1.stk.ofs, carried := s1.stk.carried, ports := s1.stk.ports }
    qp := { QpBlk.reset with issued := s1.qp.issued }
    can := c.can
    net := { s1.net.afterReset with fails := s1.net.fails, lockouts := s1.net.lockouts }
    pwr := { s1.pwr with power := .warm, cause := cause, warmReq := false, sleepReq := false, entry := .none, quiet := 0, bs := 0 }
    sent := s1.sent, free := s1.free, pending := s1.pending }

/-- Warm reset with `cause`: what it ends is recorded and the flush in progress completes first (R374, R389). -/
def warmEnter (s : State) (cause : BitVec 4) : State := resetNow (flushFinish (logPass (logPass (resetEntries s)))) cause

/-- The main domain and everything volatile without power (R390, R391, R402): flash and MRAM stand. -/
def unpowered (s : State) (p : Power) : State :=
  { State.reset with
    stn := s.stn.afterCold (s.pwr.power == .run), log := s.log.powerOff, img := { s.img.afterReset with pinProf := 0, writeLost := 0 }
    net := NetBlk.reset s.net.keys, pwr := { PwrBlk.reset with power := p }
    sent := s.sent, free := s.free, pending := s.pending }

/-! ### Power-on and waking -/

/-- The profile that a start selects (R357). -/
def selectProfile (s : State) : BitVec 2 :=
  match s.img.profWord with
  | some (p, cmd, pins) => if cmd && pins == s.img.pinProf then p else s.img.pinProf
  | none => s.img.pinProf

/-- The main domain starts with what its connectors show: clock, first classes of the supplies, straps and pins, field sides
(R226, R357, R384, R400). -/
def mainStart (s : State) (x : PowerIn) : State :=
  let s1 := modStn s (fun n => { n with
    refOk := true, pllLock := true, holdPermit := x.permit, wakePins := x.wake, stackRoot := x.stackRoot, pairIdPin := x.pairId })
  let s2 := modImg (modPwr s1 (fun p => { p with
      power := .run, feedA := firstClass 16000 18000 x.feedA, feedB := firstClass 16000 18000 x.feedB
      aV := satNat 16 (x.feedA / 10), bV := satNat 16 (x.feedB / 10) })) (fun i => { i with pinProf := x.prof })
  let s3 := (allFin 8).foldl (fun s b => modBank (fieldSideStart s b true) b (fun k => { k with
    lp := firstClass 12000 16000 x.lp[b], volt := satNat 16 (x.lp[b] / 10) })) s2
  { s3 with saf := { s3.saf with lp := firstClass 12000 16000 x.sl } }

/-- The power-on reset ends (R17, R24, R379, R384). -/
def powerOn (s : State) (x : PowerIn) : State :=
  let s1 := mainStart (unpowered s .run) x
  logStart s1 false 0 (selectProfile s1).toNat 0

/-- What retention SRAM takes (R402). -/
def retentionOf (s : State) : Retention :=
  { time := s.stn.time, cnt := s.stn.cnt, faultStop := s.stn.faultStop, stopCause := s.stn.stopCause, ovrEngine := s.stn.ovrEngine
    ovrEvent := s.stn.ovrEvent, lastStart := s.stn.lastStart, refLoss := s.stn.refLoss, restoreFail := s.stn.restoreFail
    holdTmo := s.stn.holdTmo, drowse := s.pwr.drowse, pinEn := s.pwr.pinEn, pinPol := s.pwr.pinPol, warmCnt := s.pwr.warmCnt
    dropA := s.pwr.dropA, dropB := s.pwr.dropB, ride := s.pwr.ride, pfCnt := s.pwr.pfCnt, can := s.can.ctl }

/-- The main domain goes off in SLEEP: what retention SRAM, MRAM, flash and the always-on domain hold stays (R396, R402). -/
def sleepOff (s : State) : State :=
  let u := unpowered s .sleep
  let c := canReset s
  { u with
    can := c.can
    log := { u.log with pcyc := s.log.pcyc, opms := s.log.opms, opNs := s.log.opNs, unclean := s.log.unclean
                        acrossSleep := s.log.acrossSleep }
    pair := { u.pair with rejoins := s.pair.rejoins, faulty := s.pair.faulty }
    pwr := { u.pwr with retention := some (retentionOf s), feedA := s.pwr.feedA, feedB := s.pwr.feedB, aV := s.pwr.aV
                        bV := s.pwr.bV, slResult := 0, refuseCnt := s.pwr.refuseCnt } }

/-- SLEEP is committed (R369, R374, R378, R396); the forces, which no wake keeps, are recorded as cleared first (R126, R390). -/
def sleepCommit (s : State) : State :=
  let s0 := logPass (clearForces s)
  let n := s0.log.ring.length
  let s1 := logPass (logItem s0 true true 0x5802 noSrc sevNotice (leN 4 n))
  let s2 := retainSave (flushNow s1 .sleepEntry)
  sleepOff (closeSessions (modLog s2 (fun g => writeTime g false)))

/-- STN as retention SRAM gives it back (R402). -/
def Stn.restored (n : Stn) (r : Retention) : Stn :=
  { n with
    time := r.time, tierRef := r.time, lastB := r.time.toNat / 20000 * 20000, cnt := r.cnt, faultStop := r.faultStop
    stopCause := if r.faultStop then r.stopCause else 1
    ovrEngine := r.ovrEngine, ovrEvent := r.ovrEvent, lastStart := r.lastStart, refLoss := r.refLoss, restoreFail := r.restoreFail
    holdTmo := r.holdTmo }

/-- The saved registers of a wake-capable controller (R402). -/
def CanCtl.restored (c o : CanCtl) : CanCtl :=
  if o.wakeKind = 1 || o.wakeKind = 2 then
    { c with cfg := o.cfg, nbt := o.nbt, sjw := o.sjw, wakeCfg := o.wakeCfg, wakeId := o.wakeId, wakeIdm := o.wakeIdm, wakeDm := o.wakeDm }
  else c

/-- Waking (R400, R402): `ok` says that the CRC of the retention copy is right. -/
def wakeUp (s : State) (pins : BitVec 4) (can : BitVec 8) (nreset : Bool) (cnt : BitVec 64) (ok : Bool) (x : PowerIn) : State :=
  let s1 := mainStart s x
  let s2 := modPwr s1 (fun p => { p with
    cause := if ok then 8 else 9, slResult := if ok then 1 else 5, wakePin := pins, wakeCan := can, wakeReset := nreset
    sleepCnt := cnt, retention := none })
  let s3 := match ok, s.pwr.retention with
    | true, some r =>
      let t := modPwr (modStn s2 (fun n => n.restored r)) (fun p => { p with
        drowse := r.drowse, pinEn := r.pinEn, pinPol := r.pinPol, warmCnt := r.warmCnt, dropA := r.dropA, dropB := r.dropB
        ride := r.ride, pfCnt := r.pfCnt })
      { t with can := { ctl := Vector.ofFn (fun k => (t.can.ctl[k]).restored r.can[k]) } }
    | _, _ => { s2 with can := CanBlk.reset }
  raise (logStart s3 true 0 0 cnt.toNat) (pwrSrc 6)

/-! ### A fault of the station's own -/

/-- The station reports a fault with its banks released (R265). -/
def reportFault (s : State) : State := sendHeartbeat (setDrives s false false) true

/-- The station becomes FAULTY and enters warm reset; which cause that reset shows is open (R274, R389). -/
def becomeFaulty (s : State) : State :=
  let s1 := raise (modPair (setDrives s false false) (fun p => { p with state := 6, faulty := true })) (psSrc 4)
  let (w, s2) := drawWord s1
  warmEnter s2 (BitVec.ofNat 4 (2 + w.toNat % 6))

/-! ### Entering SLEEP -/

/-- ALL_SAFE of every used bank (R392 reason 3). -/
def banksSafe (s : State) : Bool := (allFin 8).all (fun b => fld s.fld.banks[b].cfg 0 12 = 0 || allSafe s b)

/-- A placed problem of the station is running, waiting or recorded (R392 reason 9). -/
def placedBusy (s : State) : Bool :=
  s.qp.tmpls.toList.any (fun t => match t with | some x => !x.wait.isEmpty || x.run.isSome || x.res.isSome || !x.deliver.isEmpty | none => false)
    || s.qp.slots.toList.any (fun q => q.tier == 7#3 && q.phase == .solving) || !s.qp.peers.isEmpty

/-- An enabled wake pin is at its active level (R392 reason 11). -/
def wakePinActive (pinEn pinPol level : BitVec 4) : Bool := pinEn &&& ~~~(level ^^^ pinPol) ≠ 0

/-- Why the block with a code of R45 refuses SLEEP (R392). -/
def sleepRefusal (s : State) (blk : Nat) : Option Nat :=
  let when := fun (b : Bool) (r : Nat) => if b then some r else none
  match blk with
  | 0 => when (!banksSafe s) 3
  | 1 => when (!canVote s) 6
  | 2 => when s.net.transfer.isSome 10
  | 5 => when (placedBusy s) 9
  | 7 => when (s.saf.so.toList.any (fun o => o.state == 1#2)) 4
  | 8 => when (isMaster s || s.stk.up[1] || s.stk.up[2]) 12
  | 9 => when (s.pair.state == 2#3 || s.pair.state == 5#3 || (s.pair.member && s.pair.partner == 5#3)) 5
  | 10 => if s.stn.mode ≠ .stop then some 1 else when (s.stn.olcState ≠ 0#3) 2
  | 11 => when (s.log.clearStep ≠ 0) 8
  | 12 => when (s.img.wState ≠ 0#3 || s.img.swPending || s.img.swReq) 7
  | 16 => when (wakePinActive s.pwr.pinEn s.pwr.pinPol s.stn.wakePins || s.pwr.pf) 11
  | _ => none

/-- Block code of a slot of R394. -/
def slotBlock (i : Nat) : Nat := [2, 1, 8, 5, 4, 6, 3, 7, 0, 9, 17, 12, 11, 10, 16].getD i 16

/-- A refused request is recorded (R392, R395). -/
def sleepRefused (s : State) (result blk reason : Nat) : State :=
  raise (logEntry (modPwr s (fun p => { p with
    sleepReq := false, slResult := BitVec.ofNat 3 result, slBlock := BitVec.ofNat 5 blk, slReason := BitVec.ofNat 4 reason
    refuseCnt := satInc p.refuseCnt })) 0x8002 noSrc sevNotice [BitVec.ofNat 8 result, BitVec.ofNat 8 blk, BitVec.ofNat 8 reason])
    (pwrSrc 5)

/-- The vote ends (R392). -/
def sleepVote (s : State) : State :=
  match (List.range 17).findSome? (fun b => (sleepRefusal s b).map (fun r => (b, r))) with
  | some (b, r) => modPwr (sleepRefused s 2 b r) (fun p => { p with entry := .none })
  | none => modPwr s (fun p => { p with entry := .agreed })

/-- What the block of slot `i` stops beside what its QUIET bit stops (R393, R394). -/
def quiesce (s : State) (i : Nat) : State :=
  let s1 := modPwr s (fun p => { p with quiet := p.quiet ||| (1#15 <<< i), entry := .slots (i + 1) })
  if i = 7 then
    let s2 := sleHandover s1
    { s2 with
      le := vmod s2.le 16 (fun g => { g with running := false, window := false, cyc := { g.cyc with phase := .idle, out := [] } })
      saf := { s2.saf with wdOn := false, tp := s2.saf.tp.map (fun t => { t with high := false, pulsing := false, retry := false }) } }
  else s1

/-- Slot `i` of phase 2 (R394–R396). -/
def sleepSlot (s : State) (i : Nat) : State :=
  let s1 := passTo s (s.pwr.bs + 50000 * i)
  let b := slotBlock i
  match sleepRefusal s1 b with
  | some r => modPwr (sleepRefused s1 3 b r) (fun p => { p with entry := if i = 0 then .none else .restore i })
  | none => if i ≥ 14 then sleepCommit s1 else quiesce s1 i

/-- The block of slot `n` − 1 is restored (R393, R395). -/
def sleepRestoreOne (s : State) (n : Nat) : State :=
  let i := n - 1
  let s1 := modPwr s (fun p => { p with quiet := p.quiet &&& ~~~(1#15 <<< i), entry := if i = 0 then .none else .restore i })
  if i = 7 then
    { s1 with saf := { s1.saf with
      startReq := bit s1.saf.cfg 0 && !s1.saf.sleFault
      si := s1.saf.si.map SiCh.started
      tp := Vector.ofFn (fun k => { s1.saf.tp[k] with
        high := tpUsed s1 k && !s1.saf.tp[k].fault && !s1.saf.wdExpired }) } }
  else s1

end Sys2Proof.Machine
end

