-- ==== Sys2Proof/Machine/PairOps.lean ====
section
/-! DEFINITION. Roles of the pair: the input set an active station sends, its application at the standby, and changes of role
(R259–R275). -/

namespace Sys2Proof.Machine
open Sys2Proof

/-- The block's hidden state stands still in SLEEP phase 2 (R394): `i` is its slot. -/
def quietAt (s : State) (i : Nat) : Bool := s.pwr.quiet.getLsbD i

/-- CAN and the stack follow the role of the station (R279, R290, R310). -/
def rolesChanged (s : State) : State := stkRoles (canRoles s)

/-- The station enters a STATE; its boundaries realign where that makes stack time its reference (R22). -/
def setRole (s : State) (st : BitVec 3) : State := slewFrom (tierSrc s) (rolesChanged (modPair s (fun p => { p with state := st })))

/-- The record of a role change to active (PAIR.TAKEOVER, PAIR.COUNTS); in a stack the boundaries realign to stack time (R22). -/
def becomeActive (s : State) (st cause : BitVec 3) (released : Bool) (lost delay : Nat) (count : Bool) : State :=
  slewFrom (tierSrc s) (rolesChanged (modPair s (fun p => { p with
    state := st, cause := cause, released := released, t0Lost := BitVec.ofNat 2 lost, delayUs := BitVec.ofNat 2 delay
    takeoverT := s.stn.time.truncate 32, heard := false, misses := 0, setMiss := none, await := none
    switchCnt := if count then satInc p.switchCnt else p.switchCnt })))

/-- ACTIVE_SOLO from SEEKING (R261). -/
def startActive (s : State) : State := setDrives (becomeActive s 3 5 false 0 0 false) true false

/-- Leaving STANDBY to synchronise again (R263, R272, R275). -/
def leaveStandby (s : State) : State :=
  setRole (modPair s (fun p => { p with misses := 0, setMiss := none, await := none, missedDig := 0, progress := 0, passes := 0, pages := 0, marked := 0 })) 5

/-- The synchronised standby is gone: ACTIVE becomes ACTIVE_SOLO (R260, R263). -/
def loseStandby (s : State) : State :=
  if s.pair.state = 2#3 then raise (setRole (modPair s (fun p => { p with switchReq := false, switchArmed := false, check := none, missedDig := 0 })) 3)
    (psSrc 6) else s

/-- A switchover takes effect at a T2 boundary (R269): the new active station drives at once with its AO points waiting, the old
one releases and reports it; `faulty` says that the old active has failed its self-check (R272). -/
def switchOver (s : State) (cause : BitVec 3) (faulty : Bool) : State :=
  let s0 := modPair s (fun p => { p with switchReq := false, switchArmed := false })
  if s.pair.state = 4#3 then
    raise (reissueAll (setDrives (becomeActive s0 (if faulty then 3 else 2) cause false 0 0 true) true true)) (psSrc 0)
  else if s.pair.state = 2#3 then
    if faulty then becomeFaulty (sendHeartbeat (setDrives s0 false false) false)
    else
      let s1 := setRole (sendHeartbeat (setDrives s0 false false) false) 4
      { s1 with qp := s1.qp.placedIdle }
  else s0

/-! ### Lanes (R259) -/

/-- A lane goes down: its count and its event. -/
def laneFalls (s : State) (l : Fin 2) : State :=
  raise (modPair s (fun p => { p with laneUp := p.laneUp.set l false
                                      lanes := vmod p.lanes l (fun x => { x with down := satInc x.down, bad := 0 }) })) (psSrc 1)

/-- What one lane has given of a packet: a failed CRC is counted, and the third in a row takes the lane down (R259). -/
def laneTake (s : State) (l : Fin 2) : LaneRx → State
  | .ok => modPair s (fun p => { p with lanes := vmod p.lanes l (fun x => { x with bad := 0 }) })
  | .none => s
  | .crc =>
    let s1 := modPair s (fun p => { p with lanes := vmod p.lanes l (fun x => { x with crc := satInc x.crc, bad := x.bad + 1 }) })
    if 3 ≤ s1.pair.lanes[l].bad && s1.pair.laneUp[l] then laneFalls s1 l else s1

/-- A packet on both lanes: the first copy that passes its CRC is taken, by `f`; without one nothing is (R259). -/
def sashTake (s : State) (a b : LaneRx) (f : State → State) : State :=
  let s1 := laneTake (laneTake s 0 a) 1 b
  if a = .ok || b = .ok then f s1 else s1

/-! ### The distributed input set (R262) -/

/-- Variables of tiers up to `slow` that stack transfers bring, as every boundary has them (R286). -/
def setStk (s : State) (slow : Nat) : List SetItem :=
  (s.vars.filter (fun v => v.tier ≤ slow && v.wblk == 8)).map (fun v => SetItem.var v.idx (varOwn v))

/-- The T0 part at an active station. -/
def setT0 (s : State) : List SetItem :=
  (allFin 96).flatMap (fun n =>
    let p := s.fld.pts[n]
    (if p.isIn then [SetItem.sample n p.smp] else if p.isOut then [SetItem.readback n p.rb] else [])
      ++ (if p.mode = 0 then [] else [SetItem.diag n p.diag]))
    ++ (allFin 8).filterMap (fun a =>
      let r := s.ang.src[a]
      if r.type = 0 then none else some (SetItem.angle a #v[r.angle, r.turns, r.vel, r.acc, r.pst] r.tag))
    ++ (allFin 16).filterMap (fun n => if s.saf.si[n].mode = 0 then none else some (SetItem.safety n (siValue s n)))

/-- A variable that CAN or NET writes, or a placed result. -/
def isReceived (s : State) (v : Var) : Bool :=
  v.wblk == 1 || v.wblk == 2 || s.qp.tmpls.toList.any (fun t => match t with
    | some x => (x.bind.xs ++ x.bind.ys ++ [x.bind.merit, x.bind.status]).any (fun w => bindVar w == some v.idx)
    | none => false)

/-- Variables with a received value at a boundary of tiers up to `slow`. -/
def setVars (s : State) (slow : Nat) : List SetItem :=
  (s.vars.filter (fun v => v.tier ≤ slow && isReceived s v)).map (fun v => SetItem.var v.idx (varOwn v))

/-- Remote output commands latched at this boundary: those of points that have not missed it (R286, R287). -/
def setPoints (s : State) : List SetItem :=
  (allFin 96).filterMap (fun n => if (remLoss s n.val).isSome && (aget s.stk.miss n.val).isNone then some (.point n s.fld.pts[n].smp) else none)

/-- The rest at an active station; `cmds` are the commands and event tasks that the boundary carries. -/
def setRest (s : State) (slow : Nat) (cmds : List DistCmd) : List SetItem :=
  setVars s slow ++ cmds.map SetItem.cmd ++ [.pins s.img.pinProf s.stn.holdPermit]
    ++ (if s.stk.inStack then
          [.stack (stackTime s - BitVec.ofNat 64 (refNow s - s.stn.lastB)) s.stk.barId s.stk.barState s.stk.cols] else [])
    ++ (allFin 128).filterMap (fun r => (s.net.rx[r]).bind (fun x => if x.tier ≤ slow then some (.tel r x) else none))
    ++ (allFin 64).filterMap (fun t => (s.qp.tmpls[t]).map (fun x => .placed t x.wait x.run x.deliver x.issue))

/-- The commands that a set carries. -/
def setCmds (l : List SetItem) : List DistCmd := l.filterMap (fun i => match i with | .cmd c => some c | _ => none)

/-- A sample or readback of the set reaches the variable bound to the point; a station that has just taken over reads it as its
own (R266). -/
def itemVar (s : State) (n : Fin 96) (rb : Bool) (w : TWord) : State :=
  let s1 := if isStandby s then s else modPt s n (fun p => if rb then { p with rb := w } else { p with smp := w })
  writeBind s1 (if rb then s.fld.pts[n].rbVar else s.fld.pts[n].var) w

/-- A T0 item of the set takes effect at the standby (R158, R190, R236, R255). -/
def itemT0 (s : State) : SetItem → State
  | .sample n w => itemVar { s with fld := { s.fld with dist := aset s.fld.dist n.val w } } n false w
  | .readback n w => itemVar { s with fld := { s.fld with distRb := aset s.fld.distRb n.val w } } n true w
  | .angle a w tag =>
    let was := s.ang.src[a].pubPredicting
    let s1 := modSrc s a (fun r => { r with angle := w[0], turns := w[1], vel := w[2], acc := w[3], pst := w[4], tag := tag })
    writeSrcVars (afterPublish (overspeedCheck { s1 with ang := { s1.ang with bNs := s.stn.lastB } } a) a was) a
  | .safety n w =>
    writeBind { s with saf := { s.saf with dist := aset s.saf.dist n.val w } } s.saf.si[n].var w
  | .diag n d => { s with fld := { s.fld with distDiag := aset s.fld.distDiag n.val d } }
  | .point n w => modStk (latchAt s n w (s.stn.lastB + 1000)) (fun k => { k with miss := adel k.miss n.val, remSafe := k.remSafe.filter (· ≠ n.val) })
  | _ => s

/-- PROF_SEL and HOLD_PERMIT of the active station: a fall of HOLD_PERMIT in HOLD starts the count of R78 (R262). -/
def takePins (s : State) (prof : BitVec 2) (permit : Bool) : State :=
  let was := match s.pair.pins with | some x => x.2 | none => true
  let s1 := modPair s (fun p => { p with pins := some (prof, permit) })
  modStn s1 (fun n => { n with permitCount := !permit && (n.permitCount || (was && n.mode == .hold)) })

/-- The backup master follows the master's stack time, and a standby its pair's barriers (R282, R290). -/
def takeStack (s : State) (t : BitVec 64) (barId : BitVec 16) (barState : BitVec 2) (cols : List Collect) : State :=
  modStk s (fun k => { k with
    ofs := if k.role == 3#3 then t + BitVec.ofNat 64 (refNow s - s.stn.lastB) - s.stn.time else k.ofs
    carried := k.carried || k.role == 3#3
    barId := barId, barState := barState, cols := cols })

/-- Any other item takes effect at the standby; a variable takes value and tag as the active station holds them (R84, R323). -/
def itemRest (s : State) : SetItem → State
  | .var n w => modVar s n (fun v => { varWrite s.stn.forces v w with wrote := false })
  | .tel r x => modNet s (fun n => { n with rx := vmod n.rx r (fun o => some ((o.map x.counts).getD x)) })
  | .stack t id st cols => takeStack s t id st cols
  | .pins prof permit => takePins s prof permit
  | _ => s

/-- The requests outstanding at the active station, recorded after the boundary's own requests have been found (R185, R186). -/
def itemPlaced (s : State) : SetItem → State
  | .placed t wait run done issue =>
    let s1 := modTmpl s t (fun x => { x with wait := wait, run := run, deliver := done, issue := issue })
    { s1 with qp := { s1.qp with issued := max s1.qp.issued issue } }
  | _ => s

/-- At a standby, the remote output points that the set brings no command for have missed this boundary (R287). -/
def pointsMissed (s : State) (items : List SetItem) : State :=
  if !isStandby s then s else
  (allFin 96).foldl (fun s n =>
    if (remLoss s n.val).isSome && !items.any (fun i => match i with | .point m _ => m == n | _ => false) then remMissed s n.val else s) s

/-! ### Field-reading comparison (R236, R255) -/

/-- Two values differ by more than a tolerance, as signed words. -/
def apart (a b : Word) (tol : Nat) : Bool := tol < (a.toInt - b.toInt).natAbs

/-- Whether an input point's own sample, or an AO readback, differs from the active station's; `old` is the state before the samples
of this boundary, for the increase of a COUNT point (R236). -/
def pointDiffers (old s : State) (n : Fin 96) : Bool :=
  let p := s.fld.pts[n]
  let tol := fld p.cmp 0 24
  if p.mode = 4 then (aget s.fld.distRb n.val).elim false (fun w => apart p.rb.val w.val tol)
  else if !p.isIn then false
  else match aget s.fld.dist n.val with
    | none => false
    | some w =>
      if p.mode = 1 then p.smp.val != w.val
      else if p.mode = 5 then
        match aget old.fld.dist n.val with
        | some w0 => (p.smp.val - old.fld.pts[n].smp.val) != (w.val - w0.val)
        | none => false
      else apart p.smp.val w.val tol

/-- Whether a safety input reads otherwise than at the active station (R255). -/
def safetyDiffers (s : State) (n : Fin 16) : Bool :=
  (aget s.saf.dist n.val).elim false (fun w => s.saf.si[n].mode ≠ 0 && (siValue s n).val != w.val)

/-- A run of boundaries at which an input differs goes on or ends. -/
def cmpStep (s : State) (i : Nat) (differs : Bool) : State :=
  let l := s.pair.cmpRun
  let next : Nat × Bool := (aget l i).elim (1, false) (fun x => (x.1 + 1, x.2))
  modPair s (fun p => { p with cmpRun := if differs then aset l i next else adel l i })

/-- The comparison of a T0 boundary at a standby, after the set's items have come (R236, R273). -/
def fieldCompare (old s : State) : State :=
  if !isStandby s then s
  else (allFin 16).foldl (fun t n => cmpStep t (96 + n.val) (safetyDiffers s n))
    ((allFin 96).foldl (fun t n => cmpStep t n.val (pointDiffers old s n)) s)

/-- A reading that R236 compares: an input point or an AO point in use, or a safety input in use. -/
def compared (s : State) (i : Nat) : Bool :=
  if h : i < 96 then s.fld.pts[i].isIn || s.fld.pts[i].mode == 4 else if h : i - 96 < 16 then s.saf.si[i - 96].mode ≠ 0 else false

/-- The disagreement has lasted CMP.T0N boundaries, for a safety input one, and has not counted yet (R236; assumption log 69). -/
def cmpDue (s : State) (i : Nat) : Bool :=
  let need := if h : i < 96 then max 1 (fld s.fld.pts[i].cmp 24 8) else 1
  (aget s.pair.cmpRun i).elim false (fun x => need ≤ x.1 && !x.2)

/-! ### Resynchronisation, at the active station (R275) -/

/-- The profile switch under way (R359, R360). -/
def switchUnderWay (i : Img) : Option (BitVec 2 × Bool × Option Nat) :=
  if i.swState = 0#3 then none else some (i.swTarget, i.swSrc, if i.swState = 1#3 then none else i.prepared.map imageId)

/-- What the active station hands over at the end of a T4 cycle. -/
def syncSetOf (s : State) : SyncSet :=
  { stn := s.stn, vars := s.vars, le := s.le, lp := s.lp, qp := s.qp, ang := s.ang, fld := s.fld, saf := s.saf, can := s.can
    tx := s.net.tx, rx := s.net.rx, evr := s.evr, image := s.img.running.getD [], sw := switchUnderWay s.img, passes := s.pair.passes }

/-- A resynchronisation is under way, as the active or the joining station (R275). -/
def syncing (s : State) : Bool :=
  !quietAt s 9 && ((s.pair.state == 3#3 && s.pair.partner == 5#3) || (s.pair.state == 5#3 && s.stn.aligned))

/-- The pages of the running image and of the partitions (R275; assumption log 35). -/
def syncPages (s : State) : Nat := max 1 (Config.syncPages (s.img.running.getD []))

/-- The placed work of a resynchronisation goes on by a free number of pages at each T1 boundary (R275; assumption log 35). -/
def pagesOn (s : State) : State :=
  let (n, s1) := drawWord s
  let (left, s2) := drawWord s1
  modPair s2 (fun p => p.pagesOn (syncPages s) n.toNat left.toNat)

/-- An active station whose partner is SYNCING sends pages, and at a T4 boundary by which none is outstanding the mark of the cycles that
end there (R275). -/
def sendSync (s : State) (slow : Nat) : State :=
  if slow = 0 || !syncing s then s
  else
    let s1 := pagesOn s
    if 4 ≤ slow && s.pair.state == 3#3 && s.pair.pagesDone (syncPages s) then
      sendLink (send s1 (.syncSet (syncSetOf s))) (.syncMark s.stn.lastB)
    else s1

/-- A member of a synchronised pair keeps the digests of its state as it stands after the handover of a T2 boundary (R271). -/
def takeDigests (s : State) (slow : Nat) : State :=
  if 2 ≤ slow && (s.pair.state == 2#3 || s.pair.state == 4#3) then modPair s (fun p => { p with fresh := digestsOf s }) else s

end Sys2Proof.Machine
end

