-- ==== Sys2Proof/Machine/Boundary.lean ====
section
/-! DEFINITION. A tier boundary: the commands it carries, the handover, the latching of outputs, the input images, and what
else falls on it (R21, R24–R26, R58, R60, R68–R72, R76, R81, R117, R118, R131, R181, R227, R262, R286, R303, R317, R362). -/

namespace Sys2Proof.Machine
open Sys2Proof

/-- The slowest tier with a boundary at tier-reference instant `b` (R20, R21). -/
def slowTier (b : Nat) : Nat :=
  if b % 100000000 = 0 then 4 else if b % 10000000 = 0 then 3 else if b % 1000000 = 0 then 2
  else if b % 100000 = 0 then 1 else 0

/-- The tiers of a boundary, fastest first (R25). -/
def tiersTo (slow : Nat) : List Nat := List.range (slow + 1)

/-- TIER_CNT of every tier of the boundary advances (R24). -/
def countTiers (s : State) (b slow : Nat) : State :=
  modStn s (fun n => { n with lastB := b, cnt := (tiersTo slow).foldl (fun c k => vmodN c k (· + 1)) n.cnt })

/-! ### Work that a boundary finds unfinished (R26, R64) -/

/-- Logic tasks that have not ended though their windows end at or before the instant `b`. -/
def lateTasks (s : State) (b : Nat) : List (Fin 16 × Fin 5) :=
  ((allFin 16).flatMap (fun e => (allFin 5).map (fun k => (e, k)))).filter (fun x =>
    unfinished s x && windowEnd s ⟨x.1.val, by omega⟩ x.2 ≤ b)

/-- The logic tasks that no command has reported by the boundary at `b` overrun where their windows end (R26, R64). -/
def lateLogic (s : State) (b : Nat) : State := if (lateTasks s b).isEmpty then s else taskOverrun s (lateTasks s b)

/-- So does the SLE (R242). -/
def lateSle (s : State) (b : Nat) : State :=
  let g := s.le[(16 : Fin 17)]
  let e := windowEnd s 16 0
  if e ≤ b && g.running && (g.cyc.phase == .ready || g.cyc.phase == .run) then sleFault (passTo s e) 3 g.cyc.pc else s

/-- Overruns that no command has reported by the boundary at `b`, the earlier first (R64, R242). -/
def lateWork (s : State) (b : Nat) : State :=
  match firstEnd s (lateTasks s b) with
  | some e => if windowEnd s 16 0 < e then lateLogic (lateSle s b) b else lateSle (lateLogic s b) b
  | none => lateSle s b

/-! ### Commands that a T1 boundary carries -/

/-- RELEASE (R69): breakpoints cleared, every frozen engine resumes in its next window, and the station is in RUN. -/
def releaseAll (s : State) : State :=
  refreshHold (mapLogic s (fun g => { g with
    bkptEn := false, freezeReq := false, stepOne := false, released := g.frozen
    cyc := if g.frozen then { g.cyc with phase := .resume } else g.cyc }))

/-- STEP, RESUME or FREEZE takes effect (R76, R79): where the boundary has ended the engine's scan a FREEZE freezes it here. At a standby
the hold timer restarts too, from the instant of acceptance (R77, R276). -/
def carryHold (s : State) (slow : Nat) (e : Fin 16) (cmd : BitVec 2) (at_ : Nat) : State :=
  let t0 := if isStandby s && cmd ≠ 3 then s.stn.time - BitVec.ofNat 64 (refNow s - at_) else s.stn.holdT0
  let g := vget s.le e.val Engine.unused
  let s1 := { s with stn := { s.stn with holdT0 := t0 }, le := vmodN s.le e.val (fun g =>
      let g := { g with holdCmd := 0 }
      if cmd = 3 then (if g.running && g.entry.isSome && !g.frozen then { g with freezeReq := true } else g)
      else if g.frozen then { g with stepOne := cmd == 1, cyc := { g.cyc with phase := .resume } } else g) }
  if cmd = 3 && g.running && g.entry.isSome && !g.frozen && g.tier.toNat ≤ slow && g.cyc.phase == .idle then
    freezeEngine s1 ⟨e.val, by omega⟩ 2
  else s1

/-- A breakpoint is enabled or disabled; a cyclic task that stands before its instruction freezes there (R76, R79). -/
def carryBkpt (s : State) (e : Fin 17) (addr : BitVec 16) (en : Bool) : State :=
  let s1 := { s with le := vmod s.le e (fun g => { g with bkptAddr := addr, bkptEn := en }) }
  if s1.le[e].running && !s1.le[e].frozen && s1.le[e].atBreak then freezeEngine s1 e 1 else refreshHold s1

/-- A mode command at the T1 boundary that carries it: STOP and RELEASE act, a RUN waits for its T4 boundary (R69). -/
def carryMode (s : State) (cmd sess : Nat) : State :=
  if cmd = 1 || cmd = 5 then
    if modeAllowed s cmd then
      let s1 := modStn s (fun n => { n with modeCmd := 0 })
      if cmd = 1 then commandedStop s1 2 else releaseAll s1
    else modeRefused s cmd sess
  else modStn s (fun n => { n with modeCmd := BitVec.ofNat 3 cmd, modeSess := sess, runCarried := true })

/-- One command takes effect at its T1 boundary at tier-reference instant `b`. Where several fall on one boundary, a RELEASE and the
STOP of R78 among them, they act in the order of their acceptance (R69, R79; assumption log 68). -/
def carry (b slow : Nat) (s : State) : DistCmd → State
  | .mode cmd sess => carryMode s cmd.toNat sess
  | .bkpt e addr en => carryBkpt s ⟨e.val, by omega⟩ addr en
  | .hold e cmd at_ => carryHold s slow e cmd at_
  | .engRestart e => restartEngine s ⟨e.val, by omega⟩
  | .write n v => noteWrite (writeVar s n { val := v, tag := goodTag 10 }) n
  | .commit => fixCommit s slow
  | .forceSet n v => forceSetApply s n v
  | .forceRemove n => forceRemoveApply s n
  | .forceRemoveAll => forceRemoveAllApply s
  | .loopRestart l => carryRestart s l b
  | .coldReq p => modSlot s p (fun q => { q with coldCarried := true })
  | .resync a => carryResync s a
  | .evtCtrl n m q => takeCtrl s n m q
  | .switchover => modPair s (fun p => { p with switchArmed := true })
  | .boffRec k => carryBoff s k
  | .canSleep k => carrySleep s k
  | .canWake k => carryWake s k
  | .profile t byCmd => carryProfile s t byCmd
  | .prepared id => carryPrepared s id
  | .evtTask _ _ => s
  | .holdPermitStop => if s.stn.mode == .hold then commandedStop s 6 else s

/-- Engines that a command of this boundary restarts in HOLD: their first scan starts at the next boundary (R83). -/
def restarted (cmds : List DistCmd) : List Nat := cmds.filterMap (fun c => match c with | .engRestart e => some e.val | _ => none)

/-- The event tasks that a boundary's commands start (R62). -/
def eventStarts (cmds : List DistCmd) : List (Fin 16 × Fin 4) := cmds.filterMap (fun c => match c with | .evtTask e i => some (e, i) | _ => none)

/-- Event tasks named by their task IDs, which a change of program keeps (R118). -/
def startsById (s : State) (l : List (Fin 16 × Fin 4)) : List (Fin 16 × Byte) :=
  l.map (fun x => (x.1, (vget s.le x.1.val Engine.unused).evtId[x.2]))

/-- The event tasks that have those IDs in the programs in force; those of removed tasks do not start (R118). -/
def startsNow (s : State) (l : List (Fin 16 × Byte)) : List (Fin 16 × Fin 4) :=
  l.filterMap (fun x =>
    let g := vget s.le x.1.val Engine.unused
    ((allFin 4).find? (fun i => g.evtEntry[i].isSome && g.evtId[i] == x.2)).map (fun i => (x.1, i)))

/-- The event tasks that wait at an engine that is not frozen (R60, R76). -/
def waitingEvents (s : State) (slow : Nat) : List DistCmd :=
  if slow = 0 then [] else
  ((allFin 16).flatMap (fun e => (allFin 4).map (fun i => (e, i)))).filterMap (fun x =>
    let g := vget s.le x.1.val Engine.unused
    if g.running && !g.frozen && g.pending[x.2] then some (.evtTask x.1 x.2) else none)

/-- The triggers of tasks that start wait no more: one that comes in the fabric cycle of the boundary counts as coming after it (R60). -/
def takeTriggers (s : State) (cmds : List DistCmd) : State :=
  (eventStarts cmds).foldl (fun s x => { s with le := vmodN s.le x.1.val (fun g => { g with pending := g.pending.set x.2 false }) }) s

/-- The starts of tasks that a commit removes are discarded (R118). -/
def startsDiscarded (s : State) (l : List (Fin 16 × Byte)) : State :=
  (l.filter (fun x => (startsNow s [x]).isEmpty)).foldl (fun s x =>
    logEntry s 0x5009 x.1.val sevNotice ([1, 0, 0, 0] ++ leN 4 x.2.toNat)) s

/-! ### Handover (R25 step 1) -/

/-- The words of an output buffer that name variables enter the process image. -/
def putOut (s : State) (l : List (Nat × TWord)) : State :=
  l.foldl (fun s x => if x.1 < 0x100000 then writeVar s x.1 x.2 else s) s

/-- The M and W words with a DATA index count as handed over at the end of a cycle of their engine (R89). -/
def putWords (s : State) (g : Engine) : State :=
  g.mwmap.foldl (fun s m => match aget (if m.1 = 2 then g.m else g.w) m.2.1 with
    | some w => writeVar s m.2.2 w
    | none => s) s

/-- Engine `e` hands over its buffers of tier `k`, and freezes afterwards where FREEZE or STEP asks for it (R58, R60, R76). -/
def handEngine (s : State) (e : Fin 17) (k : Nat) : State :=
  let g := s.le[e]
  if !g.running || g.frozen then s else
  let ev := k = 1 && g.evt.toList.any (fun t => t.phase == .done)
  let cy := g.tier.toNat = k && g.cyc.phase == .done
  let s1 := if ev then putOut s (g.evt.toList.flatMap (fun t => if t.phase == .done then t.out else [])) else s
  let s2 := if cy then putOut s1 g.cyc.out else s1
  let s3 := if cy || (ev && g.tier = 0) then putWords s2 g else s2
  let s4 := { s3 with le := vmod s3.le e (fun g => { g with
    cyc := if cy then g.cyc.ended else g.cyc
    evt := if ev then g.evt.map (fun t => if t.phase == .done then t.ended else t) else g.evt }) }
  if cy && (g.freezeReq || g.stepOne) then freezeEngine s4 e 2 else s4

/-- The blocks whose values enter with the input image: field, CAN, NET, angle, safety, stack and operator (R12). -/
def isInput (v : Var) : Bool := [0, 1, 2, 6, 7, 8, 10].contains v.wblk

/-- The engine that writes variable `v` hands over: it runs and is not frozen (R76). -/
def handsOver (s : State) (v : Var) : Bool :=
  let g := vget s.le v.winst Engine.unused
  v.wblk == 3 && inRunHold s && g.running && !g.frozen

/-- The variables of the boundary's tiers that nothing has written grow older; `inputs` chooses those of input blocks, with which the
boundary's writes of every block are over (R37). -/
def idleVars (s : State) (slow : Nat) (inputs : Bool) : State :=
  { s with vars := s.vars.map (fun v =>
      if v.tier ≤ slow then
        (if isInput v == inputs && !v.wrote then varIdle s.stn.forces (v.wblk == 10 || handsOver s v) v
         else if inputs then { v with wrote := false } else v)
      else v) }

/-- Step 1 of R25, with the SLE's scan (R238) and the solver's outputs (R40, R181); in the power-fail sequence only the SLE hands
over (R387). -/
def handover (s : State) (slow : Nat) : State :=
  let s1 := if s.pwr.pf then s else
    (tiersTo slow).foldl (fun s k =>
      let s1 := if quietAt s 6 then s else logicEngines.foldl (fun s e => handEngine s e k) s
      if quietAt s 3 then s1 else slotsHandover s1 k) s
  idleVars (if 1 ≤ slow && !quietAt s 7 then sleHandover s1 else s1) slow false

/-- Field outputs of the boundary's tiers latch their commands. -/
def latchTiers (s : State) (slow : Nat) : State := if s.pwr.pf || quietAt s 8 then s else (tiersTo slow).foldl latchTier s

/-- Step 2 of R25: field outputs, remote ones too, latch their commands. -/
def latch (s : State) (slow : Nat) : State :=
  let s1 := latchTiers s slow
  if s.pwr.pf || quietAt s 8 || quietAt s 2 || isStandby s then s1 else stkLatch s1

/-- Steps 1 and 2 of R25 at a boundary, with the digests of the state that they leave (R271): both stations of a pair do them at the
boundary itself. -/
def closeCycles (s : State) (slow : Nat) : State := startPeriods (latch (takeDigests (handover s slow) slow) slow)

/-! ### Forces that the boundary carries (R124) -/

/-- A command that changes the force table. -/
def DistCmd.isForce : DistCmd → Bool
  | .forceSet _ _ => true
  | .forceRemove _ => true
  | .forceRemoveAll => true
  | _ => false

/-- A variable that this boundary has handed over, as the force table now has it: the handover is an instant at the boundary, so a force
takes effect at it or lets go. -/
def forceNow (s : State) (v : Var) : Var :=
  match force? s v.id with
  | some f => if v.wrote || handsOver s v then { v with unf := varOwn v, cur := { val := f.value, tag := forcedTag }, forced := true } else v
  | none => if v.forced && v.wrote then { v with cur := v.unf, forced := false } else v

/-- Forces and removals that the boundary carries act on what it has handed over, and output points latch it (R124). -/
def forcesNow (s : State) (slow : Nat) (cmds : List DistCmd) : State :=
  if cmds.any DistCmd.isForce then
    latchTiers { s with vars := s.vars.map (fun v => if v.tier ≤ slow && (v.wblk == 3 || v.wblk == 5) then forceNow s v else v) } slow
  else s

/-! ### What takes effect between handover and snapshot -/

/-- RUN begins with a start kind at this T4 boundary (R71, R72, R303). -/
def startRun (s : State) (kind : Nat) : State :=
  slotsStart (canStart (runStart (modStn s (fun n => { n with modeCmd := 0, runCarried := false, autoStart := 0 })) kind))

/-- The roles are settled for R72. -/
def rolesSettled (s : State) : Bool := drivesBanks s || isStandby s

/-- A RUN command whose T4 boundary this is takes effect, or the start of R72 is made. -/
def runDue (s : State) : State :=
  if s.stn.runCarried then
    let c := s.stn.modeCmd.toNat
    if modeAllowed s c then startRun s (c - 1) else modeRefused s c s.stn.modeSess
  else if s.stn.autoStart ≠ 0 && s.stn.mode == .stop && !s.stn.faultStop && s.img.running.isSome && rolesSettled s then
    startRun s s.stn.autoStart
  else s

/-- Switch boundary S (R362): in HOLD it waits; a standby that has not prepared the image leaves STANDBY, and so cannot make the
switch after a takeover (R360). -/
def switchDue (s : State) : State :=
  if s.img.swState ≠ 2 && s.img.swState ≠ 3 then s
  else if s.stn.mode == .hold then modImg s (fun i => { i with swState := 3 })
  else match s.img.running, s.img.prepared with
    | some old, some b =>
      let run := s.stn.mode == .run
      let s1 := switchImage s old b
      if !run then s1
      else
        let k := (globalOf (recs b 3)).1
        if k = 0 then commandedStop s1 1 else startRun s1 k
    | _, _ => if isStandby s then leaveStandby s else switchRefused s 2

/-- The commit of an on-line change (R118), a profile switch (R362) and a start of RUN (R71) at their boundaries. -/
def changesDue (s : State) (slow : Nat) : State :=
  let s1 := if commitDue s slow then commitApply s else s
  if slow < 4 || s1.pwr.pf then s1 else runDue (switchDue s1)

/-! ### Input images (R25 step 3) -/

/-- The station's own field side, safety inputs and angle sources at a T0 boundary; `pub` says that its own values are published
(R198, R211, R243, R267). -/
def ownInputs (s : State) (b : Nat) (x : BoundaryIn) (pub : Bool) : State :=
  let own := !isStandby s && pub
  let s1 := if quietAt s 8 then s else
    let t := publishUnbound (fieldSample (x.lapsed.foldl (fun s d => diagLapse s d.1 d.2) s) x.fieldIn)
    if own then remReadback (publishField t) else t
  let s2 := if quietAt s 7 then s1 else publishSi (safT0 s1 x.siIn x.soIn x.tpMa) own
  if quietAt s 5 then s2
  else if own then (allFin 8).foldl writeSrcVars (publishAngles { s2 with ang := { s2.ang with winB := b } } b)
  else if isStandby s then estimateOwn { s2 with ang := { s2.ang with winB := b } } b
  else { s2 with ang := { s2.ang with winB := b } }

/-- What CAN, NET and the stack have received enters at the boundaries of its tiers; a standby takes the distributed values. -/
def received (s : State) (slow : Nat) : State :=
  if isStandby s then modNet s (fun n => { n with rx := n.rx.map (Option.map (fun x => { x with fresh := false })) }) else
  let s1 := if quietAt s 1 then s else canTake s slow
  let s2 := if quietAt s 0 then s1 else telsDecide s1 slow
  if quietAt s 2 then s2 else stkTake s2 slow

/-- The loops take their samples (R131); in a lost cycle those of T0 are skipped (R136, R267). -/
def loopBoundary (s : State) (b slow : Nat) (lost : Bool) : State :=
  if quietAt s 4 then s else
  let s1 := freezeLoopVars (if 2 ≤ slow then restartsT2 s b else s)
  let s2 := if lost then
      { s1 with lp := { s1.lp with loops := s1.lp.loops.map (fun l =>
          if l.used && l.started && l.c.src = 0 then { l with skipCnt := satInc l.skipCnt } else l) } }
    else s1
  let s3 := (allFin 192).foldl (fun s n =>
    let c := s.lp.loops[n].c
    if s.lp.loops[n].used && c.src ≤ 3 && c.src ≤ slow && !(lost && c.src = 0) then takeSample s n b none [] else s) s2
  if 2 ≤ slow then loopsT2 s3 else s3

/-- The cyclic task of engine `e` at a boundary of its tier: a new snapshot, or a frozen engine that was told to go on opens its
window (R58, R76). -/
def openCycle (s : State) (e : Fin 17) : State :=
  let g := s.le[e]
  if !g.running || g.entry.isNone then s
  else if !g.frozen then (if g.cyc.phase == .idle then freezeCyclic s e else s)
  else if g.cyc.phase == .resume then
    let go := fun (g : Engine) => { g with frozen := false, frozenBy := 0, released := false, pcHold := 0 }
    if g.frozenBy = 1 then refreshHold { s with le := vmod s.le e (fun g => { go g with window := true }) }
    else refreshHold (freezeCyclic { s with le := vmod s.le e go } e)
  else s

/-- Event task `i` of engine `e` starts at a T1 boundary, its entry overhead of 48 cycles charged (R60, R112); the trigger of an engine
that this boundary has frozen waits on (R76). -/
def startEvent (s : State) (x : Fin 16 × Fin 4) : State :=
  let g := vget s.le x.1.val Engine.unused
  if !g.running then s
  else if g.frozen then { s with le := vmodN s.le x.1.val (fun g => { g with pending := g.pending.set x.2 true }) }
  else match g.evtEntry[x.2] with
  | none => s
  | some pc =>
    let r := { freezeRun s g pc (tierCnt s 1) g.firstEvt[x.2] .run with cost := 48 }
    { s with le := vmodN s.le x.1.val (fun g => { g with
        evt := g.evt.set x.2 r, firstEvt := g.firstEvt.set x.2 false, evtBegun := false : Engine }.flagged) }

/-- The snapshots of the logic engines, the SLE and the solver slots (R25 step 3); `skip` names engines restarted at this
boundary in HOLD. -/
def snapshots (s : State) (slow : Nat) (starts : List (Fin 16 × Fin 4)) (skip : List Nat) : State :=
  let s1 := if s.pwr.pf || quietAt s 6 then s else
    let t := logicEngines.foldl (fun s e =>
      let g := s.le[e]
      if 1 ≤ g.tier.toNat && g.tier.toNat ≤ slow && !skip.contains e.val then openCycle s e else s) s
    starts.foldl startEvent t
  let s2 := if 1 ≤ slow && !quietAt s 7 then
      let t := sleStart s1
      (allFin 8).foldl soEvaluate (if t.le[(16 : Fin 17)].running then openCycle t 16 else t)
    else s1
  if s.pwr.pf || quietAt s 3 then s2
  else (tiersTo slow).foldl (fun s k => requestScan (slotsTake s k) k) s2

/-! ### What leaves at a boundary -/

/-- CAN requests, telegrams and stack transfers take their data (R286, R303, R317). -/
def outgoing (s : State) (slow : Nat) : State :=
  let s1 := if quietAt s 1 then s else
    let t := canRequests s slow
    if 1 ≤ slow then canT1 t else t
  let s2 := if quietAt s 0 then s1 else telTake s1 slow
  if quietAt s 2 then s2 else stkSend s2 slow

/-- The station refreshes its Shutters at this T0 boundary (R68, R387). -/
def refreshes (s : State) : Bool :=
  s.img.running.isSome && !s.pwr.pf && !quietAt s 8 && (inRunHold s || inCmdStop s)

/-- Every bank's Shutter is refreshed with the DRIVE of the station's role (R68, R227, R232). -/
def refreshBanks (s : State) : State :=
  if refreshes s then
    let d := drivesBanks s
    (allFin 8).foldl (fun s b => refreshBank (setDrive s b d false) b) s
  else s

/-- The retain save and the time word of a T4 boundary (R81, R378). -/
def saves (s : State) (slow : Nat) : State :=
  if slow < 4 then s else
  let s1 := if inRunHold s && !s.pwr.pf then retainSave s else s
  if (tierCnt s 4).toNat % 100 = 0 then modLog s1 (fun g => writeTime g false) else s1

/-- SLEEP entry and a requested warm reset at a T1 boundary (R389, R392, R393). -/
def powerDue (s : State) (b slow : Nat) : State :=
  if slow = 0 then s else
  let s1 := if s.pwr.entry = .asked then modPwr s (fun p => { p with entry := .voting }) else s
  let s2 := if 2 ≤ slow && s.pwr.entry = .agreed then modPwr s1 (fun p => { p with entry := .slots 0, bs := b }) else s1
  if s.pwr.warmReq then warmEnter (retainSave s2) 2 else s2

/-- The two parts of the set go to a synchronised standby (R262). -/
def sendSet (s : State) (slow : Nat) (cmds : List DistCmd) : State :=
  if s.pair.state ≠ 2 || quietAt s 9 then s else
  let s1 := sendLink s (.inputSet false (setT0 s ++ setPoints s ++ setStk s slow))
  if slow = 0 then s1 else sendLink s1 (.inputSet true (setRest s slow cmds))

/-- What the boundary at tier-reference instant `b` does after handover and latch, on the station's own readings `x`, the items of a
distributed set, and the commands that the boundary carries; `pub` says that its own T0 values are published, `lost` that the T0
cycle is lost. -/
def runBoundary (s : State) (b slow : Nat) (x : BoundaryIn) (items : List SetItem) (pub lost : Bool) (cmds : List DistCmd) : State :=
  let skip := if s.stn.mode == .hold then restarted cmds else []
  let starts := startsById s (eventStarts cmds)
  let s2 := if 1 ≤ slow then forcesNow (cmds.foldl (carry b slow) s) slow cmds else s
  let s3 := startsDiscarded (changesDue s2 slow) starts
  let s4 := fieldCompare s3 (pointsMissed (items.foldl itemT0 (received (ownInputs s3 b x pub) slow)) items)
  let s5 := items.foldl itemRest (idleVars s4 slow true)
  let s6 := if quietAt s5 5 then s5 else (tiersTo slow).foldl takeBound s5
  let s7 := items.foldl itemPlaced (snapshots (loopBoundary s6 b slow lost) slow (startsNow s6 starts) skip)
  let s8 := saves (refreshBanks (outgoing s7 slow)) slow
  let s9 := sendSync (sendSet s8 slow cmds) slow
  let s10 := if 2 ≤ slow && s9.pair.switchArmed then switchOver s9 4 false else s9
  powerDue s10 b slow

/-- The accepted commands that a T1 boundary of an active station carries. -/
def takeCmds (s : State) (slow : Nat) : List DistCmd × State :=
  if slow = 0 then ([], s) else (s.stn.accepted, modStn s (fun n => { n with accepted := [] }))

/-- TIER_BOUNDARY: the next boundary of the tier reference comes. A standby hands over and latches with the active station and holds the
rest until its input set is complete (R25, R262). -/
def tierBoundary (s : State) (x : BoundaryIn) : State :=
  let b := s.stn.lastB + 20000
  let slow := slowTier b
  let s1 := countTiers (passTo (if alive s then lateWork s b else s) b) b slow
  if !alive s then countsOn s1 20000
  else
    let starts := waitingEvents s1 slow
    let s2 := closeCycles (takeTriggers (if 1 ≤ slow && !quietAt s1 2 then timingAsk s1 else s1) starts) slow
    if isStandby s then modPair s2 (fun p => { p with await := some { slow := slow, own := x, starts := starts, t0 := none } })
    else
      let (cmds, s3) := takeCmds s2 slow
      runBoundary s3 b slow x [] (!lostAt s b) (lostAt s b) (cmds ++ starts)

/-- TIER_BOUNDARY (R25); the ladder runs while the clock is sound, in a warm reset too (R19, R21). -/
def execTierBoundary (inp : BoundaryIn) (s : State) : Host.Outcome State Fault Refusal :=
  guarded s ((alive s || s.pwr.power == .warm) && s.stn.refOk && s.stn.pllLock) (fun s => tierBoundary s inp)

end Sys2Proof.Machine
end

