-- ==== Sys2Proof/Machine/CanCmds.lean ====
section
/-! DEFINITION. The meanings of the CAN events and of the writes of CAN.CTRL (R296, R299–R312). -/

namespace Sys2Proof.Machine
open Sys2Proof

/-- The CAN domain runs: the station is up and SLEEP entry has not quieted the block (bit 1 of R392's order). -/
def canUp (s : State) : Bool := alive s && !s.pwr.quiet.getLsbD 1

/-- Index of transmit object `i` within its controller (R350). -/
def txIdx (i : Fin 64) : Nat := 128 + i.val

/-- CAN_FRAME_RECEIVE: a frame arrives on bus `k`; `res` marks a recessive res bit (R300, R305). -/
def execCanFrameReceive (k : Fin 8) (f : CanFrame) (res : Bool) (s : State) : Host.Outcome State Fault Refusal :=
  let c := s.can.ctl[k]
  guarded s (canUp s && (c.state == 2#3 || c.state == 3#3) && (!f.fdf || bit c.cfg 1) && f.data.length ≤ (if f.fdf then 64 else 8))
    (fun s => if f.fdf && res then canPxe s k else canReceive s k f)

/-- CAN_FRAME_SENT: a frame completes, none being the reference message; `tdcv` is the loop delay measured in an FD frame. An FD
frame of an error-passive sender shows it in ESI (R295, R299, R303). -/
def canSent (s : State) (k : Fin 8) (obj : Option (Fin 64)) (tdcv : Nat) : State :=
  let c := s.can.ctl[k]
  let base := modCan s k (fun c => { c with txCnt := c.txCnt + 1, tec := c.tec - (if c.tec = 0 then 0 else 1), txdOff := false })
  match obj.bind (fun i => c.obj? (txIdx i)) with
  | none => base
  | some o =>
    let fd := c.sendsFd o
    let f : CanFrame := { id := o.id.truncate 29, ide := o.ide, fdf := fd, rtr := false
                          brs := fd && o.brs && !(bit c.dbt 19 && tdcv > 127), esi := fd && c.errState == 1, dlc := dlcOf o.len
                          data := fit (dlcLen o.len) (((c.reqs.find? (fun r => r.obj == o.idx)).map (fun r => r.data)).getD []) }
    let s2 := send (canTdc base k o tdcv) (.canFrame k.val f)
    let n := (aget c.acks o.idx).getD 0 + 1
    modCan s2 k (fun c =>
      let d := c.drop o.idx
      if bindVar o.ack = none then d
      else { d with acks := aset d.acks o.idx n, ackNew := if d.ackNew.contains o.idx then d.ackNew else d.ackNew ++ [o.idx] })

/-- CAN_FRAME_SENT (R299, R303). -/
def execCanFrameSent (k : Fin 8) (obj : Option (Fin 64)) (tdcv : Nat) (s : State) : Host.Outcome State Fault Refusal :=
  let c := s.can.ctl[k]
  guarded s (canUp s && c.state == 2#3 && (match obj with | some i => c.maySend (txIdx i) s.stn.tierRef.toNat | none => c.ttMaster))
    (fun s => canSent s k obj tdcv)

/-- CAN_ERROR: a bus error of kind 1…6 in the nominal or data phase, with what ISO 11898-1 adds to the counters and the
object whose frame met it (R304, R305). -/
def execCanError (k : Fin 8) (kind : Fin 6) (dataPhase : Bool) (e : ErrStep) (obj : Option (Fin 64)) (s : State) :
    Host.Outcome State Fault Refusal :=
  let c := s.can.ctl[k]
  guarded s (canUp s && (c.state == 2#3 || c.state == 3#3))
    (fun s => canError s k (BitVec.ofNat 3 (kind.val + 1)) dataPhase e (obj.map txIdx))

/-- BOFF_RECOVERED: the 128 sequences of 11 recessive bits are complete (R305). -/
def execBoffRecovered (k : Fin 8) (s : State) : Host.Outcome State Fault Refusal :=
  guarded s (canUp s && s.can.ctl[k].state == 6#3) (fun s =>
    raise (modCan s k (fun c => { c with state := canRole s, tec := 0, recv := 0, lec := 0, dlec := 0 })) (canSrc k 2))

/-- The reference message of basic cycle `c` (R306). -/
def refFrame (x : CanCtl) (c : Nat) : CanFrame :=
  { id := BitVec.ofNat 29 (fld x.refId 0 11), ide := false, fdf := false, rtr := false, brs := false, esi := false, dlc := 1,
    data := [BitVec.ofNat 8 c] }

/-- A reference instant: the time master sends, late when the bus was busy; in bus monitoring the controller keeps the same matrix
state and sends nothing (R306, R310). -/
def canRefStart (s : State) (k : Fin 8) (c : Nat) (late : Bool) : State :=
  let x := s.can.ctl[k]
  let s1 := modCan s k (fun x => { x with ttSync := true, cycle := BitVec.ofNat 6 c })
  if x.state == 3#3 then s1
  else send (modCan s1 k (fun x => { x with ttMaster := true, rfLate := if late then satInc x.rfLate else x.rfLate }))
    (.canFrame k.val (refFrame x c))

/-- CAN_REFERENCE_SEND: the reference instant of basic cycle `c` of a time master's bound matrix (R306). -/
def execCanReferenceSend (k : Fin 8) (c : Fin 64) (late : Bool) (s : State) : Host.Outcome State Fault Refusal :=
  let x := s.can.ctl[k]
  guarded s (canUp s && (x.state == 2#3 || x.state == 3#3) && x.tt == 1 && x.bound && !x.demoted && c.val < x.nbc)
    (fun s => canRefStart s k c.val late)

/-- CAN_WINDOW_OPEN: window `w` of the matrix opens (R306). -/
def execCanWindowOpen (k : Fin 8) (w : Nat) (s : State) : Host.Outcome State Fault Refusal :=
  let x := s.can.ctl[k]
  guarded s (canUp s && (x.state == 2#3 || x.state == 3#3) && x.tt ≠ 0 && x.ttSync && w < x.wins.length)
    (fun s => modCan s k (fun c => { c with win := some w, winHit := false }))

/-- A window ends (R302, R310): an exclusive reception window of a bound matrix with no valid frame is missed; in bus monitoring,
which counts nothing, the request of a transmit window that has passed is discarded. -/
def canWindowClose (s : State) (k : Fin 8) (w : Nat) : State :=
  let c := s.can.ctl[k]
  let s1 := modCan s k (fun c => { c with win := none, winHit := false })
  match c.wins[w]? with
  | none => s1
  | some x =>
    if x.kind ≠ 1 then s1
    else if x.obj < 128 then
      if c.winHit || !c.bound || c.state == 3#3 then s1
      else
        let s2 := modCan s1 k (fun c => { c with
          winMiss := satInc c.winMiss
          missed := if !c.missed.contains x.obj then c.missed ++ [x.obj] else c.missed })
        raise s2 (canSrc k 3)
    else if c.state == 3#3 then modCan s1 k (fun c => c.drop x.obj) else s1

/-- CAN_WINDOW_CLOSE (R302). -/
def execCanWindowClose (k : Fin 8) (w : Nat) (s : State) : Host.Outcome State Fault Refusal :=
  guarded s (canUp s && s.can.ctl[k].win == some w) (fun s => canWindowClose s k w)

/-- TT_SYNC_LOSS: a basic cycle plus 10 % without a valid reference message (R307). -/
def execTtSyncLoss (k : Fin 8) (s : State) : Host.Outcome State Fault Refusal :=
  let c := s.can.ctl[k]
  guarded s (canUp s && c.ttSync && !c.ttMaster) (fun s =>
    raise (modCan s k (fun c => { c with ttSync := false, win := none })) (canSrc k 7))

/-- Bus `k` detects a wake-up pattern (none) or a wake-up frame that meets WAKE_CFG (R311). -/
def wakeSeen (c : CanCtl) (f : Option CanFrame) : Bool :=
  match f with
  | none => c.wakeKind == 1
  | some f => c.wakeKind == 2 && c.wakes f

/-- The transceiver of a sleeping bus that waits for a wake-up frame counts an FD frame as an error, unless FD_TOL is set (R311). -/
def xcvCounts (c : CanCtl) (f : Option CanFrame) : Bool := c.wakeKind == 2 && !bit c.wakeCfg 8 && f.any (fun f => f.fdf)

/-- CAN_WAKE: what a sleeping bus detects (R311). -/
def execCanWake (k : Fin 8) (f : Option CanFrame) (s : State) : Host.Outcome State Fault Refusal :=
  let c := s.can.ctl[k]
  guarded s (canUp s && c.state == 4#3 && (wakeSeen c f || xcvCounts c f))
    (fun s => if wakeSeen c f then canWake s k else modCan s k (fun c => { c with xcvErr := c.xcvErr + 1 }))

/-- TXD_TIMEOUT: the transmitter releases the bus until TX reads recessive (R296). -/
def execTxdTimeout (k : Fin 8) (s : State) : Host.Outcome State Fault Refusal :=
  guarded s (canUp s && s.can.ctl[k].state == 2#3) (fun s => modCan s k (fun c => { c with txdOff := true }))

/-- ARBITRATION_LOSS: a frame loses arbitration (R304, R306). A reference message that loses to a frame of another kind is sent
when the bus is idle again, as the standard retransmits it. -/
def execArbitrationLoss (k : Fin 8) (x : ArbLoser) (s : State) : Host.Outcome State Fault Refusal :=
  let c := s.can.ctl[k]
  guarded s (canUp s && c.state == 2#3 && (match x with | .object i => c.maySend (txIdx i) s.stn.tierRef.toNat | .reference _ => c.ttMaster))
    (fun s => match x with
      | .object i => canOneShot s k (txIdx i)
      | .reference true => raise (modCan s k (fun c => { c with conflict := true, demoted := true, ttMaster := false })) (canSrc k 7)
      | .reference false => s)

/-- CAN_INTEGRATED: 11 recessive bits seen (R305, R310, R311, R312). -/
def execCanIntegrated (k : Fin 8) (s : State) : Host.Outcome State Fault Refusal :=
  let c := s.can.ctl[k]
  guarded s (canUp s && (c.state == 1#3 || (c.state == 3#3 && canRole s == 2#3))) (fun s =>
    modCan s k (fun c => if c.waking then { c with integ := true, txdOff := false }
                         else { c with state := canRole s, txdOff := false }))

/-- Address of CAN.CAN_k.CTRL. -/
def canCtrlAddr (k : Fin 8) : Nat := 0xE0018 + k.val * 0x1000

/-- BOFF_REC (R305). -/
def execBoffRec (sess : Fin 4) (k : Fin 8) (s : State) : Host.Outcome State Fault Refusal :=
  keyedCmd s sess (canCtrlAddr k) (fun s => boffWrite s k)
/-- CAN_SLEEP_REQ (R311). -/
def execCanSleepReq (sess : Fin 4) (k : Fin 8) (s : State) : Host.Outcome State Fault Refusal :=
  keyedCmd s sess (canCtrlAddr k) (fun s => sleepWrite s k)
/-- WAKE_REQ (R311). -/
def execWakeReq (sess : Fin 4) (k : Fin 8) (s : State) : Host.Outcome State Fault Refusal :=
  keyedCmd s sess (canCtrlAddr k) (fun s => wakeWrite s k)
/-- CAN_CLR_CNT; the register holds RWK fields, so R10 asks for the window (R7, R10). -/
def execCanClrCnt (sess : Fin 4) (k : Fin 8) (s : State) : Host.Outcome State Fault Refusal :=
  keyedCmd s sess (canCtrlAddr k) (fun s => canClr s k)

end Sys2Proof.Machine
end

