-- ==== Sys2Proof/Machine/FldCmds.lean ====
section
/-! DEFINITION. The meanings of the field commands (R219–R232). -/

namespace Sys2Proof.Machine
open Sys2Proof

/-- The field side of a bank works: it is powered, which a warm reset does not change (R230). -/
def fieldUp (s : State) (b : Fin 8) : Bool :=
  (s.pwr.power == .run || s.pwr.power == .warm) && s.fld.banks[b].fsOk

/-- The field side of a bank is powered, its link across the barrier present or not. -/
def fieldPowered (s : State) (b : Fin 8) : Bool :=
  (s.pwr.power == .run || s.pwr.power == .warm) && s.fld.banks[b].fsPow

/-- A diagnostic of R224 that applies to a point's mode and is detected after a lasting time. -/
def diagApplies (p : Pt) (d : Diag) : Bool :=
  let ow := bit p.cfg 11
  match d with
  | .openWire => ([1, 5, 6, 2].contains p.mode && ow) || (p.mode == 4 && p.sub == 0)
  | .short => (p.mode == 4 && p.sub == 1) || (p.mode == 3 && p.sub ≤ 1)
  | .over => false
  | .rbMis => p.isOut
  | .supply => p.isOut

/-- DIAG_DETECT: a condition has lasted its detection time (R224). -/
def execDiagDetect (n : Fin 96) (d : Diag) (s : State) : Host.Outcome State Fault Refusal :=
  let p := s.fld.pts[n]
  guarded s (fieldPowered s (bankOf n) && diagApplies p d
      && (d ≠ .supply || s.fld.banks[bankOf n].lp ≠ 2#2))
    (fun s => diagSet s n d)

/-- SHORT_CIRCUIT_SHUTOFF: the switch of an output that is on shuts off and latches off (R219, R224). -/
def execShortCircuitShutoff (n : Fin 96) (s : State) : Host.Outcome State Fault Refusal :=
  let p := s.fld.pts[n]
  guarded s (fieldPowered s (bankOf n) && p.isSwitch && p.prot == 0 && (driven s n).isSome && driven s n ≠ some 0)
    (fun s => diagSet (modPt s n (fun p => { p with prot := 1 })) n .short)

/-- BANK_OVERLOAD: every DO and PWM point of the bank is latched off (R223). -/
def execBankOverload (b : Fin 8) (s : State) : Host.Outcome State Fault Refusal :=
  guarded s (fieldPowered s b && (pointsOf b).any (fun n => s.fld.pts[n].isSwitch))
    (fun s =>
      let s1 := modPtsOf s b (fun p => if p.isSwitch && p.prot = 0 then { p with prot := 2 } else p)
      raise (modBank s1 b (fun k => { k with ovl := true })) (bankSrc b 15))

/-- LPLUS_CHANGE: L+_b is measured at `mv` mV with `ma` mA of output current; its class follows R226. -/
def execLplusChange (b : Fin 8) (mv ma : Nat) (s : State) : Host.Outcome State Fault Refusal :=
  guarded s (fieldPowered s b) (fun s =>
    let old := s.fld.banks[b].lp
    let c := supplyClass 12000 16000 mv old
    let s1 := modBank s b (fun k => { k with lp := c, volt := satNat 16 (mv / 10), curr := satNat 16 ma })
    let s2 := if c = 2 then modPtsOf s1 b (fun p => if p.isOut then { p with diag := p.diag &&& 0b01111#5 } else p) else s1
    if c ≠ old && c ≠ 2 then raise s2 (bankSrc b 14) else s2)

/-- FIELD_SIDE_FAIL: the converter output (`x.conv`) or the barrier link has been lost for 100 µs; without the converter output every
output is de-energised, without the link alone the field side holds its outputs until its Shutter expires (R224, R226, R229). -/
def execFieldSideFail (x : SideLoss) (s : State) : Host.Outcome State Fault Refusal :=
  let b := x.bank
  let conv := x.conv
  guarded s (fieldUp s b || (fieldPowered s b && conv)) (fun s =>
    let s0 := modBank s b (fun k => { k with fsOk := false })
    let s1 := if conv then modBank (modPtsOf s0 b Pt.deEnergised) b (fun k => { k with fsPow := false, open_ := false }) else s0
    let s2 := (pointsOf b).foldl (fun s n => if s.fld.pts[n].mode ≠ 0 then diagSet s n .supply else s) s1
    raise s2 (bankSrc b 15))

/-- FIELD_SIDE_RECOVER: the bank starts as after power-on; latched diagnostics and counts stay (R226). -/
def execFieldSideRecover (b : Fin 8) (s : State) : Host.Outcome State Fault Refusal :=
  guarded s ((s.pwr.power == .run || s.pwr.power == .warm) && !s.fld.banks[b].fsOk) (fun s =>
    let s1 := fieldSideStart s b false
    modPtsOf s1 b (fun p => if p.isOut && s.fld.banks[b].lp ≠ 2#2 then p else { p with diag := p.diag &&& 0b01111#5 }))

/-- SHUTTER_EXPIRE: no refresh came within the timeout (R227, R229). -/
def execShutterExpire (b : Fin 8) (s : State) : Host.Outcome State Fault Refusal :=
  guarded s (fieldPowered s b && s.fld.banks[b].open_) (fun s => closeBank s b)

/-- AO_WAIT_EXPIRE: the wait of R232 has elapsed and the AO points drive. -/
def execAoWaitExpire (b : Fin 8) (s : State) : Host.Outcome State Fault Refusal :=
  guarded s (fieldPowered s b && s.fld.banks[b].aoWait) (fun s => modBank s b (fun k => { k with aoWait := false }))

/-- PWM_PERIOD_START: a period begins and applies the latched duty (R221). -/
def execPwmPeriodStart (n : Fin 96) (s : State) : Host.Outcome State Fault Refusal :=
  guarded s (fieldPowered s (bankOf n) && s.fld.pts[n].mode == 7 && s.fld.pts[n].pwmRun)
    (fun s => modPt s n Pt.periodStart)

/-- FLD.BANK_b.CTRL: CLR_DIAG clears the latched bits of every point, CLR_CNT the counts (R7, R225). -/
def fldCtrlWrite (s : State) (b : Fin 8) (diag cnt : Bool) : State :=
  let s1 := if cnt then modBank (modPtsOf s b (fun p => { p with diagCnt := 0 })) b (fun k => { k with closeCnt := 0 }) else s
  if diag then (pointsOf b).foldl (fun s n => clearLatched s n 0b11111#5) s1 else s1

/-- CLR_DIAG (R225). -/
def execClrDiag (sess : Fin 4) (b : Fin 8) (s : State) : Host.Outcome State Fault Refusal :=
  openCmd s sess (fun s => fldCtrlWrite s b true false)
/-- FLD_CLR_CNT (R7). -/
def execFldClrCnt (sess : Fin 4) (b : Fin 8) (s : State) : Host.Outcome State Fault Refusal :=
  openCmd s sess (fun s => fldCtrlWrite s b false true)

end Sys2Proof.Machine
end

