-- ==== Sys2Proof/Machine/LoopCmds.lean ====
section
/-! DEFINITION. The meanings of the loop commands (R133–R135, R155–R158). -/

namespace Sys2Proof.Machine
open Sys2Proof

/-- A sample of the loop that meets `p` stands. -/
def hasSample (s : State) (n : Fin 192) (p : LSample → Bool) : Bool := s.lp.loops[n].samples.any p

/-- Every sample of an engine whose release instant is at most `t` is released (R134). -/
def releaseTo (s : State) (e : Fin 24) (t : Nat) : State :=
  (loopsOfEng e).foldl (fun s n => modLoop s n (fun l => { l with
    samples := l.samples.map (fun x => if x.phase == .taken && releaseAt l x ≤ t then { x with phase := .released } else x) })) s

/-- What R132 puts before a loop output at instant `t`: an angle event of the same fabric cycle, and the output of a loop with a lower
number. -/
def outputWaits (s : State) (n : Fin 192) (t : Nat) : Bool :=
  (allFin 128).any (fun m => canFire s m && s.ang.evt[m].due == some t)
    || (allFin 192).any (fun m => m.val < n.val &&
        (match s.lp.loops[m].samples.head? with
         | some x => x.phase == .done && outputAt s.lp.loops[m] x == t
         | none => false))

/-- LOOP_SAMPLE_RELEASE: the loop's sample is released at its instant plus the release offset, with every other of its engine that is
released by then; the engine then takes the one with the earliest deadline (R133, R134). -/
def execLoopSampleRelease (n : Fin 192) (s : State) : Host.Outcome State Fault Refusal :=
  guarded s (alive s && hasSample s n (fun x => x.phase == .taken)) (fun s =>
    let l := s.lp.loops[n]
    let t := ((firstSample l (fun x => x.phase == .taken)).map (releaseAt l)).getD 0
    startNext (releaseTo (passTo s t) (engOf n) t) (engOf n))

/-- LOOP_SAMPLE_COMPLETE: the sample that the engine computes completes, `slack` fabric cycles before its deadline (R134). -/
def execLoopSampleComplete (n : Fin 192) (slack : Nat) (s : State) : Host.Outcome State Fault Refusal :=
  guarded s (alive s && hasSample s n (fun x => x.phase == .running)) (fun s => completeSample s n slack)

/-- LOOP_SAMPLE_MISS: a sample is not complete by its completion deadline (R135). -/
def execLoopSampleMiss (n : Fin 192) (s : State) : Host.Outcome State Fault Refusal :=
  guarded s (alive s && hasSample s n (fun x => x.phase != .done)) (fun s =>
    let l := s.lp.loops[n]
    let t := ((firstSample l (fun x => x.phase != .done)).map (deadline l)).getD 0
    missSample (passTo s t) n)

/-- LOOP_OUTPUT: the output instant of a completed sample, after what R132 puts before it in that fabric cycle (R132, R133, R157). -/
def execLoopOutput (n : Fin 192) (s : State) : Host.Outcome State Fault Refusal :=
  let t := (s.lp.loops[n].samples.head?.map (outputAt s.lp.loops[n])).getD 0
  guarded s (alive s && (s.lp.loops[n].samples.head?.map (fun x => x.phase == .done)).getD false && beforeNext s t && !outputWaits s n t)
    (fun s => outputSample (passTo s t) n)

/-- LOOP_STALL: STALL_T2 consecutive T2 boundaries have passed without a sample (R156). -/
def execLoopStall (n : Fin 192) (s : State) : Host.Outcome State Fault Refusal :=
  let l := s.lp.loops[n]
  guarded s (alive s && l.used && l.started && l.c.src == 4 && l.c.stallT2 != 0 && !l.stall && l.noSample ≥ l.c.stallT2)
    (fun s => modLoop s n (fun l => { l with stall := true }))

/-- LOOP_MEM_ERR: an uncorrectable ECC error in the loop's memory (R155). -/
def execLoopMemErr (n : Fin 192) (s : State) : Host.Outcome State Fault Refusal :=
  guarded s (alive s && s.lp.loops[n].used)
    (fun s => loopFault (modLEng s (engOf n) (fun g => { g with memErr := true })) n 2)

/-- LOOP_RELOAD_DONE: the coefficients and tables stand again as the active image gives them (R158). -/
def execLoopReloadDone (n : Fin 192) (s : State) : Host.Outcome State Fault Refusal :=
  guarded s (alive s && s.lp.loops[n].reload) (fun s => modLoop s n (fun l => { l with reload := false }))

/-- Base address of a loop engine's registers (R4). -/
def lpAddr (e o : Nat) : Nat := 0xC0000 + e * 0x800 + o
/-- Address of a loop's CTRL. -/
def loopCtrlAddr (n : Fin 192) : Nat := lpAddr (n.val / 8) (0x100 + (n.val % 8) * 0x40 + 0x30)

/-- A write of LOOP.LP_e.LOOP_l.CTRL (R7, R158): a RESTART travels only from the active station. -/
def loopCtrlWrite (s : State) (n : Fin 192) (restart clr : Bool) : State :=
  let s1 := if clr then modLoop s n (fun l => { l with missCnt := 0, consec := 0, skipCnt := 0 }) else s
  if restart && !isStandby s && s.lp.loops[n].used && !s.lp.loops[n].restart then
    accept (modLoop s1 n (fun l => { l with restart := true, restartReady := false, restartT := none })) (.loopRestart n)
  else s1

/-- LOOP_RESTART (R158). -/
def execLoopRestart (sess : Fin 4) (n : Fin 192) (s : State) : Host.Outcome State Fault Refusal :=
  keyedCmd s sess (loopCtrlAddr n) (fun s => loopCtrlWrite s n true false)
/-- LOOP_CLR_CNT clears MISS_CNT and SKIP_CNT; the register holds an RWK field (R7, R10). -/
def execLoopClrCnt (sess : Fin 4) (n : Fin 192) (s : State) : Host.Outcome State Fault Refusal :=
  keyedCmd s sess (loopCtrlAddr n) (fun s => loopCtrlWrite s n false true)
/-- LOOP_ENG_CLR_STAT sets MIN_SLACK to 0xF_FFFF (R7). -/
def execLoopEngClrStat (sess : Fin 4) (e : Fin 24) (s : State) : Host.Outcome State Fault Refusal :=
  openCmd s sess (fun s => modLEng s e (fun g => { g with minSlack := 0xFFFFF }))

end Sys2Proof.Machine
end

