-- ==== Sys2Proof/Machine/NetCmds.lean ====
section
/-! DEFINITION. The meanings of the network events (R314–R321, R329, R382). -/

namespace Sys2Proof.Machine
open Sys2Proof

/-- The NET domain runs (slot 0 of R394). -/
def netUp (s : State) : Bool := alive s && !s.pwr.quiet.getLsbD 0

/-- TELEGRAM_SEND: the scheduled instant of a telegram comes; both leaves take a copy, a standby only counts (R315, R317). -/
def telSend (s : State) (t : Fin 64) (x : TxTel) (ws : List TWord) : State :=
  let s1 := modTx s t (fun y => { y with seq := y.seq + 1, due := none })
  if telSends s then sendLeaves s1 x.mac (telMade s.net.stnId x.kind x.telId x.dst (x.seq + 1) ws) else s1

/-- TELEGRAM_SEND (R315, R317). -/
def execTelegramSend (t : Fin 64) (s : State) : Host.Outcome State Fault Refusal :=
  match s.net.tx[t] with
  | some x => match x.due with
    | some ws => guarded s (netUp s && !s.pwr.pf && (telSends s || isStandby s)) (fun s => telSend s t x ws)
    | none => guarded s false (fun s => s)
  | none => guarded s false (fun s => s)

/-- TELEGRAM_RECEIVE: one copy arrives on NET_A or NET_B; a frame for another address, or of another EtherType, is no telegram of
this station (R316, R318, R320, R323, R324). -/
def execTelegramReceive (leafB : Bool) (f : TelFrame) (s : State) : Host.Outcome State Fault Refusal :=
  let p : Fin 3 := if leafB then 1 else 0
  guarded s (netUp s && portUp s p && macTaken s p f.mac && f.etype == s.net.etype) (fun s =>
    match telFor s f.tel with
    | none => s
    | some r => match s.net.rx[r] with
      | some x => if isStandby s then telListen s r x leafB f else telCopy s r x leafB f
      | none => s)

/-- Whether the decisions on held SEQs at station time `t` leave accepted words to enter; `disc` says that a discard's safe values
stand, `acc` that words wait already. -/
def heldAccept (cmpNs t : Nat) : List HeldSeq → Bool → Bool → Bool
  | [], _, acc => acc
  | h :: rest, disc, acc => match h.decision (t ≥ h.at_.toNat + cmpNs) with
    | none => acc
    | some (.vals true _ _) => heldAccept cmpNs t rest false true
    | some (.vals false _ _) => heldAccept cmpNs t rest disc (acc || !disc)
    | some .safe => heldAccept cmpNs t rest true false

/-- An acceptance of `x` is due at the boundary that comes at station time `t` (R319). -/
def telWillAccept (x : RxTel) (t : Nat) : Bool :=
  let waits := match x.enter with | some (.vals _ _ _) => true | _ => false
  heldAccept x.cmpNs t x.held (x.discarded || x.lateDiff) (waits && !x.lateDiff)

/-- TELEGRAM_WATCHDOG: WDG_CYC boundaries have passed without an accepted telegram; the command comes at the boundary's
instant, before what the boundary itself does (R321). -/
def execTelegramWatchdog (r : Fin 128) (s : State) : Host.Outcome State Fault Refusal :=
  match s.net.rx[r] with
  | some x =>
    guarded s (netUp s && !isStandby s && !x.wdgExp && x.left == 1#16 && !telWillAccept x s.stn.time.toNat)
      (fun s => modRx (telExpire s r x) r (fun y => { y with left := 1 }))
  | none => guarded s false (fun s => s)

/-- ARP_REQUEST for the port's address (R314). -/
def execArpRequest (p : Fin 3) (s : State) : Host.Outcome State Fault Refusal :=
  guarded s (netUp s && portUp s p) (fun s => enqueue s p .arp)

/-- ICMP_ECHO: at most ten a second are answered at each port (R314). -/
def execIcmpEcho (p : Fin 3) (s : State) : Host.Outcome State Fault Refusal :=
  guarded s (netUp s && portUp s p) (fun s =>
    let old := s.net.ports[p].echoes.filter (fun t => s.stn.time.toNat < t.toNat + 1000000000)
    if old.length < 10 then enqueue (modPort s p (fun n => { n with echoes := s.stn.time :: old })) p .echo
    else modPort s p (fun n => { n with echoes := old }))

/-- NET_LINK_CHANGE (R313). -/
def execNetLinkChange (p : Fin 3) (up : Bool) (s : State) : Host.Outcome State Fault Refusal :=
  guarded s (alive s && s.net.ports[p].link != up) (fun s =>
    raise (modPort s p (fun n => { n with link := up, downCnt := if up then n.downCnt else satInc n.downCnt }))
      (if p = 2 then netSrc 4 else netSrc (2 * p.val + b2n up)))

/-- PLACED_FRAME_SEND: the oldest placed frame of a port leaves when it fits before the next telegram (R315). -/
def execPlacedFrameSend (p : Fin 3) (s : State) : Host.Outcome State Fault Refusal :=
  match s.net.ports[p].queue with
  | f :: rest => guarded s (alive s && s.net.ports[p].link && frameFits s p f) (fun s =>
      send (modPort s p (fun n => { n with queue := rest })) (.netFrame p.val f))
  | [] => guarded s false (fun s => s)

/-- A port takes frames of 64 to 1,522 bytes; a longer one is dropped and counted, a shorter one is no frame (R313). -/
def DropWhy.counted : DropWhy → Bool
  | .length n => n > 1522
  | _ => true

/-- DROPPED_FRAME: a frame that R313 or R314 drops is counted in NET.DROP. -/
def execDroppedFrame (x : DropFrame) (s : State) : Host.Outcome State Fault Refusal :=
  guarded s (netUp s && s.net.ports[x.port].link && x.why.counted)
    (fun s => raise (modNet s (fun n => { n with drop := n.drop + 1 })) (netSrc 14))

/-- NET_CLR_CNT (R7). -/
def execNetClrCnt (sess : Fin 4) (s : State) : Host.Outcome State Fault Refusal := openCmd s sess netClr

/-- SESSION_TIMEOUT: 30 s without a valid datagram (R329). -/
def execSessionTimeout (sess : Fin 4) (s : State) : Host.Outcome State Fault Refusal :=
  guarded s (alive s && s.net.sess[sess].isSome) (fun s => closeSession s sess)

/-- CHALLENGE_LAPSE: 5 s without the PROOF (R328). -/
def execChallengeLapse (id : Word) (s : State) : Host.Outcome State Fault Refusal :=
  guarded s (alive s && s.net.chals.any (fun c => c.id == id)) (fun s =>
    modNet s (fun n => { n with chals := n.chals.filter (fun c => c.id ≠ id) }))

/-- HELLO_LOCKOUT_END: 60 s after the fifth failed proof of an address (R329). -/
def execHelloLockoutEnd (ip : Word) (s : State) : Host.Outcome State Fault Refusal :=
  guarded s (alive s && s.net.lockouts.contains ip) (fun s =>
    modNet s (fun n => { n with lockouts := n.lockouts.filter (fun x => x ≠ ip) }))

/-- TRANSFER_ABANDON: 30 s without a chunk (R333). -/
def execTransferAbandon (s : State) : Host.Outcome State Fault Refusal :=
  guarded s (alive s && s.net.transfer.isSome) (fun s => modNet s (fun n => { n with transfer := none }))

/-- CLEAR_CHALLENGE_LAPSE (R382). -/
def execClearChallengeLapse (s : State) : Host.Outcome State Fault Refusal :=
  guarded s (alive s && s.net.clearNonce.isSome) (fun s => modNet s (fun n => { n with clearNonce := none }))

end Sys2Proof.Machine
end

