-- ==== Sys2Proof/Machine/PwrCmds.lean ====
section
/-! DEFINITION. The meanings of the power, reset, clock and SLEEP commands (R19, R384–R404). -/

namespace Sys2Proof.Machine
open Sys2Proof

/-- POWER_ON: a feed has been at or above 17.0 V for 20 ms and the power-on reset ends (R384). -/
def execPowerOn (x : PowerIn) (s : State) : Host.Outcome State Fault Refusal :=
  guarded s ((s.pwr.power == .held || s.pwr.power == .off) && (x.feedA ≥ 17000 || x.feedB ≥ 17000)) (fun s => powerOn s x)

/-- Both feeds are absent. -/
def feedsAbsent (s : State) : Bool := s.pwr.feedA == 0 && s.pwr.feedB == 0

/-- A feed is measured at `mv` mV (R384, R386): losses, returns and ride-throughs. -/
def feedChange (s : State) (b : Bool) (mv : Nat) : State :=
  let old := if b then s.pwr.feedB else s.pwr.feedA
  let c := supplyClass 16000 18000 mv old
  let v : BitVec 16 := satNat 16 (mv / 10)
  let s1 := modPwr s (fun p => if b then { p with feedB := c, bV := v } else { p with feedA := c, aV := v })
  if c = 0#2 && old ≠ 0#2 then
    raise (modPwr s1 (fun p => if b then { p with dropB := satInc p.dropB } else { p with dropA := satInc p.dropA }))
      (pwrSrc (b2n b))
  else if c ≠ 0#2 && old = 0#2 then
    let s2 := raise s1 (pwrSrc 2)
    if feedsAbsent s && !s.pwr.pf then raise (modPwr s2 (fun p => { p with ride := satInc p.ride })) (pwrSrc 4) else s2
  else s1

/-- FEED_CHANGE; in SLEEP the loss of the last feed is OFF (R404). -/
def execFeedChange (b : Bool) (mv : Nat) (s : State) : Host.Outcome State Fault Refusal :=
  match s.pwr.power with
  | .held => .next s
  | .off => .next s
  | .sleep =>
    let old := if b then s.pwr.feedB else s.pwr.feedA
    let c := supplyClass 16000 18000 mv old
    let s1 := modPwr s (fun p => if b then { p with feedB := c, bV := satNat 16 (mv / 10) } else { p with feedA := c, aV := satNat 16 (mv / 10) })
    finish s (if feedsAbsent s1 then unpowered s1 .off else s1)
  | .run => guarded s true (fun s => feedChange s b mv)
  | .warm => guarded s true (fun s => feedChange s b mv)

/-- Step 2 of R387 and what step 3 does at once: the retain save, the abandoned image write and the discarded switch. -/
def powerFail (s : State) : State :=
  let s1 := abandonSleep (modPwr s (fun p => { p with pf := true, pfDone := false, pfCnt := satInc p.pfCnt }))
  let s2 := raise (logLedger s1 0x8000 noSrc sevCritical (leN 2 s.pwr.aV.toNat ++ leN 2 s.pwr.bV.toNat)) (pwrSrc 3)
  let s3 := retainSave (discardSwitch s2)
  let s4 := modImg s3 (fun i => { i with wState := 0, wBytes := [], wWait := i.wWait.filter (fun x => x.2.1), wProgress := 0, wOwnDone := false, wOlc := false })
  if s.pair.state = 2#3 then
    raise (modPair (reportFault s4) (fun p => { p with state := 6, faulty := true })) (psSrc 4)
  else s4

/-- POWER_FAIL: every feed has been absent for 5 ms (R387). -/
def execPowerFail (s : State) : Host.Outcome State Fault Refusal :=
  guarded s (alive s && feedsAbsent s && !s.pwr.pf) powerFail

/-- Steps 3 and 5 of R387: every record, those of the reset entry too, is flushed, the time word carries the mark, and the station
enters reset. -/
def powerFailFlushed (s : State) : State :=
  let s1 := modLog (flushNow (logPass (logPass (resetEntries s))) .powerFail) (fun g => writeTime g true)
  modPwr (resetNow s1 7) (fun p => { p with pfDone := true })

/-- POWER_FAIL_FLUSH_DONE (R387). -/
def execPowerFailFlushDone (s : State) : Host.Outcome State Fault Refusal :=
  guarded s (alive s && s.pwr.pf && !s.pwr.pfDone) powerFailFlushed

/-- A warm reset ends (R389), and the inputs start afresh (R214, R216, R218). -/
def warmEnd (s : State) : State :=
  raise (modPwr (inputsRestart s) (fun p => { p with power := .run, warmCnt := satInc p.warmCnt, pf := false, pfDone := false })) (pwrSrc 7)

/-- POWER_FAIL_RECOVERY: a feed has held 17.0 V for 20 ms before the hold-up was exhausted, and no clock fault holds the reset (R19,
R388). -/
def execPowerFailRecovery (s : State) : Host.Outcome State Fault Refusal :=
  guarded s (s.pwr.power == .warm && s.pwr.pf && s.pwr.pfDone && s.stn.refOk && s.stn.pllLock
    && (s.pwr.aV.toNat ≥ 1700 || s.pwr.bV.toNat ≥ 1700)) warmEnd

/-- HOLDUP_END: nothing powers the module any more (R387 step 6). -/
def execHoldupEnd (s : State) : Host.Outcome State Fault Refusal :=
  if (s.pwr.power == .run || s.pwr.power == .warm) && feedsAbsent s then finish s (unpowered s .off) else .next s

/-- NRESET: nRESET has been low for 10 µs (R389 cause 1). -/
def execNreset (s : State) : Host.Outcome State Fault Refusal :=
  guarded s ((alive s || s.pwr.power == .warm) && !s.pwr.pf) (fun s => warmEnter s 1)

/-- A reset of cause 3 or 4 with its CRITICAL record (R389). -/
def criticalReset (s : State) (cause : Nat) : State :=
  warmEnter (logLedger s 0x8001 noSrc sevCritical [BitVec.ofNat 8 cause]) (BitVec.ofNat 4 cause)

/-- SUP_WATCHDOG (R389 cause 3). -/
def execSupWatchdog (s : State) : Host.Outcome State Fault Refusal :=
  guarded s (alive s && !s.pwr.pf) (fun s => criticalReset s 3)
/-- LOCKSTEP_MISMATCH (R389 cause 4). -/
def execLockstepMismatch (s : State) : Host.Outcome State Fault Refusal :=
  guarded s (alive s && !s.pwr.pf) (fun s => criticalReset s 4)

/-- WARM_RESET_END: at least 1 ms has passed and what held the reset is gone (R19, R389). -/
def execWarmResetEnd (s : State) : Host.Outcome State Fault Refusal :=
  guarded s (s.pwr.power == .warm && !s.pwr.pf && s.stn.refOk && s.stn.pllLock) warmEnd

/-- A clock fault (R19): which of reference and lock is missing at detection the command does not say. A warm reset in progress goes on
and is held; the power-fail sequence completes and its reset is held (R387, R389). -/
def clockFault (s : State) : State :=
  let (a, s1) := drawBool s
  let (b, s2) := drawBool s1
  let lock := b && !a
  let s3 := modStn s2 (fun n => { n with refLoss := true, refOk := a, pllLock := lock })
  let s4 := raise (logLedger s3 0x5001 noSrc sevMajor [BitVec.ofNat 8 (b2n a), BitVec.ofNat 8 (b2n lock)]) (supSrc 6)
  if s.pwr.power == .warm || s.pwr.pf then s4 else
  let s5 := if s.pair.member then reportFault s4 else s4
  let s6 := if s.pair.state = 2#3 || s.pair.state = 3#3 then raise (modPair s5 (fun p => { p with state := 6, faulty := true })) (psSrc 4) else s5
  warmEnter s6 6

/-- CLOCK_FAULT (R19). -/
def execClockFault (s : State) : Host.Outcome State Fault Refusal := 
  guarded s (alive s || s.pwr.power == .warm) clockFault

/-- CLOCK_RECOVERED: the reference has been present and the PLL locked for 10 ms (R19); the boundaries that went by without
the fabric clock are past (R21). -/
def execClockRecovered (s : State) : Host.Outcome State Fault Refusal :=
  guarded s (s.pwr.power == .warm && !(s.stn.refOk && s.stn.pllLock)) (fun s =>
    let b := max s.stn.lastB (refNow s / 20000 * 20000)
    modStn (countsOn s (b - s.stn.lastB)) (fun n => { n with refOk := true, pllLock := true, lastB := b }))

/-! ### SLEEP -/

/-- SLEEP_VOTE_DONE (R392). -/
def execSleepVoteDone (s : State) : Host.Outcome State Fault Refusal :=
  guarded s (alive s && s.pwr.entry == .voting) sleepVote

/-- The slot that phase 2 reaches next. -/
def Entry.slot : Entry → Option Nat
  | .slots n => Option.some n
  | _ => Option.none
/-- Blocks still to be restored. -/
def Entry.left : Entry → Option Nat
  | .restore n => Option.some n
  | _ => Option.none

/-- SLEEP_QUIESCE_SLOT: the next slot of phase 2 opens (R394). -/
def execSleepQuiesceSlot (s : State) : Host.Outcome State Fault Refusal :=
  guarded s (alive s && s.pwr.entry.slot.isSome) (fun s => sleepSlot s (s.pwr.entry.slot.getD 0))

/-- SLEEP_RESTORE: one block is restored, in reverse slot order (R395). -/
def execSleepRestore (s : State) : Host.Outcome State Fault Refusal :=
  guarded s (alive s && s.pwr.entry.left.isSome) (fun s => sleepRestoreOne s (s.pwr.entry.left.getD 1))

/-- A source of R399 is active. -/
def wakeValid (s : State) (pins : BitVec 4) (can : BitVec 8) (nreset : Bool) : Bool :=
  nreset || (match s.pwr.retention with
    | some r => pins &&& r.pinEn ≠ 0 || (allFin 8).any (fun k => can.getLsbD k.val && (r.can[k].wakeKind == 1 || r.can[k].wakeKind == 2))
    | none => false)

/-- WAKE_SOURCE: `pins`, `can` and `nreset` are the sources active at the wake instant, `cnt` the always-on count, `ok` the CRC of
the retention copy (R399, R400, R402). -/
def execWakeSource (pins : BitVec 4) (can : BitVec 8) (nreset : Bool) (cnt : BitVec 64) (ok : Bool) (x : PowerIn) (s : State) :
    Host.Outcome State Fault Refusal :=
  if s.pwr.power == .sleep && wakeValid s pins can nreset then finish s (wakeUp s pins can nreset cnt ok x) else .next s

/-! ### PWR.CTRL -/

/-- WARM_RESET written: pending until the next T1 boundary (R389). -/
def warmWrite (s : State) : State := modPwr s (fun p => { p with warmReq := true })

/-- SLEEP_REQ written; a second one during an entry is refused (R392, R397). -/
def sleepReqWrite (s : State) : State :=
  if s.pwr.entry = .none then modPwr s (fun p => { p with sleepReq := true, entry := .asked }) else s

/-- PWR.CTRL.CLR_CNT. -/
def pwrClr (s : State) : State :=
  modPwr s (fun p => { p with dropA := 0, dropB := 0, ride := 0, pfCnt := 0, warmCnt := 0, refuseCnt := 0 })

/-- A write of PWR.CTRL. -/
def pwrCtrlWrite (s : State) (v : Word) : State :=
  let s1 := modPwr (if bit v 3 then pwrClr s else s) (fun p => { p with drowse := bit v 2 })
  let s2 := if bit v 0 then warmWrite s1 else s1
  if bit v 1 then sleepReqWrite s2 else s2

/-- DROWSE_EN as it stands, which a write of one request bit carries along. -/
def pwrKeep (s : State) (i : Nat) : Word := pack [(2, 1, b2n s.pwr.drowse), (i, 1, 1)]

/-- WARM_RESET (R389). -/
def execWarmReset (sess : Fin 4) (s : State) : Host.Outcome State Fault Refusal :=
  keyedCmd s sess 0x5000C (fun s => pwrCtrlWrite s (pwrKeep s 0))
/-- SLEEP_REQ (R392). -/
def execSleepReq (sess : Fin 4) (s : State) : Host.Outcome State Fault Refusal :=
  keyedCmd s sess 0x5000C (fun s => pwrCtrlWrite s (pwrKeep s 1))
/-- PWR_CLR_CNT (R7). -/
def execPwrClrCnt (sess : Fin 4) (s : State) : Host.Outcome State Fault Refusal :=
  keyedCmd s sess 0x5000C (fun s => pwrCtrlWrite s (pwrKeep s 3))

end Sys2Proof.Machine
end

