-- ==== Sys2Proof/Machine/FabCmds.lean ====
section
/-! DEFINITION. The meanings of the fabric commands: placed packets, ages, and timed transfers that miss their deadline
(R46, R49, R51, R53–R55). -/

namespace Sys2Proof.Machine
open Sys2Proof

/-- Raises on their way to the stack master are issued: soon for PRIO 2 and 3, background for PRIO 0 and 1, with the AGE that has grown since
the raise; after them the transfers `new` that requester ports want to make (R54, R409). -/
def plBegin (s : State) (new : List PlReq) : State :=
  let top := treeStn s (topPair 6 s.stk.members s.stk.pairNum.toNat)
  let l := s.evr.out.map (fun x =>
    let soon : Bool := 2 ≤ x.2.1
    (plOver s 0 soon 10 top 1, min (plAge0 soon + (s.stn.time.toNat - x.2.2) / 8) 0x7FFFFF))
  plTake (plTakeAged { s with evr := { s.evr with out := [] } } l) new

/-- PLACED_PACKET_GRANT: an arbiter grants one waiting packet, which goes on to the next arbiter or, granted by its target's,
to the target; `new` are the transfers that requester ports want to make since, behind those of the block itself (R53). -/
def execPlacedPacketGrant (t : PlTarget) (new : List PlReq) (s : State) : Host.Outcome State Fault Refusal :=
  guarded s (alive s) (fun s =>
    let s1 := plBegin s new
    match plPick s1 t with
    | none => s1
    | some p =>
      let s2 := send { s1 with fab := { s1.fab with wait := s1.fab.wait.erase p
                                                    last := (t, p.port) :: s1.fab.last.filter (fun x => x.1 ≠ t) } }
        (.packet t (plHdr s1 p).bits)
      if p.via.isEmpty then plAlloc { s2 with fab := { s2.fab with out := s2.fab.out ++ [p] } } p
      else { s2 with fab := { s2.fab with wait := s2.fab.wait ++ [{ p with via := p.via.tail }] } })

/-- PLACED_PACKET_COMPLETE: of the packets outstanding from an input to a target, the one granted first completes (assumption
log 73); one past its deadline is counted (R46), and its port may issue another (R55). -/
def execPlacedPacketComplete (port : Fin 8) (t : PlTarget) (s : State) : Host.Outcome State Fault Refusal :=
  guarded s (alive s && s.fab.out.any (fun p => p.port == port && p.tgt == t)) (fun s =>
    match s.fab.out.find? (fun p => p.port == port && p.tgt == t) with
    | none => s
    | some p =>
      let s0 := { s with fab := { s.fab with out := s.fab.out.erase p } }
      let s1 := plIssue (match p.release with | some n => plFree s0 n | none => s0)
      if s.stn.time.toNat > p.deadline then
        raise { s1 with stn := { s1.stn with lateCnt := satInc s1.stn.lateCnt } } 497
      else s1)

/-- The first element that satisfies `p` is changed by `f`. -/
def modFirst {α : Type} (p : α → Bool) (f : α → α) : List α → List α
  | [] => []
  | a :: l => if p a then f a :: l else a :: modFirst p f l

/-- A packet before or from arbiter `t` whose AGE has saturated and is not counted yet (R54). -/
def plSaturates (s : State) (t : PlTarget) (p : PlPkt) : Bool := p.at_ == t && !p.sat && plAge s.stn.time.toNat p == 0x7FFFFF

/-- A waiting placed problem of template `t` whose AGE has saturated and is not counted yet (R54). -/
def reqSaturates (s : State) (t : Fin 64) : Bool :=
  match s.qp.tmpls[t] with
  | some x => x.wait.any (fun r => !r.sat && reqAge s x r == 0x7FFFFF)
  | none => false

/-- A waiting problem of a stack peer whose AGE has saturated and is not counted yet (R54). -/
def peerSaturates (s : State) (w : PeerWait) : Bool := !w.sat && peerAge s w == 0x7FFFFF

/-- The AGE of one transfer or placed problem at arbiter `t` has saturated: which it is, and that it is counted now (R54). -/
def saturate (s : State) (t : PlTarget) : Option State :=
  let mark := fun (p : PlPkt) => { p with sat := true }
  if s.fab.wait.any (plSaturates s t) then some { s with fab := { s.fab with wait := modFirst (plSaturates s t) mark s.fab.wait } }
  else if s.fab.out.any (plSaturates s t) then some { s with fab := { s.fab with out := modFirst (plSaturates s t) mark s.fab.out } }
  else if t ≠ .solver then none
  else match (allFin 64).find? (reqSaturates s) with
    | some k => some (modTmpl s k (fun x => { x with wait := modFirst (fun r => !r.sat && reqAge s x r == 0x7FFFFF) (fun r => { r with sat := true }) x.wait }))
    | none =>
      if s.qp.peers.any (peerSaturates s) then
        some { s with qp := { s.qp with peers := modFirst (peerSaturates s) (fun w => { w with sat := true }) s.qp.peers } }
      else none

/-- AGE_SATURATION: the AGE of a packet that waits before an arbiter or travels from it, or of a placed problem that waits at the solver
intake, saturates (R54). -/
def execAgeSaturation (t : PlTarget) (s : State) : Host.Outcome State Fault Refusal :=
  guarded s (alive s && (saturate s t).isSome) (fun s =>
    match saturate s t with
    | none => s
    | some s1 => raise { s1 with stn := { s1.stn with satCnt := satInc s1.stn.satCnt } } 498)

/-- TIMED_DEADLINE_MISS: a timed transfer to a receiving block misses the deadline `dl` of its tier; `vars` are the
variables it would have written, which stay unwritten and read Q at least 5; `port` is the Transom port it came on (R49). -/
def execTimedDeadlineMiss (blk inst : Nat) (tier : Fin 5) (dl : Word) (vars : List Nat) (port : Option (Fin 3)) (s : State) :
    Host.Outcome State Fault Refusal :=
  guarded s (alive s) (fun s =>
    let s1 := match port with
      | some q => { s with stk := { s.stk with ports := vmod s.stk.ports q (fun c => { c with late := satInc c.late }) } }
      | none => s
    timedMiss s1 blk inst tier.val dl vars)

/-- FAB_CLR_CNT: STN.FAB_CTRL.CLR_CNT (R7). -/
def fabClrCnt (s : State) : State :=
  { s with stn := { s.stn with timedLate := 0, lateCnt := 0, satCnt := 0 } }

/-- FAB_CLR_CNT (R7). -/
def execFabClrCnt (sess : Fin 4) (s : State) : Host.Outcome State Fault Refusal := openCmd s sess fabClrCnt

end Sys2Proof.Machine
end

