-- ==== Sys2Proof/Machine/ImgCmds.lean ====
section
/-! DEFINITION. The meanings of the image and profile commands: loading at a start, the end of flash writes, the requests and the
preparation of a profile switch (R120, R353–R364). -/

namespace Sys2Proof.Machine
open Sys2Proof

/-- The write marker found at a restart is reported and cleared (R120, R358). -/
def markerFound (s : State) : State :=
  let lost := fun (s : State) (id : Nat) => logLedger s 0x500A noSrc sevNotice (leN 8 id)
  let s1 := match s.img.marker with
    | none => s
    | some m =>
      let s1 := modImg s (fun i => { i with marker := none, writeLost := if m.olc then i.writeLost else i.writeLost ||| (1#4 <<< m.profile.toNat) })
      if m.olc then lost s1 m.imageId else logLedger s1 0x6001 m.profile.toNat sevNotice (leN 8 m.imageId)
  -- a committed change that still waited for its write
  modImg (s1.img.wWait.foldl (fun s x => lost s (imageId x.2.2)) s1) (fun i => { i with wWait := [] })

/-- IMG loads the selected profile after a reset or a wake (R357). -/
def imageLoad (s : State) : State :=
  let s1 := markerFound s
  let p := selectProfile s1
  match committed s1 p with
  | none => loadFails (setLoad s1 (1, 0) p true)
  | some b =>
    let (c, s2) := runCheck s1 p true b
    if c ≠ 0 then loadFails s2
    else
      let pinned := p == s2.img.pinProf && !(match s2.img.profWord with | some (q, cmd, pins) => cmd && pins == s2.img.pinProf && q == p | none => false)
      loadImage (modImg s2 (fun i => { i with actProf := p, selCmd := !pinned })) b

/-- IMAGE_LOAD: the profile pins have been stable for 50 ms after the reset and the load is complete (R357). -/
def execImageLoad (s : State) : Host.Outcome State Fault Refusal :=
  guarded s (alive s && s.img.running.isNone && s.stn.stopCause != 7#4) imageLoad

/-! ### Flash writes (R354–R356) -/

/-- How many records half a commit area holds (R353, R354). -/
def commitHalf : Nat := 32768 / 64

/-- The commit record that a finished write appends: the first SEQ of a profile is open (R354). -/
def commitRecord (s : State) (p : BitVec 2) (bank : Bool) (b : List Byte) : Commit × State :=
  let base : Commit := { seq := 0, bank := bank, totalLen := b.length, imageId := imageId b, digest := (sha512 b).take 32
                         commissioning := imageCommissioning b, used := 1, half := false }
  match s.img.commits[p.toFin] with
  | none => let (w, s1) := drawWord s; ({ base with seq := w }, s1)
  | some c =>
    if c.used < commitHalf then ({ base with seq := c.seq + 1, used := c.used + 1, half := c.half }, s)
    else ({ base with seq := c.seq + 2, used := 2, half := !c.half }, s)

/-- Steps 4 and 5 of R355: the bank holds the image, the commit record stands, the marker is gone. -/
def commitWrite (s : State) : State :=
  let i := s.img
  let (c, s1) := commitRecord s i.wProf i.wBank i.wBytes
  modImg s1 (fun j => { j with
    banks := vmodN j.banks (2 * i.wProf.toNat + b2n i.wBank) (fun _ => i.wBytes)
    commits := vmodN j.commits i.wProf.toNat (fun _ => some c)
    same := j.same &&& ~~~(1#4 <<< i.wProf.toNat)
    marker := none, wProgress := 100, wBytes := [] })

/-- The write in progress persists an on-line change. -/
def writesChange (s : State) : Bool := s.img.wState != 0#3 && s.img.wOlc

/-- A write ends in an error (code 12 of R344). -/
def writeFails (s : State) : State :=
  setLoad (modImg s (fun i => ({ i with marker := none } : Img).nextWrite)) (12, 0) s.img.wProf false

/-- IMAGE_WRITE_DONE: the image of a transfer is programmed and read back, or fails to be (R355, R356). -/
def imageWritten (s : State) (ok : Bool) : State :=
  if !ok then writeFails s
  else
    let s1 := commitWrite s
    if hasStandby s && !s.img.wOwnDone then modImg s1 (fun i => { i with wState := 5, wOwnDone := true })
    else
      let s2 := modImg s1 Img.nextWrite
      if s.img.loadCode = 14 then s2 else setLoad s2 (0, 0) s.img.wProf false

/-- IMAGE_WRITE_DONE (R355). -/
def execImageWriteDone (ok : Bool) (s : State) : Host.Outcome State Fault Refusal :=
  guarded s (alive s && s.img.wState == 2#3 && !writesChange s) (fun s => imageWritten s ok)

/-- The committed change is persisted at every station that has to (R120, R128). -/
def changeDone (s : State) : State := modStn (modImg s Img.nextWrite) (fun n => { n with persisted := true, olcState := 0 })

/-- The partner's write of the same image ends (R128, R356). -/
def partnerWritten (s : State) (ok : Bool) : State :=
  let bit : BitVec 4 := 1#4 <<< s.img.wProf.toNat
  let s1 := modImg s (fun i => if ok then { i with same := i.same ||| bit } else i)
  if s.img.wOlc then
    if !ok then setLoad s1 (14, 0) s.img.wProf false
    else if s.img.wState = 5#3 then changeDone s1 else modImg s1 (fun i => { i with wOwnDone := true })
  else if s.img.wState = 5#3 then
    setLoad (modImg s1 Img.nextWrite) (if ok then 0 else 14, 0) s.img.wProf false
  else
    let s2 := modImg s1 (fun i => { i with wOwnDone := true })
    if ok then s2 else setLoad s2 (14, 0) s.img.wProf false

/-- PARTNER_WRITE_DONE (R356). -/
def execPartnerWriteDone (ok : Bool) (s : State) : Host.Outcome State Fault Refusal :=
  guarded s (alive s && s.img.wState != 0#3 && s.pair.member) (fun s => partnerWritten s ok)

/-- OLC_PERSISTED: the committed change is written and its commit record stands, and with a synchronised standby the station
waits for the partner's write too; a write that fails is reported and stays due (R120, R128, R344). -/
def olcPersisted (s : State) (ok : Bool) : State :=
  if !ok then setLoad s (12, 0) s.img.wProf false
  else
    let s1 := commitWrite s
    if hasStandby s && !s.img.wOwnDone then modImg s1 (fun i => { i with wState := 5, wOwnDone := true }) else changeDone s1

/-- OLC_PERSISTED (R120). -/
def execOlcPersisted (ok : Bool) (s : State) : Host.Outcome State Fault Refusal :=
  guarded s (alive s && s.img.wState == 2#3 && writesChange s) (fun s => olcPersisted s ok)

/-! ### Profile switch requests (R359–R361) -/

/-- The accepted command is a request for a profile. -/
def DistCmd.isProfile : DistCmd → Bool
  | .profile _ _ => true
  | _ => false

/-- A request that replaces one not yet carried (R359). -/
def profileRequest (s : State) (t : BitVec 2) (byCmd : Bool) : State :=
  let was := s.stn.accepted.any DistCmd.isProfile
  let s1 := modStn s (fun n => { n with accepted := n.accepted.filter (fun c => !c.isProfile) })
  accept (modImg s1 (fun i => { i with swReq := byCmd, swResult := if was then 6 else i.swResult })) (.profile t byCmd)

/-- PROF_SEL_CHANGE: a change of the profile pins has been stable for 50 ms; in a pair the active station's pins count (R359). -/
def execProfSelChange (pins : BitVec 2) (s : State) : Host.Outcome State Fault Refusal :=
  guarded s (alive s && s.img.pinProf != pins) (fun s =>
    let s1 := modImg s (fun i => { i with pinProf := pins })
    if s.img.running.isSome && drivesBanks s && !quietAt s 11 then profileRequest s1 pins false else s1)

/-- A write of IMG.SW_CMD (R359). -/
def swCmdWrite (s : State) (prof : BitVec 2) (req : Bool) : State :=
  let s1 := modImg s (fun i => { i with swCmdProf := prof })
  if req && drivesBanks s && !quietAt s 11 then profileRequest s1 prof true else s1

/-- SW_CMD_REQ (R359). -/
def execSwCmdReq (sess : Fin 4) (prof : BitVec 2) (s : State) : Host.Outcome State Fault Refusal :=
  keyedCmd s sess 0x10014 (fun s => swCmdWrite s prof true)

/-- The preparation is complete (R360): in a synchronised pair the input set carries it. -/
def switchPrepared (s : State) : State :=
  let (c, s1) := prepareSwitch s
  if c ≠ 0 then switchRefused s1 c
  else
    let s2 := modImg s1 (fun i => { i with prepared := committed s1 i.swTarget })
    match hasStandby s, s2.img.prepared with
    | true, some b => accept s2 (.prepared (imageId b))
    | _, _ => modImg s2 (fun i => { i with swState := 2 })

/-- SWITCH_PREPARED (R360, R361). -/
def execSwitchPrepared (s : State) : Host.Outcome State Fault Refusal :=
  guarded s (alive s && s.img.swState == 1#3 && !isStandby s && s.img.prepared.isNone) switchPrepared

end Sys2Proof.Machine
end

