-- ==== Sys2Proof/Machine/LogCmds.lean ====
section
/-! DEFINITION. The meanings of the Ledger events and of the writes of LOG.CTRL and EVR.CTRL (R374–R376, R382, R383, R410). -/

namespace Sys2Proof.Machine
open Sys2Proof

/-- FLUSH_RECORD_DONE: a record has been written and read back; `ok` is false when the second read-back has failed too
(R374, R376). A flush completes through a warm reset. -/
def execFlushRecordDone (ok : Bool) (s : State) : Host.Outcome State Fault Refusal :=
  guarded s ((alive s || s.pwr.power == .warm) && s.log.flush != .idle && s.log.flushLeft > 0) (fun s => flushRecord s ok)

/-- CLEAR_DONE: every older circulating slot is zero (R383). -/
def execClearDone (s : State) : Host.Outcome State Fault Refusal := guarded s (alive s && s.log.clearStep == 3) clearEnds

/-- CLEAR_LOCKOUT_END: 600 s after the third wrong HMAC (R382). -/
def execClearLockoutEnd (s : State) : Host.Outcome State Fault Refusal :=
  guarded s (alive s && s.log.lockout) (fun s => modLog s (fun g => { g with lockout := false, hmacFails := [] }))

/-- LOG_FLUSH (R374). -/
def execLogFlush (sess : Fin 4) (s : State) : Host.Outcome State Fault Refusal := openCmd s sess (fun s => logCtrlWrite s true false)
/-- LOG_CLR_CNT (R7). -/
def execLogClrCnt (sess : Fin 4) (s : State) : Host.Outcome State Fault Refusal := openCmd s sess (fun s => logCtrlWrite s false true)

/-- SUP_QUEUE_TAKE: the firmware takes the next raise: descending PRIO, then ascending source number (R410). -/
def supTake (v : Evr) : Evr :=
  match (v.queue.mergeSort supLe).head? with
  | none => v
  | some q => { v with queue := v.queue.erase q }

/-- SUP_QUEUE_TAKE (R410). -/
def execSupQueueTake (s : State) : Host.Outcome State Fault Refusal :=
  guarded s (alive s && !s.evr.queue.isEmpty) (fun s => { s with evr := supTake s.evr })

/-- EVR.CTRL.CLR_CNT clears DROP and every RAISE_CNT. -/
def evrClr (s : State) : State := { s with evr := { s.evr with drop := 0, raiseCnt := Vector.replicate 512 0 } }

/-- EVR_CLR_CNT (R7). -/
def execEvrClrCnt (sess : Fin 4) (s : State) : Host.Outcome State Fault Refusal := openCmd s sess evrClr

end Sys2Proof.Machine
end

