-- ==== Sys2Proof/Machine/PairCmds.lean ====
section
/-! DEFINITION. The meanings of the pair's commands: heartbeats, the distributed set, takeover, lanes, presence, digests and
self-checks, resynchronisation, and PAIR.CTRL (R23, R236, R259–R275, R325). -/

namespace Sys2Proof.Machine
open Sys2Proof

/-- A member of a pair whose main domain runs. -/
def pairUp (s : State) : Bool := alive s && s.pair.member

/-! ### Takeover (R263, R266, R267) -/

/-- The first T0 boundary from which a new active station uses its own data, and the T0 cycles that are lost before it (R267);
`ref` is the composition instant, and `t0` says that the T0 part of a held boundary has come or that none is held. -/
def takeoverLoss (lastB ref : Nat) (t0 : Bool) : Nat × Nat :=
  let first := cdiv (ref + 16000) 20000 * 20000
  (first, (first - lastB) / 20000 - 1 + (if t0 then 0 else 1))

/-- Whole µs by which T1–T4 work starts late, at most 3 (R267). -/
def takeoverDelay (lastB ref : Nat) (held : Bool) : Nat := if held then min 3 (cdiv (ref - (lastB + 4000)) 1000) else 0

/-- The composition instant: the work of the held boundary starts then, at most 3 µs late (R266, R267). -/
def composedAt (s : State) : State :=
  modPair s (fun p => { p with lateB := s.stn.lastB, lateNs := min 3000 (refNow s - (s.stn.lastB + 4000)) })

/-- The boundary that waits for its set is executed on what has come of it and the station's own readings (R266). -/
def compose (s : State) (w : Option Await) : State :=
  match w with
  | none => s
  | some a =>
    let s1 := composedAt (passTime s 1000)
    runBoundary s1 s1.stn.lastB a.slow a.own (a.t0.getD []) false a.t0.isNone a.starts

/-- The standby takes over (R266): partner silent, or released when `released`. -/
def takeOver (s : State) (cause : BitVec 3) (released : Bool) : State :=
  let w := s.pair.await
  let ref := s.stn.tierRef.toNat + 1000
  let t0 := match w with | some a => a.t0.isSome | none => true
  let held := match w with | some a => 1 ≤ a.slow | none => false
  let (first, lost) := takeoverLoss s.stn.lastB ref t0
  let delay := takeoverDelay s.stn.lastB ref held
  let s1 := modPair (becomeActive s 3 cause released lost delay true) (fun p => { p with
    lostFrom := s.stn.lastB + (if t0 then 20000 else 0), lostUntil := first, tookSilent := !released, switchReq := false, switchArmed := false, check := none })
  let s2 := reissueAll (setDrives s1 true (!released))
  let s3 := raise (logLedger s2 0x4802 noSrc sevMajor
    ([BitVec.ofNat 8 cause.toNat, BitVec.ofNat 8 (b2n released), BitVec.ofNat 8 lost, 0] ++ wB s1.pair.takeoverT)) (psSrc 0)
  compose s3 w

/-! ### Due items (R262–R264) -/

/-- A valid due item ends a run of misses. -/
def dueValid (s : State) : State := modPair s (fun p => { p with misses := 0 })

/-- A due item comes after a missed part: the held boundary can no longer be executed in step (R263). -/
def setIncomplete (s : State) (t0 : Bool) : State :=
  leaveStandby (logEntry s 0x4801 noSrc sevNotice ([BitVec.ofNat 8 (b2n (!t0)), 0, 0, 0] ++ wB (tierCnt s 0)))

/-- Whether a due item of a kind can be missed now: 0 a heartbeat, 1 the T0 part, 2 the rest (R264). -/
def dueCan (s : State) (k : Nat) : Bool :=
  match s.pair.await with
  | some a => if k = 1 then a.t0.isNone && s.pair.setMiss.isNone else if k = 2 then 1 ≤ a.slow && s.pair.setMiss ≠ some false else true
  | none => k == 0

/-- The due instant of an item of a kind (R262, R264). -/
def dueAt (s : State) (k : Nat) : Nat :=
  if k = 0 then
    let t := s.stn.tierRef.toNat / 5000 * 5000 + 1000
    if t < s.stn.tierRef.toNat then t + 5000 else t
  else s.stn.lastB + (if k = 1 then 3000 else 4000)

/-- A due item is missed: at the second in a row the partner is silent (R263, R264). -/
def dueMissed (s : State) (k : Nat) : State :=
  let s1 := passTo s (dueAt s k)
  let s2 := if k = 0 then modPair s1 (fun p => { p with lanes := p.lanes.map (fun l => { l with miss := satInc l.miss }) }) else s1
  let s3 := modPair s2 (fun p => { p with misses := p.misses + 1, setMiss := if k = 0 then p.setMiss else some (k == 1) })
  if s3.pair.misses < 2 then s3
  else if s.pair.state = 4#3 then takeOver s3 1 false
  else
    let s4 := modPair s3 (fun p => { p with partner := 0, heard := false, setMiss := none })
    if s.pair.state = 2#3 then loseStandby s4 else if s.pair.state = 5#3 then setRole s4 1 else s4

/-- DUE_MISS (R264). -/
def execDueMiss (k : Fin 3) (s : State) : Host.Outcome State Fault Refusal :=
  guarded s (pairUp s && (if isStandby s then dueCan s k.val else k == 0)) (fun s => dueMissed s k.val)

/-- The held boundary executes on the complete set. -/
def runHeld (s : State) (a : Await) (items : List SetItem) : State :=
  runBoundary (modPair s (fun p => { p with await := none })) s.stn.lastB a.slow a.own items false false (setCmds items)

/-- A part of the set arrives in time (R262). -/
def setReceive (s : State) (a : Await) (rest : Bool) (items : List SetItem) : State :=
  let s1 := dueValid s
  match s.pair.setMiss with
  | some t0 => setIncomplete s1 t0
  | none =>
    if !rest then
      if a.slow = 0 then runHeld s1 a items else modPair s1 (fun p => { p with await := some { a with t0 := some items } })
    else match a.t0 with
      | some t0 => runHeld s1 a (t0 ++ items)
      | none => s1

/-- INPUT_SET_RECEIVE (R262). -/
def execInputSetReceive (rest : Bool) (items : SashPkt (List SetItem)) (s : State) : Host.Outcome State Fault Refusal :=
  guarded s (pairUp s) (fun s => sashTake s items.a items.b (fun s =>
    match s.pair.await with
    | some w => if isStandby s then setReceive s w rest items.body else s
    | none => s))

/-! ### Heartbeats (R261, R264, R265, R269) -/

/-- HEARTBEAT_SEND: the next instant of the 5 µs grid (R264). -/
def heartbeatSend (s : State) : State :=
  let t := max (s.pair.hbT + 5000) (cdiv s.stn.tierRef.toNat 5000 * 5000)
  sendHeartbeat (modPair (passTo s t) (fun p => { p with hbT := t })) false

/-- HEARTBEAT_SEND (R264). -/
def execHeartbeatSend (s : State) : Host.Outcome State Fault Refusal := guarded s (pairUp s) heartbeatSend

/-- A member in SEEKING hears a heartbeat (R261). -/
def seekHear (s : State) (st : BitVec 3) (clkRec id : Bool) : State :=
  if id == s.stn.pairIdPin then
    if s.pair.idConflict then s
    else logLedger (modPair s (fun p => { p with idConflict := true, heard := true })) 0x4800 noSrc sevNotice [BitVec.ofNat 8 (b2n s.stn.pairIdPin)]
  else
    let s1 := modPair s (fun p => { p with heard := true, idConflict := false })
    if st = 2 || st = 3 then slewToActive (setRole s1 5)
    else if st = 1 && !s.stn.refLoss && (clkRec || !s.stn.pairIdPin) then startActive s1
    else s1

/-- RELEASED ends the wait of AO points whose partner was releasing (R232, R269). -/
def partnerReleased (s : State) : State := (allFin 8).foldl (fun s b => modBank s b (fun k => { k with aoWait := false })) s

/-- What a heartbeat means in the station's own STATE; a fault report takes over whatever set is incomplete (R265), and a partner that
begins to synchronise has had no page yet (R275). -/
def heartbeatTake (s : State) (w : Word) (id depart : Bool) : State :=
  let st : BitVec 3 := BitVec.ofNat 3 (fld w 8 3)
  let s0 := if st = 5#3 && s.pair.partner ≠ 5#3 && s.pair.state ≠ 5#3 then modPair s PairBlk.noPages else s
  let s1 := dueValid (modPair s0 (fun p => { p with partner := st }))
  if s.pair.state = 4#3 && bit w 12 && bit w 13 then takeOver s1 2 true
  else match s.pair.setMiss with
  | some t0 => setIncomplete s1 t0
  | none =>
    if s.pair.state = 1#3 then seekHear s1 st (bit w 14) id
    else if s.pair.state = 2#3 then
      let s2 := if bit w 13 && s.pair.cause == 4#3 then partnerReleased s1 else s1
      if depart || bit w 12 || st == 1#3 || st == 5#3 || st == 6#3 || st == 7#3 then loseStandby s2 else s2
    else if s.pair.state = 3#3 then
      let s2 := if bit w 13 && !s.pair.tookSilent then partnerReleased s1 else s1
      if st = 4#3 && !depart then
        setRole (modPair { s2 with stn := { s2.stn with olcPartner := false } } (fun p => { p with tookSilent := false })) 2
      else s2
    else if s.pair.state = 5#3 then (if st = 2#3 || st = 3#3 then s1 else setRole s1 1)
    else s1

/-- A heartbeat that has come valid on one lane counts as missing on the other when it has not come valid there (LANE_x.MISS_CNT). -/
def laneMissed (s : State) (l : Fin 2) (x : LaneRx) : State :=
  if x = .ok then s else modPair s (fun p => { p with lanes := vmod p.lanes l (fun y => { y with miss := satInc y.miss }) })

/-- HEARTBEAT_RECEIVE: `a` and `b` say how it came on each lane, `id` is the partner's PAIR_ID, `depart` the departure mark of R394
(R259, R264). -/
def execHeartbeatReceive (w : Word) (a b : LaneRx) (id depart : Bool) (s : State) : Host.Outcome State Fault Refusal :=
  guarded s (pairUp s) (fun s => sashTake s a b (fun s => heartbeatTake (laneMissed (laneMissed s 0 a) 1 b) w id depart))

/-- OWN_FAULT_REPORT: an active station, with a synchronised standby or without, finds a fault of its own (R265). -/
def execOwnFaultReport (s : State) : Host.Outcome State Fault Refusal :=
  guarded s (pairUp s && (s.pair.state == 2#3 || s.pair.state == 3#3)) (fun s => becomeFaulty (reportFault s))

/-- SEEKING_TIMEOUT: nothing heard for 1 s with PAIR_ID low or 3 s with PAIR_ID high (R261). -/
def execSeekingTimeout (s : State) : Host.Outcome State Fault Refusal :=
  guarded s (pairUp s && s.pair.state == 1#3 && !s.pair.heard && !s.stn.refLoss) startActive

/-! ### Lanes and presence (R259, R268, R325) -/

/-- LANE_DOWN (R259). -/
def execLaneDown (l : Fin 2) (s : State) : Host.Outcome State Fault Refusal :=
  guarded s (alive s && s.pair.laneUp[l]) (fun s => laneFalls s l)

/-- LANE_UP (R259). -/
def execLaneUp (l : Fin 2) (s : State) : Host.Outcome State Fault Refusal :=
  guarded s (alive s && !s.pair.laneUp[l]) (fun s => raise (modPair s (fun p => { p with laneUp := p.laneUp.set l true
                                                                                         lanes := vmod p.lanes l (fun x => { x with bad := 0 }) })) (psSrc 2))

/-- The word of a presence telegram (R325). -/
def presenceWord (s : State) : Word := pack [(0, 3, s.pair.state.toNat), (3, 1, b2n (anyDrive s)), (4, 1, b2n s.stn.pairIdPin)]

/-- A presence telegram: KIND 2, TEL_ID 0xFFFF, to the pair's own ID, one word with a tag of all zeros; its SEQ is not stated (R325,
assumption log 1). -/
def presenceTel (s : State) (seq : Word) : TelCopy :=
  telMade s.net.stnId 2 0xFFFF (s.net.stnId.zeroExtend 16) seq [{ val := presenceWord s, tag := tagOf 0 }]

/-- PRESENCE_SEND: T2 boundary + 500 µs (R325). -/
def execPresenceSend (s : State) : Host.Outcome State Fault Refusal :=
  guarded s (pairUp s && !quietAt s 0 && s.img.running.isSome && s.pair.state != 6#3) (fun s =>
    let s1 := passTo s (s.stn.lastB / 1000000 * 1000000 + 500000)
    let (seq, s2) := drawWord s1
    sendLeaves s2 s.net.presMac (presenceTel s2 seq))

/-- Two stations of the pair are active: this one yields (R268). -/
def yieldDual (s : State) (st : BitVec 3) : State :=
  raise (logLedger (setRole (setDrives s false false) 7) 0x4803 noSrc sevNotice [BitVec.ofNat 8 st.toNat]) (psSrc 7)

/-- PRESENCE_RECEIVE from the station with the other PAIR_ID (R268, R325). -/
def execPresenceReceive (st : BitVec 3) (driving id : Bool) (s : State) : Host.Outcome State Fault Refusal :=
  guarded s (pairUp s && !quietAt s 0 && id != s.stn.pairIdPin) (fun s =>
    let s1 := modPair s (fun p => { p with presence := true })
    if s.pair.tookSilent && (s.pair.state == 2#3 || s.pair.state == 3#3) && (st == 2#3 || st == 3#3) && driving then yieldDual s1 st else s1)

/-- PRESENCE_LAPSE: none for 3 ms (R325). -/
def execPresenceLapse (s : State) : Host.Outcome State Fault Refusal :=
  guarded s (alive s && s.pair.presence) (fun s => modPair s (fun p => { p with presence := false }))

/-! ### Digests and self-checks (R271–R274) -/

/-- The last T2 boundary. -/
def lastT2 (s : State) : Nat := s.stn.lastB / 1000000 * 1000000

/-- ACTIVE or STANDBY of a synchronised pair. -/
def inStep (s : State) : Bool := s.pair.state == 2#3 || s.pair.state == 4#3

/-- DIGEST_COMPUTED: by b + 500 µs, over the state after the handover of b; the active station sends them (R271, R272). -/
def execDigestComputed (s : State) : Host.Outcome State Fault Refusal :=
  guarded s (pairUp s && inStep s) (fun s =>
    let s1 := modPair (passTo s (lastT2 s + 500000)) (fun p => { p with digests := p.fresh })
    if s.pair.state = 2#3 then sendLink s1 (.digests s.pair.fresh) else s1)

/-- The partitions whose digests differ. -/
def digestMask (own other : List (BitVec 64)) : BitVec 10 :=
  BitVec.ofNat 10 ((List.range 10).foldl (fun a p => a + (if own[p]? == other[p]? then 0 else 2 ^ p)) 0)

/-- A mismatch starts the self-check of each diverging partition (R272). -/
def mismatchFound (s : State) (m : BitVec 10) : State :=
  if m = 0 then s
  else raise (modPair s (fun p => { p with mismatch := m, digCnt := satInc p.digCnt, check := some (.digest m) })) (psSrc 3)

/-- DIGEST_RECEIVE at the standby, due at b + 600 µs; the mask goes back (R272). -/
def execDigestReceive (l : SashPkt (List (BitVec 64))) (s : State) : Host.Outcome State Fault Refusal :=
  guarded s (pairUp s && isStandby s) (fun s => sashTake s l.a l.b (fun s =>
    let m := digestMask s.pair.digests l.body
    mismatchFound (sendLink (modPair (passTo s (lastT2 s + 600000)) (fun p => { p with missedDig := 0 })) (.mask m)) m))

/-- MISMATCH_MASK_RECEIVE at the active station, due at b + 700 µs (R272). -/
def execMismatchMaskReceive (m : SashPkt (BitVec 10)) (s : State) : Host.Outcome State Fault Refusal :=
  guarded s (pairUp s && s.pair.state == 2#3) (fun s => sashTake s m.a m.b (fun s =>
    mismatchFound (modPair (passTo s (lastT2 s + 700000)) (fun p => { p with missedDig := 0 })) m.body))

/-- The Ledger record of a digest mismatch (R272). -/
def digestRecord (s : State) (m : BitVec 10) (result sev : Nat) : State :=
  logLedger s 0x4804 noSrc sev (leN 2 m.toNat ++ [BitVec.ofNat 8 result, 0] ++ wB (tierCnt s 2))

/-- A passed-passed mismatch: the standby synchronises again (R272). -/
def bothPassed (s : State) (m : BitVec 10) : State :=
  let s1 := digestRecord (modPair s (fun p => { p with result := 4, mismatch := m })) m 4 sevNotice
  if isStandby s then leaveStandby s1 else s1

/-- DIGEST_TRANSFER_MISSED: no digests have come at the standby, or no mask at the active station; the third in a row counts as a mismatch
of every partition (R272). -/
def execDigestTransferMissed (s : State) : Host.Outcome State Fault Refusal :=
  guarded s (pairUp s && inStep s) (fun s =>
    let s1 := modPair (passTo s (lastT2 s + (if isStandby s then 600000 else 700000))) (fun p => { p with missedDig := p.missedDig + 1 })
    if s1.pair.missedDig < 3 then s1
    else bothPassed (raise (modPair s1 (fun p => { p with missedDig := 0, digCnt := satInc p.digCnt })) (psSrc 3)) 0x3FF)

/-- Coding of a self-check outcome (PAIR.DIGEST.RESULT). -/
def checkCode (standbyFails activeFails : Bool) : Nat :=
  if standbyFails then (if activeFails then 3 else 1) else if activeFails then 2 else 4

/-- What a failed self-check does at this station (R272). -/
def checkFailed (s : State) (code : Nat) : State :=
  if isStandby s then (if code = 2 then switchOver s 3 true else becomeFaulty s)
  else if code = 2 then switchOver s 3 true else loseStandby s

/-- The outcome of the self-checks applies (R272, R273). -/
def checkOutcome (s : State) (c : Check) (ownFails partnerFails : Bool) : State :=
  let code := if isStandby s then checkCode ownFails partnerFails else checkCode partnerFails ownFails
  let s0 := modPair s (fun p => { p with check := none })
  match c with
  | .digest m =>
    let s1 := modPair s0 (fun p => { p with result := BitVec.ofNat 3 code })
    if code = 4 then bothPassed s1 m
    else checkFailed (if code = 3 && !isStandby s then digestRecord s1 m 3 sevMajor else s1) code
  | .field n =>
    let s1 := logLedger (modPair s0 (fun p => { p with result := BitVec.ofNat 3 code })) 0x4805 n sevNotice [BitVec.ofNat 8 code]
    if code = 4 then modPair s1 (fun p => { p with cmpPoint := BitVec.ofNat 7 n })
    else checkFailed (if code = 3 && !isStandby s then digestRecord s1 s1.pair.mismatch 3 sevMajor else s1) code

/-- SELF_CHECK_OUTCOME at b + 2 ms (R272). -/
def execSelfCheckOutcome (ownFails partnerFails : Bool) (s : State) : Host.Outcome State Fault Refusal :=
  match s.pair.check with
  | some c => guarded s (pairUp s && inStep s) (fun s => checkOutcome s c ownFails partnerFails)
  | none => guarded s false (fun s => s)

/-- FIELD_DISAGREE: a reading has differed for CMP.T0N boundaries; `n` is the global point number, or 96 + n for SI_n. The standby
compares and finds it, and the self-check starts on both stations (R236, R273; assumption log 69). -/
def execFieldDisagree (n : Fin 112) (s : State) : Host.Outcome State Fault Refusal :=
  guarded s (pairUp s && inStep s && compared s n.val && (!isStandby s || cmpDue s n.val)) (fun s =>
    modPair s (fun p => { p with
      cmpCnt := satInc p.cmpCnt, check := p.check.or (some (.field n.val))
      cmpRun := (aget p.cmpRun n.val).elim p.cmpRun (fun x => aset p.cmpRun n.val (x.1, true)) }))

/-! ### Resynchronisation (R23, R275) -/

/-- STN as it comes from the active station: the station keeps its own time, clock, straps and pins, and counts the instants of its
tier reference as the active station does, its T4 boundary being the active station's (R23, R275). -/
def Stn.synced (own x : Stn) : Stn :=
  { x with
    tierRef := BitVec.ofNat 64 (x.lastB + (own.tierRef.toNat - own.lastB))
    time := own.time, refOk := own.refOk, pllLock := own.pllLock, refLoss := own.refLoss, holdPermit := own.holdPermit
    wakePins := own.wakePins, stackRoot := own.stackRoot, pairIdPin := own.pairIdPin, accepted := [], aligned := true
    holdT0 := own.time - (x.time - x.holdT0)
    slewing := false, slewLeft := 0, slewRem := 0, timedLate := own.timedLate, lateCnt := own.lateCnt, satCnt := own.satCnt }

/-- A point takes what drives it from the active station. -/
def Pt.synced (own x : Pt) : Pt :=
  if own.isOut then { own with eff := x.eff, shown := x.shown, showAt := x.showAt, smp := x.smp, pwmDue := x.pwmDue, pwmRun := x.pwmRun, duty := x.duty, onNs := x.onNs } else own

/-- FLD likewise, without DRIVE. -/
def FldBlk.synced (own x : FldBlk) : FldBlk :=
  { own with
    pts := Vector.ofFn (fun n => (own.pts[n]).synced x.pts[n])
    banks := Vector.ofFn (fun b => { own.banks[b] with closeCnt := x.banks[b].closeCnt, drive := false, aoWait := false }) }

/-- An instant of the own tier reference in the active station's count, `d` ns on. -/
def renumbered (d : Int) (t : Nat) : Nat := (t + d).toNat

/-- A source takes the published values; its estimator goes on, its edges `d` ns on in the active station's count (R23). -/
def ASrc.synced (own x : ASrc) (d : Int) : ASrc :=
  { own with
    edges := own.edges.map (fun e => { e with t := renumbered d e.t }), lastT := own.lastT.map (renumbered d), angle := x.angle, turns := x.turns, vel := x.vel, acc := x.acc, pst := x.pst, tag := x.tag }

/-- The SLEs of both stations run, so that the joining one can take the other's state; an SLE fault of either ends at its own reset only,
and its SAF and SLE then stay as they are (R242; assumption log 85). -/
def sleShared (s : State) (x : SafBlk) : Bool := !s.saf.sleFault && !x.sleFault

/-- An output takes the active station's state; the causes of R251, the terminals and the counts are the station's own. -/
def SoOut.synced (own x : SoOut) (hs ls : Bool) : SoOut :=
  let st : BitVec 2 := if own.state = 3 then 3 else if !own.pend.isEmpty then 2 else if x.state = 1 then 1 else 0
  { own with state := st, reqNow := x.reqNow, prev := x.prev, rise := x.rise, waitLow := x.waitLow, hs := st == 1 && hs, ls := st == 1 && ls, dark := none }

/-- SAF takes the outputs and the watchdog; the station judges test pulses, inputs and switches itself (R251, R255, R256). -/
def safSynced (s : State) (x : SafBlk) : State :=
  if !sleShared s x then s else
  { s with saf := { s.saf with
      startReq := x.startReq, wdOn := x.wdOn, wdLast := x.wdLast
      so := Vector.ofFn (fun k => (s.saf.so[k]).synced x.so[k] (usesHs s) (usesLs s)) } }

/-- A CAN controller takes schedule and transmit buffers. -/
def CanCtl.synced (own x : CanCtl) : CanCtl :=
  { own with reqs := x.reqs, bufs := x.bufs, prev := x.prev, runNew := x.runNew, acks := x.acks, cycle := x.cycle }

/-- The joining station has the running image, or loads and checks it at this resynchronisation; none when the check fails, whose code
LOAD_RESULT then shows (R275 step 2, R344). -/
def joinImage (s : State) (b : List Byte) : Bool × State :=
  if s.img.running.map imageId = some (imageId b) then (true, s)
  else
    let p := BitVec.ofNat 2 (imageProfile b)
    let (c, s1) := runCheck s p false b
    if c = 0 then (true, loadImage (modImg s1 (fun i => { i with actProf := p })) b) else (false, s1)

/-- The running image is in the station's own flash already. -/
def imageKept (s : State) (b : List Byte) : Bool := (committed s s.img.actProf).any (fun c => imageId c == imageId b)

/-- The joining station persists the running image where its flash does not hold it; the write is that of an on-line change while the
pair persists one, and the station has persisted it where it holds it (R120, R128, R275 step 2, R356). -/
def joinPersist (s : State) (b : List Byte) : State :=
  let olc := s.stn.olcState == 5#3
  if imageKept s b then (if olc then modStn s (fun n => { n with persisted := true, olcState := 0 }) else s)
  else if s.img.wState ≠ 0#3 && imageId s.img.wBytes == imageId b then modImg s (fun i => { i with wOlc := i.wOlc || olc })
  else modImg s (fun i => i.startWrite i.actProf olc b)

/-- The joining station takes over the profile switch under way and prepares the same image (R359, R360; assumption log 85). -/
def joinSwitch (s : State) (w : Option (BitVec 2 × Bool × Option Nat)) : State :=
  match w with
  | none => modImg s (fun i => { i with swState := 0, swPending := false, prepared := none })
  | some (t, c, id) =>
    let s1 := modImg s (fun i => { i with swState := 1, swPending := true, prepared := none, swTarget := t, swSrc := c })
    id.elim s1 (carryPrepared (modPair s1 (fun p => { p with state := 4 })))

/-- The joining station, which runs the image, enters STANDBY at a T4 boundary (R275). -/
def enterStandby (s1 : State) (x : SyncSet) : State :=
  let d : Int := x.stn.lastB - s1.stn.lastB
  let s2 : State := { safSynced s1 x.saf with
    stn := s1.stn.synced x.stn, vars := x.vars, le := if sleShared s1 x.saf then x.le else x.le.set 16 s1.le[16], lp := x.lp, qp := x.qp.placedIdle, fld := s1.fld.synced x.fld
    ang := { s1.ang with evt := x.ang.evt, bNs := x.ang.bNs, winB := x.ang.winB, ran := x.ang.ran
                         src := Vector.ofFn (fun a => (s1.ang.src[a]).synced x.ang.src[a] d) }
    can := { ctl := Vector.ofFn (fun k => (s1.can.ctl[k]).synced x.can.ctl[k]) }
    net := { s1.net with
      tx := x.tx, rx := Vector.ofFn (fun r => (x.rx[r]).map (fun y => ((s1.net.rx[r]).map y.counts).getD y)) }, evr := { s1.evr with queue := x.evr.queue } }
  raise (setRole (modPair (joinSwitch (joinPersist s2 x.image) x.sw) (fun p => { p with
    misses := 0, setMiss := none, await := none, missedDig := 0, digests := [], fresh := [], cmpRun := [], pins := none, progress := 100, passes := x.passes
    hbT := renumbered d p.hbT, lostFrom := 0, lostUntil := 0, lateB := 0, lateNs := 0, pages := 0, marked := 0
    resyncCnt := satInc p.resyncCnt })) 4) (psSrc 5)

/-- The mark of a T4 boundary completes the resynchronisation; a station whose image fails its check goes on SYNCING (R275, R344;
assumption log 85). -/
def joinStandby (s : State) (x : SyncSet) : State :=
  let (ok, s1) := joinImage s x.image
  if ok then enterStandby s1 x else s1

/-- RESYNC_MARK_RECEIVE: the mark of a T4 boundary has come by + 3 µs, at a station whose boundaries are aligned (R275). -/
def execResyncMarkReceive (x : SashPkt SyncSet) (s : State) : Host.Outcome State Fault Refusal :=
  guarded s (pairUp s && s.pair.state == 5#3 && s.stn.aligned && s.stn.lastB % 100000000 == 0 && x.body.stn.lastB % 100000000 == 0)
    (fun s => sashTake s x.a x.b (fun s => joinStandby s x.body))

/-- TIER_ALIGNED: slewing ends once the boundaries lie within 50 ns of the new reference (R23). Boundaries repeat every T4 period, so
the station's own count of instants goes on, and no boundary is skipped or repeated. -/
def execTierAligned (s : State) : Host.Outcome State Fault Refusal :=
  guarded s (alive s && s.stn.slewing && s.stn.slewLeft.natAbs ≤ 50) (fun s => slewBy s s.stn.slewLeft)

/-! ### PAIR.CTRL -/

/-- SWITCH written by session `sess` (R269). -/
def switchWrite (s : State) (sess : Nat) : State :=
  if s.pair.state = 2#3 && s.pair.partner = 4#3 then
    (if s.pair.switchReq then s else accept (modPair s (fun p => { p with switchReq := true })) .switchover)
  else logEntry (modPair s (fun p => { p with switchReq := false })) 0x4806 sess sevNotice
    [BitVec.ofNat 8 s.pair.state.toNat, BitVec.ofNat 8 s.pair.partner.toNat]

/-- REJOIN: a FAULTY or ISOLATED station seeks again (R268, R274). -/
def rejoinWrite (s : State) : State :=
  if s.pair.state = 6#3 || s.pair.state = 7#3 then
    setRole (modPair s (fun p => { p with faulty := false, heard := false, tookSilent := false })) 1
  else s

/-- CLR_CNT of PAIR.CTRL. -/
def pairClr (s : State) : State :=
  modPair s (fun p => { p with lanes := p.lanes.map (fun l => { l with miss := 0, crc := 0, down := 0 }), switchCnt := 0, resyncCnt := 0
                               cmpCnt := 0, cmpPoint := 0 })

/-- A write of PAIR.CTRL. -/
def pairCtrlWrite (s : State) (sess : Nat) (v : Word) : State :=
  let s1 := if bit v 2 then pairClr s else s
  let s2 := if bit v 1 then rejoinWrite s1 else s1
  if bit v 0 then switchWrite s2 sess else s2

/-- SWITCH (R269). -/
def execSwitch (sess : Fin 4) (s : State) : Host.Outcome State Fault Refusal :=
  keyedCmd s sess 0x30008 (fun s => pairCtrlWrite s sess.val 1)
/-- REJOIN (R268, R274). -/
def execRejoin (sess : Fin 4) (s : State) : Host.Outcome State Fault Refusal :=
  keyedCmd s sess 0x30008 (fun s => pairCtrlWrite s sess.val 2)
/-- PAIR_CLR_CNT; the register holds RWK fields (R7, R10). -/
def execPairClrCnt (sess : Fin 4) (s : State) : Host.Outcome State Fault Refusal :=
  keyedCmd s sess 0x30008 (fun s => pairCtrlWrite s sess.val 4)

end Sys2Proof.Machine
end

