-- ==== Sys2Proof/Machine/StkCmds.lean ====
section
/-! DEFINITION. The meanings of the stack's commands: Transom packets and ports, barriers, snapshots and the stack reset (R49,
R280–R294). -/

namespace Sys2Proof.Machine
open Sys2Proof

/-- The Transom ports forward: the main domain is powered and its clock sound, through a warm reset and whatever its mode (R280). -/
def transomUp (s : State) : Bool := (alive s || s.pwr.power == .warm) && s.stn.refOk && s.stn.pllLock

/-- A barrier release reaches this station and goes on (R291, R292). -/
def releaseHear (s : State) (from_ : Fin 8) (id : BitVec 16) (failed : Bool) : State :=
  let s1 := stkMsg s (downOuts s from_) (.barRelease id failed)
  if s.stk.role = 0 then s1 else barrierEnd s1 id failed

/-- The announcement of a snapshot reaches this station and goes on; one that it has heard already, from the partner or the parent, changes
nothing (R291, R293). -/
def announceHear (s : State) (from_ : Fin 8) (id : BitVec 16) (ts : BitVec 64) : State :=
  let s1 := stkMsg s (downOuts s from_) (.snapAnnounce id ts)
  if s.stk.role = 0 || (s.stk.snapState ≠ 0 && s.stk.snapId = id && s.stk.snapT = ts) then s1 else snapHear s1 id ts

/-- A raise of another station reaches the master's supervisor queue (R409). -/
def raiseHear (s : State) (source prio : Nat) : State :=
  if isMaster s && !isStandby s then { s with evr := supEnqueue s.evr (source, prio) } else s

/-- What a packet for this station means; `from_` is the input it came on, 4 the Sash link and 5 + q Transom port q. -/
def packetTake (s : State) (from_ : Fin 8) : TPkt → State
  | .xfer i vals => xferTake s i vals
  | .timing ns => timingTake s ns
  | .members m sched time => membersHear s from_ m sched time
  | .barArrive pair id => barrierCollect s pair id (upOuts s from_)
  | .barRelease id failed => releaseHear s from_ id failed
  | .snapAnnounce id ts => announceHear s from_ id ts
  | .snapSet stn id t d => snapCollect s stn id t d
  | .raised n p => raiseHear s n.val p.val
  | .problem x => problemHear s x
  | .transit port => if s.stk.up[port] then send s (.forward port.val) else s
  | .placedTransit port h ns => if s.stk.up[port] || s.pair.member then plForward s from_ port h ns else s

/-- What a station does with a packet in a warm reset: it forwards packets for other pairs and messages of the master, and hears which
pairs are reachable (R280, R288). -/
def packetPass (s : State) (from_ : Fin 8) : TPkt → State
  | .members m sched time => membersHear s from_ m sched time
  | .barArrive pair id => stkMsg s (upOuts s from_) (.barArrive pair id)
  | .barRelease id failed => stkMsg s (downOuts s from_) (.barRelease id failed)
  | .snapAnnounce id ts => stkMsg s (downOuts s from_) (.snapAnnounce id ts)
  | .transit port => if s.stk.up[port] then send s (.forward port.val) else s
  | .placedTransit port h ns => if s.stk.up[port] then plForward s from_ port h ns else s
  | .xfer _ _ => s
  | .timing _ => s
  | .snapSet _ _ _ _ => s
  | .raised _ _ => s
  | .problem _ => s

/-- A packet that fails its CRC is discarded and counted, and the third in a row takes the port down (R281). -/
def packetBad (s : State) (q : Fin 3) : State :=
  let s1 := modStk s (fun k => { k with ports := vmod k.ports q (fun c => { c with crc := satInc c.crc, run := c.run + 1 }) })
  if 3 ≤ s1.stk.ports[q].run then portFalls s1 q id else s1

/-- A packet on a port that passes its CRC ends a run of bad ones (R281). -/
def packetGood (s : State) (q : Fin 3) : State := modStk s (fun k => { k with ports := vmod k.ports q (fun c => { c with run := 0 }) })

/-- A sound packet is taken, or passed on in a warm reset. -/
def packetIn (s : State) (from_ : Fin 8) (p : TPkt) : State := if alive s then packetTake s from_ p else packetPass s from_ p

/-- TRANSOM_PACKET_RECEIVE on a port, where `crcOk` tells of its CRC, or from the partner over the Sash link, whose lanes tell of theirs
(R259, R280, R281, R285). -/
def execTransomPacketReceive (q : PktIn) (crcOk : Bool) (p : TPkt) (s : State) : Host.Outcome State Fault Refusal :=
  guarded s (transomUp s && (match q with | .port i => s.stk.up[i] | .sash _ _ => s.pair.member)) (fun s =>
    match q with
    | .port i => if crcOk then packetIn (packetGood s i) ⟨5 + i.val, by omega⟩ p else packetBad s i
    | .sash a b => sashTake s a b (fun s => packetIn s 4 p))

/-- PORT_DOWN: no signal for 1 µs. Where `told`, the partner has told by then what its tree reaches and the schedule ID of the master there
(R281, R284, R288, R289). -/
def execPortDown (q : Fin 3) (mirror : Word) (sched : BitVec 16) (told : Bool) (s : State) : Host.Outcome State Fault Refusal :=
  guarded s (transomUp s && s.stk.up[q]) (fun s =>
    portFalls s q (fun k => if told then StkBlk.schedHeard { k with mirror := mirror } 4 sched else k))

/-- PORT_UP after 100 ms without error: `heard` are the pairs and `sched` the schedule ID that the neighbour tells, and `time` is the stack
time that it carries (R281, R283, R284, R288, R289). -/
def execPortUp (q : Fin 3) (heard : Word) (sched : BitVec 16) (time : Option (BitVec 64)) (s : State) :
    Host.Outcome State Fault Refusal :=
  guarded s (transomUp s && !s.stk.up[q]) (fun s =>
    let s1 := modStk (raiseUp s (psSrc 9)) (fun k => { k with up := k.up.set q true, ports := vmod k.ports q (fun c => { c with run := 0 }) })
    membersHear s1 ⟨5 + q.val, by omega⟩ heard sched time)

/-- BARRIER_TIMEOUT: 10 ms after the first arrival of the barrier that began first at the master (R292). -/
def execBarrierTimeout (s : State) : Host.Outcome State Fault Refusal :=
  guarded s (alive s && isMaster s && !s.stk.cols.isEmpty) (fun s =>
    match s.stk.cols.head? with
    | some c => barrierRelease (passTo s (c.t0 + 10000000)) c.id true
    | none => s)

/-- BARRIER_ARRIVE: a session writes STK.BARRIER (R292). -/
def execBarrierArrive (sess : Fin 4) (id : BitVec 16) (s : State) : Host.Outcome State Fault Refusal :=
  keyedCmd s sess 0x4002C (fun s => barrierWrite s id)

/-- SNAPSHOT_LATCH at t_s, after the boundary actions (R293). -/
def execSnapshotLatch (s : State) : Host.Outcome State Fault Refusal := guarded s (alive s && snapDue s) snapLatch

/-- STACK_RESET_SYMBOL on a port: forwarded, then warm reset (R294). -/
def execStackResetSymbol (q : Fin 3) (s : State) : Host.Outcome State Fault Refusal :=
  guarded s (transomUp s && s.stk.up[q]) (fun s => warmEnter (send s .resetSymbol) 5)

/-- STACK_RESET written by session `sess`: accepted only at the master (R294). -/
def stackResetWrite (s : State) (sess : Nat) : State :=
  if isMaster s then warmEnter (send s .resetSymbol) 5
  else logEntry s 0x4001 sess sevNotice [BitVec.ofNat 8 s.stk.role.toNat]

/-- A write of STK.CTRL. -/
def stkCtrlWrite (s : State) (sess : Nat) (v : Word) : State :=
  let s1 := if bit v 2 then stkClr s else s
  let s2 := if bit v 1 then snapRequest s1 else s1
  if bit v 0 then stackResetWrite s2 sess else s2

/-- STACK_RESET (R294). -/
def execStackReset (sess : Fin 4) (s : State) : Host.Outcome State Fault Refusal :=
  keyedCmd s sess 0x40020 (fun s => stkCtrlWrite s sess.val 1)
/-- SNAP_REQ (R293). -/
def execSnapReq (sess : Fin 4) (s : State) : Host.Outcome State Fault Refusal :=
  keyedCmd s sess 0x40020 (fun s => stkCtrlWrite s sess.val 2)
/-- STK_CLR_CNT; the register holds RWK fields (R7, R10). -/
def execStkClrCnt (sess : Fin 4) (s : State) : Host.Outcome State Fault Refusal :=
  keyedCmd s sess 0x40020 (fun s => stkCtrlWrite s sess.val 4)

/-- REMOTE_OUTPUT_LOSS: a remote output point has missed REM_LOSS_T0 commands in a row and takes its safe state (R287). -/
def execRemoteOutputLoss (p : Fin 96) (s : State) : Host.Outcome State Fault Refusal :=
  guarded s (alive s && (match remLoss s p.val with | some n => (aget s.stk.miss p.val).getD 0 ≥ n | none => false) && !s.stk.remSafe.contains p.val)
    (fun s => remReadback (modStk (modPt s p (Pt.toSafe (refNow s))) (fun k => { k with remSafe := p.val :: k.remSafe })))

end Sys2Proof.Machine
end

