-- ==== Sys2Proof/Machine/RegRead.lean ====
section
/-! DEFINITION. What every register of the map reads, block by block (the register tables of the chapters, R4, R6, R412), and
the reads that latch or count (R18, R41, R164). -/

namespace Sys2Proof.Machine
open Sys2Proof

/-- The register at offset `o` of a table of (offset, word) pairs; an address that holds no register reads 0 (R6). -/
def pick (l : List (Nat × Word)) (o : Nat) : Word := (aget l o).getD 0

/-- A number as a register word. -/
def wN (n : Nat) : Word := BitVec.ofNat 32 n

/-- A word from one truth value per bit, bit 0 first. -/
def bitsOf (l : List Bool) : Nat := l.foldr (fun b a => b2n b + 2 * a) 0

/-- A whole number as a register word, in two's complement. -/
def wI (i : Int) : Word := BitVec.ofInt 32 i

/-! ### STN -/

/-- STN.STATUS.STN_OK (R74). -/
def stnOk (s : State) : Bool :=
  s.img.running.isSome && inRunHold s && !(bit s.saf.cfg 0 && s.saf.sleFault) && alive s && s.stn.refOk && s.stn.pllLock
    && (s.pair.state == 0#3 || s.pair.state == 2#3 || s.pair.state == 3#3 || s.pair.state == 4#3) && !s.pair.idConflict

/-- The PAIR_ACTIVE relay is closed (R260). -/
def pairActive (s : State) : Bool := s.pair.state == 2#3 || s.pair.state == 3#3

/-- Whole seconds left on the hold timer (R77). -/
def holdLeft (s : State) : Nat :=
  if anyFrozen s then
    let t := s.stn.holdTmo.toNat
    ((if t = 0 ∨ 60 < t then 60 else t) * 1000000000 - (s.stn.time - s.stn.holdT0).toNat) / 1000000000
  else 0

/-- The force-table entry that STN.FORCE_IDX shows (R123). -/
def shownForce (s : State) : Option Force := s.stn.forces[s.stn.forceIdx.toNat]?

/-- The registers of STN, by offset. -/
def stnRegs (s : State) : List (Nat × Word) :=
  let n := s.stn
  [ (0x000, 0x00960001), (0x004, wN Config.hwIssue.toNat), (0x008, Config.serial.truncate 32), (0x00C, wN (Config.serial.toNat / 2 ^ 32)),
    (0x010, Config.fw),
    (0x014, pack [(0, 1, b2n (stnOk s)), (1, 1, b2n (pairActive s)), (2, 4, n.wakePins.toNat), (6, 1, b2n n.stackRoot), (7, 1, b2n n.pairIdPin)]),
    (0x100, n.time.truncate 32), (0x104, wN (n.time.toNat / 2 ^ 32)),
    (0x108, pack [(0, 2, tierSrc s), (2, 1, b2n n.aligned), (3, 1, b2n n.slewing)]),
    (0x110, n.cnt[0]), (0x114, n.cnt[1]), (0x118, n.cnt[2]), (0x11C, n.cnt[3]), (0x120, n.cnt[4]),
    (0x130, pack [(0, 1, b2n n.refOk), (1, 1, b2n n.pllLock), (8, 1, b2n n.refLoss)]) ]
  ++ [ (0x200, admitWord n), (0x204, pack [(0, 12, n.peakSlots.toNat), (16, 12, 0x8CA)]), (0x208, wN n.timedLate.toNat),
    (0x20C, pack [(0, 16, n.lateCnt.toNat), (16, 8, n.satCnt.toNat)]),
    (0x214, pack [(0, 16, n.timedKib.toNat), (16, 16, n.placedFree.toNat)]), (0x218, BitVec.ofNat 32 (dramFree s)),
    (0x21C, pack [(0, 20, n.dwVar.toNat), (24, 4, n.dwReason.toNat)]) ]
  ++ [ (0x300, pack [(0, 2, n.mode.code), (2, 1, b2n n.faultStop), (8, 4, n.stopCause.toNat), (16, 4, n.ovrEngine.toNat),
                     (20, 1, b2n n.ovrEvent), (24, 2, n.lastStart.toNat), (27, 1, b2n n.commissioning), (28, 1, b2n n.holdPermit)]),
    (0x304, wN n.modeCmd.toNat), (0x30C, wN n.holdTmo.toNat),
    (0x310, pack [(0, 16, bitsOf (logicEngines.map (fun e => s.le[e].frozen))), (16, 6, holdLeft s)]),
    (0x314, pack [(0, 17, n.retainVars.toNat), (17, 1, b2n n.retHalf), (18, 1, b2n n.restoreFail)]), (0x318, n.retainSeq) ]
  ++ [ (0x400, wN n.olcCmd.toNat), (0x404, pack [(0, 3, n.olcState.toNat), (3, 1, b2n n.persisted), (8, 4, n.olcResult.toNat)]),
    (0x408, n.olcCount), (0x40C, wN n.olcTier.toNat), (0x410, pack [(0, 16, n.olcKept.toNat), (16, 16, n.olcNew.toNat)]),
    (0x414, pack [(0, 16, n.olcDelInst.toNat), (16, 16, n.olcDelVars.toNat)]),
    (0x418, pack [(0, 16, n.olcGen.toNat), (16, 11, n.olcForceDrop.toNat)]),
    (0x420, pack [(0, 20, n.forceVar.toNat), (20, 2, n.forceAct.toNat)]), (0x424, n.forceVal),
    (0x428, pack [(0, 11, n.forces.length), (11, 1, b2n (!n.forces.isEmpty)), (12, 3, n.forceRes.toNat)]),
    (0x42C, wN n.forceIdx.toNat),
    (0x430, match shownForce s with | some f => pack [(0, 20, f.idx), (31, 1, 1)] | none => 0),
    (0x434, match shownForce s with | some f => f.value | none => 0) ]

/-! ### IMG, EVR, PAIR, STK, PWR and LOG -/

/-- The registers of profile `p`. -/
def profRegs (s : State) (p : Fin 4) : List (Nat × Word) :=
  match s.img.commits[p] with
  | none => [(8, pack [(3, 1, b2n (s.img.writeLost.getLsbD p.val))])]
  | some c => [ (0, wN c.imageId), (4, wN (c.imageId / 2 ^ 32)),
                (8, pack [(0, 1, 1), (1, 1, b2n c.bank), (2, 1, b2n c.commissioning), (3, 1, b2n (s.img.writeLost.getLsbD p.val)),
                          (8, 19, cdiv c.totalLen 1024)]), (12, c.seq) ]

/-- ID of the running image, 0 without one. -/
def runningId (s : State) : Nat := match s.img.running with | some b => imageId b | none => 0

/-- The registers of IMG. -/
def imgRegs (s : State) (o : Nat) : Word :=
  let i := s.img
  if 0x40 ≤ o ∧ o < 0x80 then pick (profRegs s (Fin.ofNat 4 (o / 0x10))) (o % 0x10)
  else pick [ (0x00, pack [(0, 2, i.actProf.toNat), (2, 1, b2n i.running.isSome), (8, 2, i.pinProf.toNat), (10, 1, b2n i.selCmd),
                       (16, 4, bitsOf (i.commits.toList.map Option.isSome)), (20, 4, i.same.toNat)]),
    (0x04, wN (runningId s)), (0x08, wN (runningId s / 2 ^ 32)),
    (0x0C, pack [(0, 4, i.loadCode.toNat), (4, 4, i.loadSect.toNat), (8, 2, i.loadProf.toNat), (10, 1, b2n i.fromFlash)]),
    (0x10, pack [(0, 3, i.wState.toNat), (4, 2, i.wProf.toNat), (6, 1, b2n i.wBank), (8, 7, i.wProgress.toNat)]),
    (0x14, pack [(0, 2, i.swCmdProf.toNat), (2, 1, b2n i.swReq)]),
    (0x18, pack [(0, 3, i.swState.toNat), (4, 2, i.swTarget.toNat), (6, 1, b2n i.swSrc), (8, 4, i.swResult.toNat)]),
    (0x20, i.swT4), (0x24, pack [(0, 16, i.swDone.toNat), (16, 16, i.swRefused.toNat)]) ] o

/-- Sources with at least one target (R408). -/
def routed (v : Evr) : Nat := (v.routes.toList.filter (fun w => bit w 0 || bit w 1 || bit w 8 || bit w 9 || bit w 10)).length

/-- The registers of EVR. -/
def evrRegs (s : State) (o : Nat) : Word :=
  let v := s.evr
  if 0x100 ≤ o ∧ o < 0x140 then vget v.raised ((o - 0x100) / 4) 0
  else if 0x800 ≤ o ∧ o < 0x1000 then vget v.routes ((o - 0x800) / 4) 0
  else pick [ (0x00, wN (min (routed v) 0x3FF)), (0x04, pack [(0, 8, v.queue.length), (16, 16, v.drop.toNat)]), (0x10, wN v.sel.toNat),
              (0x14, vget v.raiseCnt v.sel.toNat 0) ] o

/-- A register of a Sash lane. -/
def laneWord (l : Lane) : Word := pack [(0, 16, l.miss.toNat), (16, 8, l.crc.toNat), (24, 8, l.down.toNat)]

/-- The registers of PAIR, by offset. -/
def pairRegs (s : State) : List (Nat × Word) :=
  let p := s.pair
  [ (0x00, pack [(0, 1, b2n p.member), (1, 1, b2n s.stn.pairIdPin)]),
    (0x04, pack [(0, 3, p.state.toNat), (3, 3, p.partner.toNat), (6, 1, b2n (p.laneUp[0] != p.laneUp[1])), (7, 1, b2n p.idConflict),
                 (8, 1, b2n p.laneUp[0]), (9, 1, b2n p.laneUp[1]), (10, 1, b2n p.presence)]),
    (0x08, wN (b2n p.switchReq)),
    (0x10, pack [(0, 3, p.cause.toNat), (3, 1, b2n p.released), (4, 2, p.t0Lost.toNat), (8, 2, p.delayUs.toNat)]),
    (0x14, p.takeoverT), (0x18, pack [(0, 10, p.mismatch.toNat), (12, 3, p.result.toNat), (16, 16, p.digCnt.toNat)]),
    (0x1C, laneWord p.lanes[0]), (0x20, laneWord p.lanes[1]),
    (0x24, pack [(0, 8, p.progress.toNat), (8, 8, p.passes.toNat), (16, 4, min (recentRejoins s).length 15)]),
    (0x28, pack [(0, 16, p.switchCnt.toNat), (16, 16, p.resyncCnt.toNat)]),
    (0x2C, pack [(0, 16, p.cmpCnt.toNat), (16, 7, p.cmpPoint.toNat)]) ]

/-- A register of a Transom port. -/
def portWord (p : PortCnt) : Word := pack [(0, 16, p.late.toNat), (16, 8, p.crc.toNat), (24, 8, p.down.toNat)]

/-- The registers of STK, by offset. CTRL reads 0: a snapshot request fixes t_s in its own step (R293). -/
def stkRegs (s : State) : List (Nat × Word) :=
  let k := s.stk
  [ (0x00, pack [(0, 1, b2n k.member), (1, 5, k.pairNum.toNat), (6, 1, b2n k.single), (7, 1, b2n s.stn.stackRoot),
                 (8, 3, if k.member then pairDepth k.pairNum.toNat else 0), (16, 16, k.schedId.toNat)]),
    (0x04, pack [(0, 3, k.role.toNat), (3, 1, b2n k.holdover), (4, 1, b2n k.synced), (5, 1, b2n k.up[0]), (6, 1, b2n k.up[1]),
                 (7, 1, b2n k.up[2]), (8, 3, k.depth.toNat), (11, 1, b2n k.mismatch)]),
    (0x08, k.members), (0x0C, k.ofs.truncate 32), (0x10, wN (k.ofs.toNat / 2 ^ 32)),
    (0x14, (stackTime s).truncate 32), (0x18, wN ((stackTime s).toNat / 2 ^ 32)),
    (0x24, pack [(0, 16, k.snapId.toNat), (16, 2, k.snapState.toNat)]), (0x28, k.snapT.truncate 32),
    (0x2C, pack [(0, 16, k.barId.toNat), (16, 2, k.barState.toNat)]),
    (0x30, portWord k.ports[0]), (0x34, portWord k.ports[1]), (0x38, portWord k.ports[2]),
    (0x3C, pack [(0, 16, k.peerLost.toNat), (16, 16, k.reroot.toNat)]) ]

/-- PWR.STATUS.POWER (R387, R391, R394). -/
def powerCode (p : PwrBlk) : Nat :=
  if p.pf then 3
  else match p.entry with
    | .agreed => 2
    | .slots _ => 2
    | .restore _ => 2
    | .none => b2n p.drowse
    | .asked => b2n p.drowse
    | .voting => b2n p.drowse

/-- The registers of PWR, by offset. -/
def pwrRegs (s : State) : List (Nat × Word) :=
  let p := s.pwr
  [ (0x00, pack [(0, 2, powerCode p), (2, 2, p.feedA.toNat), (4, 2, p.feedB.toNat), (6, 1, b2n p.pf)]),
    (0x04, pack [(0, 16, p.aV.toNat), (16, 16, p.bV.toNat)]), (0x08, pack [(0, 4, p.cause.toNat), (8, 8, p.warmCnt.toNat)]),
    (0x0C, pack [(0, 1, b2n p.warmReq), (1, 1, b2n p.sleepReq), (2, 1, b2n p.drowse)]),
    (0x14, pack [(0, 3, p.slResult.toNat), (3, 5, p.slBlock.toNat), (8, 4, p.slReason.toNat), (16, 16, p.refuseCnt.toNat)]),
    (0x18, pack [(0, 4, p.pinEn.toNat), (4, 4, p.pinPol.toNat)]),
    (0x1C, pack [(0, 4, p.wakePin.toNat), (4, 8, p.wakeCan.toNat), (12, 1, b2n p.wakeReset)]),
    (0x20, p.sleepCnt.truncate 32), (0x24, wN (p.sleepCnt.toNat / 2 ^ 32)),
    (0x28, pack [(0, 8, p.dropA.toNat), (8, 8, p.dropB.toNat), (16, 8, p.ride.toNat), (24, 8, p.pfCnt.toNat)]) ]

/-- Code of LG_STATUS.FLUSH (R374). -/
def FlushKind.code : FlushKind → Nat
  | .idle => 0
  | .fault => 1
  | .fill => 2
  | .powerFail => 3
  | .command => 4
  | .sleepEntry => 5

/-- Seconds of lock-out left (R382). -/
def lockLeft (s : State) : Nat :=
  if s.log.lockout then (600000000000 - (s.stn.time - s.log.lockT0).toNat) / 1000000000 else 0

/-- The registers of LOG, by offset. -/
def logRegs (s : State) : List (Nat × Word) :=
  let g := s.log
  [ (0x00, wN g.dbSevMin.toNat), (0x04, g.dbNext), (0x08, wN g.dbDrop.toNat), (0x0C, g.lgNext),
    (0x10, (oldestSeq (goodRecs g.circ)).getD 0),
    (0x14, pack [(0, 9, g.buf.length), (9, 3, g.flush.code), (12, 1, b2n ((goodRecs g.perm).length == 4096)),
                 (13, 1, b2n g.acrossSleep), (14, 1, b2n g.unclean), (15, 1, b2n (g.clearStep == 3)), (16, 7, g.hist.length),
                 (23, 1, b2n g.mramErr)]),
    (0x18, wN g.pcyc.toNat), (0x1C, g.opms.truncate 32), (0x20, wN (g.opms.toNat / 2 ^ 32)),
    (0x24, pack [(0, 16, g.lost.toNat), (16, 8, g.torn.toNat), (24, 8, g.corrupt.toNat)]),
    (0x2C, wN (b2n (g.cmdLeft > 0))), (0x30, pack [(0, 16, g.failCnt.toNat), (16, 10, lockLeft s)]) ]

/-! ### FLD and SAF -/

/-- The registers of point `n`, by offset; those of a point absent from the image in force read 0 (R363). -/
def ptRegs (s : State) (n : Fin 96) : List (Nat × Word) :=
  let p := s.fld.pts[n]
  if p.gone then [] else
  [ (0x00, p.cfg), (0x04, p.safeVal), (0x08, p.pwmPeriod), (0x0C, p.smp.val), (0x10, p.rb.val),
    (0x14, pack [(0, 5, p.diag.toNat), (5, 1, b2n (p.prot != 0)), (8, 5, p.diagL.toNat)]), (0x18, p.cmp), (0x1C, wN p.diagCnt.toNat) ]

/-- The registers of bank `b`, by offset. -/
def bankRegs (s : State) (b : Fin 8) : List (Nat × Word) :=
  let k := s.fld.banks[b]
  [ (0x00, k.cfg), (0x04, wN k.tmo.toNat),
    (0x08, pack [(0, 1, b2n k.open_), (1, 1, b2n (allSafe s b)), (2, 1, b2n k.drive), (3, 1, b2n k.aoWait), (16, 16, k.closeCnt.toNat)]),
    (0x0C, pack [(0, 1, b2n k.fsOk), (1, 2, k.lp.toNat), (3, 1, b2n k.ovl)]), (0x10, pack [(0, 16, k.volt.toNat), (16, 16, k.curr.toNat)]),
    (0x14, wN (bitsOf ((pointsOf b).map (fun n => s.fld.pts[n].diagL != 0 && !s.fld.pts[n].gone)))) ]

/-- The registers of a bank at offset `o`. -/
def fldReg (s : State) (b : Fin 8) (o : Nat) : Word :=
  if 0x100 ≤ o ∧ o < 0x280 then pick (ptRegs s (Fin.ofNat 96 (12 * b.val + (o - 0x100) / 0x20))) (o % 0x20)
  else pick (bankRegs s b) o

/-- SAF.STATUS.ARMED (R257). -/
def armed (s : State) : Bool := s.saf.so.toList.any (fun o => o.state == 1#2)

/-- The block registers of SAF, by offset. -/
def safRegs (s : State) : List (Nat × Word) :=
  let f := s.saf
  let g := s.le[(16 : Fin 17)]
  [ (0x00, f.cfg),
    (0x04, pack [(0, 1, b2n (armed s)), (1, 1, b2n g.running), (2, 1, b2n f.sleFault), (3, 3, f.sleCause.toNat), (6, 2, f.lp.toNat),
                 (8, 8, bitsOf (f.so.toList.map (fun o => o.state == 1#2))), (16, 4, bitsOf (f.tp.toList.map (fun t => t.fault)))]),
    (0x08, pack [(0, 16, min g.scanLast.toNat 0xFFFF), (16, 16, min g.scanMax.toNat 0xFFFF)]), (0x0C, wN f.budget.toNat),
    (0x10, f.secId.truncate 32), (0x14, wN (f.secId.toNat / 2 ^ 32)),
    (0x18, pack [(0, 16, bitsOf ((allFin 16).map (fun n => (siValue s n).val == 1))), (16, 16, bitsOf (f.si.toList.map SiCh.fault))]),
    (0x24, f.wdLast) ]

/-- The registers of SI_n, by offset; SEEN_TP reads 0 unless a cause 2 is pending (R247). -/
def siRegs (s : State) (n : Fin 16) : List (Nat × Word) :=
  let c := s.saf.si[n]
  [ (0x0, c.cfg),
    (0x4, pack [(0, 1, (siValue s n).val.toNat), (1, 1, b2n c.fault), (2, 3, match c.pend with | p :: _ => p.cause | [] => 0),
                (5, 2, if c.pend.any (fun p => p.cause == 2) then c.seenTp.toNat else 0), (8, 1, b2n c.latched)]), (0x8, wN c.cnt.toNat) ]

/-- The register of TP_k, by offset. -/
def tpRegs (s : State) (k : Fin 4) : List (Nat × Word) :=
  let t := s.saf.tp[k]
  [ (0x0, pack [(0, 1, b2n (tpUsed s k)), (1, 1, b2n t.high), (2, 1, b2n t.fault), (3, 2, t.cause.toNat), (5, 1, b2n t.latched),
                (16, 16, t.curr.toNat)]) ]

/-- The registers of SO_k, by offset; a switch found stuck on conducts (R251). -/
def soRegs (s : State) (k : Fin 8) : List (Nat × Word) :=
  let o := s.saf.so[k]
  [ (0x0, o.cfg),
    (0x4, pack [(0, 2, o.state.toNat), (2, 1, b2n o.reqNow), (3, 1, b2n (o.hs || o.pend.contains 1)),
                (4, 1, b2n (o.ls || o.pend.contains 2)), (5, 3, o.pend.headD 0), (8, 1, b2n o.rej), (9, 1, b2n o.latched)]),
    (0x8, wN o.curr.toNat), (0xC, pack [(0, 16, o.tripCnt.toNat), (16, 16, o.rejCnt.toNat)]) ]

/-- The registers of SAF at offset `o`. -/
def safReg (s : State) (o : Nat) : Word :=
  if 0x100 ≤ o ∧ o < 0x200 then pick (siRegs s (Fin.ofNat 16 ((o - 0x100) / 0x10))) (o % 0x10)
  else if 0x200 ≤ o ∧ o < 0x240 then pick (tpRegs s (Fin.ofNat 4 ((o - 0x200) / 0x10))) (o % 0x10)
  else if 0x300 ≤ o ∧ o < 0x400 then pick (soRegs s (Fin.ofNat 8 ((o - 0x300) / 0x20))) (o % 0x20)
  else pick (safRegs s) o

/-! ### ANG, LOOP and QP -/

/-- The registers of source `a`, by offset. -/
def srcRegs (s : State) (a : Fin 8) : List (Nat × Word) :=
  let r := s.ang.src[a]
  [ (0x00, r.cfg), (0x04, r.span), (0x08, r.still), (0x0C, r.zeroOfs), (0x10, r.stateWord), (0x14, r.angle), (0x18, r.vel),
    (0x1C, r.acc), (0x20, r.turns), (0x24, r.edgeCnt), (0x28, wN r.errCnt.toNat), (0x2C, wN (b2n r.resync)) ]

/-- The registers of VS set `v`, by offset. -/
def vsRegs (s : State) (v : Fin 2) : List (Nat × Word) :=
  let x := s.ang.vs[v]
  [ (0x00, wN x.vnom.toNat), (0x04, wN x.rms[0].toNat), (0x08, wN x.rms[1].toNat), (0x0C, wN x.rms[2].toNat), (0x10, wN x.freq.toNat),
    (0x14, pack [(0, 3, x.present.toNat), (3, 1, b2n x.seqErr)]) ]

/-- The registers of event `n`, by offset. -/
def evtRegs (s : State) (n : Fin 128) : List (Nat × Word) :=
  let e := s.ang.evt[n]
  [ (0x00, e.cfg), (0x04, e.tgt), (0x08, wN e.adv.toNat), (0x0C, e.vmin), (0x10, e.vmax),
    (0x14, pack [(0, 2, e.mode.toNat), (8, 8, e.seq.toNat)]),
    (0x18, pack [(0, 1, b2n e.armed), (1, 1, b2n e.late), (2, 1, b2n e.inhib), (8, 8, e.seqTaken.toNat), (16, 16, e.fireCnt.toNat)]),
    (0x1C, e.lastT) ]

/-- The registers of ANG at offset `o`. -/
def angReg (s : State) (o : Nat) : Word :=
  if 0x100 ≤ o ∧ o < 0x300 then pick (srcRegs s (Fin.ofNat 8 ((o - 0x100) / 0x40))) (o % 0x40)
  else if 0x800 ≤ o ∧ o < 0x840 then pick (vsRegs s (Fin.ofNat 2 ((o - 0x800) / 0x20))) (o % 0x20)
  else if 0x1000 ≤ o ∧ o < 0x2000 then pick (evtRegs s (Fin.ofNat 128 ((o - 0x1000) / 0x20))) (o % 0x20)
  else if o = 0 then
    pack [(0, 8, bitsOf (s.ang.src.toList.map (fun r => r.type != 0))), (8, 2, bitsOf (s.ang.vs.toList.map (fun v => v.used)))]
  else 0

/-- The registers of loop `n`, by offset. -/
def loopRegs (s : State) (n : Fin 192) : List (Nat × Word) :=
  let l := s.lp.loops[n]
  [ (0x00, l.c.cfg), (0x04, l.c.cfg2), (0x08, wN l.c.outDly), (0x0C, wN l.c.cost),
    (0x10, pack [(0, 3, l.state.toNat), (3, 1, b2n l.miss), (4, 1, b2n l.sat), (5, 1, b2n l.lim), (6, 1, b2n l.pvBad),
                 (7, 1, b2n l.spBad), (8, 1, b2n l.ffOff), (9, 1, b2n l.initFlag), (10, 1, b2n l.st.blend.isSome),
                 (11, 3, l.st.region), (14, 2, l.faultCause.toNat), (16, 1, b2n l.stall)]),
    (0x14, l.out), (0x18, wI l.st.w), (0x1C, l.pvReg), (0x20, pack [(0, 16, l.missCnt.toNat), (16, 8, l.consec.toNat)]),
    (0x24, wN l.skipCnt.toNat), (0x28, l.sampleCnt), (0x2C, wN l.st.lambda), (0x30, wN (b2n l.restart)) ]

/-- The loops of engine `e`. -/
def loopsOf (e : Fin 24) : List (Fin 192) := (allFin 8).map (fun l => ⟨8 * e.val + l.val, by omega⟩)

/-- The registers of loop engine `e` at offset `o`. -/
def lpReg (s : State) (e : Fin 24) (o : Nat) : Word :=
  let g := s.lp.eng[e]
  if 0x100 ≤ o ∧ o < 0x300 then pick (loopRegs s (Fin.ofNat 192 (8 * e.val + (o - 0x100) / 0x40))) (o % 0x40)
  else pick [ (0x00, wN (bitsOf ((loopsOf e).map (fun n => s.lp.loops[n].used)))),
    (0x04, pack [(0, 8, g.miss.toNat), (8, 8, bitsOf ((loopsOf e).map (fun n => s.lp.loops[n].state == 7#3))), (16, 8, g.sat.toNat),
                 (24, 1, b2n g.memErr)]), (0x08, wN g.minSlack.toNat) ] o

/-- The registers of slot `p`, by offset. -/
def slotRegs (s : State) (p : Fin 64) : List (Nat × Word) :=
  let q := s.qp.slots[p]
  [ (0x00, pack [(0, 6, qN q.mem), (8, 7, qM q.mem), (16, 3, q.tier.toNat), (20, 7, (q.mem.word 0x08).toNat),
                 (27, 1, b2n (bit (q.mem.word 0x38) 0)), (28, 4, turnsOf s p)]),
    (0x04, q.mem.word 0x0C),
    (0x08, pack [(0, 3, q.status.toNat), (3, 1, b2n q.wsRej), (4, 1, b2n q.cold), (5, 1, b2n q.pivotFixed), (6, 1, b2n q.refact),
                 (7, 1, b2n (stateBit q.mem 2)), (8, 1, b2n (q.phase == .solving)), (16, 12, q.iter.toNat)]),
    (0x0C, q.merit), (0x10, q.rp), (0x14, q.rd), (0x18, q.used), (0x1C, q.mem.word 0x30), (0x20, q.solveCnt),
    (0x24, pack [(0, 16, q.deadlineCnt.toNat), (16, 8, q.infeasCnt.toNat), (24, 8, q.numericCnt.toNat)]),
    (0x28, pack [(0, 6, q.pivFirst.toNat), (16, 6, q.pivCount.toNat)]), (0x2C, wN q.evtMask.toNat), (0x30, wN (b2n q.coldReq)),
    (0x34, pack [(0, 6, q.template.toNat), (6, 1, b2n q.remote), (16, 12, q.reqEcho.toNat), (28, 4, q.supersede.toNat)]) ]

/-- The slots of cluster `c`. -/
def slotsOf (c : Fin 8) : List (Fin 64) := (allFin 8).map (fun i => ⟨8 * c.val + i.val, by omega⟩)

/-- The registers of cluster `c` at offset `o`; MEM_DATA shows the word at MEM_ADDR (R164). -/
def qpReg (s : State) (c : Fin 8) (o : Nat) : Word :=
  let k := s.qp.clus[c]
  if 0x100 ≤ o ∧ o < 0x300 then pick (slotRegs s (Fin.ofNat 64 (8 * c.val + (o - 0x100) / 0x40))) (o % 0x40)
  else pick [ (0x00, pack [(0, 8, bitsOf ((slotsOf c).map (fun p => s.qp.slots[p].tier != 0))),
                           (8, 8, bitsOf ((slotsOf c).map (fun p => s.qp.slots[p].tier == 7#3)))]), (0x04, k.turns),
    (0x08, pack [(0, 8, bitsOf ((slotsOf c).map (fun p => s.qp.slots[p].phase == .solving))), (8, 1, b2n k.memErr)]),
    (0x0C, pack [(2, 14, k.addr.toNat), (16, 3, k.slot.toNat)]), (0x10, (memDataRead s c).1) ] o

/-! ### CAN, NET and LE -/

/-- The registers of controller `k`, by offset. -/
def canRegs (s : State) (k : Fin 8) : List (Nat × Word) :=
  let c := s.can.ctl[k]
  [ (0x00, c.cfg), (0x04, c.nbt), (0x08, c.dbt), (0x0C, c.sjw),
    (0x10, pack [(0, 3, c.state.toNat), (3, 2, c.errState), (5, 3, c.lec.toNat), (8, 3, c.dlec.toNat), (11, 1, b2n c.pxe),
                 (12, 7, c.tdcv.toNat), (19, 1, b2n c.ttSync), (20, 1, b2n c.ttMaster), (21, 1, b2n c.conflict), (22, 6, c.cycle.toNat)]),
    (0x14, pack [(0, 9, c.tec.toNat), (16, 8, c.recv.toNat)]),
    (0x18, pack [(0, 1, b2n c.boffReq), (1, 1, b2n c.sleepReq), (2, 1, b2n c.wakeReq)]), (0x20, c.rxCnt), (0x24, c.txCnt),
    (0x28, pack [(0, 8, c.boffCnt.toNat), (8, 8, c.oneshot.toNat), (16, 8, c.pxeCnt.toNat), (24, 8, c.winMiss.toNat)]),
    (0x2C, pack [(0, 16, c.overwrite.toNat), (16, 16, c.replace.toNat)]),
    (0x30, pack [(0, 8, c.lenErr.toNat), (8, 8, c.capOvf.toNat), (16, 8, c.tdcErr.toNat), (24, 8, c.rfLate.toNat)]),
    (0x34, c.wakeCfg), (0x38, c.wakeId), (0x3C, c.wakeIdm), (0x40, c.wakeDm.truncate 32) ]

/-- The registers of transmit telegram `t`, by offset. -/
def txRegs (s : State) (t : Fin 64) : List (Nat × Word) :=
  match s.net.tx[t] with
  | none => []
  | some x => [(0x0, pack [(0, 16, x.telId.toNat), (16, 3, x.tier), (24, 8, x.rep)]), (0x4, x.seq)]

/-- The registers of receive telegram `r`, by offset. -/
def rxRegs (s : State) (r : Fin 128) : List (Nat × Word) :=
  match s.net.rx[r] with
  | none => []
  | some x =>
    [ (0x0, pack [(0, 1, b2n x.degraded), (1, 1, b2n x.diff), (2, 1, b2n x.wdgExp), (3, 1, b2n (x.wdgExp || x.discarded)),
                  (16, 16, x.left.toNat)]), (0x4, x.last.getD 0),
      (0x8, pack [(0, 8, x.missA.toNat), (8, 8, x.errA.toNat), (16, 8, x.late.toNat), (24, 8, x.diffCnt.toNat)]),
      (0xC, pack [(0, 8, x.missB.toNat), (8, 8, x.errB.toNat), (16, 8, x.gap.toNat), (24, 8, x.expCnt.toNat)]) ]

/-- A port register. -/
def netPortWord (p : NetPort) : Word := pack [(0, 1, b2n p.link), (16, 8, p.downCnt.toNat), (24, 8, p.qdrop.toNat)]

/-- The registers of NET at offset `o`. -/
def netReg (s : State) (o : Nat) : Word :=
  let n := s.net
  if 0x100 ≤ o ∧ o < 0x500 then pick (txRegs s (Fin.ofNat 64 ((o - 0x100) / 0x10))) (o % 0x10)
  else if 0x800 ≤ o ∧ o < 0x1000 then pick (rxRegs s (Fin.ofNat 128 ((o - 0x800) / 0x10))) (o % 0x10)
  else pick [ (0x00, pack [(0, 16, n.etype.toNat), (16, 7, (n.tx.toList.filter Option.isSome).length), (24, 8, (n.rx.toList.filter Option.isSome).length)]),
    (0x04, netPortWord n.ports[0]), (0x08, netPortWord n.ports[1]), (0x0C, netPortWord n.ports[2]),
    (0x10, portIp s 0), (0x14, portIp s 1), (0x18, portIp s 2), (0x1C, Config.mac.truncate 32), (0x20, wN (Config.mac.toNat / 2 ^ 32)),
    (0x24, wN n.stnId.toNat), (0x28, pack [(0, 3, (n.sess.toList.filter Option.isSome).length), (16, 16, n.authFail.toNat)]),
    (0x34, n.drop) ] o

/-- The registers of engine `e`, by offset. -/
def leRegs (s : State) (e : Fin 16) : List (Nat × Word) :=
  let g := s.le[e]
  let st := if !g.used then 3 else if g.frozen then 2 else b2n g.running
  [ (0x00, pack [(0, 3, g.tier.toNat), (4, 3, g.nEvt.toNat), (8, 17, g.code.length)]),
    (0x04, pack [(0, 2, st), (2, 1, b2n g.firstFlag), (3, 1, b2n g.overrun), (4, 1, b2n g.fault), (5, 1, b2n g.merged), (8, 2, g.frozenBy.toNat)]),
    (0x08, wN g.scanLast.toNat), (0x0C, wN g.scanMax.toNat), (0x10, wN g.budget.toNat), (0x14, g.scanCnt),
    (0x18, pack [(0, 16, g.bkptAddr.toNat), (31, 1, b2n g.bkptEn)]), (0x1C, wN g.holdCmd.toNat), (0x20, wN g.pcHold.toNat),
    (0x24, pack [(0, 4, bitsOf g.pending.toList), (8, 8, g.mergeCnt.toNat)]), (0x28, pack [(1, 1, b2n g.restart)]) ]

/-! ### The whole map -/

/-- The DATA index of an address in the DATA area, whose indices have 20 bits (R11, R412). -/
def dataIdx (a : Nat) : Option Nat := if 0x1000000 ≤ a ∧ a < 0x1800000 then some ((a - 0x1000000) / 8) else none

/-- The tag of a variable as the word at offset + 4 (R11). -/
def tagWord (t : Tag) : Word := wN (tagBits t).toNat

/-- What the register at an address holds, without the effect of a read (R4, R6, R412). -/
def regWord (s : State) (a : Nat) : Word :=
  let o := a % 0x10000
  if 0x100000 ≤ a then
    if a < 0x200000 then pick (leRegs s (Fin.ofNat 16 ((a - 0x100000) / 0x10000))) o
    else match dataIdx a with
      | some n => if a % 8 = 0 then (dataRead s n).val else tagWord (dataRead s n).tag
      | none => 0
  else match a / 0x10000 with
    | 0x0 => pick (stnRegs s) o
    | 0x1 => imgRegs s o
    | 0x2 => evrRegs s o
    | 0x3 => pick (pairRegs s) o
    | 0x4 => pick (stkRegs s) o
    | 0x5 => pick (pwrRegs s) o
    | 0x6 => pick (logRegs s) o
    | 0x8 => fldReg s (Fin.ofNat 8 (o / 0x2000)) (o % 0x2000)
    | 0xA => safReg s o
    | 0xB => angReg s o
    | 0xC => if o < 0xC000 then lpReg s (Fin.ofNat 24 (o / 0x800)) (o % 0x800) else 0
    | 0xD => qpReg s (Fin.ofNat 8 (o / 0x2000)) (o % 0x2000)
    | 0xE => if o < 0x8000 then pick (canRegs s (Fin.ofNat 8 (o / 0x1000))) (o % 0x1000) else 0
    | 0xF => netReg s o
    | _ => 0

/-- Changes the latches of requester `r`. -/
def modLatch (s : State) (r : Fin 21) (f : Latch → Latch) : State := { s with latch := vmod s.latch r f }

/-- A read of STN.TIME_LO latches the upper half for the requester (R18). -/
def readTimeLo (s : State) (r : Fin 21) : Word × State :=
  (regWord s 0x100, modLatch s r (fun l => { l with timeHi := some (regWord s 0x104) }))
/-- A read of STK.TIME_LO (R18, R33). -/
def readStkTimeLo (s : State) (r : Fin 21) : Word × State :=
  (regWord s 0x40014, modLatch s r (fun l => { l with stkHi := some (regWord s 0x40018) }))
/-- A read of LOG.OPMS_LO (R18). -/
def readOpmsLo (s : State) (r : Fin 21) : Word × State :=
  (regWord s 0x6001C, modLatch s r (fun l => { l with opmsHi := some (regWord s 0x60020) }))
/-- A read of PWR.SLEEP_CNT_LO (R18). -/
def readSleepCntLo (s : State) (r : Fin 21) : Word × State :=
  (regWord s 0x50020, modLatch s r (fun l => { l with sleepHi := some (regWord s 0x50024) }))
/-- A read of the value word of DATA index `n` latches its tag (R41). -/
def readData (s : State) (r : Fin 21) (n : Nat) : Word × State :=
  ((dataRead s n).val, modLatch s r (fun l => { l with data := some (n, (dataRead s n).tag) }))
/-- A read of the tag word of DATA index `n` (R41). -/
def readTag (s : State) (r : Fin 21) (n : Nat) : Word :=
  match s.latch[r].data with
  | some (m, t) => if m = n then tagWord t else tagWord (dataRead s n).tag
  | none => tagWord (dataRead s n).tag

/-- A read by requester `r` of the aligned word at an address (R5, R18, R41, R164). -/
def readReg (s : State) (r : Fin 21) (a : Nat) : Word × State :=
  match dataIdx a with
  | some n => if a % 8 = 0 then readData s r n else (readTag s r n, s)
  | none =>
    if a = 0x100 then readTimeLo s r
    else if a = 0x104 then (s.latch[r].timeHi.getD (regWord s a), s)
    else if a = 0x40014 then readStkTimeLo s r
    else if a = 0x40018 then (s.latch[r].stkHi.getD (regWord s a), s)
    else if a = 0x6001C then readOpmsLo s r
    else if a = 0x60020 then (s.latch[r].opmsHi.getD (regWord s a), s)
    else if a = 0x50020 then readSleepCntLo s r
    else if a = 0x50024 then (s.latch[r].sleepHi.getD (regWord s a), s)
    else if a / 0x10000 = 0xD ∧ a % 0x2000 = 0x10 then memDataRead s (Fin.ofNat 8 (a % 0x10000 / 0x2000))
    else (regWord s a, s)

/-! ### The reads that have rows of their own -/

/-- The reader `r` can read: the supervisor always, a session while it is open, an engine always. -/
def canRead (s : State) (r : Fin 21) : Bool :=
  alive s && (if 1 ≤ r.val && r.val ≤ 4 then (vget s.net.sess (r.val - 1) none).isSome else true)

/-- TIME_LO_READ (R18). -/
def execTimeLoRead (r : Fin 21) (s : State) : Host.Outcome State Fault Refusal :=
  guarded s (canRead s r) (fun s => (readTimeLo s r).2)
/-- STK_TIME_LO_READ (R18). -/
def execStkTimeLoRead (r : Fin 21) (s : State) : Host.Outcome State Fault Refusal :=
  guarded s (canRead s r) (fun s => (readStkTimeLo s r).2)
/-- OPMS_LO_READ (R18). -/
def execOpmsLoRead (r : Fin 21) (s : State) : Host.Outcome State Fault Refusal :=
  guarded s (canRead s r) (fun s => (readOpmsLo s r).2)
/-- SLEEP_CNT_LO_READ (R18). -/
def execSleepCntLoRead (r : Fin 21) (s : State) : Host.Outcome State Fault Refusal :=
  guarded s (canRead s r) (fun s => (readSleepCntLo s r).2)
/-- DATA_VALUE_READ (R41). -/
def execDataValueRead (r : Fin 21) (n : BitVec 20) (s : State) : Host.Outcome State Fault Refusal :=
  guarded s (canRead s r) (fun s => (readData s r n.toNat).2)
/-- MEM_DATA_READ (R164). -/
def execMemDataRead (c : Fin 8) (s : State) : Host.Outcome State Fault Refusal :=
  guarded s (alive s) (fun s => (memDataRead s c).2)

end Sys2Proof.Machine
end

