-- ==== Sys2Proof/Machine/RegWrite.lean ====
section
/-! DEFINITION. A write to any address of the map: keyed windows, refusals, and what each writable field does (R5–R10, R42, R43,
R331), with the rows that are such a write. -/

namespace Sys2Proof.Machine
open Sys2Proof

/-! ### Which registers hold RWK fields -/

/-- Offsets of the registers of STN with RWK fields. -/
def stnRwk : List Nat := [0x304, 0x30C, 0x400, 0x420, 0x424]

/-- The register at an address holds one or more RWK fields (the register tables of the chapters). -/
def isRwk (a : Nat) : Bool :=
  let o := a % 0x10000
  match a / 0x10000 with
  | 0x0 => stnRwk.contains o
  | 0x1 => o == 0x14
  | 0x3 => o == 0x08
  | 0x4 => o == 0x20 || o == 0x2C
  | 0x5 => o == 0x0C || o == 0x18
  | 0xA => o == 0x20
  | 0xB => (0x100 ≤ o && o < 0x300 && o % 0x40 == 0x2C) || (0x1000 ≤ o && o < 0x2000 && o % 0x20 == 0x14)
  | 0xC => o < 0xC000 && 0x100 ≤ o % 0x800 && o % 0x800 < 0x300 && o % 0x40 == 0x30
  | 0xD => 0x100 ≤ o % 0x2000 && o % 0x2000 < 0x300 && (o % 0x40 == 0x2C || o % 0x40 == 0x30)
  | 0xE => o < 0x8000 && o % 0x1000 == 0x18
  | k => 0x10 ≤ k && k < 0x20 && (o == 0x18 || o == 0x1C || o == 0x28)

/-- An address is that of a KEY register (R9). -/
def isKey (a : Nat) : Bool := blockKey a == some a

/-! ### What a write inside the window, or to a register without RWK fields, does -/

/-- The bits of a field that a word of ones clears (W1C, R7). -/
def w1c {n : Nat} (old : BitVec n) (v : Nat) : BitVec n := old &&& ~~~(BitVec.ofNat n v)

/-- A W1C bit (R7). -/
def w1cBit (old : Bool) (v : Word) (i : Nat) : Bool := old && !bit v i

/-- A write to STN at offset `o`. -/
def stnWrite (s : State) (sess o : Nat) (v : Word) : State :=
  match o with
  | 0x130 => modStn s (fun n => { n with refLoss := w1cBit n.refLoss v 8 })
  | 0x210 => if bit v 0 then fabClrCnt s else s
  | 0x304 => modeCommand s (fld v 0 3) sess
  | 0x30C => modStn s (fun n => { n with holdTmo := v.truncate 6 })
  | 0x314 => modStn s (fun n => { n with restoreFail := w1cBit n.restoreFail v 18 })
  | 0x400 => olcCommand s sess (fld v 0 2)
  | 0x420 => forceCtrl s (fld v 0 20) (fld v 20 2)
  | 0x424 => modStn s (fun n => { n with forceVal := v })
  | 0x42C => modStn s (fun n => { n with forceIdx := v.truncate 10 })
  | _ => s

/-- A write to IMG. -/
def imgWrite (s : State) (o : Nat) (v : Word) : State :=
  if o = 0x14 then swCmdWrite s (v.truncate 2) (bit v 2)
  else if 0x40 ≤ o ∧ o < 0x80 ∧ o % 0x10 = 0x8 then
    if bit v 3 then modImg s (fun i => { i with writeLost := w1c i.writeLost (2 ^ ((o - 0x40) / 0x10)) }) else s
  else s

/-- A write to EVR (R410). -/
def evrWrite (s : State) (o : Nat) (v : Word) : State :=
  if o = 0x0C then (if bit v 0 then evrClr s else s)
  else if o = 0x10 then { s with evr := { s.evr with sel := v.truncate 9 } }
  else if 0x100 ≤ o ∧ o < 0x140 then
    { s with evr := { s.evr with raised := vmodN s.evr.raised ((o - 0x100) / 4) (fun w => w &&& ~~~v) } }
  else s

/-- A write to PWR. -/
def pwrWrite (s : State) (o : Nat) (v : Word) : State :=
  match o with
  | 0x0C => pwrCtrlWrite s v
  | 0x18 => modPwr s (fun p => { p with pinEn := v.truncate 4, pinPol := (v >>> 4).truncate 4 })
  | _ => s

/-- A write to STK. -/
def stkWrite (s : State) (sess o : Nat) (v : Word) : State :=
  match o with
  | 0x20 => stkCtrlWrite s sess v
  | 0x2C => barrierWrite s (v.truncate 16)
  | _ => s

/-- A write to LOG. -/
def logWrite (s : State) (o : Nat) (v : Word) : State :=
  match o with
  | 0x14 => modLog s (fun g => { g with mramErr := w1cBit g.mramErr v 23 })
  | 0x2C => logCtrlWrite s (bit v 0) (bit v 1)
  | _ => s

/-- A write to bank `b` at offset `o`. -/
def fldWrite (s : State) (b : Fin 8) (o : Nat) (v : Word) : State :=
  if o = 0x18 then fldCtrlWrite s b (bit v 0) (bit v 1)
  else if 0x100 ≤ o ∧ o < 0x280 ∧ o % 0x20 = 0x14 then
    clearLatched s (Fin.ofNat 96 (12 * b.val + (o - 0x100) / 0x20)) ((v >>> 8).truncate 5)
  else s

/-- A write to SAF at offset `o`. -/
def safWrite (s : State) (o : Nat) (v : Word) : State :=
  if o = 0x20 then safCtrlWrite s (bit v 0) (bit v 1)
  else if 0x100 ≤ o ∧ o < 0x200 ∧ o % 0x10 = 0x4 then
    modSi s (Fin.ofNat 16 ((o - 0x100) / 0x10)) (fun c => { c with latched := w1cBit c.latched v 8 })
  else if 0x200 ≤ o ∧ o < 0x240 ∧ o % 0x10 = 0x0 then
    modTp s (Fin.ofNat 4 ((o - 0x200) / 0x10)) (fun t => { t with latched := w1cBit t.latched v 5 })
  else if 0x300 ≤ o ∧ o < 0x400 ∧ o % 0x20 = 0x4 then
    modSo s (Fin.ofNat 8 ((o - 0x300) / 0x20)) (fun k => { k with rej := w1cBit k.rej v 8, latched := w1cBit k.latched v 9 })
  else s

/-- Changes event `n`. -/
def modEvtBits (s : State) (n : Fin 128) (f : AEvt → AEvt) : State := { s with ang := { s.ang with evt := vmod s.ang.evt n f } }

/-- A write to ANG at offset `o`. -/
def angWrite (s : State) (o : Nat) (v : Word) : State :=
  if o = 0x08 then (if bit v 0 then angClrStat s else s)
  else if 0x100 ≤ o ∧ o < 0x300 ∧ o % 0x40 = 0x2C then
    if bit v 0 then resyncWrite s (Fin.ofNat 8 ((o - 0x100) / 0x40)) else s
  else if 0x1000 ≤ o ∧ o < 0x2000 then
    let n : Fin 128 := Fin.ofNat 128 ((o - 0x1000) / 0x20)
    if o % 0x20 = 0x14 then evtCtrlWrite s n (v.truncate 2) ((v >>> 8).truncate 8)
    else if o % 0x20 = 0x18 then modEvtBits s n (fun e => { e with late := w1cBit e.late v 1, inhib := w1cBit e.inhib v 2 })
    else s
  else s

/-- A write to loop engine `e` at offset `o`. -/
def lpWrite (s : State) (e : Fin 24) (o : Nat) (v : Word) : State :=
  if o = 0x04 then modLEng s e (fun g => { g with
    miss := w1c g.miss (fld v 0 8), sat := w1c g.sat (fld v 16 8), memErr := w1cBit g.memErr v 24 })
  else if o = 0x0C then (if bit v 0 then modLEng s e (fun g => { g with minSlack := 0xFFFFF }) else s)
  else if 0x100 ≤ o ∧ o < 0x300 then
    let n : Fin 192 := Fin.ofNat 192 (8 * e.val + (o - 0x100) / 0x40)
    if o % 0x40 = 0x10 then modLoop s n (fun l => { l with miss := w1cBit l.miss v 3, sat := w1cBit l.sat v 4 })
    else if o % 0x40 = 0x30 then loopCtrlWrite s n (bit v 0) (bit v 1)
    else s
  else s

/-- A write to cluster `c` at offset `o`. -/
def qpWrite (s : State) (c : Fin 8) (o : Nat) (v : Word) : State :=
  if o = 0x08 then modClus s c (fun k => { k with memErr := w1cBit k.memErr v 8 })
  else if o = 0x0C then modClus s c (fun k => { k with addr := (v >>> 2).truncate 14, slot := (v >>> 16).truncate 3 })
  else if o = 0x18 then (if bit v 0 then qpClrStat s c else s)
  else if 0x100 ≤ o ∧ o < 0x300 then
    let p : Fin 64 := Fin.ofNat 64 (8 * c.val + (o - 0x100) / 0x40)
    if o % 0x40 = 0x2C then modSlot s p (fun q => { q with evtMask := v.truncate 8 &&& 0xFE })
    else if o % 0x40 = 0x30 then slotCtrlWrite s p (bit v 0) (bit v 1)
    else s
  else s

/-- A write to controller `k` at offset `o`. -/
def canWrite (s : State) (k : Fin 8) (o : Nat) (v : Word) : State :=
  match o with
  | 0x10 => modCan s k (fun c => { c with pxe := w1cBit c.pxe v 11, conflict := w1cBit c.conflict v 21 })
  | 0x18 => canCtrlWrite s k v
  | _ => s

/-- A write to NET at offset `o`. -/
def netWrite (s : State) (o : Nat) (v : Word) : State :=
  if o = 0x30 then (if bit v 0 then netClr s else s)
  else if 0x800 ≤ o ∧ o < 0x1000 ∧ o % 0x10 = 0 then
    modRx s (Fin.ofNat 128 ((o - 0x800) / 0x10)) (fun x => { x with diff := w1cBit x.diff v 1 })
  else s

/-- A write to engine `e` at offset `o`. -/
def leWrite (s : State) (e : Fin 16) (o : Nat) (v : Word) : State :=
  match o with
  | 0x04 => { s with le := vmodN s.le e.val (fun g => { g with
      overrun := w1cBit g.overrun v 3, fault := w1cBit g.fault v 4, merged := w1cBit g.merged v 5 }) }
  | 0x18 => bkptWrite s e (v.truncate 16) (bit v 31)
  | 0x1C => holdWrite s e (v.truncate 2)
  | 0x28 => leCtrlWrite s e (bit v 0) (bit v 1)
  | _ => s

/-- The effect of a write that is not refused; an address that holds no register, and RO fields, take none (R6, R7). -/
def fieldWrite (s : State) (sess a : Nat) (v : Word) : State :=
  let o := a % 0x10000
  if 0x100000 ≤ a then (if a < 0x200000 then leWrite s (Fin.ofNat 16 ((a - 0x100000) / 0x10000)) o v else s)
  else match a / 0x10000 with
    | 0x0 => stnWrite s sess o v
    | 0x1 => imgWrite s o v
    | 0x2 => evrWrite s o v
    | 0x3 => if o = 0x08 then pairCtrlWrite s sess v else s
    | 0x4 => stkWrite s sess o v
    | 0x5 => pwrWrite s o v
    | 0x6 => logWrite s o v
    | 0x8 => fldWrite s (Fin.ofNat 8 (o / 0x2000)) (o % 0x2000) v
    | 0xA => safWrite s o v
    | 0xB => angWrite s o v
    | 0xC => if o < 0xC000 then lpWrite s (Fin.ofNat 24 (o / 0x800)) (o % 0x800) v else s
    | 0xD => qpWrite s (Fin.ofNat 8 (o / 0x2000)) (o % 0x2000) v
    | 0xE => if o < 0x8000 then canWrite s (Fin.ofNat 8 (o / 0x1000)) (o % 0x1000) v else s
    | 0xF => netWrite s o v
    | _ => s

/-- Whether the station refuses a session's write of an aligned word (R10, R43, R331). -/
def writeRefused (s : State) (sess a : Nat) : Bool :=
  match dataIdx a with
  | some n => dataReason s n (a % 8 ≠ 0) ≠ 0
  | none => isRwk a && !windowOpen s sess a

/-- A write that gives a command which a standby refuses (R334): modes, on-line change, forces, profile switches, and what travels in
the active station's input set (R43, R69, R75, R116, R123, R158, R187, R199, R205, R305, R311, R359; assumption log 83). -/
def standbyRefuses (s : State) (a : Nat) (v : Word) : Bool :=
  let o := a % 0x10000
  isStandby s && (match a / 0x10000 with
    | 0x0 => (o == 0x304 && fld v 0 3 ≠ 0) || (o == 0x400 && fld v 0 2 ≠ 0) || (o == 0x420 && fld v 20 2 ≠ 0)
    | 0x1 => o == 0x14 && bit v 2
    | 0xB => (o < 0x300 && bit v 0) || 0x1000 ≤ o
    | 0xC | 0xD => o % 0x40 == 0x30 && bit v 0
    | 0xE => o % 0x1000 == 0x18 && fld v 0 3 ≠ 0
    | k => 0x10 ≤ k && k < 0x20 && (o == 0x18 || (o == 0x1C && fld v 0 2 ≠ 0) || (o == 0x28 && bit v 0))) && isRwk a

/-- A session's write of an aligned word to any address (R6–R10, R42, R43). -/
def regWrite (s : State) (sess a : Nat) (v : Word) : State :=
  match dataIdx a with
  | some n => dataWrite s sess n (a % 8 ≠ 0) v
  | none =>
    if isKey a then keyWrite s sess a v
    else if isRwk a then keyed s sess a (fun s => fieldWrite s sess a v)
    else fieldWrite s sess a v

/-- KEY_WRITE: an open session writes a KEY register (R9). -/
def execKeyWrite (sess : Fin 4) (a v : Word) (s : State) : Host.Outcome State Fault Refusal :=
  guarded s (alive s && sessOpen s sess && isKey a.toNat) (fun s => keyWrite s sess.val a.toNat v)

/-- KEYED_WINDOW_CLOSE: the 64 fabric cycles of an open window have passed (R9). -/
def execKeyedWindowClose (sess : Fin 4) (a : Word) (s : State) : Host.Outcome State Fault Refusal :=
  guarded s (alive s && s.windows.contains (sess.val, a.toNat)) (fun s =>
    { s with windows := s.windows.filter (· ≠ (sess.val, a.toNat)) })

/-- DATA_WRITE: an open session writes a word of the DATA area (R42, R43). -/
def execDataWrite (sess : Fin 4) (n : BitVec 20) (isTag : Bool) (v : Word) (s : State) : Host.Outcome State Fault Refusal :=
  openCmd s sess (fun s => dataWrite s sess.val n.toNat isTag v)

/-- REGISTER_WRITE: an open session writes an aligned word outside the DATA area; an access that is not aligned is refused
without effect (R5, R10). -/
def execRegisterWrite (sess : Fin 4) (a v : Word) (s : State) : Host.Outcome State Fault Refusal :=
  openCmd s sess (fun s => if a.toNat % 4 ≠ 0 then s else regWrite s sess.val a.toNat v)

end Sys2Proof.Machine
end

