-- ==== Sys2Proof/Machine/EngOps.lean ====
section
/-! DEFINITION. The engineering protocol: datagrams, MACs, requests and responses (R327–R330, R334, R335). -/

namespace Sys2Proof.Machine
open Sys2Proof

/-- Bytes of an ASCII string. -/
def ascii (l : List Nat) : List Byte := l.map (BitVec.ofNat 8)
/-- "KEP1". -/
def kep1 : List Byte := ascii [0x4B, 0x45, 0x50, 0x31]
/-- "KEPP". -/
def kepp : List Byte := ascii [0x4B, 0x45, 0x50, 0x50]
/-- "KEPA". -/
def kepa : List Byte := ascii [0x4B, 0x45, 0x50, 0x41]
/-- "KEPS". -/
def keps : List Byte := ascii [0x4B, 0x45, 0x50, 0x53]
/-- "KLCR". -/
def klcr : List Byte := ascii [0x4B, 0x4C, 0x43, 0x52]

/-- Bytes 0 … 19 + LEN of a datagram (R327). -/
def kepBytes (op : Byte) (resp : Bool) (status : Nat) (sess seq : Word) (payload : List Byte) : List Byte :=
  kep1 ++ [op, BitVec.ofNat 8 (b2n resp)] ++ leN 2 status ++ wB sess ++ wB seq ++ leN 2 payload.length ++ [0, 0] ++ payload

/-- The MAC of a datagram under a session key (R327). -/
def kepMac (key : List Byte) (op : Byte) (resp : Bool) (status : Nat) (sess seq : Word) (payload : List Byte) : List Byte :=
  (hmac key (kepBytes op resp status sess seq payload)).take 16

/-- A response joins the placed frames of the port that the request came from, while the station is up (R315, R335). -/
def respond (s : State) (d : Dgram) (key : Option (List Byte)) (op : Byte) (status : Nat) (sess : Word) (payload : List Byte) : State :=
  if !alive s then s else
  enqueue s d.port (.resp d.ip op status sess d.seq payload
    (match key with | some k => kepMac k op true status sess d.seq payload | none => List.replicate 16 0))

/-- The open session that a datagram names. -/
def sessOf (s : State) (d : Dgram) : Option (Fin 4 × Sess) :=
  ((allFin 4).filterMap (fun i => (s.net.sess[i]).map (fun x => (i, x)))).find? (fun p => p.2.id == d.sess)

/-- Changes open session `i`. -/
def modSess (s : State) (i : Fin 4) (f : Sess → Sess) : State := modNet s (fun n => { n with sess := vmod n.sess i (Option.map f) })

/-- What an operation does: the state, the STATUS and the payload of its response. -/
abbrev OpRes := State × Nat × List Byte

/-- The reach of the datagrams of a port: the station is up, the port has its link and carries traffic (R314). -/
def dgramHere (s : State) (d : Dgram) : Bool := alive s && portUp s d.port && d.payload.length ≤ 1436

/-- The last request of a session still executes: its response has not left the port (R329; assumption log 51). -/
def executing (s : State) (x : Sess) : Bool :=
  s.net.ports.toList.any (fun p => p.queue.any (fun f => match f with
    | .resp _ _ _ id seq _ _ => id == x.id && some seq == x.last
    | _ => false))

/-- One request of an open session (R327–R330, R334): discarded when its MAC fails or its SEQ is older, answered again when its
SEQ repeats the last one, answered STATUS 5 while NET is quiesced (R394) or its last request still executes (R329); otherwise STATUS 3 when malformed, 2 when the role does
not reach, and else what `f` does. `out` is the OP of the response. -/
def requestAs (s : State) (op out : Byte) (d : Dgram) (need : Nat) (bad : Bool) (f : State → Fin 4 → Sess → OpRes) : State :=
  match sessOf s d with
  | none => s
  | some (i, x) =>
    if d.mac ≠ kepMac x.key op false 0 d.sess d.seq d.payload then s
    else if x.last = some d.seq then
      match x.resp with
      | some (o, st, pl) => respond s d (some x.key) o st x.id pl
      | none => s
    else if (match x.last with | some l => !seqAfter d.seq l | none => false) then s
    else if quietAt s 0 || executing s x then respond s d (some x.key) out 5 x.id []
    else
      let s1 := modSess s i (fun y => { y with last := some d.seq })
      let (s2, st, pl) : OpRes :=
        if bad then (s1, 3, []) else if x.role < need then (s1, 2, []) else f s1 i x
      respond (modSess s2 i (fun y => { y with resp := some (out, st, pl) })) d (some x.key) out st x.id pl

/-- A request whose response carries its own OP (R335). -/
def request (s : State) (op : Byte) (d : Dgram) (need : Nat) (bad : Bool) (f : State → Fin 4 → Sess → OpRes) : State :=
  requestAs s op op d need bad f

/-- A command that an engineering datagram carries. -/
def requestCmd (s : State) (op : Byte) (d : Dgram) (need : Nat) (bad : Bool) (f : State → Fin 4 → Sess → OpRes) :
    Host.Outcome State Fault Refusal :=
  guarded s (dgramHere s d) (fun s => request s op d need bad f)

/-- Roles of R330. -/
def roleRead : Nat := 0
/-- OPERATE. -/
def roleOperate : Nat := 1
/-- ENGINEER. -/
def roleEngineer : Nat := 2
/-- ADMIN. -/
def roleAdmin : Nat := 3

/-- The requester number of session `i` in the latches. -/
def sessReq (i : Fin 4) : Fin 21 := ⟨i.val + 1, by omega⟩

end Sys2Proof.Machine
end

