-- ==== Sys2Proof/Machine/EngCmds.lean ====
section
/-! DEFINITION. The meanings of the engineering datagrams that open and close sessions and that read and write registers
(R328–R332, R334, R335). -/

namespace Sys2Proof.Machine
open Sys2Proof

/-! ### Sessions -/

/-- The secret of a key ID (R330). -/
def keyEnt (s : State) (id : Byte) : Option KeyEnt := (s.net.keys.toList.filterMap (fun x => x)).find? (fun k => k.keyId == id)

/-- HELLO: answered by CHALLENGE with a new session ID, a nonce and the serial number (R328, R329). -/
def hello (s : State) (d : Dgram) : State :=
  if s.net.lockouts.contains d.ip then s
  else if quietAt s 0 then respond s d none 0x02 5 0 []
  else if d.payload.length ≠ 17 then respond s d none 0x02 3 0 []
  else if s.net.sess.toList.all Option.isSome then respond s d none 0x02 6 0 []
  else
    let kid := d.payload.headD 0
    match keyEnt s kid with
    | none => respond s d none 0x02 1 0 []
    | some _ =>
      let (id, s1) := drawWord s
      let (ns, s2) := drawBytes 16 s1
      let c : Chal := { id := id, ip := d.ip, keyId := kid, nc := d.payload.drop 1, ns := ns }
      respond (modNet s2 (fun n => { n with chals := n.chals ++ [c] })) d none 0x02 0 id (ns ++ leN 8 Config.serial.toNat)

/-- HELLO (R328). -/
def execHello (d : Dgram) (s : State) : Host.Outcome State Fault Refusal := guarded s (dgramHere s d) (fun s => hello s d)

/-- A failed proof (R329): counted, recorded, raised, and after five within 60 s its address is locked out. -/
def proofFails (s : State) (d : Dgram) (kid : Byte) : State :=
  let recent := s.net.fails.filter (fun f => s.stn.time.toNat < f.2.toNat + 60000000000)
  let own := (recent.filter (fun f => f.1 == d.ip)).length + 1
  let s1 := modNet s (fun n => { n with
    authFail := satInc n.authFail
    fails := if own ≥ 5 then recent.filter (fun f => f.1 ≠ d.ip) else (d.ip, s.stn.time) :: recent
    lockouts := if own ≥ 5 && !n.lockouts.contains d.ip then d.ip :: n.lockouts else n.lockouts })
  raise (logEntry s1 0x1000 d.port.val sevNotice ([kid, 0, 0, 0] ++ leN 4 d.ip.toNat)) (netSrc 12)

/-- The first session number that is free. -/
def freeSess (s : State) : Option (Fin 4) := (allFin 4).find? (fun i => (s.net.sess[i]).isNone)

/-- A PROOF for a standing challenge under the secret `k` (R328); while NET is quiesced it is answered STATUS 5 and the challenge stands
(R394). -/
def proofTake (s : State) (d : Dgram) (c : Chal) (k : KeyEnt) : State :=
  let key := hmac k.secret (keps ++ c.nc ++ c.ns)
  let s1 := modNet s (fun n => { n with chals := n.chals.filter (fun x => x.id ≠ c.id) })
  let macOk := d.mac == kepMac key 0x03 false 0 d.sess d.seq d.payload
  if macOk && quietAt s 0 then respond s d (some key) 0x04 5 c.id []
  else if !macOk then proofFails s1 d c.keyId
  else if d.payload ≠ hmac k.secret (kepp ++ c.nc ++ c.ns ++ wB c.id) then respond (proofFails s1 d c.keyId) d (some key) 0x04 1 c.id []
  else match freeSess s1 with
    | none => respond s1 d (some key) 0x04 6 c.id []
    | some i =>
      let pl := hmac k.secret (kepa ++ c.ns ++ c.nc ++ wB c.id) ++ [BitVec.ofNat 8 k.role]
      let x : Sess := { id := c.id, keyId := c.keyId, role := k.role, key := key, last := some d.seq, resp := some (0x04, 0, pl) }
      respond (raise (modNet s1 (fun n => { n with sess := n.sess.set i (some x) })) (netSrc 10)) d (some key) 0x04 0 c.id pl

/-- PROOF: answered by ACCEPT (R328, R335); one that repeats the last request of an open session is answered again, and any other one
on an open session is malformed. -/
def proof (s : State) (d : Dgram) : State :=
  match sessOf s d with
  | some _ => requestAs s 0x03 0x04 d 0 true (fun s _ _ => (s, 3, []))
  | none =>
    match s.net.chals.find? (fun c => c.id == d.sess) with
    | none => s
    | some c =>
      match keyEnt s c.keyId with
      | none => proofFails (modNet s (fun n => { n with chals := n.chals.filter (fun x => x.id ≠ c.id) })) d c.keyId
      | some k => proofTake s d c k

/-- PROOF (R328). -/
def execProof (d : Dgram) (s : State) : Host.Outcome State Fault Refusal := guarded s (dgramHere s d) (fun s => proof s d)

/-- CLOSE: the session closes with its response (R329, R335). -/
def execClose (d : Dgram) (s : State) : Host.Outcome State Fault Refusal :=
  requestCmd s 0x05 d roleRead (d.payload ≠ []) (fun s i _ => (closeSession s i, 0, []))

/-- An operation code that the protocol gives no request for (R330). -/
def opUnknown (op : Byte) : Bool :=
  !([0x01, 0x03, 0x05, 0x10, 0x11, 0x12, 0x20, 0x21, 0x22, 0x30, 0x40, 0x42, 0x43, 0x44, 0x50] : List Nat).contains op.toNat

/-- UNKNOWN_OPERATION: STATUS 7 (R334). -/
def execUnknownOperation (op : Byte) (d : Dgram) (s : State) : Host.Outcome State Fault Refusal :=
  guarded s (dgramHere s d && opUnknown op) (fun s => request s op d roleRead false (fun s _ _ => (s, 7, [])))

/-! ### Registers -/

/-- The addresses of `n` consecutive words fit the address space and are aligned (R5, R331). -/
def spanOk (a n : Nat) : Bool := a % 4 == 0 && a + 4 * n ≤ 2 ^ 32

/-- READ: the words from address `a` on, each read as the session's own (R331). -/
def readWords (r : Fin 21) : Nat → Nat → State → List Byte × State
  | 0, _, s => ([], s)
  | n + 1, a, s =>
    let (w, s1) := readReg s r a
    let (l, s2) := readWords r n (a + 4) s1
    (wB w ++ l, s2)

/-- READ (R331). -/
def execRead (d : Dgram) (s : State) : Host.Outcome State Fault Refusal :=
  let a := rd d.payload 0 4
  let n := rd d.payload 4 2
  requestCmd s 0x10 d roleRead (d.payload.length ≠ 6 || n = 0 || n > 256 || !spanOk a n) (fun s i _ =>
    let (l, s1) := readWords (sessReq i) n a s
    (s1, 0, leN 2 n ++ [0, 0] ++ l))

/-- A WRITE word is refused (R331): a register with RWK fields always, a DATA word by R43. -/
def wordRefused (s : State) (a : Nat) : Bool :=
  match dataIdx a with
  | some n => dataReason s n (a % 8 ≠ 0) ≠ 0
  | none => isRwk a

/-- The words of a WRITE in ascending address order, up to the first that is refused; answers how many were applied (R331). -/
def writeWords (sess : Nat) : List Word → Nat → State → Nat × State
  | [], _, s => (0, s)
  | v :: r, a, s =>
    if wordRefused s a then
      (0, match dataIdx a with | some _ => regWrite s sess a v | none => keyRefused s sess a)
    else
      let (n, s1) := writeWords sess r (a + 4) (regWrite s sess a v)
      (n + 1, s1)

/-- The least role of a WRITE: OPERATE when every word lies in the DATA area (R330). -/
def writeRole (a n : Nat) : Nat :=
  if (dataIdx a).isSome && (n = 0 || (dataIdx (a + 4 * (n - 1))).isSome) then roleOperate else roleEngineer

/-- WRITE (R331). -/
def execWrite (d : Dgram) (s : State) : Host.Outcome State Fault Refusal :=
  let a := rd d.payload 0 4
  let n := rd d.payload 4 2
  requestCmd s 0x11 d (writeRole a n) (n = 0 || n > 64 || d.payload.length ≠ 8 + 4 * n || !spanOk a n) (fun s i _ =>
    let (k, s1) := writeWords i.val (wordsOf (d.payload.drop 8)) a s
    (s1, if k = n then 0 else 4, leN 2 k))

/-- The address–value pairs of a KWRITE payload. -/
def pairsOf (l : List Byte) : List (Nat × Word) := (List.range ((l.length - 8) / 8)).map (fun i => (rd l (8 + 8 * i) 4, rdW l (12 + 8 * i)))

/-- The pairs of a KWRITE in order, up to the first that is refused, by R331 or as a command that a standby does not take; answers how
many were applied (R331, R334). -/
def writePairs (sess : Nat) : List (Nat × Word) → State → Nat × State
  | [], s => (0, s)
  | (a, v) :: r, s =>
    if writeRefused s sess a || standbyRefuses s a v then (0, regWrite s sess a v)
    else
      let (n, s1) := writePairs sess r (regWrite s sess a v)
      (n + 1, s1)

/-- The keyed window that the KEY register at `k` opens, opened for a session by the sequence of R9. -/
def openWindow (s : State) (sess k : Nat) : State := keyWrite (keyWrite s sess k 0x4B52) sess k 0xB4AD
/-- A session's keyed window closed. -/
def closeWindow (s : State) (sess k : Nat) : State := keyWrite s sess k 0

/-- KWRITE: the pairs of one block or block instance within its keyed window (R331). -/
def execKwrite (d : Dgram) (s : State) : Host.Outcome State Fault Refusal :=
  let k := rd d.payload 0 4
  let n := rd d.payload 4 2
  let bad := n = 0 || n > 16 || d.payload.length ≠ 8 + 8 * n || !isKey k
    || (pairsOf d.payload).any (fun p => p.1 % 4 ≠ 0 || blockKey p.1 ≠ some k)
  requestCmd s 0x12 d roleEngineer bad (fun s i _ =>
    let (m, s1) := writePairs i.val (pairsOf d.payload) (openWindow s i.val k)
    (closeWindow s1 i.val k, if m = n then 0 else 4, leN 2 m))

/-- MODE: the STN window is opened, MODE_CMD written and the window closed in one step (R332). -/
def execModeOp (d : Dgram) (s : State) : Host.Outcome State Fault Refusal :=
  let c := rd d.payload 0 1
  requestCmd s 0x30 d roleOperate (d.payload.length ≠ 4 || c > 7) (fun s i _ =>
    let s1 := regWrite (openWindow s i.val 0x308) i.val 0x304 (BitVec.ofNat 32 c)
    (closeWindow s1 i.val 0x308, if c = 0 || modeOk s c then 0 else 4, []))

end Sys2Proof.Machine
end

