-- ==== Sys2Proof/Machine/EngFiles.lean ====
section
/-! DEFINITION. The meanings of the engineering datagrams that transfer images, read and clear the logs, take captured frames and
set keys (R333–R335, R343, R352, R381–R383). -/

namespace Sys2Proof.Machine
open Sys2Proof

/-! ### Transfers (R333) -/

/-- IMG_OPEN: only one transfer is open per station (R333). While DRAM has no room for its buffer the request waits, and the command
changes nothing (R51). -/
def execImgOpen (d : Dgram) (s : State) : Host.Outcome State Fault Refusal :=
  let t := rd d.payload 0 1
  let n := rd d.payload 4 4
  if s.net.transfer.isNone && d.payload.length == 8 && t ≤ 4 && n ≤ (if t = 4 then 0x1000000 else 0x10000000) && !dramRoom s n then guarded s false (fun s => s)
  else requestCmd s 0x20 d roleEngineer (d.payload.length ≠ 8 || t > 4 || n = 0 || n > (if t = 4 then 0x1000000 else 0x10000000)) (fun s _ _ =>
    if s.net.transfer.isSome then (s, 5, [])
    else (modNet s (fun x => { x with transfer := some { target := t, total := n, chunks := [] } }), 0, []))

/-- IMG_DATA: a chunk, which may come in any order and be repeated (R333). -/
def execImgData (d : Dgram) (s : State) : Host.Outcome State Fault Refusal :=
  let o := rd d.payload 0 4
  let n := rd d.payload 4 2
  requestCmd s 0x21 d roleEngineer (n = 0 || n > 1024 || d.payload.length ≠ 8 + n) (fun s _ _ =>
    match s.net.transfer with
    | none => (s, 4, [])
    | some t =>
      if o + n > t.total then (s, 3, [])
      else (modNet s (fun x => { x with transfer := some { t with chunks := t.chunks ++ [(o, d.payload.drop 8)] } }), 0, []))

/-- Byte `i` of a transfer as its latest chunk gives it. -/
def Transfer.byte? (t : Transfer) (i : Nat) : Option Byte :=
  (t.chunks.reverse.find? (fun c => c.1 ≤ i && i < c.1 + c.2.length)).bind (fun c => c.2[i - c.1]?)

/-- The offsets that no chunk has given. -/
def Transfer.missing (t : Transfer) : List Nat := (List.range t.total).filter (fun i => (t.byte? i).isNone)

/-- The bytes of a transfer. -/
def Transfer.bytes (t : Transfer) : List Byte := (List.range t.total).map (fun i => (t.byte? i).getD 0)

/-- The station does not take images now (R356): STANDBY, SEEKING or SYNCING. -/
def notTaking (s : State) : Bool := s.pair.state == 4#3 || s.pair.state == 1#3 || s.pair.state == 5#3

/-- Code 13 of R344: the target profile is being written or waits to be, or an on-line change is pending or awaits persistence on
it (R356). -/
def flashBusy (s : State) (p : BitVec 2) : Bool :=
  (s.img.wState ≠ 0 && s.img.wProf == p) || s.img.wWait.any (fun x => x.1 == p)
    || (p == s.img.actProf && (s.stn.olcState == 4#3 || s.stn.olcState == 5#3))

/-- IMG checks a full image that a transfer has brought, and writes it when it passes (R344, R355, R356). -/
def imageArrives (s : State) (p : BitVec 2) (b : List Byte) : State :=
  let (c, s1) := runCheck s p false b
  if c ≠ 0 then s1
  else if flashBusy s p then setLoad s1 (13, 0) p false
  else if notTaking s then setLoad s1 (15, 0) p false
  else modImg s1 (fun i => i.startWrite p false b)

/-- A change package that a transfer has brought becomes STAGED, or STATUS 3 refuses it (R115, R352); one that comes while another
is being checked or awaits its commit or its persistence is refused. -/
def packageArrives (s : State) (b : List Byte) : State × Nat :=
  if !packageOk b then (s, 3)
  else if s.stn.olcState == 2#3 || s.stn.olcState == 4#3 || s.stn.olcState == 5#3 || commitPending s then (s, 4)
  else (modStn s (fun n => { n with staged := b, olcState := 1, olcCmd := 0 }), 0)

/-- IMG_END: closes the transfer when every byte has arrived (R333); a full image that the station's role refuses is answered STATUS 4
(R334, R356). The first missing offset that the response of a complete
transfer carries is left open (assumption log 1). -/
def imgEnd (s : State) : OpRes :=
  match s.net.transfer with
  | none => (s, 4, [])
  | some t =>
    match t.missing with
    | i :: r => (s, 3, leN 4 i ++ leN 4 (r.length + 1))
    | [] =>
      let (w, s0) := drawWord s
      let s1 := raise (modNet s0 (fun x => { x with transfer := none })) (netSrc 13)
      let (s2, st) := if t.target = 4 then packageArrives s1 t.bytes else (imageArrives s1 (BitVec.ofNat 2 t.target) t.bytes, if notTaking s then 4 else 0)
      (s2, st, if st = 4 then [] else wB w ++ leN 4 0)

/-- IMG_END (R333). -/
def execImgEnd (d : Dgram) (s : State) : Host.Outcome State Fault Refusal :=
  requestCmd s 0x22 d roleEngineer (d.payload ≠ []) (fun s _ _ => imgEnd s)

/-! ### Logs (R334, R381–R383) -/

/-- The Daybook entries from index `i` on, as stored; a place that no entry has filled holds free bytes (assumption log 1). -/
def dbRead : Nat → Nat → State → List Byte × State
  | 0, _, s => ([], s)
  | n + 1, i, s =>
    let (e, s1) := match s.log.ring.find? (fun e => e.num.toNat % 16384 == i % 16384) with
      | some e => (e.bytes, s)
      | none => drawBytes 32 s
    let (l, s2) := dbRead n (i + 1) s1
    (e ++ l, s2)

/-- How many entries or records LOG_READ returns: the count, the most that fit, and the end of an area that does not wrap. -/
def logCount (log first count : Nat) : Nat :=
  match log with
  | 0 => min count 32
  | 1 => min (min count 16) (4096 - first)
  | 2 => min count 16
  | _ => min (min count 16) (64 - first)

/-- LOG_READ (R334, R381). -/
def logRead (s : State) (log first count : Nat) : OpRes :=
  let n := logCount log first count
  let head := leN 2 n ++ [0, 0]
  if log = 0 then
    let (l, s1) := dbRead n first s
    (s1, 0, head ++ l)
  else
    let l := (List.range n).flatMap (fun j =>
      if log = 1 then slotBytes (aget s.log.perm (first + j))
      else if log = 2 then slotBytes (aget s.log.circ ((first + j) % 65536))
      else slotBytes ((s.log.hist[first + j]?).map Slot.good))
    (s, 0, head ++ l)

/-- LOG_READ (R334). -/
def execLogRead (d : Dgram) (s : State) : Host.Outcome State Fault Refusal :=
  let g := rd d.payload 0 1
  let first := rd d.payload 4 4
  let bad := d.payload.length ≠ 8 || g > 3 || (g = 1 && first ≥ 4096) || (g = 2 && first ≥ 65536) || (g = 3 && first ≥ 64)
  requestCmd s 0x40 d roleRead bad (fun s _ _ => logRead s g first (rd d.payload 2 2))

/-- LOG_CLEAR_CHAL: a new challenge replaces the one that stands; refused during a lock-out (R382). -/
def execLogClearChal (d : Dgram) (s : State) : Host.Outcome State Fault Refusal :=
  requestCmd s 0x42 d roleEngineer (d.payload ≠ []) (fun s i _ =>
    if s.log.lockout then (s, 4, [])
    else
      let (nl, s1) := drawBytes 16 s
      (modNet s1 (fun n => { n with clearNonce := some { sess := i.val, nl := nl, next := s.log.lgNext } }), 0,
        nl ++ leN 8 Config.serial.toNat ++ wB s.log.lgNext))

/-- The station key (R382). -/
def stationKey (s : State) : List Byte := match s.net.keys[0] with | some k => k.secret | none => []

/-- The HMAC that authorises a clear (R382). -/
def clearHmac (s : State) (c : ClearChal) (reason : Nat) : List Byte :=
  hmac (stationKey s) (klcr ++ c.nl ++ leN 8 Config.serial.toNat ++ wB c.next ++ leN 2 reason)

/-- Why a LOG_CLEAR is refused, 0 when it is not; the first reason in the order of R382's table. -/
def clearReason (s : State) (i : Fin 4) (reason : Nat) (mac : List Byte) : Nat :=
  match s.net.clearNonce with
  | none => 1
  | some c =>
    if c.sess ≠ i.val then 1
    else if mac ≠ clearHmac s c reason then 2
    else if c.next ≠ s.log.lgNext then 3
    else if s.log.hist.length ≥ 64 then 4
    else if s.log.clearStep ≠ 0 then 5
    else if s.log.lockout then 6
    else 0

/-- A LOG_CLEAR refused for a reason (R382). -/
def clearRefused (s : State) (keyId : Byte) (ip : Word) (r : Nat) : State :=
  let old := s.log.hmacFails.filter (fun t => s.stn.time.toNat < t.toNat + 600000000000)
  let s1 := modLog s (fun g =>
    let g1 := { g with failCnt := satInc g.failCnt }
    if r ≠ 2 then g1
    else if old.length ≥ 2 && !g.lockout then { g1 with lockout := true, lockT0 := s.stn.time, hmacFails := [] }
    else { g1 with hmacFails := s.stn.time :: old })
  raise (logItem s1 true true 0x5806 noSrc sevNotice ([BitVec.ofNat 8 r, keyId, 0, 0] ++ leN 4 ip.toNat)) (ledSrc 4)

/-- The oldest SEQ that a clear will erase: of the circulating area and, since they are flushed before it, of the buffer. -/
def clearOldest (g : LogBlk) : Option Word := oldestSeq (goodRecs g.circ ++ g.buf.map (fun x => x.1))

/-- The clear is accepted: the CLEAR record c enters the clear history and every buffered record is flushed up to it (R382, R383). -/
def clearStart (s : State) (keyId : Byte) (ip : Word) (reason : Nat) : Word × State :=
  let (old, s0) := match clearOldest s.log with | some q => (q, s) | none => drawWord s
  let c := s0.log.lgNext
  let it : LogItem := { code := 0x5805, source := BitVec.ofNat 16 noSrc, sev := BitVec.ofNat 3 sevNotice, ledger := true
                        payload := wB old ++ wB (c - 1) ++ leN 2 reason ++ [keyId, 0] ++ leN 4 ip.toNat
                        stamp := s0.stn.time, own := true }
  let (g, _, _) := logPut s0.log (lgStandby s0) 4 it
  let made := (g.buf.getLast?.map (fun x => [x.1])).getD []
  (c, { s0 with log := startFlush { g with hist := g.hist ++ made, clearStep := 2, clearSeq := c } .command g.buf.length })

/-- LOG_CLEAR (R382): a session's challenge is used up by its LOG_CLEAR; with the buffer full no record can be made, and the answer
is STATUS 5. -/
def logClear (s : State) (i : Fin 4) (x : Sess) (ip : Word) (reason : Nat) (mac : List Byte) : OpRes :=
  let r := clearReason s i reason mac
  let s1 := modNet s (fun n => { n with clearNonce := n.clearNonce.filter (fun c => c.sess ≠ i.val) })
  if r ≠ 0 then (clearRefused s1 x.keyId ip r, 4, [])
  else if s.log.buf.length ≥ 256 then (s1, 5, [])
  else
    let (c, s2) := clearStart s1 x.keyId ip reason
    (s2, 0, wB c)

/-- LOG_CLEAR (R382). -/
def execLogClear (d : Dgram) (s : State) : Host.Outcome State Fault Refusal :=
  requestCmd s 0x43 d roleEngineer (d.payload.length ≠ 36) (fun s i x =>
    logClear s i x d.ip (rd d.payload 0 2) (sub d.payload 4 32))

/-! ### Captured frames and keys -/

/-- The 80 bytes of a captured frame (R335). -/
def capBytes (x : BitVec 64 × CanFrame) : List Byte :=
  let f := x.2
  wB (pack [(0, 29, f.id.toNat), (29, 1, b2n f.ide), (30, 1, b2n f.fdf), (31, 1, b2n f.rtr)])
    ++ [BitVec.ofNat 8 f.dlc.toNat, BitVec.ofNat 8 (b2n f.brs + 2 * b2n f.esi), 0, 0] ++ leN 8 x.1.toNat ++ fit 64 f.data

/-- CAN_CAPTURE: removes up to 16 frames from a capture FIFO (R334, R335). -/
def execCanCapture (d : Dgram) (s : State) : Host.Outcome State Fault Refusal :=
  let k := rd d.payload 0 1
  let n := rd d.payload 1 1
  requestCmd s 0x44 d roleRead (d.payload.length ≠ 4 || k > 7 || n = 0 || n > 16) (fun s _ _ =>
    let k : Fin 8 := Fin.ofNat 8 k
    let c := s.can.ctl[k]
    let l := c.cap.take n
    (modCan s k (fun c => { c with cap := c.cap.drop n }), 0,
      [BitVec.ofNat 8 l.length, 0, 0, 0] ++ leN 4 (c.wakeDm.toNat / 2 ^ 32) ++ l.flatMap capBytes))

/-- The key that a KEY_SET writes (R330, R343). -/
def keySet (s : State) (kind ent : Nat) (kid : Byte) (role : Nat) (key : List Byte) : State :=
  match kind with
  | 0 => modNet s (fun n => { n with keys := vmodN n.keys ent (fun _ => some { keyId := kid, role := role, secret := key }) })
  | 1 => modImg s (fun i => { i with imgKeys := vmodN i.imgKeys ent (fun _ => key) })
  | _ => modImg s (fun i => { i with safKeys := vmodN i.safKeys ent (fun _ => key) })

/-- Entries of each kind of key (R335). -/
def keyRoom (kind : Nat) : Nat := match kind with | 0 => 16 | 1 => 4 | _ => 2

/-- KEY_SET: an ADMIN session writes a key, and a MAJOR Ledger record names it; entry 0 of the session secrets is refused (R330,
R335, R343). -/
def execKeySet (d : Dgram) (s : State) : Host.Outcome State Fault Refusal :=
  let kind := rd d.payload 0 1
  let ent := rd d.payload 1 1
  let role := rd d.payload 3 1
  let bad := d.payload.length ≠ 36 || kind > 2 || ent ≥ keyRoom kind || (kind = 0 && role > 3)
  requestCmd s 0x50 d roleAdmin bad (fun s i _ =>
    if kind = 0 && ent = 0 then (s, 4, [])
    else (logLedger (keySet s kind ent (d.payload.getD 2 0) role (sub d.payload 4 32)) 0x6000 i.val sevMajor
            [BitVec.ofNat 8 kind, BitVec.ofNat 8 ent], 0, []))

end Sys2Proof.Machine
end

