-- ==== Sys2Proof/Machine/LogicBit.lean ====
section
/-! DEFINITION. The bit and branch instructions of R94 and R95. -/

namespace Sys2Proof.Machine
open Sys2Proof

/-- NOP: no operation (R94). -/
def execNop (e : Fin 17) (k : Fin 5) (s : State) : Host.Outcome State Fault Refusal :=
  logicCmd (.nop e k) s e k 1 true id

/-- LD: LA := bit, LT := its tag (R94). -/
def execLd (e : Fin 17) (k : Fin 5) (ix : Bool) (sp : BitVec 4) (ad : BitVec 20) (s : State) : Host.Outcome State Fault Refusal :=
  logicOpnd (.ld e k ix sp ad) s e k 2 ix sp ad (opLoadBit false)

/-- LDN: LA := NOT bit, LT := its tag (R94). -/
def execLdn (e : Fin 17) (k : Fin 5) (ix : Bool) (sp : BitVec 4) (ad : BitVec 20) (s : State) : Host.Outcome State Fault Refusal :=
  logicOpnd (.ldn e k ix sp ad) s e k 2 ix sp ad (opLoadBit true)

/-- AND: LA combined with the bit, tags by R14 (R94). -/
def execAnd (e : Fin 17) (k : Fin 5) (ix : Bool) (sp : BitVec 4) (ad : BitVec 20) (s : State) : Host.Outcome State Fault Refusal :=
  logicOpnd (.and e k ix sp ad) s e k 2 ix sp ad (opBit (· && ·) false)

/-- ANDN: LA combined with the inverted bit, tags by R14 (R94). -/
def execAndn (e : Fin 17) (k : Fin 5) (ix : Bool) (sp : BitVec 4) (ad : BitVec 20) (s : State) : Host.Outcome State Fault Refusal :=
  logicOpnd (.andn e k ix sp ad) s e k 2 ix sp ad (opBit (· && ·) true)

/-- OR: LA combined with the bit, tags by R14 (R94). -/
def execOr (e : Fin 17) (k : Fin 5) (ix : Bool) (sp : BitVec 4) (ad : BitVec 20) (s : State) : Host.Outcome State Fault Refusal :=
  logicOpnd (.or e k ix sp ad) s e k 2 ix sp ad (opBit (· || ·) false)

/-- ORN: LA combined with the inverted bit, tags by R14 (R94). -/
def execOrn (e : Fin 17) (k : Fin 5) (ix : Bool) (sp : BitVec 4) (ad : BitVec 20) (s : State) : Host.Outcome State Fault Refusal :=
  logicOpnd (.orn e k ix sp ad) s e k 2 ix sp ad (opBit (· || ·) true)

/-- XOR: LA combined with the bit, tags by R14 (R94). -/
def execXor (e : Fin 17) (k : Fin 5) (ix : Bool) (sp : BitVec 4) (ad : BitVec 20) (s : State) : Host.Outcome State Fault Refusal :=
  logicOpnd (.xor e k ix sp ad) s e k 2 ix sp ad (opBit (· != ·) false)

/-- XORN: LA combined with the inverted bit, tags by R14 (R94). -/
def execXorn (e : Fin 17) (k : Fin 5) (ix : Bool) (sp : BitVec 4) (ad : BitVec 20) (s : State) : Host.Outcome State Fault Refusal :=
  logicOpnd (.xorn e k ix sp ad) s e k 2 ix sp ad (opBit (· != ·) true)

/-- NOT: LA inverted, LT unchanged (R94). -/
def execNot (e : Fin 17) (k : Fin 5) (s : State) : Host.Outcome State Fault Refusal :=
  logicCmd (.not e k) s e k 2 true (fun c => c.setLA (!c.t.la) c.t.lt)

/-- ST: bit := LA (R93, R94). -/
def execSt (e : Fin 17) (k : Fin 5) (ix : Bool) (sp : BitVec 4) (ad : BitVec 20) (s : State) : Host.Outcome State Fault Refusal :=
  logicOpnd (.st e k ix sp ad) s e k 2 ix sp ad (opStoreBit false)

/-- STN: bit := NOT LA (R93, R94). -/
def execStn (e : Fin 17) (k : Fin 5) (ix : Bool) (sp : BitVec 4) (ad : BitVec 20) (s : State) : Host.Outcome State Fault Refusal :=
  logicOpnd (.stn e k ix sp ad) s e k 2 ix sp ad (opStoreBit true)

/-- SET: when LA = 1, bit := 1 (R93, R94). -/
def execSet (e : Fin 17) (k : Fin 5) (ix : Bool) (sp : BitVec 4) (ad : BitVec 20) (s : State) : Host.Outcome State Fault Refusal :=
  logicOpnd (.set e k ix sp ad) s e k 2 ix sp ad (opSetBit true)

/-- RST: when LA = 1, bit := 0 (R93, R94). -/
def execRst (e : Fin 17) (k : Fin 5) (ix : Bool) (sp : BitVec 4) (ad : BitVec 20) (s : State) : Host.Outcome State Fault Refusal :=
  logicOpnd (.rst e k ix sp ad) s e k 2 ix sp ad (opSetBit false)

/-- AND( pushes LA, LT and AND (R95). -/
def execAndOpen (e : Fin 17) (k : Fin 5) (s : State) : Host.Outcome State Fault Refusal :=
  logicCmd (.andOpen e k) s e k 2 true (opOpen .and)

/-- OR( pushes LA, LT and OR (R95). -/
def execOrOpen (e : Fin 17) (k : Fin 5) (s : State) : Host.Outcome State Fault Refusal :=
  logicCmd (.orOpen e k) s e k 2 true (opOpen .or)

/-- XOR( pushes LA, LT and XOR (R95). -/
def execXorOpen (e : Fin 17) (k : Fin 5) (s : State) : Host.Outcome State Fault Refusal :=
  logicCmd (.xorOpen e k) s e k 2 true (opOpen .xor)

/-- The closing branch pops an entry and combines it with LA and LT (R95). -/
def execBranchClose (e : Fin 17) (k : Fin 5) (s : State) : Host.Outcome State Fault Refusal :=
  logicCmd (.branchClose e k) s e k 2 true opClose

end Sys2Proof.Machine
end

