-- ==== Sys2Proof/Machine/LogicFlow.lean ====
section
/-! DEFINITION. The flow, timer, counter and edge instructions of R102 and R103–R109. -/

namespace Sys2Proof.Machine
open Sys2Proof

/-- JMP: jump to target (R102). -/
def execJmp (e : Fin 17) (k : Fin 5) (target : BitVec 16) (s : State) : Host.Outcome State Fault Refusal :=
  logicCmd (.jmp e k target) s e k 4 true (fun c => c.jump target)

/-- JC: jump when LA = 1 (R102). -/
def execJc (e : Fin 17) (k : Fin 5) (target : BitVec 16) (s : State) : Host.Outcome State Fault Refusal :=
  logicCmd (.jc e k target) s e k 0 true (opJumpIf true target)

/-- JCN: jump when LA = 0 (R102). -/
def execJcn (e : Fin 17) (k : Fin 5) (target : BitVec 16) (s : State) : Host.Outcome State Fault Refusal :=
  logicCmd (.jcn e k target) s e k 0 true (opJumpIf false target)

/-- LOOP: WA := WA − 1, jump while the new WA is above 0 (R102). -/
def execLoop (e : Fin 17) (k : Fin 5) (target : BitVec 16) (s : State) : Host.Outcome State Fault Refusal :=
  logicCmd (.loop e k target) s e k 0 true (opLoop target)

/-- CALL: pushes the next index and jumps (R102). -/
def execCall (e : Fin 17) (k : Fin 5) (target : BitVec 16) (s : State) : Host.Outcome State Fault Refusal :=
  logicCmd (.call e k target) s e k 5 true (opCall target)

/-- RET: pops the return entry and continues there (R102). -/
def execRet (e : Fin 17) (k : Fin 5) (s : State) : Host.Outcome State Fault Refusal :=
  logicCmd (.ret e k) s e k 5 true opRet

/-- END: ends the task run (R102). -/
def execEnd (e : Fin 17) (k : Fin 5) (s : State) : Host.Outcome State Fault Refusal :=
  logicCmd (.end_ e k) s e k 2 true opEnd

/-- EVT: when LA = 1, raises the program event; not in the SLE (R102, R239). -/
def execEvt (e : Fin 17) (k : Fin 5) (s : State) : Host.Outcome State Fault Refusal :=
  logicCmd (.evt e k) s e k 2 false opEvt

/-- TON: on-delay timer (R105). -/
def execTon (e : Fin 17) (k : Fin 5) (ad : BitVec 20) (s : State) : Host.Outcome State Fault Refusal :=
  logicCmd (.ton e k ad) s e k 10 true (opTimer 1 tonEval (instOpnd 4 ad))

/-- TOF: off-delay timer (R105). -/
def execTof (e : Fin 17) (k : Fin 5) (ad : BitVec 20) (s : State) : Host.Outcome State Fault Refusal :=
  logicCmd (.tof e k ad) s e k 10 true (opTimer 2 tofEval (instOpnd 4 ad))

/-- TP: pulse timer (R105, R106). -/
def execTp (e : Fin 17) (k : Fin 5) (ad : BitVec 20) (s : State) : Host.Outcome State Fault Refusal :=
  logicCmd (.tp e k ad) s e k 10 true (opTimer 3 tpEval (instOpnd 4 ad))

/-- CTU: counts up on a rising LA (R107). -/
def execCtu (e : Fin 17) (k : Fin 5) (ad : BitVec 20) (s : State) : Host.Outcome State Fault Refusal :=
  logicCmd (.ctu e k ad) s e k 5 true (opCount true (instOpnd 5 ad))

/-- CTD: counts down on a rising LA (R107). -/
def execCtd (e : Fin 17) (k : Fin 5) (ad : BitVec 20) (s : State) : Host.Outcome State Fault Refusal :=
  logicCmd (.ctd e k ad) s e k 5 true (opCount false (instOpnd 5 ad))

/-- CRST: when LA = 1, CV := 0 (R107). -/
def execCrst (e : Fin 17) (k : Fin 5) (ad : BitVec 20) (s : State) : Host.Outcome State Fault Refusal :=
  logicCmd (.crst e k ad) s e k 3 true (opCountSet false (instOpnd 5 ad))

/-- CLD: when LA = 1, CV := WA (R107). -/
def execCld (e : Fin 17) (k : Fin 5) (ad : BitVec 20) (s : State) : Host.Outcome State Fault Refusal :=
  logicCmd (.cld e k ad) s e k 3 true (opCountSet true (instOpnd 5 ad))

/-- REDGE: rising edge of LA (R108). -/
def execRedge (e : Fin 17) (k : Fin 5) (ad : BitVec 20) (s : State) : Host.Outcome State Fault Refusal :=
  logicCmd (.redge e k ad) s e k 3 true (opEdge true (instOpnd 6 ad))

/-- FEDGE: falling edge of LA (R108). -/
def execFedge (e : Fin 17) (k : Fin 5) (ad : BitVec 20) (s : State) : Host.Outcome State Fault Refusal :=
  logicCmd (.fedge e k ad) s e k 3 true (opEdge false (instOpnd 6 ad))

end Sys2Proof.Machine
end

