-- ==== Sys2Proof/Machine/LogicWord.lean ====
section
/-! DEFINITION. The word and tag instructions of R97 and R100. -/

namespace Sys2Proof.Machine
open Sys2Proof

/-- LW: WB := WA, WA := operand (R97). -/
def execLw (e : Fin 17) (k : Fin 5) (ix : Bool) (sp : BitVec 4) (ad : BitVec 20) (s : State) : Host.Outcome State Fault Refusal :=
  logicOpnd (.lw e k ix sp ad) s e k 2 ix sp ad opLW

/-- SW: operand := WA (R92, R97). -/
def execSw (e : Fin 17) (k : Fin 5) (ix : Bool) (sp : BitVec 4) (ad : BitVec 20) (s : State) : Host.Outcome State Fault Refusal :=
  logicOpnd (.sw e k ix sp ad) s e k 2 ix sp ad opSW

/-- SWAP: WA and WB exchanged with their tags (R97). -/
def execSwap (e : Fin 17) (k : Fin 5) (s : State) : Host.Outcome State Fault Refusal :=
  logicCmd (.swap e k) s e k 1 true opSwap

/-- LXR: XR := WA in 0 to 32,767, else 0xFFFF; not in the SLE (R97, R239). -/
def execLxr (e : Fin 17) (k : Fin 5) (s : State) : Host.Outcome State Fault Refusal :=
  logicCmd (.lxr e k) s e k 1 false opLXR

/-- ADD: WA := WB + WA, saturating (R97, R98). -/
def execAdd (e : Fin 17) (k : Fin 5) (s : State) : Host.Outcome State Fault Refusal :=
  logicCmd (.add e k) s e k 1 true (opInt2 (· + ·))

/-- SUB: WA := WB − WA, saturating (R97, R98). -/
def execSub (e : Fin 17) (k : Fin 5) (s : State) : Host.Outcome State Fault Refusal :=
  logicCmd (.sub e k) s e k 1 true (opInt2 (· - ·))

/-- MUL: WA := WB × WA, saturating (R97, R98). -/
def execMul (e : Fin 17) (k : Fin 5) (s : State) : Host.Outcome State Fault Refusal :=
  logicCmd (.mul e k) s e k 3 true (opInt2 (· * ·))

/-- DIV: WA := WB ÷ WA toward zero (R97, R98). -/
def execDiv (e : Fin 17) (k : Fin 5) (s : State) : Host.Outcome State Fault Refusal :=
  logicCmd (.div e k) s e k 18 true opDiv

/-- MOD: WA := remainder with the sign of WB (R97, R98). -/
def execMod (e : Fin 17) (k : Fin 5) (s : State) : Host.Outcome State Fault Refusal :=
  logicCmd (.mod e k) s e k 18 true opMod

/-- NEG: WA := −WA, saturating (R97, R98). -/
def execNeg (e : Fin 17) (k : Fin 5) (s : State) : Host.Outcome State Fault Refusal :=
  logicCmd (.neg e k) s e k 1 true (opInt1 (fun a => -a))

/-- ABS: WA := |WA|, saturating (R97, R98). -/
def execAbs (e : Fin 17) (k : Fin 5) (s : State) : Host.Outcome State Fault Refusal :=
  logicCmd (.abs e k) s e k 1 true (opInt1 (fun a => if a < 0 then -a else a))

/-- ADDF: binary32, WB + WA; not in the SLE (R97, R99, R239). -/
def execAddf (e : Fin 17) (k : Fin 5) (s : State) : Host.Outcome State Fault Refusal :=
  logicCmd (.addf e k) s e k 4 false (opF2 f32.add)

/-- SUBF: binary32, WB − WA; not in the SLE (R97, R99, R239). -/
def execSubf (e : Fin 17) (k : Fin 5) (s : State) : Host.Outcome State Fault Refusal :=
  logicCmd (.subf e k) s e k 4 false (opF2 f32.subt)

/-- MULF: binary32, WB × WA; not in the SLE (R97, R99, R239). -/
def execMulf (e : Fin 17) (k : Fin 5) (s : State) : Host.Outcome State Fault Refusal :=
  logicCmd (.mulf e k) s e k 4 false (opF2 f32.mul)

/-- DIVF: binary32, WB ÷ WA; not in the SLE (R97, R99, R239). -/
def execDivf (e : Fin 17) (k : Fin 5) (s : State) : Host.Outcome State Fault Refusal :=
  logicCmd (.divf e k) s e k 16 false (opF2 f32.div)

/-- NEGF: binary32, the sign bit of WA flipped; not in the SLE (R97, R99, R239). -/
def execNegf (e : Fin 17) (k : Fin 5) (s : State) : Host.Outcome State Fault Refusal :=
  logicCmd (.negf e k) s e k 1 false (opF1 f32.flip)

/-- ABSF: binary32, the sign bit of WA cleared; not in the SLE (R97, R99, R239). -/
def execAbsf (e : Fin 17) (k : Fin 5) (s : State) : Host.Outcome State Fault Refusal :=
  logicCmd (.absf e k) s e k 1 false (opF1 f32.mag)

/-- SQRTF: binary32, √WA; not in the SLE (R97, R99, R239). -/
def execSqrtf (e : Fin 17) (k : Fin 5) (s : State) : Host.Outcome State Fault Refusal :=
  logicCmd (.sqrtf e k) s e k 16 false (opF1 f32.sqrt)

/-- ITOF: binary32, integer WA converted; not in the SLE (R97, R99, R239). -/
def execItof (e : Fin 17) (k : Fin 5) (s : State) : Host.Outcome State Fault Refusal :=
  logicCmd (.itof e k) s e k 4 false opItof

/-- FTOI: binary32, WA converted to an integer; not in the SLE (R97, R99, R239). -/
def execFtoi (e : Fin 17) (k : Fin 5) (s : State) : Host.Outcome State Fault Refusal :=
  logicCmd (.ftoi e k) s e k 4 false opFtoi

/-- ANDW: bitwise AND (R97). -/
def execAndw (e : Fin 17) (k : Fin 5) (s : State) : Host.Outcome State Fault Refusal :=
  logicCmd (.andw e k) s e k 1 true (opW2 (· &&& ·))

/-- ORW: bitwise OR (R97). -/
def execOrw (e : Fin 17) (k : Fin 5) (s : State) : Host.Outcome State Fault Refusal :=
  logicCmd (.orw e k) s e k 1 true (opW2 (· ||| ·))

/-- XORW: bitwise XOR (R97). -/
def execXorw (e : Fin 17) (k : Fin 5) (s : State) : Host.Outcome State Fault Refusal :=
  logicCmd (.xorw e k) s e k 1 true (opW2 (· ^^^ ·))

/-- NOTW: bitwise NOT (R97). -/
def execNotw (e : Fin 17) (k : Fin 5) (s : State) : Host.Outcome State Fault Refusal :=
  logicCmd (.notw e k) s e k 1 true (opW1 (~~~ ·))

/-- SHL: WA shifted left; tag unchanged (R97). -/
def execShl (e : Fin 17) (k : Fin 5) (n : BitVec 5) (s : State) : Host.Outcome State Fault Refusal :=
  logicCmd (.shl e k n) s e k 1 true (opW1 (· <<< n.toNat))

/-- SHR: WA shifted right, filling with 0; tag unchanged (R97). -/
def execShr (e : Fin 17) (k : Fin 5) (n : BitVec 5) (s : State) : Host.Outcome State Fault Refusal :=
  logicCmd (.shr e k n) s e k 1 true (opW1 (· >>> n.toNat))

/-- SAR: WA shifted right, filling with bit 31; tag unchanged (R97). -/
def execSar (e : Fin 17) (k : Fin 5) (n : BitVec 5) (s : State) : Host.Outcome State Fault Refusal :=
  logicCmd (.sar e k n) s e k 1 true (opW1 (fun w => w.sshiftRight n.toNat))

/-- EQ: signed comparison of WB with WA into LA (R97). -/
def execEq (e : Fin 17) (k : Fin 5) (s : State) : Host.Outcome State Fault Refusal :=
  logicCmd (.eq e k) s e k 1 true (fun c => opCmp (c.t.wb == c.t.wa) c)

/-- NE: signed comparison of WB with WA into LA (R97). -/
def execNe (e : Fin 17) (k : Fin 5) (s : State) : Host.Outcome State Fault Refusal :=
  logicCmd (.ne e k) s e k 1 true (fun c => opCmp (c.t.wb != c.t.wa) c)

/-- GT: signed comparison of WB with WA into LA (R97). -/
def execGt (e : Fin 17) (k : Fin 5) (s : State) : Host.Outcome State Fault Refusal :=
  logicCmd (.gt e k) s e k 1 true (fun c => opCmp (c.t.wb.toInt > c.t.wa.toInt) c)

/-- GE: signed comparison of WB with WA into LA (R97). -/
def execGe (e : Fin 17) (k : Fin 5) (s : State) : Host.Outcome State Fault Refusal :=
  logicCmd (.ge e k) s e k 1 true (fun c => opCmp (c.t.wb.toInt ≥ c.t.wa.toInt) c)

/-- LT: signed comparison of WB with WA into LA (R97). -/
def execLt (e : Fin 17) (k : Fin 5) (s : State) : Host.Outcome State Fault Refusal :=
  logicCmd (.lt e k) s e k 1 true (fun c => opCmp (c.t.wb.toInt < c.t.wa.toInt) c)

/-- LE: signed comparison of WB with WA into LA (R97). -/
def execLe (e : Fin 17) (k : Fin 5) (s : State) : Host.Outcome State Fault Refusal :=
  logicCmd (.le e k) s e k 1 true (fun c => opCmp (c.t.wb.toInt ≤ c.t.wa.toInt) c)

/-- EQF: binary32 comparison of WB with WA into LA; not in the SLE (R97, R99, R239). -/
def execEqf (e : Fin 17) (k : Fin 5) (s : State) : Host.Outcome State Fault Refusal :=
  logicCmd (.eqf e k) s e k 2 false (fun c => let b := c.t.wb.toNat; let a := c.t.wa.toNat; opCmp (f32.eq b a) c)

/-- NEF: binary32 comparison of WB with WA into LA; not in the SLE (R97, R99, R239). -/
def execNef (e : Fin 17) (k : Fin 5) (s : State) : Host.Outcome State Fault Refusal :=
  logicCmd (.nef e k) s e k 2 false (fun c => let b := c.t.wb.toNat; let a := c.t.wa.toNat; opCmp (!f32.eq b a) c)

/-- GTF: binary32 comparison of WB with WA into LA; not in the SLE (R97, R99, R239). -/
def execGtf (e : Fin 17) (k : Fin 5) (s : State) : Host.Outcome State Fault Refusal :=
  logicCmd (.gtf e k) s e k 2 false (fun c => let b := c.t.wb.toNat; let a := c.t.wa.toNat; opCmp (f32.lt a b) c)

/-- GEF: binary32 comparison of WB with WA into LA; not in the SLE (R97, R99, R239). -/
def execGef (e : Fin 17) (k : Fin 5) (s : State) : Host.Outcome State Fault Refusal :=
  logicCmd (.gef e k) s e k 2 false (fun c => let b := c.t.wb.toNat; let a := c.t.wa.toNat; opCmp (f32.le a b) c)

/-- LTF: binary32 comparison of WB with WA into LA; not in the SLE (R97, R99, R239). -/
def execLtf (e : Fin 17) (k : Fin 5) (s : State) : Host.Outcome State Fault Refusal :=
  logicCmd (.ltf e k) s e k 2 false (fun c => let b := c.t.wb.toNat; let a := c.t.wa.toNat; opCmp (f32.lt b a) c)

/-- LEF: binary32 comparison of WB with WA into LA; not in the SLE (R97, R99, R239). -/
def execLef (e : Fin 17) (k : Fin 5) (s : State) : Host.Outcome State Fault Refusal :=
  logicCmd (.lef e k) s e k 2 false (fun c => let b := c.t.wb.toNat; let a := c.t.wa.toNat; opCmp (f32.le b a) c)

/-- MIN: the smaller, signed (R97). -/
def execMin (e : Fin 17) (k : Fin 5) (s : State) : Host.Outcome State Fault Refusal :=
  logicCmd (.min e k) s e k 1 true (fun c => c.setWA (if c.t.wb.toInt < c.t.wa.toInt then c.t.wb else c.t.wa) c.wTag false)

/-- MAX: the larger, signed (R97). -/
def execMax (e : Fin 17) (k : Fin 5) (s : State) : Host.Outcome State Fault Refusal :=
  logicCmd (.max e k) s e k 1 true (fun c => c.setWA (if c.t.wb.toInt > c.t.wa.toInt then c.t.wb else c.t.wa) c.wTag false)

/-- SEL: WA kept when LA = 1, otherwise WB (R97). -/
def execSel (e : Fin 17) (k : Fin 5) (s : State) : Host.Outcome State Fault Refusal :=
  logicCmd (.sel e k) s e k 1 true opSel

/-- LTAG: WB := WA, WA := the operand's tag with the constant mark (R100). -/
def execLtag (e : Fin 17) (k : Fin 5) (ix : Bool) (sp : BitVec 4) (ad : BitVec 20) (s : State) : Host.Outcome State Fault Refusal :=
  logicOpnd (.ltag e k ix sp ad) s e k 2 ix sp ad opLtag

/-- QCHK: LA := 1 when the operand's Q is at most 1 (R100). -/
def execQchk (e : Fin 17) (k : Fin 5) (ix : Bool) (sp : BitVec 4) (ad : BitVec 20) (s : State) : Host.Outcome State Fault Refusal :=
  logicOpnd (.qchk e k ix sp ad) s e k 2 ix sp ad opQchk

/-- SETQ: the Q field of WA's tag := q (R100). -/
def execSetq (e : Fin 17) (k : Fin 5) (q : BitVec 3) (s : State) : Host.Outcome State Fault Refusal :=
  logicCmd (.setq e k q) s e k 1 true (opSetq q)

end Sys2Proof.Machine
end

