-- ==== Sys2Proof/Machine/Dispatch.lean ====
section
/-! DEFINITION. One arm per command: each calls that command's own meaning. -/

namespace Sys2Proof.Machine

/-- What a command does to everything but the queue. -/
def exec (i : Instr) (s : State) : Host.Outcome State Fault Refusal :=
  match i with
  | .tierBoundary inp => Sys2Proof.Machine.execTierBoundary inp s
  | .remoteOutputLoss p => Sys2Proof.Machine.execRemoteOutputLoss p s
  | .scanStart e => Sys2Proof.Machine.execScanStart e s
  | .taskOverrun l => Sys2Proof.Machine.execTaskOverrun l s
  | .engineFault e kind => Sys2Proof.Machine.execEngineFault e kind s
  | .nop e k => Sys2Proof.Machine.execNop e k s
  | .ld e k ix sp ad => Sys2Proof.Machine.execLd e k ix sp ad s
  | .ldn e k ix sp ad => Sys2Proof.Machine.execLdn e k ix sp ad s
  | .and e k ix sp ad => Sys2Proof.Machine.execAnd e k ix sp ad s
  | .andn e k ix sp ad => Sys2Proof.Machine.execAndn e k ix sp ad s
  | .or e k ix sp ad => Sys2Proof.Machine.execOr e k ix sp ad s
  | .orn e k ix sp ad => Sys2Proof.Machine.execOrn e k ix sp ad s
  | .xor e k ix sp ad => Sys2Proof.Machine.execXor e k ix sp ad s
  | .xorn e k ix sp ad => Sys2Proof.Machine.execXorn e k ix sp ad s
  | .not e k => Sys2Proof.Machine.execNot e k s
  | .st e k ix sp ad => Sys2Proof.Machine.execSt e k ix sp ad s
  | .stn e k ix sp ad => Sys2Proof.Machine.execStn e k ix sp ad s
  | .set e k ix sp ad => Sys2Proof.Machine.execSet e k ix sp ad s
  | .rst e k ix sp ad => Sys2Proof.Machine.execRst e k ix sp ad s
  | .andOpen e k => Sys2Proof.Machine.execAndOpen e k s
  | .orOpen e k => Sys2Proof.Machine.execOrOpen e k s
  | .xorOpen e k => Sys2Proof.Machine.execXorOpen e k s
  | .branchClose e k => Sys2Proof.Machine.execBranchClose e k s
  | .lw e k ix sp ad => Sys2Proof.Machine.execLw e k ix sp ad s
  | .sw e k ix sp ad => Sys2Proof.Machine.execSw e k ix sp ad s
  | .swap e k => Sys2Proof.Machine.execSwap e k s
  | .lxr e k => Sys2Proof.Machine.execLxr e k s
  | .add e k => Sys2Proof.Machine.execAdd e k s
  | .sub e k => Sys2Proof.Machine.execSub e k s
  | .mul e k => Sys2Proof.Machine.execMul e k s
  | .div e k => Sys2Proof.Machine.execDiv e k s
  | .mod e k => Sys2Proof.Machine.execMod e k s
  | .neg e k => Sys2Proof.Machine.execNeg e k s
  | .abs e k => Sys2Proof.Machine.execAbs e k s
  | .addf e k => Sys2Proof.Machine.execAddf e k s
  | .subf e k => Sys2Proof.Machine.execSubf e k s
  | .mulf e k => Sys2Proof.Machine.execMulf e k s
  | .divf e k => Sys2Proof.Machine.execDivf e k s
  | .negf e k => Sys2Proof.Machine.execNegf e k s
  | .absf e k => Sys2Proof.Machine.execAbsf e k s
  | .sqrtf e k => Sys2Proof.Machine.execSqrtf e k s
  | .itof e k => Sys2Proof.Machine.execItof e k s
  | .ftoi e k => Sys2Proof.Machine.execFtoi e k s
  | .andw e k => Sys2Proof.Machine.execAndw e k s
  | .orw e k => Sys2Proof.Machine.execOrw e k s
  | .xorw e k => Sys2Proof.Machine.execXorw e k s
  | .notw e k => Sys2Proof.Machine.execNotw e k s
  | .shl e k n => Sys2Proof.Machine.execShl e k n s
  | .shr e k n => Sys2Proof.Machine.execShr e k n s
  | .sar e k n => Sys2Proof.Machine.execSar e k n s
  | .eq e k => Sys2Proof.Machine.execEq e k s
  | .ne e k => Sys2Proof.Machine.execNe e k s
  | .gt e k => Sys2Proof.Machine.execGt e k s
  | .ge e k => Sys2Proof.Machine.execGe e k s
  | .lt e k => Sys2Proof.Machine.execLt e k s
  | .le e k => Sys2Proof.Machine.execLe e k s
  | .eqf e k => Sys2Proof.Machine.execEqf e k s
  | .nef e k => Sys2Proof.Machine.execNef e k s
  | .gtf e k => Sys2Proof.Machine.execGtf e k s
  | .gef e k => Sys2Proof.Machine.execGef e k s
  | .ltf e k => Sys2Proof.Machine.execLtf e k s
  | .lef e k => Sys2Proof.Machine.execLef e k s
  | .min e k => Sys2Proof.Machine.execMin e k s
  | .max e k => Sys2Proof.Machine.execMax e k s
  | .sel e k => Sys2Proof.Machine.execSel e k s
  | .ltag e k ix sp ad => Sys2Proof.Machine.execLtag e k ix sp ad s
  | .qchk e k ix sp ad => Sys2Proof.Machine.execQchk e k ix sp ad s
  | .setq e k q => Sys2Proof.Machine.execSetq e k q s
  | .jmp e k target => Sys2Proof.Machine.execJmp e k target s
  | .jc e k target => Sys2Proof.Machine.execJc e k target s
  | .jcn e k target => Sys2Proof.Machine.execJcn e k target s
  | .loop e k target => Sys2Proof.Machine.execLoop e k target s
  | .call e k target => Sys2Proof.Machine.execCall e k target s
  | .ret e k => Sys2Proof.Machine.execRet e k s
  | .end_ e k => Sys2Proof.Machine.execEnd e k s
  | .evt e k => Sys2Proof.Machine.execEvt e k s
  | .ton e k ad => Sys2Proof.Machine.execTon e k ad s
  | .tof e k ad => Sys2Proof.Machine.execTof e k ad s
  | .tp e k ad => Sys2Proof.Machine.execTp e k ad s
  | .ctu e k ad => Sys2Proof.Machine.execCtu e k ad s
  | .ctd e k ad => Sys2Proof.Machine.execCtd e k ad s
  | .crst e k ad => Sys2Proof.Machine.execCrst e k ad s
  | .cld e k ad => Sys2Proof.Machine.execCld e k ad s
  | .redge e k ad => Sys2Proof.Machine.execRedge e k ad s
  | .fedge e k ad => Sys2Proof.Machine.execFedge e k ad s
  | .holdTimeout => Sys2Proof.Machine.execHoldTimeout s
  | .holdPermitChange level => Sys2Proof.Machine.execHoldPermitChange level s
  | .holdPermitWithdrawn => Sys2Proof.Machine.execHoldPermitWithdrawn s
  | .loopSampleRelease n => Sys2Proof.Machine.execLoopSampleRelease n s
  | .loopSampleComplete n slack => Sys2Proof.Machine.execLoopSampleComplete n slack s
  | .loopSampleMiss n => Sys2Proof.Machine.execLoopSampleMiss n s
  | .loopOutput n => Sys2Proof.Machine.execLoopOutput n s
  | .loopStall n => Sys2Proof.Machine.execLoopStall n s
  | .loopMemErr n => Sys2Proof.Machine.execLoopMemErr n s
  | .loopReloadDone n => Sys2Proof.Machine.execLoopReloadDone n s
  | .solveRelease p => Sys2Proof.Machine.execSolveRelease p s
  | .solveComplete p => Sys2Proof.Machine.execSolveComplete p s
  | .placedProblemStart src => Sys2Proof.Machine.execPlacedProblemStart src s
  | .placedResult t remote => Sys2Proof.Machine.execPlacedResult t remote s
  | .slotMemErr p ofs => Sys2Proof.Machine.execSlotMemErr p ofs s
  | .slotReloadDone p => Sys2Proof.Machine.execSlotReloadDone p s
  | .angleEdge a k t => Sys2Proof.Machine.execAngleEdge a k t s
  | .vsCrossing v k t rms mhz => Sys2Proof.Machine.execVsCrossing v k t rms mhz s
  | .lineFault a => Sys2Proof.Machine.execLineFault a s
  | .standstill a => Sys2Proof.Machine.execStandstill a s
  | .lossRecovery a => Sys2Proof.Machine.execLossRecovery a s
  | .angleWindow => Sys2Proof.Machine.execAngleWindow s
  | .angleEventFire n raw => Sys2Proof.Machine.execAngleEventFire n raw s
  | .diagDetect n d => Sys2Proof.Machine.execDiagDetect n d s
  | .shortCircuitShutoff n => Sys2Proof.Machine.execShortCircuitShutoff n s
  | .bankOverload b => Sys2Proof.Machine.execBankOverload b s
  | .lplusChange b mv ma => Sys2Proof.Machine.execLplusChange b mv ma s
  | .fieldSideFail x => Sys2Proof.Machine.execFieldSideFail x s
  | .fieldSideRecover b => Sys2Proof.Machine.execFieldSideRecover b s
  | .shutterExpire b => Sys2Proof.Machine.execShutterExpire b s
  | .aoWaitExpire b => Sys2Proof.Machine.execAoWaitExpire b s
  | .pwmPeriodStart n => Sys2Proof.Machine.execPwmPeriodStart n s
  | .fieldDisagree n => Sys2Proof.Machine.execFieldDisagree n s
  | .tpPulseStart k reads => Sys2Proof.Machine.execTpPulseStart k reads s
  | .tpPulseEnd k reads => Sys2Proof.Machine.execTpPulseEnd k reads s
  | .tpMaskEnd k reads => Sys2Proof.Machine.execTpMaskEnd k reads s
  | .tpFault k overload => Sys2Proof.Machine.execTpFault k overload s
  | .discrepancy p => Sys2Proof.Machine.execDiscrepancy p s
  | .sleWatchdogExpire => Sys2Proof.Machine.execSleWatchdogExpire s
  | .sleFault c => Sys2Proof.Machine.execSleFault c s
  | .slplusLoss => Sys2Proof.Machine.execSlplusLoss s
  | .darkTest k ls => Sys2Proof.Machine.execDarkTest k ls s
  | .darkTestEnd k ls conducting => Sys2Proof.Machine.execDarkTestEnd k ls conducting s
  | .soShutoff k => Sys2Proof.Machine.execSoShutoff k s
  | .heartbeatSend => Sys2Proof.Machine.execHeartbeatSend s
  | .heartbeatReceive w a b id depart => Sys2Proof.Machine.execHeartbeatReceive w a b id depart s
  | .inputSetReceive rest items => Sys2Proof.Machine.execInputSetReceive rest items s
  | .dueMiss k => Sys2Proof.Machine.execDueMiss k s
  | .ownFaultReport => Sys2Proof.Machine.execOwnFaultReport s
  | .seekingTimeout => Sys2Proof.Machine.execSeekingTimeout s
  | .laneDown l => Sys2Proof.Machine.execLaneDown l s
  | .laneUp l => Sys2Proof.Machine.execLaneUp l s
  | .presenceSend => Sys2Proof.Machine.execPresenceSend s
  | .presenceReceive st driving id => Sys2Proof.Machine.execPresenceReceive st driving id s
  | .presenceLapse => Sys2Proof.Machine.execPresenceLapse s
  | .digestComputed => Sys2Proof.Machine.execDigestComputed s
  | .digestReceive l => Sys2Proof.Machine.execDigestReceive l s
  | .mismatchMaskReceive m => Sys2Proof.Machine.execMismatchMaskReceive m s
  | .selfCheckOutcome ownFails partnerFails => Sys2Proof.Machine.execSelfCheckOutcome ownFails partnerFails s
  | .resyncMarkReceive x => Sys2Proof.Machine.execResyncMarkReceive x s
  | .tierAligned => Sys2Proof.Machine.execTierAligned s
  | .transomPacketReceive q crcOk p => Sys2Proof.Machine.execTransomPacketReceive q crcOk p s
  | .portDown q mirror sched told => Sys2Proof.Machine.execPortDown q mirror sched told s
  | .portUp q heard sched time => Sys2Proof.Machine.execPortUp q heard sched time s
  | .barrierTimeout => Sys2Proof.Machine.execBarrierTimeout s
  | .snapshotLatch => Sys2Proof.Machine.execSnapshotLatch s
  | .stackResetSymbol q => Sys2Proof.Machine.execStackResetSymbol q s
  | .timedDeadlineMiss blk inst tier dl vars port => Sys2Proof.Machine.execTimedDeadlineMiss blk inst tier dl vars port s
  | .placedPacketGrant t new => Sys2Proof.Machine.execPlacedPacketGrant t new s
  | .placedPacketComplete port t => Sys2Proof.Machine.execPlacedPacketComplete port t s
  | .canFrameReceive k f res => Sys2Proof.Machine.execCanFrameReceive k f res s
  | .canFrameSent k obj tdcv => Sys2Proof.Machine.execCanFrameSent k obj tdcv s
  | .canError k kind dataPhase err obj => Sys2Proof.Machine.execCanError k kind dataPhase err obj s
  | .boffRecovered k => Sys2Proof.Machine.execBoffRecovered k s
  | .canReferenceSend k c late => Sys2Proof.Machine.execCanReferenceSend k c late s
  | .canWindowOpen k w => Sys2Proof.Machine.execCanWindowOpen k w s
  | .canWindowClose k w => Sys2Proof.Machine.execCanWindowClose k w s
  | .ttSyncLoss k => Sys2Proof.Machine.execTtSyncLoss k s
  | .canWake k f => Sys2Proof.Machine.execCanWake k f s
  | .txdTimeout k => Sys2Proof.Machine.execTxdTimeout k s
  | .telegramSend t => Sys2Proof.Machine.execTelegramSend t s
  | .telegramReceive leafB f => Sys2Proof.Machine.execTelegramReceive leafB f s
  | .telegramWatchdog r => Sys2Proof.Machine.execTelegramWatchdog r s
  | .arpRequest p => Sys2Proof.Machine.execArpRequest p s
  | .icmpEcho p => Sys2Proof.Machine.execIcmpEcho p s
  | .netLinkChange p up => Sys2Proof.Machine.execNetLinkChange p up s
  | .placedFrameSend p => Sys2Proof.Machine.execPlacedFrameSend p s
  | .hello d => Sys2Proof.Machine.execHello d s
  | .proof d => Sys2Proof.Machine.execProof d s
  | .close d => Sys2Proof.Machine.execClose d s
  | .read d => Sys2Proof.Machine.execRead d s
  | .write d => Sys2Proof.Machine.execWrite d s
  | .kwrite d => Sys2Proof.Machine.execKwrite d s
  | .imgOpen d => Sys2Proof.Machine.execImgOpen d s
  | .imgData d => Sys2Proof.Machine.execImgData d s
  | .imgEnd d => Sys2Proof.Machine.execImgEnd d s
  | .modeOp d => Sys2Proof.Machine.execModeOp d s
  | .logRead d => Sys2Proof.Machine.execLogRead d s
  | .logClearChal d => Sys2Proof.Machine.execLogClearChal d s
  | .logClear d => Sys2Proof.Machine.execLogClear d s
  | .canCapture d => Sys2Proof.Machine.execCanCapture d s
  | .keySet d => Sys2Proof.Machine.execKeySet d s
  | .sessionTimeout sess => Sys2Proof.Machine.execSessionTimeout sess s
  | .challengeLapse id => Sys2Proof.Machine.execChallengeLapse id s
  | .helloLockoutEnd ip => Sys2Proof.Machine.execHelloLockoutEnd ip s
  | .transferAbandon => Sys2Proof.Machine.execTransferAbandon s
  | .clearChallengeLapse => Sys2Proof.Machine.execClearChallengeLapse s
  | .clearLockoutEnd => Sys2Proof.Machine.execClearLockoutEnd s
  | .imageWriteDone ok => Sys2Proof.Machine.execImageWriteDone ok s
  | .partnerWriteDone ok => Sys2Proof.Machine.execPartnerWriteDone ok s
  | .imageLoad => Sys2Proof.Machine.execImageLoad s
  | .profSelChange pins => Sys2Proof.Machine.execProfSelChange pins s
  | .switchPrepared => Sys2Proof.Machine.execSwitchPrepared s
  | .prepareDone x => Sys2Proof.Machine.execPrepareDone x s
  | .olcPersisted ok => Sys2Proof.Machine.execOlcPersisted ok s
  | .supQueueTake => Sys2Proof.Machine.execSupQueueTake s
  | .flushRecordDone ok => Sys2Proof.Machine.execFlushRecordDone ok s
  | .clearDone => Sys2Proof.Machine.execClearDone s
  | .powerOn x => Sys2Proof.Machine.execPowerOn x s
  | .feedChange b mv => Sys2Proof.Machine.execFeedChange b mv s
  | .powerFail => Sys2Proof.Machine.execPowerFail s
  | .powerFailFlushDone => Sys2Proof.Machine.execPowerFailFlushDone s
  | .powerFailRecovery => Sys2Proof.Machine.execPowerFailRecovery s
  | .holdupEnd => Sys2Proof.Machine.execHoldupEnd s
  | .nreset => Sys2Proof.Machine.execNreset s
  | .supWatchdog => Sys2Proof.Machine.execSupWatchdog s
  | .lockstepMismatch => Sys2Proof.Machine.execLockstepMismatch s
  | .warmResetEnd => Sys2Proof.Machine.execWarmResetEnd s
  | .clockFault => Sys2Proof.Machine.execClockFault s
  | .clockRecovered => Sys2Proof.Machine.execClockRecovered s
  | .sleepVoteDone => Sys2Proof.Machine.execSleepVoteDone s
  | .sleepQuiesceSlot => Sys2Proof.Machine.execSleepQuiesceSlot s
  | .sleepRestore => Sys2Proof.Machine.execSleepRestore s
  | .wakeSource pins can nreset cnt ok x => Sys2Proof.Machine.execWakeSource pins can nreset cnt ok x s
  | .timeLoRead r => Sys2Proof.Machine.execTimeLoRead r s
  | .stkTimeLoRead r => Sys2Proof.Machine.execStkTimeLoRead r s
  | .opmsLoRead r => Sys2Proof.Machine.execOpmsLoRead r s
  | .sleepCntLoRead r => Sys2Proof.Machine.execSleepCntLoRead r s
  | .dataValueRead r n => Sys2Proof.Machine.execDataValueRead r n s
  | .memDataRead c => Sys2Proof.Machine.execMemDataRead c s
  | .keyWrite sess a v => Sys2Proof.Machine.execKeyWrite sess a v s
  | .keyedWindowClose sess a => Sys2Proof.Machine.execKeyedWindowClose sess a s
  | .dataWrite sess n isTag v => Sys2Proof.Machine.execDataWrite sess n isTag v s
  | .registerWrite sess a v => Sys2Proof.Machine.execRegisterWrite sess a v s
  | .stop sess => Sys2Proof.Machine.execStop sess s
  | .runCold sess => Sys2Proof.Machine.execRunCold sess s
  | .runWarm sess => Sys2Proof.Machine.execRunWarm sess s
  | .runHot sess => Sys2Proof.Machine.execRunHot sess s
  | .release sess => Sys2Proof.Machine.execRelease sess s
  | .breakpointSet sess e addr en => Sys2Proof.Machine.execBreakpointSet sess e addr en s
  | .step sess e => Sys2Proof.Machine.execStep sess e s
  | .resume sess e => Sys2Proof.Machine.execResume sess e s
  | .freeze sess e => Sys2Proof.Machine.execFreeze sess e s
  | .leClrStat sess e => Sys2Proof.Machine.execLeClrStat sess e s
  | .engineRestart sess e => Sys2Proof.Machine.execEngineRestart sess e s
  | .prepare sess => Sys2Proof.Machine.execPrepare sess s
  | .commit sess => Sys2Proof.Machine.execCommit sess s
  | .discard sess => Sys2Proof.Machine.execDiscard sess s
  | .forceSet sess var => Sys2Proof.Machine.execForceSet sess var s
  | .forceRemove sess var => Sys2Proof.Machine.execForceRemove sess var s
  | .forceRemoveAll x => Sys2Proof.Machine.execForceRemoveAll x s
  | .fabClrCnt sess => Sys2Proof.Machine.execFabClrCnt sess s
  | .loopEngClrStat sess e => Sys2Proof.Machine.execLoopEngClrStat sess e s
  | .loopRestart sess n => Sys2Proof.Machine.execLoopRestart sess n s
  | .loopClrCnt sess n => Sys2Proof.Machine.execLoopClrCnt sess n s
  | .qpClClrStat sess c => Sys2Proof.Machine.execQpClClrStat sess c s
  | .coldReq sess p => Sys2Proof.Machine.execColdReq sess p s
  | .slotClrCnt sess p => Sys2Proof.Machine.execSlotClrCnt sess p s
  | .angClrStat sess => Sys2Proof.Machine.execAngClrStat sess s
  | .resync sess a => Sys2Proof.Machine.execResync sess a s
  | .evtCtrlWrite sess n mode seq => Sys2Proof.Machine.execEvtCtrlWrite sess n mode seq s
  | .clrDiag sess b => Sys2Proof.Machine.execClrDiag sess b s
  | .fldClrCnt sess b => Sys2Proof.Machine.execFldClrCnt sess b s
  | .safClrCnt sess => Sys2Proof.Machine.execSafClrCnt sess s
  | .clrSoFault sess => Sys2Proof.Machine.execClrSoFault sess s
  | .switch sess => Sys2Proof.Machine.execSwitch sess s
  | .rejoin sess => Sys2Proof.Machine.execRejoin sess s
  | .pairClrCnt sess => Sys2Proof.Machine.execPairClrCnt sess s
  | .stackReset sess => Sys2Proof.Machine.execStackReset sess s
  | .snapReq sess => Sys2Proof.Machine.execSnapReq sess s
  | .stkClrCnt sess => Sys2Proof.Machine.execStkClrCnt sess s
  | .barrierArrive sess id => Sys2Proof.Machine.execBarrierArrive sess id s
  | .boffRec sess k => Sys2Proof.Machine.execBoffRec sess k s
  | .canSleepReq sess k => Sys2Proof.Machine.execCanSleepReq sess k s
  | .wakeReq sess k => Sys2Proof.Machine.execWakeReq sess k s
  | .canClrCnt sess k => Sys2Proof.Machine.execCanClrCnt sess k s
  | .netClrCnt sess => Sys2Proof.Machine.execNetClrCnt sess s
  | .swCmdReq sess prof => Sys2Proof.Machine.execSwCmdReq sess prof s
  | .logFlush sess => Sys2Proof.Machine.execLogFlush sess s
  | .logClrCnt sess => Sys2Proof.Machine.execLogClrCnt sess s
  | .warmReset sess => Sys2Proof.Machine.execWarmReset sess s
  | .sleepReq sess => Sys2Proof.Machine.execSleepReq sess s
  | .pwrClrCnt sess => Sys2Proof.Machine.execPwrClrCnt sess s
  | .evrClrCnt sess => Sys2Proof.Machine.execEvrClrCnt sess s
  | .ageSaturation t => Sys2Proof.Machine.execAgeSaturation t s
  | .slPlusChange mv => Sys2Proof.Machine.execSlPlusChange mv s
  | .noVoltage v rms => Sys2Proof.Machine.execNoVoltage v rms s
  | .arbitrationLoss k x => Sys2Proof.Machine.execArbitrationLoss k x s
  | .canIntegrated k => Sys2Proof.Machine.execCanIntegrated k s
  | .digestTransferMissed => Sys2Proof.Machine.execDigestTransferMissed s
  | .tpRetryEnd k limit conducted => Sys2Proof.Machine.execTpRetryEnd k limit conducted s
  | .droppedFrame x => Sys2Proof.Machine.execDroppedFrame x s
  | .unknownOperation op d => Sys2Proof.Machine.execUnknownOperation op d s

end Sys2Proof.Machine
end

