-- ==== Sys2Proof/Machine/Idle.lean ====
section
/-! DEFINITION. What the block does when no command waits. -/

namespace Sys2Proof.Machine
open Sys2Proof

/-- One fabric cycle of 2 ns passes while the station is powered, in a warm reset too: the clocks count, and LOG takes up to four
entries from its intake queue (R17, R370). -/
def idle (s : State) : State :=
  if s.pwr.power == .run || s.pwr.power == .warm then
    { settle (passTime (freshCycle s) 2) with pending := s.pending }
  else s

end Sys2Proof.Machine
end

