-- ==== Sys2Proof/Safety.lean ====
section
/-! DEFINITION. What the statements speak of: the forms of a state that claims assume, and what a command leaves alone. -/

namespace Sys2Proof.Machine
open Sys2Proof

/-- No raised event source and no log entry waits between two commands: each has gone where R370 and R409 send it. -/
def Settled (s : State) : Prop := s.evr.now = [] ∧ s.log.fresh = []

/-- `h` is the engine `g` but for the triggers of its event tasks (EVT_STAT and EVT_MERGED, R61, R62). -/
def Engine.SameBut (g h : Engine) : Prop := h = { g with pending := h.pending, merged := h.merged, mergeCnt := h.mergeCnt }

/-- Event source `n` reads 1 in EVR.RAISED (R409). -/
def Raised (s : State) (n : Nat) : Prop := (vget s.evr.raised (n / 32) 0).getLsbD (n % 32) = true

/-- The parts of the state that a frame names. LOG, EVR and what the station puts out are the matter of `Silent`. -/
inductive Block
  | stn | vars | le | img | fab | lp | qp | ang | fld | saf | pair | stk | can | net | pwr | latch | windows | armed
deriving DecidableEq, Repr

/-- One part of the state is the same before and after; of an engine, but for the triggers of its event tasks. -/
def Block.Same (s t : State) : Block → Prop
  | .stn => t.stn = s.stn
  | .vars => t.vars = s.vars
  | .le => ∀ e : Fin 17, Engine.SameBut s.le[e] t.le[e]
  | .img => t.img = s.img
  | .fab => t.fab = s.fab
  | .lp => t.lp = s.lp
  | .qp => t.qp = s.qp
  | .ang => t.ang = s.ang
  | .fld => t.fld = s.fld
  | .saf => t.saf = s.saf
  | .pair => t.pair = s.pair
  | .stk => t.stk = s.stk
  | .can => t.can = s.can
  | .net => t.net = s.net
  | .pwr => t.pwr = s.pwr
  | .latch => t.latch = s.latch
  | .windows => t.windows = s.windows
  | .armed => t.armed = s.armed


/-! ### Logic instructions -/

/-- The registers of a task run that its instructions see and change (R85, R90, R112). -/
structure Regs where
  pc : Nat
  la : Bool
  lt : MTag
  wa : Word
  ta : MTag
  wb : Word
  tb : MTag
  xr : BitVec 16
  stack : List StackEnt
  arith : Bool
  idxErr : Bool
  cost : Nat
deriving DecidableEq, Repr

/-- The registers of a run. -/
def TaskRun.regs (t : TaskRun) : Regs :=
  { pc := t.pc, la := t.la, lt := t.lt, wa := t.wa, ta := t.ta, wb := t.wb, tb := t.tb, xr := t.xr, stack := t.stack
    arith := t.arith, idxErr := t.idxErr, cost := t.cost }

/-- The registers of task `k` of engine `e` once an instruction that costs `n` cycles has been taken and before it has
changed any of them: the index has moved on and the cost is charged (R102, R112, R239). -/
def regsAfter (s : State) (e : Fin 17) (k : Fin 5) (n : Nat) : Regs :=
  let t := s.le[e].task k
  { t.regs with pc := t.pc + 1, cost := t.cost + n + sleCost e }

/-- Task `k` of engine `e` may execute the instruction at its index; `sle` says that the SLE has the instruction too. -/
def Executing (s : State) (e : Fin 17) (k : Fin 5) (sle : Bool) : Prop :=
  alive s = true ∧ s.le[e].mayRun k = true ∧ (s.le[e].task k).pc < s.le[e].code.length ∧ (e.val = 16 → sle = true)

/-- The word at the index of task `k` is that of instruction `i` (R88). -/
def Fetched (i : Instr) (s : State) (e : Fin 17) (k : Fin 5) : Prop :=
  ∃ w, s.le[e].code[(s.le[e].task k).pc]? = some w ∧ logicWord i = some w

/-- The words and instances of an engine are as they were. -/
def Engine.SameWords (g h : Engine) : Prop := h.m = g.m ∧ h.w = g.w ∧ h.insts = g.insts

/-- What an instruction of task `k` of engine `e` leaves alone: every other block, the variables, every other task's registers
and output buffer, every other engine's words, and the station's registers unless a breakpoint has frozen the engine; to the window of
an event task time may pass (R26, R60). -/
def LogicKeeps (s t : State) (e : Fin 17) (k : Fin 5) : Prop :=
  (∀ b : Block, b = .stn ∨ b = .le ∨ b.Same s t) ∧ t.free = s.free ∧ t.pending = s.pending ∧
  (t.stn = s.stn ∨ t.le[e].frozen = true ∨ (k ≠ 0 ∧ ∃ d, t.stn = s.stn.pass d)) ∧
  (∀ (e' : Fin 17) (k' : Fin 5), (e' ≠ e ∨ k' ≠ k) →
    (t.le[e'].task k').regs = (s.le[e'].task k').regs ∧ (t.le[e'].task k').out = (s.le[e'].task k').out) ∧
  ∀ e' : Fin 17, e' ≠ e → Engine.SameWords s.le[e'] t.le[e']

/-- The instruction completes where its word stands at the task's index: it leaves the registers `r`, no word, instance or buffered output changed, and everything
that `LogicKeeps` names as it was. -/
def LeavesRegs (i : Instr) (s : State) (e : Fin 17) (k : Fin 5) (r : Regs) : Prop :=
  Fetched i s e k → ∃ t, exec i s = .next t ∧ (t.le[e].task k).regs = r ∧ (t.le[e].task k).out = (s.le[e].task k).out ∧
    Engine.SameWords s.le[e] t.le[e] ∧ LogicKeeps s t e k

/-- The instruction completes where its word stands at the task's index and leaves the registers, words, instances and buffered output of the context `c`. -/
def LeavesCtx (i : Instr) (s : State) (e : Fin 17) (k : Fin 5) (c : LCtx) : Prop :=
  Fetched i s e k → ∃ t, exec i s = .next t ∧ (t.le[e].task k).regs = c.t.regs ∧ (t.le[e].task k).out = c.t.out ∧
    (t.le[e].task k).mStored = c.t.mStored ∧ Engine.SameWords c.eng t.le[e] ∧ LogicKeeps s t e k

/-- The context of the next instruction of a task, which costs `n` cycles, as its fabric cycle finds it (assumption log 6). -/
def ctxOf (s : State) (e : Fin 17) (k : Fin 5) (n : Nat) : LCtx := logicCtx (freshCycle s) e k n

/-- ORIGIN of what an engine writes: 7 in the SLE, 3 in every other (R92). -/
def logicOrigin (e : Fin 17) : BitVec 5 := if e.val = 16 then 7 else 3

/-- The tag of a result of two operands: R14, and a marked operand takes no part (R14, R36, R92). -/
def tagOfBoth (e : Fin 17) : MTag → MTag → MTag
  | none, none => none
  | some a, none => some { a with f := false, c := false, origin := logicOrigin e }
  | none, some b => some { b with f := false, c := false, origin := logicOrigin e }
  | some a, some b => some
      { q := if a.q.toNat < b.q.toNat then b.q else a.q, c := false, f := false, h := a.h || b.h,
        age := if a.age.toNat < b.age.toNat then b.age else a.age, s := a.s && b.s, origin := logicOrigin e }

/-- A tag with Q at least 2; a marked value takes a tag of its own (R98, R99; assumption log 10). -/
def tagExc (e : Fin 17) (m : MTag) : MTag :=
  let a := m.getD { q := 0, c := false, f := false, h := false, age := 0, s := e.val == 16, origin := logicOrigin e }
  some { a with q := if a.q.toNat < 2 then 2 else a.q }

/-- A word result with an exception: ARITH is set and Q raised (R98, R99). -/
def Regs.exc (r : Regs) (e : Fin 17) (w : Word) (m : MTag) : Regs := { r with wa := w, ta := tagExc e m, arith := true }

/-- An exact integer result in WA: kept in range, saturated with the exception outside it (R98). -/
def Regs.int (r : Regs) (e : Fin 17) (x : Int) (m : MTag) : Regs :=
  if x > 2147483647 then r.exc e 0x7FFFFFFF m
  else if x < -2147483648 then r.exc e 0x80000000 m
  else { r with wa := BitVec.ofInt 32 x, ta := m }

/-- A binary32 result in WA, the exception when it is a NaN or an infinity (R99). -/
def Regs.flt (r : Regs) (e : Fin 17) (x : Nat) (m : MTag) : Regs :=
  if f32.nonFinite x then r.exc e (BitVec.ofNat 32 x) m else { r with wa := BitVec.ofNat 32 x, ta := m }

/-- An instruction on the instance `i`: it completes, where its word stands at the task's index, with the registers `r`, the instance stands as `j` says, every other instance
of the engine, its words and its buffered output are as they were, and so is everything that `LogicKeeps` names. -/
def LeavesInst (c : Instr) (s : State) (e : Fin 17) (k : Fin 5) (r : Regs) (i : Inst) (j : Inst → Prop) : Prop :=
  Fetched c s e k → ∃ t, exec c s = .next t ∧ (t.le[e].task k).regs = r ∧ (t.le[e].task k).out = (s.le[e].task k).out ∧
    t.le[e].m = s.le[e].m ∧ t.le[e].w = s.le[e].w ∧
    (∃ x ∈ t.le[e].insts, x.kind = i.kind ∧ x.num = i.num ∧ j x) ∧
    (∀ x ∈ s.le[e].insts, ¬ (x.kind = i.kind ∧ x.num = i.num) → x ∈ t.le[e].insts) ∧ LogicKeeps s t e k

/-! ### Frames of the other commands -/

/-- Nothing but the parts in `l` is changed, the queue of waiting commands included. -/
def KeepsBut (l : List Block) (s t : State) : Prop := t.pending = s.pending ∧ ∀ b : Block, b ∉ l → b.Same s t

/-- The command completes, changes nothing but the parts in `l`, and leaves what `P` says. -/
def Does (c : Instr) (s : State) (l : List Block) (P : State → Prop) : Prop :=
  ∃ t, exec c s = .next t ∧ KeepsBut l s t ∧ P t

/-- The command completes and has the effect that `P` states. -/
def Completes (c : Instr) (s : State) (P : State → Prop) : Prop := ∃ t, exec c s = .next t ∧ P t

/-- Nothing waits for the next fabric cycle: no raise, no entry, no entry in LOG's intake queue. -/
def Quiet (s : State) : Prop := Settled s ∧ s.log.intake = []

/-- The command raises no event source, triggers no event task, makes no entry or record and puts nothing out: where nothing waits,
LOG, EVR, the triggers and what the station has put out are as they were. -/
def Silent (s t : State) : Prop :=
  Quiet s → t.log = s.log ∧ t.evr = s.evr ∧ t.sent = s.sent ∧ ∀ e : Fin 17, t.le[e].pending = s.le[e].pending

/-- The command completes as `Does` says, and silently. -/
def DoesSilently (c : Instr) (s : State) (l : List Block) (P : State → Prop) : Prop :=
  Does c s l (fun t => Silent s t ∧ P t)

/-- The Daybook holds an entry of this command with these fields, where nothing waited before it and the severity reaches the
threshold of R369. -/
def Noted (s t : State) (code source sev : Nat) (payload : List Byte) : Prop :=
  Quiet s → s.log.dbSevMin.toNat ≤ sev →
    ∃ x ∈ t.log.ring, x.code.toNat = code ∧ x.source.toNat = source ∧ x.sev.toNat = sev ∧ x.payload = fit 12 payload ∧
      x.stamp = t.stn.time ∧ ∃ j < 4, x.num = s.log.dbNext + BitVec.ofNat 32 j

/-- Session `sess` is open at a running station and has the keyed window of the KEY register at `k` open (R9). -/
def Windowed (s : State) (sess : Fin 4) (k : Nat) : Prop :=
  alive s = true ∧ sessOpen s sess = true ∧ (sess.val, k) ∈ s.windows

/-- Session `sess` is open at a running station. -/
def Opened (s : State) (sess : Fin 4) : Prop := alive s = true ∧ sessOpen s sess = true

/-- The commands by which session `q` writes a register with RWK fields, and the register's address (R10). -/
inductive KeyedWrite (q : Fin 4) : Instr → Nat → Prop
  | stop : KeyedWrite q (.stop q) 0x304
  | runCold : KeyedWrite q (.runCold q) 0x304
  | runWarm : KeyedWrite q (.runWarm q) 0x304
  | runHot : KeyedWrite q (.runHot q) 0x304
  | release : KeyedWrite q (.release q) 0x304
  | breakpointSet (e addr en) : KeyedWrite q (.breakpointSet q e addr en) (0x100018 + 0x10000 * e.val)
  | step (e) : KeyedWrite q (.step q e) (0x10001C + 0x10000 * e.val)
  | resume (e) : KeyedWrite q (.resume q e) (0x10001C + 0x10000 * e.val)
  | freeze (e) : KeyedWrite q (.freeze q e) (0x10001C + 0x10000 * e.val)
  | leClrStat (e) : KeyedWrite q (.leClrStat q e) (0x100028 + 0x10000 * e.val)
  | engineRestart (e) : KeyedWrite q (.engineRestart q e) (0x100028 + 0x10000 * e.val)
  | prepare : KeyedWrite q (.prepare q) 0x400
  | commit : KeyedWrite q (.commit q) 0x400
  | discard : KeyedWrite q (.discard q) 0x400
  | forceSet (v) : KeyedWrite q (.forceSet q v) 0x420
  | forceRemove (v) : KeyedWrite q (.forceRemove q v) 0x420
  | forceRemoveAll (v) : KeyedWrite q (.forceRemoveAll ⟨q, v⟩) 0x420
  | loopRestart (n) : KeyedWrite q (.loopRestart q n) (0xC0130 + 0x800 * (n.val / 8) + 0x40 * (n.val % 8))
  | loopClrCnt (n) : KeyedWrite q (.loopClrCnt q n) (0xC0130 + 0x800 * (n.val / 8) + 0x40 * (n.val % 8))
  | coldReq (p) : KeyedWrite q (.coldReq q p) (0xD0130 + 0x2000 * (p.val / 8) + 0x40 * (p.val % 8))
  | slotClrCnt (p) : KeyedWrite q (.slotClrCnt q p) (0xD0130 + 0x2000 * (p.val / 8) + 0x40 * (p.val % 8))
  | resync (a) : KeyedWrite q (.resync q a) (0xB012C + 0x40 * a.val)
  | evtCtrlWrite (n m x) : KeyedWrite q (.evtCtrlWrite q n m x) (0xB1014 + 0x20 * n.val)
  | safClrCnt : KeyedWrite q (.safClrCnt q) 0xA0020
  | clrSoFault : KeyedWrite q (.clrSoFault q) 0xA0020
  | switch : KeyedWrite q (.switch q) 0x30008
  | rejoin : KeyedWrite q (.rejoin q) 0x30008
  | pairClrCnt : KeyedWrite q (.pairClrCnt q) 0x30008
  | stackReset : KeyedWrite q (.stackReset q) 0x40020
  | snapReq : KeyedWrite q (.snapReq q) 0x40020
  | stkClrCnt : KeyedWrite q (.stkClrCnt q) 0x40020
  | barrierArrive (id) : KeyedWrite q (.barrierArrive q id) 0x4002C
  | boffRec (k) : KeyedWrite q (.boffRec q k) (0xE0018 + 0x1000 * k.val)
  | canSleepReq (k) : KeyedWrite q (.canSleepReq q k) (0xE0018 + 0x1000 * k.val)
  | wakeReq (k) : KeyedWrite q (.wakeReq q k) (0xE0018 + 0x1000 * k.val)
  | canClrCnt (k) : KeyedWrite q (.canClrCnt q k) (0xE0018 + 0x1000 * k.val)
  | swCmdReq (p) : KeyedWrite q (.swCmdReq q p) 0x10014
  | warmReset : KeyedWrite q (.warmReset q) 0x5000C
  | sleepReq : KeyedWrite q (.sleepReq q) 0x5000C
  | pwrClrCnt : KeyedWrite q (.pwrClrCnt q) 0x5000C

/-! ### STOP, SAF -/

/-- Task `k` of logic engine `e` has work of this cycle left and is not frozen (R64). -/
def Unfinished (s : State) (e : Fin 16) (k : Fin 5) : Prop :=
  ∀ x : Fin 17, x.val = e.val → s.le[x].running = true ∧ s.le[x].frozen = false ∧
    ((s.le[x].task k).phase = .ready ∨ (s.le[x].task k).phase = .run ∨ (s.le[x].task k).phase = .resume)

/-- The station has gone from `s` to fault STOP with this cause: its logic engines are stopped with their buffers, triggers, breakpoints
and frozen states gone and their words kept, its started loops have their stop behaviour, and nothing else is changed but
the records of the stop, the retained values and the disarmed events (R64–R66, R70, R154). -/
def FaultStopped (s t : State) (cause : Nat) : Prop :=
  KeepsBut [.stn, .le, .lp, .ang, .can, .net] s t ∧
  t.stn.mode = .stop ∧ t.stn.faultStop = true ∧ t.stn.stopCause.toNat = cause ∧ t.stn.cnt = s.stn.cnt ∧ t.stn.lastB = s.stn.lastB ∧
  (∀ e : Fin 17, e.val < 16 → t.le[e].running = false ∧ t.le[e].frozen = false ∧ t.le[e].bkptEn = false ∧
    t.le[e].pending = Vector.replicate 4 false ∧ Engine.SameWords s.le[e] t.le[e] ∧
    ∀ k : Fin 5, (t.le[e].task k).phase = .idle ∧ (t.le[e].task k).out = []) ∧
  Engine.SameBut s.le[(16 : Fin 17)] t.le[(16 : Fin 17)] ∧
  ∀ n : Fin 192, t.lp.loops[n].out = s.lp.loops[n].out ∧
    t.lp.loops[n].state = if s.lp.loops[n].used ∧ s.lp.loops[n].started ∧ s.lp.loops[n].state ≠ 7 then
      s.lp.loops[n].c.stopState else s.lp.loops[n].state

/-- Every used output of SAF is in FAULT with both switches off and the cause `c` among its causes (R251, R252). -/
def OutputsFaulted (s t : State) (c : Nat) : Prop :=
  ∀ k : Fin 8, if s.saf.so[k].used then
      t.saf.so[k].state = 2 ∧ t.saf.so[k].hs = false ∧ t.saf.so[k].ls = false ∧ t.saf.so[k].dark = none ∧ c ∈ t.saf.so[k].pend
    else t.saf.so[k] = s.saf.so[k]

/-! ### Engineering datagrams, Ledger records -/

/-- The datagram is a new request of open session `i`, of which the station keeps `x`: it reaches the port, its MAC holds, its SEQ is
newer than the last, which executes no longer, and NET takes requests (R327–R329, R335, R394). -/
def Requested (s : State) (op : Byte) (d : Dgram) (i : Fin 4) (x : Sess) : Prop :=
  dgramHere s d = true ∧ sessOf s d = some (i, x) ∧ d.mac = kepMac x.key op false 0 d.sess d.seq d.payload ∧
  (∀ l, x.last = some l → l ≠ d.seq ∧ seqAfter d.seq l = true) ∧ s.pwr.quiet.getLsbD 0 = false ∧ executing s x = false

/-- NET has become `n` but for a response to the datagram, which waits at its port while there is room (R315, R327). -/
def Responded (t : State) (n : NetBlk) (d : Dgram) (op : Byte) (st : Nat) (sess : Word) (pl mac : List Byte) : Prop :=
  t.net = { n with ports := t.net.ports } ∧ (∀ p : Fin 3, p ≠ d.port → t.net.ports[p] = n.ports[p]) ∧
  (n.ports[d.port].queue.length < 64 →
    t.net.ports[d.port] = { n.ports[d.port] with queue := n.ports[d.port].queue ++ [.resp d.ip op st sess d.seq pl mac] })

/-- NET as `n` is once session `i` has taken the request of `d` and its response stands stored (R328). -/
def answeredNet (n : NetBlk) (d : Dgram) (i : Fin 4) (x : Sess) (op : Byte) (st : Nat) (pl : List Byte) : NetBlk :=
  { n with sess := n.sess.set i (some { x with last := some d.seq, resp := some (op, st, pl) }) }

/-- The command changes the parts in `l`, leaves NET as `n` but for the answered request, and answers with STATUS `st`. -/
def Replies (c : Instr) (s : State) (op : Byte) (d : Dgram) (i : Fin 4) (x : Sess) (l : List Block) (n : NetBlk) (st : Nat)
    (pl : List Byte) (P : State → Prop) : Prop :=
  Does c s (.net :: l) (fun t =>
    Responded t (answeredNet n d i x op st pl) d op st d.sess pl (kepMac x.key op true st d.sess d.seq pl) ∧ P t)

/-- A request is served: a malformed one is answered with STATUS 3, one above the session's role with STATUS 2, and neither changes
anything else; any other as `Q` says (R328, R330, R334). -/
def Served (c : Instr) (s : State) (op : Byte) (d : Dgram) (i : Fin 4) (x : Sess) (need : Nat) (bad : Prop) (Q : Prop) : Prop :=
  (bad → Replies c s op d i x [] s.net 3 [] (fun _ => True)) ∧
  (¬ bad → x.role < need → Replies c s op d i x [] s.net 2 [] (fun _ => True)) ∧
  (¬ bad → need ≤ x.role → Q)

/-- The state on which the work of a request begins: the next fabric cycle, with the session's SEQ taken. -/
def seenBy (s : State) (d : Dgram) (i : Fin 4) : State := modSess (freshCycle s) i (fun y => { y with last := some d.seq })

/-- The Ledger's buffer holds a required record of this command with these fields, where nothing waited before it and the buffer had
room (R371, R372). -/
def Recorded (s t : State) (code source sev : Nat) (payload : List Byte) : Prop :=
  Quiet s → s.log.buf.length < 200 →
    ∃ x ∈ t.log.buf, x.1.code.toNat = code ∧ x.1.source.toNat = source ∧ x.1.sev.toNat = sev ∧ x.1.fromDaybook = false ∧
      x.1.payload = fit 36 payload

/-! ### Boundaries and the pair -/

/-- Station time, TIER_CNT and the last boundary are as they were. -/
def SameClock (s t : State) : Prop := t.stn.time = s.stn.time ∧ t.stn.cnt = s.stn.cnt ∧ t.stn.lastB = s.stn.lastB

/-- Time has passed from `s` to instant `ref` of the tier reference, and none where that has gone by (R17, R21). -/
def PassedTo (s t : State) (ref : Nat) : Prop :=
  let n := ref - s.stn.tierRef.toNat
  ∃ d, d % 2 = 0 ∧ t.stn.time = s.stn.time + BitVec.ofNat 64 d ∧ (s.stn.slewing = false → d = n + n % 2) ∧
    2000 * (n - d) ≤ d + 2000 ∧ 2000 * (d - n) ≤ d + 4000

/-- What stands first among what the station has put out, where nothing waited. -/
def Sends (s t : State) (x : Sent) : Prop := Quiet s → x ∈ t.sent.take 8

/-- What lane `l` has given of a packet is taken: a failed CRC counts, and the third in a row takes the lane down (R259); `miss` is its
MISS_CNT where no good copy came on it. -/
def LaneTook (s t : State) (l : Fin 2) (x : LaneRx) (miss : BitVec 16) : Prop :=
  let y := s.pair.lanes[l]
  let falls := 3 ≤ y.bad + 1 ∧ s.pair.laneUp[l] = true
  match x with
  | .ok => t.pair.lanes[l] = { y with bad := 0 } ∧ t.pair.laneUp[l] = s.pair.laneUp[l]
  | .none => t.pair.lanes[l] = { y with miss := miss } ∧ t.pair.laneUp[l] = s.pair.laneUp[l]
  | .crc => t.pair.lanes[l] = { y with
        miss := miss, crc := satInc y.crc, bad := if falls then 0 else y.bad + 1, down := if falls then satInc y.down else y.down } ∧
      t.pair.laneUp[l] = (s.pair.laneUp[l] && !decide falls) ∧ (falls → Settled s → Raised t 449)

/-- DRIVE of every bank whose link across the barrier stands reads `v` (R226, R232). -/
def Drives (t : State) (v : Bool) : Prop := ∀ b : Fin 8, t.fld.banks[b].fsOk = true → t.fld.banks[b].drive = v

/-- The standby has become the active station (R266): it drives, counts the switchover, and its placed work waits to be placed again. -/
def TookOver (s t : State) (cause : Nat) (released : Bool) : Prop :=
  t.pair.state = 3 ∧ t.pair.cause.toNat = cause ∧ t.pair.released = released ∧ t.pair.switchCnt = satInc s.pair.switchCnt ∧
  t.pair.misses = 0 ∧ Drives t true ∧ (∀ b : Fin 8, s.fld.banks[b].fsOk = true → s.fld.banks[b].drive = false → t.fld.banks[b].aoWait = !released) ∧
  (∀ x : Fin 64, ∀ m, t.qp.tmpls[x] = some m → m.run = none ∧ m.deliver = []) ∧
  (Settled s → Raised t 448) ∧ Recorded s t 0x4802 0xFFFF 3
    ([BitVec.ofNat 8 cause, if released then 1 else 0, BitVec.ofNat 8
      (takeoverLoss s.stn.lastB (t.stn.tierRef.toNat + 1000) (match s.pair.await with | some a => a.t0.isSome | none => true)).2, 0]
      ++ leN 4 (t.stn.time.truncate 32 : BitVec 32).toNat)

/-- The station is in a warm reset of this cause: nothing of the image is in force, every register but those of R390 has its reset value,
outputs of SAF are off, sessions, forces and keyed windows are gone; what the pair keeps is the command's matter (R389, R390). -/
def InWarmReset (s t : State) (cause : Nat) : Prop :=
  t.pending = s.pending ∧ t.vars = [] ∧ t.le = Vector.replicate 17 .unused ∧ t.lp = .reset ∧ t.qp = { QpBlk.reset with issued := s.qp.issued } ∧ t.fab = .reset ∧
  t.latch = Vector.replicate 21 .empty ∧ t.windows = [] ∧ t.armed = [] ∧ t.saf = { SafBlk.reset with lp := s.saf.lp, lpGone := s.saf.lpGone } ∧
  t.fld.pts = s.fld.pts ∧ t.pwr.power = .warm ∧ t.pwr.cause.toNat = cause ∧ t.pwr.warmReq = false ∧ t.pwr.sleepReq = false ∧
  t.pwr.entry = .none ∧ t.pwr.quiet = 0 ∧ t.pwr.warmCnt = s.pwr.warmCnt ∧ t.stn.mode = .stop ∧ t.stn.faultStop = s.stn.faultStop ∧
  t.stn.stopCause = (if s.stn.faultStop then s.stn.stopCause else 1) ∧ t.stn.forces = [] ∧ t.stn.accepted = [] ∧ SameClock s t ∧
  t.stn.dirs = s.stn.dirs ∧ t.img.running = none ∧ t.img.banks = s.img.banks ∧ t.img.commits = s.img.commits ∧
  t.img.imgKeys = s.img.imgKeys ∧ t.img.safKeys = s.img.safKeys ∧ t.net.sess = Vector.replicate 4 none ∧ t.net.keys = s.net.keys ∧
  t.stk.role = 0 ∧ t.stk.up = s.stk.up ∧
  ∀ k : Fin 8, let c := s.can.ctl[k]
    t.can.ctl[k] = if c.state = 5 ∨ c.state = 6 then { CanCtl.reset with state := 5, lec := c.lec, dlec := c.dlec } else CanCtl.reset

/-- The command changes controller `k` alone, from `c` to what `P` says of it. -/
def CanDoes (cmd : Instr) (s : State) (k : Fin 8) (P : State → CanCtl → Prop) : Prop :=
  Does cmd s [.can] (fun t => (∀ j : Fin 8, j ≠ k → t.can.ctl[j] = s.can.ctl[j]) ∧ P t t.can.ctl[k])

/-! ### The stack -/

/-- What the station `u` reaches, `u` being `s` with what its ports have heard, stands in MEMBERS and STACK_DEPTH; pairs lost and joined
are counted and raised (R277, R288). -/
def Reached (s t u : State) : Prop :=
  let lost := fun (j : Nat) => s.stk.members.getLsbD j = true ∧ (reachable u).getLsbD j = false
  t.stk.up = u.stk.up ∧ t.stk.heard = u.stk.heard ∧ t.stk.mirror = u.stk.mirror ∧
  (u.stk.member = false → t.stk.members = s.stk.members ∧ t.qp = s.qp) ∧
  (u.stk.member = true → t.stk.members = reachable u ∧ t.stk.depth = BitVec.ofNat 3 (stackDepth (reachable u)) ∧
    ((∀ j < 32, ¬ lost j) → t.stk.peerLost = s.stk.peerLost ∧ t.qp = s.qp) ∧
    ((∃ j < 32, lost j) → Settled s → Raised t 458) ∧
    ((∃ j < 32, s.stk.members.getLsbD j = false ∧ (reachable u).getLsbD j = true) → Settled s → Raised t 459))

/-- Port `q` has gone down at the station whose STK was `k` but for that (R281, R288, R289): the pairs heard there are gone, and where the
parent is then not reachable the active station is the master of a fragment, in holdover. -/
def PortLost (s t : State) (q : Fin 3) (k : StkBlk) : Prop :=
  let u := { s with stk := { k with up := k.up.set q false, heard := k.heard.set q 0 } }
  let falls := k.member = true ∧ k.role = 1 ∧ k.pairNum ≠ 0 ∧ (reachable u).getLsbD ((k.pairNum.toNat - 1) / 2) = false ∧ s.pair.state ∈ [0, 2, 3]
  (alive s = true → Settled s → Raised t 456) ∧ Reached s t u ∧
  t.stk.ports = k.ports.set q { k.ports[q] with down := satInc k.ports[q].down, run := 0 } ∧
  (falls → t.stk.role = 4 ∧ t.stk.holdover = true ∧ t.stk.reroot = satInc k.reroot ∧ (Settled s → Raised t 460 ∧ Raised t 461)) ∧
  (¬ falls → k.role = 1 → k.pairNum ≠ 0 → t.stk.role = 1 ∧ t.stk.reroot = k.reroot)

/-- A notice of the pairs `m`, the master's schedule ID and stack time has been taken at the station whose STK was `k`; `inp` is the input
it came on (R283, R284, R288, R289). -/
def NoticeTaken (s t : State) (k : StkBlk) (inp : Fin 8) (m : Word) (sched : BitVec 16) (time : Option (BitVec 64)) : Prop :=
  let u := { s with stk := { k with
    heard := if inp = 5 then k.heard.set 0 m else if inp = 6 then k.heard.set 1 m else if inp = 7 then k.heard.set 2 m else k.heard
    mirror := if inp = 5 ∨ inp = 6 ∨ inp = 7 then k.mirror else m } }
  let takes := fun (x : BitVec 64) => k.member = true ∧
    (k.role = 5 ∨ (k.role = 2 ∧ k.carried = false) ∨ ((k.role = 1 ∨ k.role = 4) ∧ inp = 5 ∧ 50 < (x - (s.stn.time + k.ofs)).toInt.natAbs))
  Reached s t u ∧ t.stk.ports = k.ports ∧
  (∀ x, time = some x → takes x → t.stk.ofs = x - s.stn.time ∧ t.stk.carried = true ∧
    (s.pair.state ∉ [4, 5] → t.stn = (slewBy s (stepOff x s.stn.tierRef)).stn) ∧
    (k.role = 4 → Settled s → Raised t 460) ∧
    (k.role ≠ 2 → k.pairNum ≠ 0 → (reachable u).getLsbD ((k.pairNum.toNat - 1) / 2) = true → t.stk.role = 1 ∧ t.stk.holdover = false)) ∧
  ((∀ x, time = some x → ¬ takes x) → t.stk.ofs = k.ofs ∧ t.stn = s.stn) ∧
  (k.member = true → k.role = 1 → inp = 5 → (reachable u).getLsbD ((k.pairNum.toNat - 1) / 2) = true →
    t.stk.masterSched = sched ∧ t.stk.mismatch = (sched != k.schedId))

/-- A barrier has ended at the station whose STK was `k`, unless the station waits at another one (R292). -/
def BarrierEnds (s t : State) (k : StkBlk) (id : BitVec 16) (failed : Bool) : Prop :=
  let cols := k.cols.filter (fun c => c.id ≠ id)
  (k.barState = 1 ∧ k.barId ≠ id → t.stk = { k with cols := cols }) ∧
  (¬ (k.barState = 1 ∧ k.barId ≠ id) → t.stk = { k with cols := cols, barId := id, barState := if failed then 3 else 2 } ∧
    (Settled s → Raised t 462))

/-- The master has released a barrier at every station that its trees reach, and here (R291, R292). -/
def BarrierOver (s t : State) (k : StkBlk) (id : BitVec 16) (failed : Bool) : Prop :=
  let outs := upPorts s [1, 2] ++ sashOut s
  BarrierEnds s t k id failed ∧ (outs ≠ [] → Sends s t (.stack outs (.barRelease id failed)))


/-! ### Power -/

/-- Nothing of the image is in force and nothing volatile is kept: what flash and MRAM hold stands, sessions and latches are gone (R391, R402). -/
def Emptied (s t : State) : Prop :=
  t.pending = s.pending ∧ t.vars = [] ∧ t.le = Vector.replicate 17 .unused ∧ t.lp = .reset ∧ t.qp = .reset ∧ t.ang = .reset ∧
  t.fab = .reset ∧ t.pair.state = 0 ∧ t.pair.member = false ∧ t.stk = .reset ∧ t.latch = Vector.replicate 21 .empty ∧
  t.windows = [] ∧ t.armed = [] ∧ t.net = NetBlk.reset s.net.keys ∧ t.img.running = none ∧ t.img.banks = s.img.banks ∧
  t.img.commits = s.img.commits ∧ t.img.imgKeys = s.img.imgKeys ∧ t.img.safKeys = s.img.safKeys ∧ t.stn.mode = .stop ∧
  t.stn.forces = [] ∧ t.stn.accepted = [] ∧ t.saf = { SafBlk.reset with lp := t.saf.lp }

/-- The field inputs start again: filters, windows and gates, not counts and values (R214, R216, R218). -/
def InputsAfresh (s t : State) : Prop :=
  t.fld = { s.fld with pts := t.fld.pts } ∧
  ∀ p : Fin 96, t.fld.pts[p] =
    if s.fld.pts[p].mode = 5 then { s.fld.pts[p] with
      cand := s.fld.pts[p].cand.map (· + (s.stn.tierRef.toNat / 20000 * 20000 - s.stn.lastB)) }
    else if s.fld.pts[p].isIn then { s.fld.pts[p] with
      run := 0, started := false, since := s.stn.time, cand := none, conv := [], edges := [] } else s.fld.pts[p]

/-- No slot of the Ledger in MRAM holds a wrong CRC. -/
def SlotsGood (s : State) : Prop := ∀ x ∈ s.log.circ ++ s.log.perm, ∃ r, x.2 = .good r

end Sys2Proof.Machine
end

