-- ==== Sys2Proof/Certificates/Slice0/Obligations.lean ====
section
/-! DEFINITION. The statements of this model for the provers. -/

open Sys2Proof Sys2Proof.Machine

/-! ### Logic instructions -/

/-- R94: NOP changes no register, NOT inverts LA; the loads and combinations set LA from the operand's bit and LT by R14.
The model's choices here: assumption log 6, 10, 11. -/
def Obligations.BitInstructions : Prop :=
  ∀ (s : State) (e : Fin 17) (k : Fin 5),
    (Executing s e k true →
      LeavesRegs (.nop e k) s e k (regsAfter s e k 1) ∧
      LeavesRegs (.not e k) s e k { regsAfter s e k 2 with la := !(regsAfter s e k 2).la }) ∧
    ∀ (ix : Bool) (sp : BitVec 4) (ad : BitVec 20), Executing s e k (!ix) →
      let o : Opnd := { ix := ix, sp := sp, ad := ad }
      let c := ctxOf s e k (2 + b2n ix)
      o.wf spBitRead false = true → c.inSpace o = true →
        let d := (c.readBit o).1
        let b := (c.readBit o).2.1
        let m := (c.readBit o).2.2
        let chain := fun (x : Bool) (t : MTag) => ({ d with t := { d.t with la := x, lt := t } } : LCtx)
        let la := (s.le[e].task k).la
        let lt := tagOfBoth e (s.le[e].task k).lt m
        LeavesCtx (.ld e k ix sp ad) s e k (chain b m) ∧ LeavesCtx (.ldn e k ix sp ad) s e k (chain (!b) m) ∧
        LeavesCtx (.and e k ix sp ad) s e k (chain (la && b) lt) ∧ LeavesCtx (.andn e k ix sp ad) s e k (chain (la && !b) lt) ∧
        LeavesCtx (.or e k ix sp ad) s e k (chain (la || b) lt) ∧ LeavesCtx (.orn e k ix sp ad) s e k (chain (la || !b) lt) ∧
        LeavesCtx (.xor e k ix sp ad) s e k (chain (la != b) lt) ∧ LeavesCtx (.xorn e k ix sp ad) s e k (chain (la != !b) lt)

/-- R93, R94: ST stores LA and STN its inverse; SET and RST store 1 and 0 when LA = 1 and otherwise nothing.
R93: what a bit store does to the word it names: the other bits keep their value, the first store of a run sets the
word's tag and a later one combines into it.
The model's choices here: assumption log 6, 62, 63. -/
def Obligations.BitStores : Prop :=
  (∀ (s : State) (e : Fin 17) (k : Fin 5) (ix : Bool) (sp : BitVec 4) (ad : BitVec 20), Executing s e k (!ix) →
    let o : Opnd := { ix := ix, sp := sp, ad := ad }
    let c := ctxOf s e k (2 + b2n ix)
    o.wf spBitStore false = true → c.inSpace o = true →
      let la := (s.le[e].task k).la
      LeavesCtx (.st e k ix sp ad) s e k (c.storeBit o la) ∧ LeavesCtx (.stn e k ix sp ad) s e k (c.storeBit o (!la)) ∧
      LeavesCtx (.set e k ix sp ad) s e k (if la then c.storeBit o true else c) ∧
      LeavesCtx (.rst e k ix sp ad) s e k (if la then c.storeBit o false else c)) ∧
  (∀ (c : LCtx) (o : Opnd) (i : Nat) (b : Bool), o.wf spBitStore false = true → c.reach o = some i →
    let key := bindKey (c.eng.exports.getD i 0xFFFFFFFF) (0x8000 + i)
    let word := fun (c : LCtx) => if o.sp = 1 then c.image key else c.mem 2 i
    let first := if o.sp = 1 then aget c.t.out key = none else i ∉ c.t.mStored
    let new := word (c.storeBit o b)
    (∀ j < 32, new.val.getLsbD j = if j = o.bitNo then b else (word c).val.getLsbD j) ∧
    (first → new.tag = c.storeTag c.t.lt) ∧
    (¬ first → new.tag = combine (word c).tag (c.storeTag c.t.lt) false c.origin))

/-- R95: an opening branch pushes LA, LT and its operation when the stack has room; the closing branch pops them and
combines. -/
def Obligations.BranchInstructions : Prop :=
  ∀ (s : State) (e : Fin 17) (k : Fin 5), Executing s e k true →
    let r := regsAfter s e k 2
    (r.stack.length < 16 →
      LeavesRegs (.andOpen e k) s e k { r with stack := .branch r.la r.lt .and :: r.stack } ∧
      LeavesRegs (.orOpen e k) s e k { r with stack := .branch r.la r.lt .or :: r.stack } ∧
      LeavesRegs (.xorOpen e k) s e k { r with stack := .branch r.la r.lt .xor :: r.stack }) ∧
    ∀ (la : Bool) (lt : MTag) (op : BrOp) (rest : List StackEnt), r.stack = .branch la lt op :: rest →
      LeavesRegs (.branchClose e k) s e k
        { r with
          la := (match op with | .and => la && r.la | .or => la || r.la | .xor => la != r.la)
          lt := tagOfBoth e lt r.lt, stack := rest }

/-- R97: LW moves WA to WB and takes the operand, SW stores WA under its tag, SWAP exchanges, LXR loads the index register.
The model's choices here: assumption log 6, 11. -/
def Obligations.WordMoves : Prop :=
  ∀ (s : State) (e : Fin 17) (k : Fin 5),
    (Executing s e k true →
      let r := regsAfter s e k 1
      LeavesRegs (.swap e k) s e k { r with wa := r.wb, ta := r.tb, wb := r.wa, tb := r.ta }) ∧
    (Executing s e k false →
      let r := regsAfter s e k 1
      LeavesRegs (.lxr e k) s e k { r with xr := if r.wa.toNat ≤ 32767 then r.wa.truncate 16 else 0xFFFF }) ∧
    ∀ (ix : Bool) (sp : BitVec 4) (ad : BitVec 20), Executing s e k (!ix) →
      let o : Opnd := { ix := ix, sp := sp, ad := ad }
      let c := ctxOf s e k (2 + b2n ix)
      c.inSpace o = true →
        (o.wf spWordRead true = true →
          let d := (c.read o).1
          LeavesCtx (.lw e k ix sp ad) s e k
            { d with t := { d.t with wb := d.t.wa, tb := d.t.ta, wa := (c.read o).2.1, ta := (c.read o).2.2 } }) ∧
        (o.wf spWordStore true = true →
          LeavesCtx (.sw e k ix sp ad) s e k
            (match c.reach o with
             | none => c.outOfRange
             | some i => c.put sp.toNat i c.t.wa (c.storeTag c.t.ta)))

/-- R97, R98: the integer instructions compute exactly and saturate with ARITH and Q at least 2 outside 32 bits; DIV and
MOD by 0 and of the most negative number by −1 resolve as R98 lists.
The model's choices here: assumption log 6, 10. -/
def Obligations.IntegerInstructions : Prop :=
  ∀ (s : State) (e : Fin 17) (k : Fin 5), Executing s e k true →
    let r := regsAfter s e k 1
    let r3 := regsAfter s e k 3
    let r18 := regsAfter s e k 18
    let b := r.wb.toInt
    let a := r.wa.toInt
    let m := tagOfBoth e r.tb r.ta
    LeavesRegs (.add e k) s e k (r.int e (b + a) m) ∧ LeavesRegs (.sub e k) s e k (r.int e (b - a) m) ∧
    LeavesRegs (.mul e k) s e k (r3.int e (b * a) m) ∧ LeavesRegs (.neg e k) s e k (r.int e (-a) r.ta) ∧
    LeavesRegs (.abs e k) s e k (r.int e (if a < 0 then -a else a) r.ta) ∧
    LeavesRegs (.div e k) s e k
      (if a = 0 then r18.exc e (if b > 0 then 0x7FFFFFFF else if b < 0 then 0x80000000 else 0) m
       else r18.int e (Int.tdiv b a) m) ∧
    LeavesRegs (.mod e k) s e k
      (if a = 0 ∨ (b = -2147483648 ∧ a = -1) then r18.exc e 0 m
       else { r18 with wa := BitVec.ofInt 32 (Int.tmod b a), ta := m })

/-- R97, R99: the binary32 instructions, with ARITH and Q at least 2 for a NaN or an infinity; FTOI saturates.
The model's choices here: assumption log 3, 6, 10. -/
def Obligations.FloatInstructions : Prop :=
  ∀ (s : State) (e : Fin 17) (k : Fin 5), Executing s e k false →
    let r1 := regsAfter s e k 1
    let r4 := regsAfter s e k 4
    let r16 := regsAfter s e k 16
    let b := r1.wb.toNat
    let a := r1.wa.toNat
    let m := tagOfBoth e r1.tb r1.ta
    LeavesRegs (.addf e k) s e k (r4.flt e (f32.add b a) m) ∧ LeavesRegs (.subf e k) s e k (r4.flt e (f32.subt b a) m) ∧
    LeavesRegs (.mulf e k) s e k (r4.flt e (f32.mul b a) m) ∧ LeavesRegs (.divf e k) s e k (r16.flt e (f32.div b a) m) ∧
    LeavesRegs (.negf e k) s e k (r1.flt e (f32.flip a) r1.ta) ∧ LeavesRegs (.absf e k) s e k (r1.flt e (f32.mag a) r1.ta) ∧
    LeavesRegs (.sqrtf e k) s e k (r16.flt e (f32.sqrt a) r1.ta) ∧
    LeavesRegs (.itof e k) s e k (r4.flt e (f32.ofInt r1.wa.toInt) r1.ta) ∧
    LeavesRegs (.ftoi e k) s e k
      (match f32.toInt a with
       | none => r4.exc e 0 r1.ta
       | some x => r4.int e x r1.ta)

/-- R97: bitwise operations and shifts; NOTW and the shifts leave the tag.
The model's choices here: assumption log 6. -/
def Obligations.BitwiseInstructions : Prop :=
  ∀ (s : State) (e : Fin 17) (k : Fin 5) (n : BitVec 5), Executing s e k true →
    let r := regsAfter s e k 1
    let m := tagOfBoth e r.tb r.ta
    LeavesRegs (.andw e k) s e k { r with wa := r.wb &&& r.wa, ta := m } ∧
    LeavesRegs (.orw e k) s e k { r with wa := r.wb ||| r.wa, ta := m } ∧
    LeavesRegs (.xorw e k) s e k { r with wa := r.wb ^^^ r.wa, ta := m } ∧
    LeavesRegs (.notw e k) s e k { r with wa := ~~~r.wa } ∧
    LeavesRegs (.shl e k n) s e k { r with wa := r.wa <<< n } ∧
    LeavesRegs (.shr e k n) s e k { r with wa := r.wa >>> n } ∧
    LeavesRegs (.sar e k n) s e k { r with wa := r.wa.sshiftRight n.toNat }

/-- R97, R99: a comparison of WB with WA goes to LA, its tag to LT, and changes no word register.
The model's choices here: assumption log 6. -/
def Obligations.Comparisons : Prop :=
  ∀ (s : State) (e : Fin 17) (k : Fin 5),
    (Executing s e k true →
      let r := regsAfter s e k 1
      let b := r.wb.toInt
      let a := r.wa.toInt
      let chain := fun (x : Bool) => { r with la := x, lt := tagOfBoth e r.tb r.ta }
      LeavesRegs (.eq e k) s e k (chain (b = a)) ∧ LeavesRegs (.ne e k) s e k (chain (b ≠ a)) ∧
      LeavesRegs (.gt e k) s e k (chain (b > a)) ∧ LeavesRegs (.ge e k) s e k (chain (b ≥ a)) ∧
      LeavesRegs (.lt e k) s e k (chain (b < a)) ∧ LeavesRegs (.le e k) s e k (chain (b ≤ a))) ∧
    (Executing s e k false →
      let r := regsAfter s e k 2
      let b := r.wb.toNat
      let a := r.wa.toNat
      let chain := fun (x : Bool) => { r with la := x, lt := tagOfBoth e r.tb r.ta }
      LeavesRegs (.eqf e k) s e k (chain (f32.eq b a)) ∧ LeavesRegs (.nef e k) s e k (chain (!f32.eq b a)) ∧
      LeavesRegs (.gtf e k) s e k (chain (f32.lt a b)) ∧ LeavesRegs (.gef e k) s e k (chain (f32.le a b)) ∧
      LeavesRegs (.ltf e k) s e k (chain (f32.lt b a)) ∧ LeavesRegs (.lef e k) s e k (chain (f32.le b a)))

/-- R97, R100: MIN, MAX and SEL choose a word; LTAG reads a tag, QCHK judges one and SETQ writes its Q field. -/
def Obligations.SelectionAndQuality : Prop :=
  ∀ (s : State) (e : Fin 17) (k : Fin 5),
    (Executing s e k true →
      let r := regsAfter s e k 1
      let m := tagOfBoth e r.tb r.ta
      LeavesRegs (.min e k) s e k { r with wa := if r.wb.toInt < r.wa.toInt then r.wb else r.wa, ta := m } ∧
      LeavesRegs (.max e k) s e k { r with wa := if r.wb.toInt > r.wa.toInt then r.wb else r.wa, ta := m } ∧
      LeavesRegs (.sel e k) s e k
        (if r.la then { r with ta := tagOfBoth e r.ta r.lt } else { r with wa := r.wb, ta := tagOfBoth e r.tb r.lt }) ∧
      ∀ q : BitVec 3, LeavesRegs (.setq e k q) s e k
        { r with ta := some (match r.ta with
          | some t => { t with q := q }
          | none => { q := q, c := false, f := false, h := false, age := 0, s := false, origin := logicOrigin e }) }) ∧
    ∀ (ix : Bool) (sp : BitVec 4) (ad : BitVec 20), Executing s e k (!ix) →
      let o : Opnd := { ix := ix, sp := sp, ad := ad }
      let c := ctxOf s e k (2 + b2n ix)
      o.wf spTagRead true = true → c.inSpace o = true →
        let d := (c.read o).1
        ∀ t : Tag, (c.read o).2.2 = some t →
          LeavesCtx (.ltag e k ix sp ad) s e k
            { d with t := { d.t with wb := d.t.wa, tb := d.t.ta, wa := (tagBits t).zeroExtend 32, ta := none } } ∧
          LeavesCtx (.qchk e k ix sp ad) s e k
            { d with t := { d.t with la := decide (t.q.toNat ≤ 1), lt := none } }

/-- R102: jumps go to their target, LOOP counts WA down, CALL and RET keep return entries on the branch stack.
R96, R102, R112: END with an empty branch stack ends the run and changes no register but the index; EVT raises the
program event when LA = 1. -/
def Obligations.FlowInstructions : Prop :=
  (∀ (s : State) (e : Fin 17) (k : Fin 5) (target : BitVec 16), Executing s e k true →
    let next := regsAfter s e k 0
    let cost := fun (r : Regs) (n : Nat) => { r with cost := r.cost + n }
    let goTo := fun (r : Regs) => { r with pc := target.toNat }
    let w : Word := if next.wa = 0x80000000 then next.wa else next.wa - 1
    LeavesRegs (.jmp e k target) s e k (goTo (cost next 4)) ∧
    LeavesRegs (.jc e k target) s e k (if next.la then goTo (cost next 4) else cost next 2) ∧
    LeavesRegs (.jcn e k target) s e k (if next.la then cost next 2 else goTo (cost next 4)) ∧
    LeavesRegs (.loop e k target) s e k
      (if w.toInt > 0 then goTo (cost { next with wa := w } 4) else cost { next with wa := w } 2) ∧
    (next.stack.length < 16 →
      LeavesRegs (.call e k target) s e k (goTo (cost { next with stack := .ret next.pc :: next.stack } 5))) ∧
    ∀ (n : Nat) (rest : List StackEnt), next.stack = .ret n :: rest →
      LeavesRegs (.ret e k) s e k (cost { next with pc := n, stack := rest } 5)) ∧
  (∀ (s : State) (e : Fin 17) (k : Fin 5),
    (Executing s e k true → Fetched (.end_ e k) s e k → (s.le[e].task k).stack = [] →
      ∃ t, exec (.end_ e k) s = .next t ∧ (t.le[e].task k).phase = .done ∧ (t.le[e].task k).out = (s.le[e].task k).out ∧
        (t.le[e].task k).regs =
          regsAfter s e k (2 + (if e.val = 16 then 128 else if k = 0 then 32 else 48)) ∧
        Engine.SameWords s.le[e] t.le[e] ∧ LogicKeeps s t e k ∧
        (k = 0 → t.le[e].scanCnt = s.le[e].scanCnt + 1 ∧
          t.le[e].scanLast = satNat 26 ((s.le[e].task k).cost + 2 + sleCost e + (if e.val = 16 then 128 else 32)))) ∧
    (Executing s e k false →
      LeavesRegs (.evt e k) s e k (regsAfter s e k 2) ∧
      (Fetched (.evt e k) s e k → (s.le[e].task k).la = true → Settled s → ∀ t, exec (.evt e k) s = .next t → Raised t (304 + 4 * e.val + 3))))

/-- R103–R106, R111: what an evaluation of a timer does to the instance, to LA and to LT.
The model's choices here: assumption log 6. -/
def Obligations.TimerInstructions : Prop :=
  ∀ (s : State) (e : Fin 17) (k : Fin 5) (ad : BitVec 20) (i : Inst), Executing s e k true → ad.toNat % 32 = 0 →
    s.le[e].inst? 4 (ad.toNat / 32) = some i →
    let r := regsAfter s e k 10
    let now := (s.le[e].task k).nNow
    let period := if k = 0 then tierNs s.le[e].tier.toNat / 1000 else 100
    let ptc := if r.wa.toInt ≤ 0 then 0 else min ((r.wa.toNat * 1000 + period - 1) / period) (2 ^ 32 - 1)
    let prev := if i.first then r.la else i.inPrev
    let et := min (i.et.toNat + (if i.first then 0 else (now - i.stamp).toNat)) ptc
    let leaves := fun (c : Instr) (q : Bool) (j : Inst → Prop) =>
      LeavesInst c s e k { r with la := q, lt := tagOfBoth e r.lt r.ta } i
        (fun x => x.out = q ∧ x.inPrev = r.la ∧ x.first = false ∧ x.stamp = now ∧ j x)
    (i.kind = 1 →
      leaves (.ton e k ad) (r.la && (if prev then decide (et ≥ ptc) else decide (ptc = 0)))
        (fun x => x.et.toNat = if r.la && prev then et else 0)) ∧
    (i.kind = 2 →
      leaves (.tof e k ad)
        (if r.la then true else if prev then decide (ptc > 0) else if i.run then decide (et < ptc) else i.out)
        (fun x => x.et.toNat = (if r.la || prev then 0 else if i.run then et else i.et.toNat) ∧
          x.run = if r.la then false else if prev then decide (ptc > 0) else if i.run then decide (et < ptc) else i.run)) ∧
    (i.kind = 3 →
      let ends := i.run && decide (et ≥ ptc)
      let starts := (!i.run || ends) && r.la && !prev
      leaves (.tp e k ad) (if starts then decide (ptc > 0) else if ends then false else i.out)
        (fun x => x.et.toNat = (if starts then 0 else if i.run then et else if r.la then i.et.toNat else 0) ∧
          x.run = if starts then decide (ptc > 0) else i.run && !ends))

/-- R105, R107, R111: counting on a rising LA, saturating, and the comparison that LA takes; CRST and CLD set the count.
R105, R108, R111: an edge instruction compares LA with the instance's previous input, none at its first evaluation. -/
def Obligations.InstanceInstructions : Prop :=
  (∀ (s : State) (e : Fin 17) (k : Fin 5) (ad : BitVec 20) (i : Inst), Executing s e k true → ad.toNat % 32 = 0 →
    s.le[e].inst? 5 (ad.toNat / 32) = some i →
    let r5 := regsAfter s e k 5
    let r3 := regsAfter s e k 3
    let now := (s.le[e].task k).nNow
    let up := r5.la && !(if i.firstU then r5.la else i.upPrev)
    let dn := r5.la && !(if i.firstD then r5.la else i.dnPrev)
    let u := if up && i.cv ≠ 0x7FFFFFFF then i.cv + 1 else i.cv
    let d := if dn && i.cv ≠ 0x80000000 then i.cv - 1 else i.cv
    let m := tagOfBoth e r5.lt r5.ta
    LeavesInst (.ctu e k ad) s e k { r5 with la := decide (u.toInt ≥ r5.wa.toInt), lt := m } i
      (fun x => x.cv = u ∧ x.out = decide (u.toInt ≥ r5.wa.toInt) ∧ x.upPrev = r5.la ∧ x.firstU = false ∧
        x.dnPrev = i.dnPrev ∧ x.firstD = i.firstD ∧ x.stamp = now) ∧
    LeavesInst (.ctd e k ad) s e k { r5 with la := decide (d.toInt ≤ 0), lt := m } i
      (fun x => x.cv = d ∧ x.out = decide (d.toInt ≤ 0) ∧ x.dnPrev = r5.la ∧ x.firstD = false ∧
        x.upPrev = i.upPrev ∧ x.firstU = i.firstU ∧ x.stamp = now) ∧
    LeavesInst (.crst e k ad) s e k r3 i
      (fun x => x.cv = (if r3.la then 0 else i.cv) ∧ x.firstU = i.firstU ∧ x.firstD = i.firstD) ∧
    LeavesInst (.cld e k ad) s e k r3 i
      (fun x => x.cv = (if r3.la then r3.wa else i.cv) ∧ x.firstU = i.firstU ∧ x.firstD = i.firstD)) ∧
  (∀ (s : State) (e : Fin 17) (k : Fin 5) (ad : BitVec 20) (i : Inst), Executing s e k true → ad.toNat % 32 = 0 →
    s.le[e].inst? 6 (ad.toNat / 32) = some i →
    let r := regsAfter s e k 3
    let prev := if i.first then r.la else i.inPrev
    LeavesInst (.redge e k ad) s e k { r with la := r.la && !prev } i
      (fun x => x.out = (r.la && !prev) ∧ x.inPrev = r.la ∧ x.first = false) ∧
    LeavesInst (.fedge e k ad) s e k { r with la := prev && !r.la } i
      (fun x => x.out = (prev && !r.la) ∧ x.inPrev = r.la ∧ x.first = false))

/-! ### The machine -/

/-- The command at the front of the queue is the one that a step executes, with the queue's rest; on an empty queue a step is an idle
fabric cycle (the model's choice, assumption log 23).
The model's choices here: assumption log 23. -/
def Obligations.FrontCommandRuns : Prop :=
  (∀ (c : Instr) (r : List Instr) (s : State), step { s with pending := c :: r } = exec c { s with pending := r }) ∧
  ∀ s : State, s.pending = [] → step s = .next (idle s)

/-- No command stops the machine, and none changes the queue of waiting commands: every one of them answers a next state with the queue it
found. Under the conditions its rules set it, on the state and its operands alone, each of the commands below completes with its own
effect; what else it does, and its effect in every other case, the statements of its family say.
The model's choices here: assumption log 7, 61. -/
def Obligations.CommandsComplete : Prop :=
  (∀ (c : Instr) (s : State), ∃ t, exec c s = .next t ∧ t.pending = s.pending) ∧
  (∀ s : State, alive s = true →
    -- angle (R203, R205, R206)
    Completes .angleWindow s (fun t => PassedTo s t (s.ang.winB + 4000) ∧ ∀ n : Fin 128,
      let r := s.ang.src[srcOfEvt n]
      let runs := s.ang.evt[n].armed = true ∧ r.pubPredicting = true ∧ r.vel ≠ 0
      (¬ runs → t.ang.evt[n] = s.ang.evt[n]) ∧ (runs → t.ang.evt[n].mark.isSome = true)) ∧
    (∀ (n : Fin 128) raw w, s.ang.evt[n].armed = true → s.ang.evt[n].due = some w → s.ang.src[srcOfEvt n].pubPredicting = true →
      s.pair.await = none → w < s.stn.lastB + 20000 → firesBefore s n w = false → Completes (.angleEventFire n raw) s (fun t =>
        t.ang.evt[n].fireCnt = s.ang.evt[n].fireCnt + 1 ∧ t.ang.evt[n].due = none ∧ t.ang.evt[n].lastT = BitVec.ofNat 32 w)) ∧
    -- the tier ladder (R21, R24, R25, R262): the boundary of an active station, of a standby and of a station in no pair
    (∀ x, s.stn.refOk = true → s.stn.pllLock = true → Completes (.tierBoundary x) s (fun t =>
      t.stn.lastB = s.stn.lastB + 20000 ∧ t.stn.cnt[0] = s.stn.cnt[0] + 1 ∧
      ((s.stn.lastB + 20000) % 100000 = 0 → t.stn.cnt[1] = s.stn.cnt[1] + 1) ∧
      (s.pair.state = 2 → (s.stn.lastB + 20000) % 100000 ≠ 0 → s.pwr.quiet = 0 → s.sent = [] → ∃ l, Sent.inputSet false l ∈ t.sent) ∧
      (s.pair.state = 4 → t.pair.await ≠ none))) ∧
    -- the pair (R23, R259-R262, R264, R265, R271-R275)
    (∀ l : Fin 2,
      (s.pair.laneUp[l] = true → Completes (.laneDown l) s (fun t => t.pair.laneUp[l] = false ∧
        t.pair.lanes[l].down = satInc s.pair.lanes[l].down)) ∧
      (s.pair.laneUp[l] = false → Completes (.laneUp l) s (fun t => t.pair.laneUp[l] = true ∧ t.pair.lanes[l].bad = 0))) ∧
    (s.pair.presence = true → Completes .presenceLapse s (fun t => t.pair = { s.pair with presence := false })) ∧
    (s.stn.slewing = true → s.stn.slewLeft.natAbs ≤ 50 → Completes .tierAligned s (fun t =>
      t.stn.slewing = false ∧ t.stn.aligned = true ∧ t.stn.slewLeft = 0)) ∧
    (s.pair.member = true →
      (∀ n : Fin 112, compared s n.val = true → s.pair.state = 2 → Completes (.fieldDisagree n) s (fun t =>
        t.pair.cmpCnt = satInc s.pair.cmpCnt ∧ t.pair.check ≠ none)) ∧
      (s.pair.state = 2 → Completes .ownFaultReport s (fun t => t.pwr.power = .warm ∧ t.pair.state = 6 ∧ t.pair.faulty = true ∧
        Drives t false)) ∧
      (s.pair.state = 1 → s.pair.heard = false → s.stn.refLoss = false → Completes .seekingTimeout s (fun t =>
        t.pair.state = 3 ∧ Drives t true)) ∧
      (s.pwr.quiet.getLsbD 0 = false → s.img.running ≠ none → s.pair.state ≠ 6 → Completes .presenceSend s (fun t =>
        ∃ seq, ∀ leafB, Sends s t (.telegram leafB (telOn s.net leafB s.net.presMac (presenceTel s seq))))) ∧
      (∀ st driving id, s.pwr.quiet.getLsbD 0 = false → id ≠ s.stn.pairIdPin → Completes (.presenceReceive st driving id) s (fun t =>
        t.pair.presence = true)) ∧
      Completes .heartbeatSend s (fun t => t.pair.seq = s.pair.seq + 1) ∧
      (∀ w id depart, s.pair.setMiss = none → (s.pair.state = 4 → w.getLsbD 12 = false) →
        Completes (.heartbeatReceive w .ok .ok id depart) s (fun t =>
        t.pair.partner = BitVec.ofNat 3 (w.toNat / 256 % 8) ∧ t.pair.misses = 0)) ∧
      (∀ w rest items, s.pair.state = 4 → s.pair.await = some w → s.pair.setMiss = none → Completes (.inputSetReceive rest ⟨.ok, .ok, items⟩) s
        (fun t => (rest = true ∧ w.t0 ≠ none ∨ rest = false ∧ w.slow = 0 → t.pair.await = none) ∧
          (rest = false → w.slow ≠ 0 → t.pair.await = some { w with t0 := some items }))) ∧
      (s.pair.state = 3 → s.pair.misses = 0 → Completes (.dueMiss 0) s (fun t => t.pair.misses = 1)) ∧
      (s.pair.state = 2 → Completes .digestComputed s (fun t => t.pair.digests = s.pair.fresh ∧ Sends s t (.digests s.pair.fresh))) ∧
      (∀ l, s.pair.state = 4 → Completes (.digestReceive ⟨.ok, .ok, l⟩) s (fun t => t.pair.missedDig = 0 ∧ ∃ m, Sends s t (.mask m))) ∧
      (∀ m, m ≠ 0 → s.pair.state = 2 → Completes (.mismatchMaskReceive ⟨.ok, .ok, m⟩) s (fun t =>
        t.pair.mismatch = m ∧ t.pair.digCnt = satInc s.pair.digCnt)) ∧
      (s.pair.state = 4 → s.pair.missedDig < 2 → Completes .digestTransferMissed s (fun t =>
        t.pair.missedDig = s.pair.missedDig + 1)) ∧
      (∀ m, s.pair.check = some (.digest m) → s.pair.state = 4 → Completes (.selfCheckOutcome false false) s (fun t =>
        t.pair.check = none ∧ t.pair.result = 4 ∧ t.pair.state = 5)) ∧
      (∀ x : SyncSet, s.pair.state = 5 → s.stn.aligned = true → s.stn.lastB % 100000000 = 0 → x.stn.lastB % 100000000 = 0 →
        s.img.running.map imageId = some (imageId x.image) →
        Completes (.resyncMarkReceive ⟨.ok, .ok, x⟩) s (fun t => t.pair.state = 4 ∧ t.vars = x.vars))) ∧
    -- the safety function (R241, R242, R244-R247, R249-R252)
    (s.pwr.quiet.getLsbD 7 = false → ∀ (k : Fin 4) (reads : BitVec 16),
      (tpUsed s k = true → s.saf.wdExpired = false → s.saf.tp[k].fault = false → Completes (.tpPulseStart k reads) s (fun t =>
        t.saf.tp[k].high = false ∧ t.saf.tp[k].pulsing = true)) ∧
      (s.saf.tp[k].pulsing = true → Completes (.tpPulseEnd k reads) s (fun t =>
        t.saf.tp[k].high = true ∧ t.saf.tp[k].pulsing = false)) ∧
      (∀ n : Fin 16, s.saf.si[n].on k = true → s.saf.si[n].masked = true → Completes (.tpMaskEnd k reads) s (fun t =>
        t.saf.si[n].masked = false)) ∧
      (tpUsed s k = true → s.saf.tp[k].fault = false → Completes (.tpFault k true) s (fun t =>
        t.saf.tp[k].fault = true ∧ t.saf.tp[k].cause = 2 ∧ t.saf.tp[k].high = false)) ∧
      (∀ limit conducted, s.saf.tp[k].retry = true → Completes (.tpRetryEnd k limit conducted) s (fun t =>
        t.saf.tp[k].retry = false ∧ t.saf.tp[k].fault = (s.saf.tp[k].fault && (limit || conducted)))) ∧
      (∀ (p : Fin 8) (a b : Fin 16), a.val = 2 * p.val → b.val = 2 * p.val + 1 → s.saf.si[a].mode ≠ 0 → s.saf.si[a].paired = true →
        s.saf.si[a].pend = [] → s.saf.si[b].pend = [] → onLevel s a ≠ onLevel s b → Completes (.discrepancy p) s (fun t =>
          (∃ x ∈ t.saf.si[a].pend, x.cause = 3) ∧ ∃ x ∈ t.saf.si[b].pend, x.cause = 3)) ∧
      (s.saf.sleFault = false → s.saf.wdOn = true → s.saf.wdExpired = false → Completes .sleWatchdogExpire s (fun t =>
        t.saf.sleFault = true ∧ t.saf.sleCause = 5 ∧ OutputsFaulted s t 6))) ∧
    (s.saf.sleFault = false → s.le[(16 : Fin 17)].running = true → Completes (.sleFault .ecc) s (fun t =>
      t.saf.sleFault = true ∧ t.saf.sleCause = 4 ∧ OutputsFaulted s t 6)) ∧
    (s.saf.lp = 0 → Completes .slplusLoss s (fun t => ∀ k : Fin 8, t.saf.so[k].state ≠ 1)) ∧
    (∀ k : Fin 8, s.saf.so[k].state = 1 → s.saf.so[k].used = true →
      Completes (.soShutoff k) s (fun t => t.saf.so[k].state = 2 ∧ t.saf.so[k].hs = false ∧ t.saf.so[k].ls = false) ∧
      (∀ ls, s.saf.so[k].dark = none → (if ls then usesLs s else usesHs s) = true → Completes (.darkTest k ls) s (fun t =>
        t.saf.so[k].dark = some ls)) ∧
      ∀ ls, s.saf.so[k].dark = some ls → Completes (.darkTestEnd k ls false) s (fun t =>
        t.saf.so[k].dark = none ∧ t.saf.so[k].state = 1)) ∧
    (∀ mv, Completes (.slPlusChange mv) s (fun t => t.saf.lp = supplyClass 12000 16000 mv s.saf.lp)) ∧
    -- the stack (R280, R281, R285, R287, R289, R292, R293)
    (∀ q : Fin 3, transomUp s = true → s.stk.up[q] = true →
      (∀ p, Completes (.transomPacketReceive (.port q) false p) s (fun t => t.stk.ports[q].crc = satInc s.stk.ports[q].crc)) ∧
      (∀ port : Fin 3, s.stk.up[port] = true → Completes (.transomPacketReceive (.port q) true (.transit port)) s (fun t =>
        Sends s t (.forward port.val)))) ∧
    (∀ q m sched told, transomUp s = true → s.stk.up[(q : Fin 3)] = true → Completes (.portDown q m sched told) s (fun t =>
      t.stk.up[q] = false ∧ t.stk.ports[q].down = satInc s.stk.ports[q].down)) ∧
    (∀ q m sched time, transomUp s = true → s.stk.up[(q : Fin 3)] = false → Completes (.portUp q m sched time) s (fun t => t.stk.up[q] = true)) ∧
    (∀ c rest, s.stk.cols = c :: rest → (s.stk.role = 2 ∨ s.stk.role = 4) → s.stk.barState ≠ 1 → Completes .barrierTimeout s (fun t =>
      t.stk.barId = c.id ∧ t.stk.barState = 3)) ∧
    (s.stk.snapState = 1 → s.pair.await = none →
      (s.stk.snapT.toNat : Int) ≤ ((s.stn.time + s.stk.ofs).toNat : Int) - s.stn.tierRef.toNat + s.stn.lastB + 50 →
      Completes .snapshotLatch s (fun t => t.stk.snapState = 2 ∧ t.stk.snapData = s.stk.snapList.map (fun n => (n, dataRead s n)))) ∧
    (∀ q : Fin 3, transomUp s = true → s.stk.up[q] = true → Completes (.stackResetSymbol q) s (fun t => InWarmReset s t 5)) ∧
    -- the fabric (R46, R49, R53-R55)
    (∀ blk inst tier dl vars port, Completes (.timedDeadlineMiss blk inst tier dl vars port) s (fun t =>
      t.stn.timedLate = satInc s.stn.timedLate)) ∧
    (∀ tgt, (∃ p ∈ s.fab.wait, p.at_ = tgt) → (∀ p ∈ s.fab.wait, p.at_ = tgt → plReady s p = true) → s.fab.queue = [] → s.evr.out = [] →
      Completes (.placedPacketGrant tgt []) s (fun t => ∃ p ∈ s.fab.wait, p.at_ = tgt ∧ t.fab.last.head? = some (tgt, p.port))) ∧
    (∀ port tgt p, s.fab.out.find? (fun p => p.port == port && p.tgt == tgt) = some p →
      Completes (.placedPacketComplete port tgt) s (fun t => t.fab.out = s.fab.out.erase p)) ∧
    (∀ tgt, (s.fab.wait ++ s.fab.out).any (plSaturates s tgt) = true →
      Completes (.ageSaturation tgt) s (fun t => t.stn.satCnt = satInc s.stn.satCnt)) ∧
    -- CAN (R299-R305, R307, R310, R311)
    (s.pwr.quiet.getLsbD 1 = false → ∀ k : Fin 8,
      let c := s.can.ctl[k]
      (∀ f, c.state = 2 → f.fdf = false → f.data.length ≤ 8 → Completes (.canFrameReceive k f false) s (fun t =>
        t.can.ctl[k].rxCnt = c.rxCnt + 1)) ∧
      (c.state = 2 →
        (∀ i tdcv, c.maySend (128 + (i : Fin 64).val) s.stn.tierRef.toNat = true → Completes (.canFrameSent k (some i) tdcv) s (fun t =>
          t.can.ctl[k].txCnt = c.txCnt + 1)) ∧
        (∀ i o, c.maySend (128 + (i : Fin 64).val) s.stn.tierRef.toNat = true → c.obj? (128 + i.val) = some o → c.once o = true →
          Completes (.arbitrationLoss k (.object i)) s (fun t => t.can.ctl[k].oneshot = satInc c.oneshot)) ∧
        (∀ (n : Fin 64) late, c.tt = 1 → c.bound = true → c.demoted = false → n.val < c.nbc →
          Completes (.canReferenceSend k n late) s (fun t => t.can.ctl[k].ttMaster = true ∧ Sends s t (.canFrame k.val (refFrame c n.val)))) ∧
        Completes (.txdTimeout k) s (fun t => t.can.ctl[k].txdOff = true)) ∧
      (∀ w, c.state = 2 → c.tt ≠ 0 → c.ttSync = true → w < c.wins.length → Completes (.canWindowOpen k w) s (fun t =>
        t.can.ctl[k].win = some w)) ∧
      (∀ w, c.win = some w → Completes (.canWindowClose k w) s (fun t => t.can.ctl[k].win = none)) ∧
      (∀ kind dp obj, c.state = 2 → c.tec.toNat ≤ 247 → Completes (.canError k kind dp .tx8 obj) s (fun t =>
        t.can.ctl[k].tec.toNat = c.tec.toNat + 8)) ∧
      (c.state = 6 → Completes (.boffRecovered k) s (fun t => t.can.ctl[k].tec = 0 ∧ t.can.ctl[k].recv = 0)) ∧
      (c.ttSync = true → c.ttMaster = false → Completes (.ttSyncLoss k) s (fun t => t.can.ctl[k].ttSync = false)) ∧
      (c.state = 4 → c.wakeKind = 1 → Completes (.canWake k none) s (fun t => t.can.ctl[k].state = 1 ∧ t.can.ctl[k].waking = true)) ∧
      (c.state = 1 → c.waking = true → Completes (.canIntegrated k) s (fun t => t.can.ctl[k].integ = true))) ∧
    -- the plant network (R313-R315, R317-R319, R321)
    (s.pwr.quiet.getLsbD 0 = false →
      (∀ (n : Fin 64) x ws, s.net.tx[n] = some x → x.due = some ws → s.pwr.pf = false → s.pair.state = 0 →
        Completes (.telegramSend n) s (fun t => ∀ leafB, Sends s t
          (.telegram leafB (telOn s.net leafB x.mac (telMade s.net.stnId x.kind x.telId x.dst (x.seq + 1) ws))))) ∧
      (∀ leafB (f : TelFrame), portUp s (if leafB then 1 else 0) = true → f.mac = BitVec.allOnes 48 → f.etype = s.net.etype →
        ∀ (r : Fin 128) x, telFor s f.tel = some r → s.net.rx[r] = some x →
        f.crc ≠ telCrc f.tel f.leaf → Completes (.telegramReceive leafB f) s (fun t => t.net.rx[r] = some
          (if leafB then { x with errB := satInc x.errB } else { x with errA := satInc x.errA }))) ∧
      (∀ (r : Fin 128) x, s.net.rx[r] = some x → s.pair.state ≠ 4 → x.wdgExp = false → x.left = 1 → telWillAccept x s.stn.time.toNat = false →
        Completes (.telegramWatchdog r) s (fun t => t.net.rx[r] = some { x with wdgExp := true, expCnt := satInc x.expCnt })) ∧
      ∀ p : Fin 3, let n := s.net.ports[p]
        (portUp s p = true → n.queue.length < 64 → Completes (.arpRequest p) s (fun t =>
          t.net.ports[p].queue = n.queue ++ [.arp])) ∧
        (portUp s p = true → n.echoes = [] → n.queue.length < 64 → Completes (.icmpEcho p) s (fun t =>
          t.net.ports[p].queue = n.queue ++ [.echo] ∧ t.net.ports[p].echoes = [s.stn.time])) ∧
        (n.link = true → Completes (.droppedFrame { port := p, why := .protocol }) s (fun t => t.net.drop = s.net.drop + 1))) ∧
    (∀ p : Fin 3, let n := s.net.ports[p]
      (∀ up, n.link ≠ up → Completes (.netLinkChange p up) s (fun t => t.net.ports[p].link = up)) ∧
      ∀ f rest, n.queue = f :: rest → n.link = true → frameFits s p f = true → Completes (.placedFrameSend p) s (fun t => t.net.ports[p].queue = rest ∧
        Sends s t (.netFrame p.val f))) ∧
    -- sessions and transfers (R328, R333, R382, R383)
    (∀ i : Fin 4, s.net.sess[i] ≠ none → Completes (.sessionTimeout i) s (fun t => t.net.sess[i] = none)) ∧
    (∀ c ∈ s.net.chals, Completes (.challengeLapse c.id) s (fun t => ∀ x ∈ t.net.chals, x.id ≠ c.id)) ∧
    (∀ ip ∈ s.net.lockouts, Completes (.helloLockoutEnd ip) s (fun t => ip ∉ t.net.lockouts)) ∧
    (s.net.transfer ≠ none → Completes .transferAbandon s (fun t => t.net.transfer = none)) ∧
    (s.net.clearNonce ≠ none → Completes .clearChallengeLapse s (fun t => t.net.clearNonce = none)) ∧
    (s.log.lockout = true → Quiet s → Completes .clearLockoutEnd s (fun t => t.log.lockout = false)) ∧
    (s.log.clearStep = 3 → Quiet s → Completes .clearDone s (fun t => t.log.clearStep = 0)) ∧
    (s.evr.queue ≠ [] → Quiet s → Completes .supQueueTake s (fun t => ∃ q ∈ s.evr.queue, t.evr.queue = s.evr.queue.erase q)) ∧
    (∀ r own rest, Quiet s → s.log.flush ≠ .idle → 0 < s.log.flushLeft → s.log.buf = (r, own) :: rest → rest.length < 200 →
      Completes (.flushRecordDone true) s (fun t => aget t.log.circ (r.seq.toNat % 65536) = some (.good r))) ∧
    -- images and profiles (R344, R355-R361)
    (s.img.wState = 2 → s.img.wOlc = false → Completes (.imageWriteDone true) s (fun t =>
      vget t.img.banks (2 * s.img.wProf.toNat + if s.img.wBank then 1 else 0) [] = s.img.wBytes)) ∧
    (∀ ok, s.img.wState = 2 → s.img.wOlc = false → s.pair.member = true → Completes (.partnerWriteDone ok) s (fun t =>
      t.img.wOwnDone = true ∧ t.img.same = if ok then s.img.same ||| (1#4 <<< s.img.wProf.toNat) else s.img.same)) ∧
    (s.img.wState = 2 → s.img.wOlc = true → s.pair.state ≠ 2 → Completes (.olcPersisted true) s (fun t => t.stn.persisted = true)) ∧
    (∀ b, s.img.running = none → s.stn.stopCause ≠ 7 → s.img.marker = none → s.img.wWait = [] → committed s (selectProfile s) = some b →
      (checkImage s (selectProfile s).toNat b).1.1 = 0 → Completes .imageLoad s (fun t => t.img.running = some b)) ∧
    (∀ pins, s.img.pinProf ≠ pins → Completes (.profSelChange pins) s (fun t => t.img.pinProf = pins)) ∧
    (s.img.swState = 1 → s.pair.state = 0 → s.img.prepared = none → (prepareSwitch s).1 = 0 →
      Completes .switchPrepared s (fun t => t.img.swState = 2)) ∧
    (∀ pkg, s.pair.state = 0 → s.stn.olcState = 2 → (prepareCode s).1 = 0 → Completes (.prepareDone ⟨false, pkg⟩) s (fun t =>
      t.stn.olcState = 3 ∧ t.stn.olcResult = 0)) ∧
    -- power, resets, SLEEP (R384-R389, R392-R395)
    (∀ b mv, Completes (.feedChange b mv) s (fun t => (if b then t.pwr.feedB else t.pwr.feedA) =
      supplyClass 16000 18000 mv (if b then s.pwr.feedB else s.pwr.feedA))) ∧
    (s.pwr.feedA = 0 → s.pwr.feedB = 0 →
      (s.pwr.pf = false → Completes .powerFail s (fun t => t.pwr.pf = true ∧ t.pwr.pfCnt = satInc s.pwr.pfCnt)) ∧
      Completes .holdupEnd s (fun t => t.pwr.power = .off)) ∧
    (s.pwr.pf = true → s.pwr.pfDone = false → Completes .powerFailFlushDone s (fun t => InWarmReset s t 7 ∧ t.log.twClean = true)) ∧
    (s.pwr.pf = false → Completes .nreset s (fun t => InWarmReset s t 1) ∧ Completes .supWatchdog s (fun t => InWarmReset s t 3) ∧
      Completes .lockstepMismatch s (fun t => InWarmReset s t 4) ∧ Completes .clockFault s (fun t => InWarmReset s t 6)) ∧
    (s.pwr.entry = .voting → (∀ b < 17, sleepRefusal s b = none) → Completes .sleepVoteDone s (fun t => t.pwr.entry = .agreed)) ∧
    (∀ i, s.pwr.entry = .slots i → sleepRefusal (passTo s (s.pwr.bs + 50000 * i)) (slotBlock i) = none → i < 14 → Completes .sleepQuiesceSlot s (fun t =>
      t.pwr.entry = .slots (i + 1) ∧ t.pwr.quiet = s.pwr.quiet ||| (1#15 <<< i))) ∧
    (∀ n, s.pwr.entry = .restore n → Completes .sleepRestore s (fun t => t.pwr.quiet = s.pwr.quiet &&& ~~~(1#15 <<< (n - 1)))) ∧
    -- slots (R164, R179)
    (∀ p : Fin 64, s.qp.slots[p].reload = true → Completes (.slotReloadDone p) s (fun t => t.qp.slots[p].reload = false ∧
      t.qp.slots[p].mem = freshSlotMem (slotContent s p))) ∧
    ∀ c : Fin 8, Completes (.memDataRead c) s (fun t => t.qp.clus[c].addr = s.qp.clus[c].addr + 1)) ∧
  -- field points (R221, R224, R225), where the field side is powered
  (∀ (s : State) (n : Fin 96), fieldPowered s (bankOf n) = true →
    (∀ d, diagApplies s.fld.pts[n] d = true → (d = .supply → s.fld.banks[bankOf n].lp ≠ 2) → Completes (.diagDetect n d) s (fun t =>
      t.fld.pts[n].diag = s.fld.pts[n].diag |||
        (1#5 <<< (match d with | .openWire => 0 | .short => 1 | .over => 2 | .rbMis => 3 | .supply => 4 : Nat)))) ∧
    (s.fld.pts[n].isSwitch = true → s.fld.pts[n].prot = 0 → (∃ w, driven s n = some w ∧ w ≠ 0) → Completes (.shortCircuitShutoff n) s
      (fun t => t.fld.pts[n].prot = 1 ∧ t.fld.pts[n].diag = s.fld.pts[n].diag ||| 2#5)) ∧
    (s.fld.pts[n].mode = 7 → s.fld.pts[n].pwmRun = true → Completes (.pwmPeriodStart n) s (fun t =>
      t.fld.pts[n].duty = s.fld.pts[n].eff.getD 0))) ∧
  -- requests of the engineering protocol (R328, R330-R335, R381, R382)
  (∀ (s : State) (d : Dgram), dgramHere s d = true →
    (∀ k, d.ip ∉ s.net.lockouts → s.pwr.quiet.getLsbD 0 = false → d.payload.length = 17 → (∃ i : Fin 4, s.net.sess[i] = none) →
      keyEnt s (d.payload.headD 0) = some k → Completes (.hello d) s (fun t => ∃ c, t.net.chals = s.net.chals ++ [c] ∧
        c.ip = d.ip ∧ c.keyId = d.payload.headD 0)) ∧
    (∀ c k, s.pwr.quiet.getLsbD 0 = false → sessOf s d = none → s.net.chals.find? (fun c => c.id == d.sess) = some c → keyEnt s c.keyId = some k →
      d.mac = kepMac (hmac k.secret (keps ++ c.nc ++ c.ns)) 3 false 0 d.sess d.seq d.payload →
      d.payload = hmac k.secret (kepp ++ c.nc ++ c.ns ++ leN 4 c.id.toNat) → (∃ i : Fin 4, s.net.sess[i] = none) →
      Completes (.proof d) s (fun t => ∃ (i : Fin 4) (x : Sess), s.net.sess[i] = none ∧ t.net.sess[i] = some x ∧ x.id = c.id))) ∧
  (∀ (s : State) (d : Dgram) (i : Fin 4) (x : Sess), x.role = 3 →
    let serves := fun (c : Instr) (op : Byte) (st : Nat) => Requested s op d i x → Completes c s (fun t => ∃ pl,
      t.net.sess[i] = some { x with last := some d.seq, resp := some (op, st, pl) })
    (d.payload = [] → Requested s 5 d i x → Completes (.close d) s (fun t => t.net.sess[i] = none)) ∧
    (∀ op, opUnknown op = true → serves (.unknownOperation op d) op 7) ∧
    (rd d.payload 0 4 % 4 = 0 → rd d.payload 0 4 < 0x1000000 → 1 ≤ rd d.payload 4 2 → rd d.payload 4 2 ≤ 256 → d.payload.length = 6 →
      serves (.read d) 0x10 0) ∧
    (d.payload.length = 12 → rd d.payload 4 2 = 1 → rd d.payload 0 4 = 0x210 → serves (.write d) 0x11 0) ∧
    (d.payload.length = 16 → rd d.payload 4 2 = 1 → rd d.payload 0 4 = 0x308 → rd d.payload 8 4 = 0x30C → serves (.kwrite d) 0x12 0) ∧
    (d.payload.length = 4 → rd d.payload 0 1 = 0 → serves (.modeOp d) 0x30 0) ∧
    (d.payload.length = 8 → rd d.payload 0 1 ≤ 4 → 1 ≤ rd d.payload 4 4 → rd d.payload 4 4 ≤ 0x1000000 → s.net.transfer = none →
      dramRoom s (rd d.payload 4 4) = true → serves (.imgOpen d) 0x20 0) ∧
    (∀ f, s.net.transfer = some f → 1 ≤ rd d.payload 4 2 → rd d.payload 4 2 ≤ 1024 → d.payload.length = 8 + rd d.payload 4 2 →
      rd d.payload 0 4 + rd d.payload 4 2 ≤ f.total → serves (.imgData d) 0x21 0) ∧
    (∀ f, s.net.transfer = some f → d.payload = [] → f.missing = [] → f.target = 4 → packageOk f.bytes = true →
      s.stn.olcState = 0 → commitPending s = false → serves (.imgEnd d) 0x22 0) ∧
    (d.payload.length = 8 → rd d.payload 0 1 = 2 → rd d.payload 4 4 < 65536 → serves (.logRead d) 0x40 0) ∧
    (d.payload = [] → s.log.lockout = false → serves (.logClearChal d) 0x42 0) ∧
    (d.payload.length = 36 → clearReason (seenBy s d i) i (rd d.payload 0 2) (sub d.payload 4 32) = 0 →
      (seenBy s d i).log.buf.length < 256 → serves (.logClear d) 0x43 0) ∧
    (d.payload.length = 4 → rd d.payload 0 1 ≤ 7 → 1 ≤ rd d.payload 1 1 → rd d.payload 1 1 ≤ 16 → serves (.canCapture d) 0x44 0) ∧
    (d.payload.length = 36 → rd d.payload 0 1 = 1 → rd d.payload 1 1 < 4 → serves (.keySet d) 0x50 0)) ∧
  -- power states other than RUN (R384, R388, R389, R399)
  (∀ s : State,
    (∀ x : PowerIn, (s.pwr.power = .held ∨ s.pwr.power = .off) → (17000 ≤ x.feedA ∨ 17000 ≤ x.feedB) →
      Completes (.powerOn x) s (fun t => t.pwr.power = .run ∧ t.stn.time = 0)) ∧
    (s.pwr.power = .warm → s.pwr.pf = true → s.pwr.pfDone = true → s.stn.refOk = true → s.stn.pllLock = true → 1700 ≤ s.pwr.aV.toNat → Completes .powerFailRecovery s (fun t =>
      t.pwr.power = .run ∧ t.pwr.pf = false)) ∧
    (s.pwr.power = .warm → s.pwr.pf = false → s.stn.refOk = true → s.stn.pllLock = true → Completes .warmResetEnd s (fun t =>
      t.pwr.power = .run ∧ t.pwr.warmCnt = satInc s.pwr.warmCnt)) ∧
    (s.pwr.power = .warm → s.stn.refOk = false → Completes .clockRecovered s (fun t => t.stn.refOk = true ∧ t.stn.pllLock = true)) ∧
    (∀ pins can nreset cnt ok x, s.pwr.power = .sleep → wakeValid s pins can nreset = true →
      Completes (.wakeSource pins can nreset cnt ok x) s (fun t => t.pwr.power = .run ∧ t.pwr.sleepCnt = cnt))) ∧
  -- reads and writes of registers (R5-R10, R18, R41, R42, R69, R75, R83, R117, R123, R158, R187, R202, R268, R281, R311, R358, R374, R389)
  (∀ (s : State) (r : Fin 21), canRead s r = true →
    let latches := fun (c : Instr) (l : Latch) => Completes c s (fun t => t.latch[r] = l)
    latches (.timeLoRead r) { s.latch[r] with timeHi := some (s.stn.time >>> 32).toNat } ∧
    latches (.stkTimeLoRead r) { s.latch[r] with stkHi := some ((s.stn.time + s.stk.ofs) >>> 32).toNat } ∧
    latches (.opmsLoRead r) { s.latch[r] with opmsHi := some (s.log.opms >>> 32).toNat } ∧
    latches (.sleepCntLoRead r) { s.latch[r] with sleepHi := some (s.pwr.sleepCnt >>> 32).toNat } ∧
    ∀ n : BitVec 20, latches (.dataValueRead r n) { s.latch[r] with data := some (n.toNat, (dataRead s n.toNat).tag) }) ∧
  (∀ (s : State) (q : Fin 4), Opened s q →
    let asks := fun (c : Instr) (x : DistCmd) => Completes c s (fun t => x ∈ t.stn.accepted)
    (∀ a v : Word, isKey a.toNat = true → v.truncate 16 = 0x4B52#16 → Completes (.keyWrite q a v) s (fun t => (q.val, a.toNat) ∈ t.armed)) ∧
    (∀ a : Word, isKey a.toNat = true → (q.val, a.toNat) ∈ s.windows → Completes (.keyedWindowClose q a) s (fun t =>
      (q.val, a.toNat) ∉ t.windows)) ∧
    (∀ v : Word, Completes (.registerWrite q 0x42C v) s (fun t => t.stn.forceIdx = v.truncate 10)) ∧
    (∀ n v, dataReason s n.toNat false = 0 → Completes (.dataWrite q n false v) s (fun t => .write n.toNat v ∈ t.stn.accepted)) ∧
    Completes (.fabClrCnt q) s (fun t => t.stn.timedLate = 0 ∧ t.stn.lateCnt = 0 ∧ t.stn.satCnt = 0) ∧
    (∀ b : Fin 8, Completes (.fldClrCnt q b) s (fun t => t.fld.banks[b].closeCnt = 0) ∧ Completes (.clrDiag q b) s (fun t =>
      ∀ n : Fin 96, n.val / 12 = b.val → t.fld.pts[n].diagL = s.fld.pts[n].diagL &&& s.fld.pts[n].diag)) ∧
    (∀ e : Fin 24, Completes (.loopEngClrStat q e) s (fun t => t.lp.eng[e].minSlack = 0xFFFFF)) ∧
    (∀ c : Fin 8, Completes (.qpClClrStat q c) s (fun t => ∀ p : Fin 64, p.val / 8 = c.val → t.qp.slots[p].deadlineCnt = 0)) ∧
    Completes (.angClrStat q) s (fun t => (∀ a : Fin 8, t.ang.src[a].errCnt = 0) ∧ ∀ n : Fin 128, t.ang.evt[n].late = false) ∧
    Completes (.netClrCnt q) s (fun t => t.net.drop = 0 ∧ t.net.authFail = 0) ∧
    (Quiet s → Completes (.logFlush q) s (fun t => t.log.cmdLeft = s.log.buf.length) ∧
      Completes (.logClrCnt q) s (fun t => t.log.dbDrop = 0 ∧ t.log.lost = 0) ∧ Completes (.evrClrCnt q) s (fun t => t.evr.drop = 0)) ∧
    ((q.val, 0x308) ∈ s.windows → s.pair.state = 0 → s.img.running ≠ none → s.pwr.quiet.getLsbD 13 = false →
      (s.stn.mode = .run → asks (.stop q) (.mode 1 q.val)) ∧
      (s.stn.mode = .stop → asks (.runCold q) (.mode 2 q.val) ∧ asks (.runWarm q) (.mode 3 q.val)) ∧
      (s.stn.mode = .stop → s.stn.faultStop = false → s.stn.stopCause = 2 → asks (.runHot q) (.mode 4 q.val)) ∧
      (s.stn.mode = .hold → asks (.release q) (.mode 5 q.val)) ∧
      (s.stn.olcState = 1 → notPersisted s = false → Completes (.prepare q) s (fun t => t.stn.olcState = 2)) ∧
      (s.stn.olcState = 3 → s.stn.olcCmd ≠ 2 → commitCode s = 0 → asks (.commit q) .commit) ∧
      (s.stn.olcState = 1 → s.pair.state ≠ 4 → Completes (.discard q) s (fun t => t.stn.olcState = 0 ∧ t.stn.staged = [])) ∧
      ∀ (v : BitVec 20) y, s.stn.commissioning = true → s.vars.find? (fun x => x.idx == v.toNat) = some y →
        asks (.forceRemove q v) (.forceRemove v.toNat) ∧ asks (.forceRemoveAll ⟨q, v⟩) .forceRemoveAll ∧
        (y.wblk = 3 → commitPending s = false → s.stn.forces = [] → s.stn.accepted = [] → asks (.forceSet q v) (.forceSet v.toNat s.stn.forceVal))) ∧
    (∀ e : Fin 16, (q.val, 0x10002C + 0x10000 * e.val) ∈ s.windows →
      Completes (.leClrStat q e) s (fun t => ∀ x : Fin 17, x.val = e.val → t.le[x].scanMax = 0) ∧
      (s.pair.state = 0 → s.stn.mode = .hold → s.stn.commissioning = true → s.stn.holdPermit = true →
        asks (.engineRestart q e) (.engRestart e) ∧ (∀ addr en, asks (.breakpointSet q e addr en) (.bkpt e addr en)) ∧
        asks (.step q e) (.hold e 1 s.stn.tierRef.toNat) ∧ asks (.resume q e) (.hold e 2 s.stn.tierRef.toNat) ∧
        asks (.freeze q e) (.hold e 3 s.stn.tierRef.toNat))) ∧
    (∀ n : Fin 192, (q.val, 0xC0010 + 0x800 * (n.val / 8)) ∈ s.windows →
      Completes (.loopClrCnt q n) s (fun t => t.lp.loops[n].missCnt = 0 ∧ t.lp.loops[n].skipCnt = 0) ∧
      (s.pair.state = 0 → s.lp.loops[n].used = true → s.lp.loops[n].restart = false → asks (.loopRestart q n) (.loopRestart n))) ∧
    (∀ p : Fin 64, (q.val, 0xD0014 + 0x2000 * (p.val / 8)) ∈ s.windows →
      Completes (.slotClrCnt q p) s (fun t => t.qp.slots[p].deadlineCnt = 0) ∧
      (s.pair.state = 0 → s.qp.slots[p].coldReq = false → asks (.coldReq q p) (.coldReq p))) ∧
    ((q.val, 0xB0004) ∈ s.windows → s.pair.state = 0 →
      (∀ a : Fin 8, s.ang.src[a].type ≠ 0 → s.ang.src[a].resync = false → asks (.resync q a) (.resync a)) ∧
      ∀ (n : Fin 128) m x, bit s.ang.evt[n].cfg 7 = false → asks (.evtCtrlWrite q n m x) (.evtCtrl n m x)) ∧
    ((q.val, 0xA001C) ∈ s.windows →
      Completes (.safClrCnt q) s (fun t => ∀ n : Fin 16, t.saf.si[n].cnt = 0) ∧
      Completes (.clrSoFault q) s (fun t => ∀ k : Fin 8, s.saf.so[k].state = 2 → 4 ∉ t.saf.so[k].pend)) ∧
    ((q.val, 0x3000C) ∈ s.windows →
      (s.pair.state = 2 → s.pair.partner = 4 → s.pair.switchReq = false → asks (.switch q) .switchover) ∧
      (s.pair.state = 6 → Completes (.rejoin q) s (fun t => t.pair.state = 1)) ∧
      Completes (.pairClrCnt q) s (fun t => t.pair.switchCnt = 0 ∧ t.pair.resyncCnt = 0)) ∧
    ((q.val, 0x4001C) ∈ s.windows →
      (s.stk.role = 2 → Completes (.stackReset q) s (fun t => InWarmReset s t 5) ∧
        Completes (.snapReq q) s (fun t => t.stk.snapState = 1)) ∧
      Completes (.stkClrCnt q) s (fun t => t.stk.peerLost = 0 ∧ t.stk.reroot = 0) ∧
      ∀ id, s.stk.role = 1 → s.pair.state = 0 → s.stk.barState ≠ 1 → Completes (.barrierArrive q id) s (fun t =>
        t.stk.barId = id ∧ t.stk.barState = 1)) ∧
    (∀ k : Fin 8, (q.val, 0xE001C + 0x1000 * k.val) ∈ s.windows →
      Completes (.canClrCnt q k) s (fun t => t.can.ctl[k].rxCnt = 0 ∧ t.can.ctl[k].txCnt = 0) ∧
      (s.pair.state = 0 → (s.can.ctl[k].state = 5 → asks (.boffRec q k) (.boffRec k)) ∧
        (s.can.ctl[k].bound = false → asks (.canSleepReq q k) (.canSleep k)) ∧
        (s.can.ctl[k].state = 4 → asks (.wakeReq q k) (.canWake k)))) ∧
    ((q.val, 0x1001C) ∈ s.windows → ∀ p, s.pair.state = 0 → s.pwr.quiet.getLsbD 11 = false → asks (.swCmdReq q p) (.profile p true)) ∧
    ((q.val, 0x50010) ∈ s.windows →
      Completes (.warmReset q) s (fun t => t.pwr.warmReq = true) ∧
      (s.pwr.entry = .none → Completes (.sleepReq q) s (fun t => t.pwr.sleepReq = true)) ∧
      Completes (.pwrClrCnt q) s (fun t => t.pwr.dropA = 0 ∧ t.pwr.warmCnt = 0)))

/-- Invariant of every step: no raised source and no entry is left over, and the queue gives up its first command and nothing more.
The model's choices here: assumption log 6, 61. -/
def Obligations.StepKeepsSettled : Prop :=
  ∀ s t : State, Settled s → step s = .next t → Settled t ∧ t.pending = s.pending.tail

/-! ### Access to registers -/

/-- R10: a write to a register with RWK fields by a session without its open window is refused: no part of the state is changed, the
keyed-window event is raised, and the entry names the address.
The model's choices here: assumption log 6, 32. -/
def Obligations.KeyedRefusal : Prop :=
  ∀ (c : Instr) (s : State) (sess : Fin 4) (a : Nat), KeyedWrite sess c a → Opened s sess →
    (∀ w ∈ s.windows, w.1 = sess.val → blockKey a ≠ some w.2) →
    Does c s [] (fun t => (Settled s → Raised t 509) ∧ Noted s t 0x5000 sess.val 1 (leN 4 a))

/-- R9: the two writes of the sequence open the window of their block for their session alone; any other value, or the end of the
64 cycles, closes it.
The model's choices here: assumption log 6, 19. -/
def Obligations.KeyedWindow : Prop :=
  ∀ (s : State) (sess : Fin 4) (a v : Word), Opened s sess → isKey a.toNat = true →
    let k := (sess.val, a.toNat)
    DoesSilently (.keyWrite sess a v) s [.windows, .armed] (fun t =>
      (∀ w, w ≠ k → (w ∈ t.windows ↔ w ∈ s.windows) ∧ (w ∈ t.armed ↔ w ∈ s.armed)) ∧
      (k ∈ t.armed ↔ v.truncate 16 = 0x4B52#16) ∧
      (k ∈ t.windows ↔ (v.truncate 16 = 0x4B52#16 ∧ k ∈ s.windows) ∨ (v.truncate 16 = 0xB4AD#16 ∧ k ∈ s.armed))) ∧
    (k ∈ s.windows → DoesSilently (.keyedWindowClose sess a) s [.windows] (fun t =>
      k ∉ t.windows ∧ ∀ w, w ≠ k → (w ∈ t.windows ↔ w ∈ s.windows)))

/-- R42, R43: a write of a value word is taken for the next T1 boundary when the variable exists, is operator-written and the station
may take it; every other DATA write is refused with the first reason of R43 that holds, and changes nothing else.
The model's choices here: assumption log 6, 61. -/
def Obligations.DataWrites : Prop :=
  ∀ (s : State) (sess : Fin 4) (n : BitVec 20) (isTag : Bool) (v : Word), Opened s sess →
    let last := s.vars.getLast?.map (fun x => x.idx)
    let works := s.img.running.isSome = true ∧ (s.stn.mode ≠ .stop ∨ s.stn.faultStop = false ∧ s.stn.stopCause ≠ 7) ∧
      s.pwr.quiet.getLsbD 13 = false
    let reason : Nat → Prop := fun r =>
      (r = 4 ∧ isTag = true) ∨ (isTag = false ∧
        ((r = 5 ∧ s.pair.state = 4) ∨ (s.pair.state ≠ 4 ∧
          ((r = 3 ∧ ¬ works) ∨ (works ∧
            ((r = 2 ∧ ∀ m, last = some m → m < n.toNat) ∨
             (r = 1 ∧ (∃ m, last = some m ∧ n.toNat ≤ m) ∧ ∀ x, s.vars.find? (fun x => x.idx == n.toNat) = some x → x.opw = false)))))))
    (isTag = false → s.pair.state ≠ 4 → works → (∃ m, last = some m ∧ n.toNat ≤ m) →
      (∃ x, s.vars.find? (fun x => x.idx == n.toNat) = some x ∧ x.opw = true) →
      DoesSilently (.dataWrite sess n isTag v) s [.stn] (fun t =>
        t.stn = { s.stn with accepted := s.stn.accepted ++ [.write n.toNat v] })) ∧
    ∀ r, reason r → Does (.dataWrite sess n isTag v) s [.stn] (fun t =>
      t.stn = { s.stn with dwVar := n, dwReason := BitVec.ofNat 4 r } ∧ (Settled s → Raised t 508) ∧
      Noted s t 0x5002 sess.val 1 (leN 4 n.toNat ++ [BitVec.ofNat 8 r]))

/-! ### Modes and engines -/

/-- R69: a mode command that the mode allows is taken for the next T1 boundary and replaces one that has not taken effect; any other
is refused, recorded, and leaves a waiting one.
The model's choices here: assumption log 6, 27. -/
def Obligations.ModeCommands : Prop :=
  ∀ (s : State) (sess : Fin 4) (c : Instr) (n : BitVec 3), Windowed s sess 0x308 →
    (c, n) ∈ [(Instr.stop sess, 1#3), (.runCold sess, 2), (.runWarm sess, 3), (.runHot sess, 4), (.release sess, 5)] →
    let mode := (n = 1 ∧ s.stn.mode ≠ .stop) ∨ ((n = 2 ∨ n = 3) ∧ s.stn.mode = .stop) ∨
      (n = 4 ∧ s.stn.mode = .stop ∧ s.stn.faultStop = false ∧ (s.stn.stopCause = 2 ∨ s.stn.stopCause = 6)) ∨
      (n = 5 ∧ s.stn.mode = .hold)
    let ok := mode ∧ s.img.running.isSome = true ∧ s.pair.state ≠ 4 ∧ s.pwr.quiet.getLsbD 13 = false
    (ok → DoesSilently c s [.stn] (fun t =>
      t.stn = { s.stn with
        modeCmd := n, modeSess := sess.val, runCarried := false
        accepted := (s.stn.accepted.filter (fun x => match x with | .mode _ _ => false | _ => true)) ++ [.mode n sess.val] })) ∧
    (¬ ok → Does c s [.stn] (fun t =>
      t.stn = (if s.stn.modeCmd = 0 then { s.stn with runCarried := false } else s.stn) ∧
      Noted s t 0x5005 sess.val 1 [n.zeroExtend 8, BitVec.ofNat 8 s.stn.mode.code, s.stn.stopCause.zeroExtend 8]))

/-- R7, R83: CLR_STAT clears SCAN_MAX and MERGE_CNT; an engine restart waits for the next T1 boundary, and is refused in RUN.
R26, R58, R76, R86, R112: a scan's window opens 4 µs after its boundary: a new scan is charged its entry and stops before its first
instruction where the breakpoint stands, a scan held at a breakpoint goes on.
The model's choices here: assumption log 5, 19, 26. -/
def Obligations.EngineScans : Prop :=
  (∀ (s : State) (sess : Fin 4) (e : Fin 16), Windowed s sess (0x10002C + 0x10000 * e.val) →
    DoesSilently (.leClrStat sess e) s [.le] (fun t => ∀ x : Fin 17,
      Engine.SameBut (if x.val = e.val then { s.le[x] with scanMax := 0, mergeCnt := 0 } else s.le[x]) t.le[x] ∧
      (Quiet s → t.le[x].mergeCnt = if x.val = e.val then 0 else s.le[x].mergeCnt)) ∧
    (s.stn.mode = .run ∨ s.pair.state = 4 →
      Does (.engineRestart sess e) s [] (fun t => Noted s t 0x1801 e.val 1 [BitVec.ofNat 8 s.stn.mode.code])) ∧
    (s.stn.mode ≠ .run → s.pair.state ≠ 4 → DoesSilently (.engineRestart sess e) s [.stn, .le] (fun t =>
      t.stn = { s.stn with accepted := s.stn.accepted ++ [.engRestart e] } ∧
      ∀ x : Fin 17, Engine.SameBut (if x.val = e.val then { s.le[x] with restart := true } else s.le[x]) t.le[x]))) ∧
  (∀ (s : State) (e : Fin 17), alive s = true → s.le[e].running = true → s.le[e].window = true → s.le[e].evtActive = false →
    let g := s.le[e]
    let opened := { g with window := false, cyc := { g.cyc with phase := .run, cost := if e.val = 16 then 128 else 32 } }
    let b := s.stn.lastB / tierNs g.tier.toNat * tierNs g.tier.toNat
    let opens := fun (P : State → Prop) => Does (.scanStart e) s [.le, .stn] (fun t => PassedTo s t (b + 4000 + lateOf s b) ∧
      t.stn.cnt = s.stn.cnt ∧ (∀ x : Fin 17, x ≠ e → Engine.SameBut s.le[x] t.le[x]) ∧ P t)
    (g.cyc.phase = .resume → opens (fun t => t.stn.mode = s.stn.mode ∧
      Engine.SameBut { g with window := false, cyc := { g.cyc with phase := .run } } t.le[e])) ∧
    (g.cyc.phase = .ready → (e.val = 16 ∨ g.bkptEn = false ∨ g.cyc.pc ≠ g.bkptAddr.toNat) →
      opens (fun t => t.stn.mode = s.stn.mode ∧ Engine.SameBut opened t.le[e])) ∧
    (g.cyc.phase = .ready → e.val < 16 → g.bkptEn = true → g.cyc.pc = g.bkptAddr.toNat →
      opens (fun t => Engine.SameBut { opened with
          frozen := true, frozenBy := 1, released := false, freezeReq := false, stepOne := false, pcHold := BitVec.ofNat 16 g.cyc.pc
          cyc := { opened.cyc with phase := .held } } t.le[e] ∧
        (s.stn.mode ≠ .stop → t.stn.mode = .hold) ∧ (Settled s → Raised t (304 + 4 * e.val + 2)))))

/-- R64, R65, R66, R77: an overrun, an engine fault and the hold time-out are fault STOPs that name their cause and engine, set the
engine's flag and raise its event.
The model's choices here: assumption log 5, 6, 19. -/
def Obligations.FaultStops : Prop :=
  ∀ s : State, alive s = true →
    (∀ l : List (Fin 16 × Fin 5), (∃ x ∈ l, Unfinished s x.1 x.2) →
      let ends := fun (x : Fin 16 × Fin 5) => windowEnd s ⟨x.1.val, by omega⟩ x.2
      let first := fun (x : Fin 16 × Fin 5) => x ∈ l ∧ Unfinished s x.1 x.2 ∧ ∀ y ∈ l, Unfinished s y.1 y.2 → ends x ≤ ends y
      ∃ t, exec (.taskOverrun l) s = .next t ∧ FaultStopped s t 3 ∧
        (∀ x, first x → PassedTo s t (ends x) ∧ (∀ e : Fin 17, e.val = x.1.val → t.le[e].overrun = true) ∧
          t.stn.ovrEngine.toNat ≤ x.1.val ∧ (Settled s → Raised t (304 + 4 * x.1.val))) ∧
        ∃ x, first x ∧ t.stn.ovrEngine.toNat = x.1.val ∧ t.stn.ovrEvent = decide (x.2 ≠ 0)) ∧
    (∀ (e : Fin 16) (f : Fin 17) (kind : EngFault), f.val = e.val → s.le[f].running = true →
      ∃ t, exec (.engineFault e kind) s = .next t ∧ FaultStopped s t 4 ∧ t.stn.time = s.stn.time ∧ t.le[f].fault = true ∧
        t.stn.ovrEngine.toNat = e.val ∧ (Settled s → Raised t (305 + 4 * e.val)) ∧
        ∃ p, Noted s t 0x5004 e.val 3 ([4, if f.val = e.val ∧ s.le[f].evtActive ∧ s.le[f].evtBegun then 1 else 0,
          match kind with | .ecc => 1 | .opcode => 2 | .branchStack => 3, 0] ++ p)) ∧
    ((∃ e : Fin 17, e.val < 16 ∧ s.le[e].frozen = true ∧ s.le[e].released = false) →
      ∃ t, exec .holdTimeout s = .next t ∧ FaultStopped s t 5 ∧ t.stn.time = s.stn.time ∧ t.stn.ovrEngine = s.stn.ovrEngine ∧
        ∃ p, Noted s t 0x5004 0xFFFF 3 (5 :: p))

/-- R65, R88, R91, R96: an instruction of an engine that has no instruction at its index, or stands there and finds no space on the branch
stack or no entry of its kind on it, changes nothing of its own: it is an engine fault. -/
def Obligations.InstructionFaults : Prop :=
  ∀ (s : State) (e : Fin 17) (k : Fin 5) (c : Instr) (target : BitVec 16), e.val < 16 → alive s = true → s.le[e].mayRun k = true →
    let faults := (∀ w, s.le[e].code[(s.le[e].task k).pc]? = some w → logicWord c = some w) → ∃ t, exec c s = .next t ∧ FaultStopped s t 4 ∧
      (k = 0 → t.stn.time = s.stn.time) ∧ t.le[e].fault = true ∧ t.stn.ovrEngine.toNat = e.val ∧ t.stn.ovrEvent = decide (k ≠ 0)
    let st := (s.le[e].task k).stack
    (c ∈ [Instr.nop e k, .not e k, .add e k, .divf e k, .jmp e k target, .end_ e k, .evt e k] →
      s.le[e].code.length ≤ (s.le[e].task k).pc → faults) ∧
    (c ∈ [Instr.andOpen e k, .orOpen e k, .xorOpen e k, .call e k target] → 16 ≤ st.length → faults) ∧
    (c = .branchClose e k → (∀ la lt op r, st ≠ .branch la lt op :: r) → faults) ∧
    (c = .ret e k → (∀ n r, st ≠ .ret n :: r) → faults) ∧ (c = .end_ e k → st ≠ [] → faults)

/-- R78: the hold permit follows its pin; its fall in HOLD starts the 10 ms, and their end asks for a commanded STOP at the next T1
boundary.
R75–R77, R79: what a session asks of an engine in HOLD: accepted commands wait for the next T1 boundary, STEP and RESUME start the
hold timer again, and what R75 does not allow, or a standby is asked, has no effect.
The model's choices here: assumption log 6, 19. -/
def Obligations.HoldInstant : Prop :=
  (∀ s : State, alive s = true →
    (∀ level, DoesSilently (.holdPermitChange level) s [.stn] (fun t =>
      t.stn = { s.stn with
        holdPermit := level, permitCount := if s.pair.state = 4 then s.stn.permitCount else !level && decide (s.stn.mode = .hold) })) ∧
    (s.pair.state ≠ 4 → s.stn.permitCount = true → s.stn.mode = .hold → s.stn.holdPermit = false →
      DoesSilently .holdPermitWithdrawn s [.stn] (fun t =>
        t.stn = { s.stn with permitCount := false, accepted := s.stn.accepted ++ [.holdPermitStop] }))) ∧
  (∀ (s : State) (sess : Fin 4) (e : Fin 16) (addr : BitVec 16) (en : Bool),
    Windowed s sess (0x10002C + 0x10000 * e.val) →
    let takes := s.pair.state ≠ 4
    let may := s.stn.mode ≠ .stop ∧ s.stn.commissioning = true ∧ s.stn.holdPermit = true
    let asks := fun (c : Instr) (n : BitVec 2) (timer ok : Prop) =>
      (takes → ok → DoesSilently c s [.stn, .le] (fun t =>
        (timer → t.stn = { s.stn with holdT0 := s.stn.time, accepted := s.stn.accepted ++ [.hold e n s.stn.tierRef.toNat] }) ∧
        (¬ timer → t.stn = { s.stn with accepted := s.stn.accepted ++ [.hold e n s.stn.tierRef.toNat] }) ∧
        ∀ x : Fin 17, Engine.SameBut (if x.val = e.val then { s.le[x] with holdCmd := n } else s.le[x]) t.le[x])) ∧
      (¬ (takes ∧ ok) → DoesSilently c s [] (fun _ => True))
    (takes → (en = false ∨ may) → DoesSilently (.breakpointSet sess e addr en) s [.stn] (fun t =>
      t.stn = { s.stn with accepted := s.stn.accepted ++ [.bkpt e addr en] })) ∧
    (¬ (takes ∧ (en = false ∨ may)) → DoesSilently (.breakpointSet sess e addr en) s [] (fun _ => True)) ∧
    asks (.step sess e) 1 True may ∧ asks (.resume sess e) 2 True True ∧ asks (.freeze sess e) 3 False may)

/-! ### Safety function -/

/-- R240–R242: the watchdog's end and the causes of an SLE fault, a coded copy that does not stand for its word among them, stop the SLE
and put every used output into FAULT; the watchdog switches the test-pulse sources off as well.
The model's choices here: assumption log 5, 19, 71. -/
def Obligations.SleFaults : Prop :=
  ∀ s : State, alive s = true → s.saf.sleFault = false →
    let stops := fun (c : Instr) (cause : Nat) (P : State → Prop) => Does c s [.saf, .le] (fun t =>
      t.saf.sleFault = true ∧ t.saf.sleCause.toNat = cause ∧ t.saf.startReq = false ∧ OutputsFaulted s t 6 ∧
      t.saf.si = s.saf.si ∧ t.le[(16 : Fin 17)].running = false ∧ t.le[(16 : Fin 17)].cyc.phase = .idle ∧
      t.le[(16 : Fin 17)].cyc.out = [] ∧ Engine.SameWords s.le[(16 : Fin 17)] t.le[(16 : Fin 17)] ∧
      (∀ e : Fin 17, e.val < 16 → Engine.SameBut s.le[e] t.le[e]) ∧ (Settled s → Raised t 432) ∧ P t)
    (s.pwr.quiet.getLsbD 7 = false → s.saf.wdOn = true → s.saf.wdExpired = false →
      stops .sleWatchdogExpire 5 (fun t => t.saf.wdExpired = true ∧ t.saf.wdOn = false ∧ (Settled s → Raised t 433) ∧
        ∀ k : Fin 4, t.saf.tp[k] = { s.saf.tp[k] with high := false, pulsing := false, retry := false })) ∧
    ∀ c : SleCause, s.le[(16 : Fin 17)].running = true →
      (match c with
        | .checker main coded a => main ≠ ~~~coded.rotateRight (a % 32)
        | .code v c a => v ≠ ~~~c.rotateRight (a % 32)
        | .overrun => s.le[(16 : Fin 17)].cyc.phase = .ready ∨ s.le[(16 : Fin 17)].cyc.phase = .run
        | .ecc => True) →
      stops (.sleFault c) (match c with | .checker _ _ _ => 1 | .code _ _ _ => 2 | .overrun => 3 | .ecc => 4)
        (fun t => t.saf.tp = s.saf.tp)

/-- R244, R245: a used source's pulse masks its own inputs and notes what every pulsed input read; its end judges them; 200 µs later the
mask goes; a fault switches the source off and faults its inputs; a retry that finds nothing ends the fault.
R246, R247: a discrepancy of a pair is a channel fault of both its inputs: each latches its bit, counts, and has cause 3.
The model's choices here: assumption log 5, 19, 43. -/
def Obligations.PulseJudgements : Prop :=
  (∀ (s : State) (k : Fin 4) (reads : BitVec 16), alive s = true → s.pwr.quiet.getLsbD 7 = false →
    let others := fun (t : State) => t.saf.so = s.saf.so ∧ ∀ j : Fin 4, j ≠ k → t.saf.tp[j] = s.saf.tp[j]
    let src := s.saf.tp[k]
    (tpUsed s k = true → s.saf.wdExpired = false →
      (src.fault = true → DoesSilently (.tpPulseStart k reads) s [.saf] (fun t => others t ∧ t.saf.si = s.saf.si ∧
        t.saf.tp[k] = { src with high := true, retry := true })) ∧
      (src.fault = false → DoesSilently (.tpPulseStart k reads) s [.saf] (fun t => others t ∧
        t.saf.tp[k] = { src with high := false, pulsing := true } ∧
        ∀ n : Fin 16, if s.saf.si[n].mode = 1 then
            t.saf.si[n].before.getLsbD k.val = reads.getLsbD n.val ∧ t.saf.si[n].offAt.getLsbD k.val = false ∧
            (∀ j : Fin 4, j ≠ k → t.saf.si[n].before.getLsbD j.val = s.saf.si[n].before.getLsbD j.val) ∧
            (s.saf.si[n].on k = true → t.saf.si[n].masked = true ∧ t.saf.si[n].held = s.saf.si[n].reading) ∧
            (s.saf.si[n].on k = false → t.saf.si[n].masked = s.saf.si[n].masked ∧ t.saf.si[n].held = s.saf.si[n].held)
          else t.saf.si[n] = s.saf.si[n]))) ∧
    (src.pulsing = true → Does (.tpPulseEnd k reads) s [.saf] (fun t => others t ∧
      t.saf.tp[k] = { src with high := true, pulsing := false } ∧
      ∀ n : Fin 16, (s.saf.si[n].mode ≠ 1 → t.saf.si[n] = s.saf.si[n]) ∧
        (s.saf.si[n].on k = true → s.saf.si[n].before.getLsbD k.val = false → t.saf.si[n].stuck = 0 ∧ t.saf.si[n].pend = s.saf.si[n].pend) ∧
        (s.saf.si[n].on k = true → s.saf.si[n].before.getLsbD k.val = true → reads.getLsbD n.val = true →
          t.saf.si[n].stuck = s.saf.si[n].stuck + 1 ∧ (1 ≤ s.saf.si[n].stuck → ∃ p ∈ t.saf.si[n].pend, p.cause = 1)) ∧
        (s.saf.si[n].on k = true → s.saf.si[n].before.getLsbD k.val = true → reads.getLsbD n.val = false → t.saf.si[n].stuck = 0))) ∧
    ((∃ n : Fin 16, s.saf.si[n].on k = true ∧ s.saf.si[n].masked = true) → Does (.tpMaskEnd k reads) s [.saf] (fun t => others t ∧
      t.saf.tp[k] = src ∧ ∀ n : Fin 16,
        (s.saf.si[n].on k = true → t.saf.si[n] = { s.saf.si[n] with masked := false }) ∧
        (s.saf.si[n].on k = false → s.saf.si[n].offAt.getLsbD k.val = true → reads.getLsbD n.val = true →
          t.saf.si[n].seenTp.toNat = k.val ∧ ∃ p ∈ t.saf.si[n].pend, p.cause = 2))) ∧
    (∀ overload, tpUsed s k = true → src.fault = false → (overload = true ∨ src.pulsing = true) →
      Does (.tpFault k overload) s [.saf] (fun t => others t ∧ (Settled s → Raised t 435) ∧
        t.saf.tp[k] = { src with
          high := false, pulsing := false, retry := false, fault := true, latched := true, freeNs := 0
          cause := if overload then 2 else 1 } ∧
        ∀ n : Fin 16, if s.saf.si[n].on k then ∃ p ∈ t.saf.si[n].pend, p.cause = 4 else t.saf.si[n] = s.saf.si[n])) ∧
    (∀ limit conducted, src.retry = true → DoesSilently (.tpRetryEnd k limit conducted) s [.saf] (fun t => others t ∧
      t.saf.si = s.saf.si ∧ t.saf.tp[k] =
        if limit || conducted then { src with high := false, retry := false }
        else { src with high := true, retry := false, fault := false, cause := 0, freeNs := 0 }))) ∧
  (∀ (s : State) (p : Fin 8) (a b : Fin 16), alive s = true → s.pwr.quiet.getLsbD 7 = false → a.val = 2 * p.val → b.val = 2 * p.val + 1 →
    s.saf.si[a].mode ≠ 0 → s.saf.si[a].paired = true → s.saf.si[a].pend = [] → s.saf.si[b].pend = [] →
    onLevel s a ≠ onLevel s b →
    Does (.discrepancy p) s [.saf] (fun t => t.saf.so = s.saf.so ∧ t.saf.tp = s.saf.tp ∧ (Settled s → Raised t 434) ∧
      ∀ n : Fin 16, t.saf.si[n] = if n = a ∨ n = b then
          { s.saf.si[n] with
            pend := [{ cause := 3, offNs := 0, offSeen := false, passes := 0 }], latched := true, cnt := satInc s.saf.si[n].cnt }
        else s.saf.si[n]))

/-- R249–R252: loss of SL+ trips every output in ON; a dark test opens one switch and closes it again, and a switch that conducts, or a
current limit, puts the output into FAULT with both switches off; CLR_SO_FAULT ends the causes it may end.
The model's choices here: assumption log 5, 19, 44. -/
def Obligations.SafetyOutputs : Prop :=
  ∀ s : State, alive s = true →
    let so := fun (c : Instr) (k : Fin 8) (P : SoOut → Prop) => Does c s [.saf] (fun t =>
      t.saf.si = s.saf.si ∧ t.saf.tp = s.saf.tp ∧ P t.saf.so[k] ∧ ∀ j : Fin 8, j ≠ k → t.saf.so[j] = s.saf.so[j])
    let faulted := fun (k : Fin 8) (cause : Nat) (o : SoOut) => o.state = 2 ∧ o.hs = false ∧ o.ls = false ∧ o.dark = none ∧ o.latched = true ∧
      cause ∈ o.pend ∧ o.tripCnt = s.saf.so[k].tripCnt
    (s.saf.lp = 0 → Does .slplusLoss s [.saf] (fun t => t.saf.lpGone = true ∧ t.saf.si = s.saf.si ∧ t.saf.tp = s.saf.tp ∧ ∀ k : Fin 8,
      t.saf.so[k] = (if s.saf.so[k].state = 1 then
          { s.saf.so[k] with hs := false, ls := false, dark := none, state := 0, tripCnt := satInc s.saf.so[k].tripCnt }
        else s.saf.so[k]) ∧ (s.saf.so[k].state = 1 → Settled s → Raised t (440 + k.val)))) ∧
    (∀ k : Fin 8, s.saf.so[k].state = 1 → s.saf.so[k].used = true →
      so (.soShutoff k) k (faulted k 4) ∧
      (∀ ls, s.saf.so[k].dark = none → (if ls then usesLs s else usesHs s) = true → so (.darkTest k ls) k (fun o =>
        o = { s.saf.so[k] with dark := some ls, hs := s.saf.so[k].hs && ls, ls := s.saf.so[k].ls && !ls })) ∧
      (∀ ls, s.saf.so[k].dark = some ls →
        so (.darkTestEnd k ls false) k (fun o =>
          o = { s.saf.so[k] with dark := none, hs := s.saf.so[k].hs || !ls, ls := s.saf.so[k].ls || ls }) ∧
        so (.darkTestEnd k ls true) k (faulted k (if ls then 2 else 1)))) ∧
    (∀ mv, Does (.slPlusChange mv) s [.saf] (fun t => let c := supplyClass 12000 16000 mv s.saf.lp
      t.saf = { s.saf with lp := c, lpGone := s.saf.lpGone && c == 0 })) ∧
    ∀ sess, Windowed s sess 0xA001C →
      (DoesSilently (.clrSoFault sess) s [.saf] (fun t => t.saf.si = s.saf.si ∧ t.saf.tp = s.saf.tp ∧ ∀ k : Fin 8,
        if s.saf.so[k].state = 2 then
          (∀ c, c ∈ t.saf.so[k].pend ↔ c ∈ s.saf.so[k].pend ∧ c ≠ 4 ∧ (c = 5 → s.saf.so[k].foreign = true)) ∧
          (t.saf.so[k].state = if t.saf.so[k].pend = [] then 0 else 2) ∧
          t.saf.so[k] = { s.saf.so[k] with pend := t.saf.so[k].pend, state := t.saf.so[k].state }
        else t.saf.so[k] = s.saf.so[k])) ∧
      DoesSilently (.safClrCnt sess) s [.saf, .le] (fun t => t.saf.tp = s.saf.tp ∧
        (∀ n : Fin 16, t.saf.si[n] = { s.saf.si[n] with cnt := 0 }) ∧
        (∀ k : Fin 8, t.saf.so[k] = { s.saf.so[k] with tripCnt := 0, rejCnt := 0 }) ∧
        ∀ e : Fin 17, Engine.SameBut (if e.val = 16 then { s.le[e] with scanMax := 0 } else s.le[e]) t.le[e])

/-! ### Field points and banks -/

/-- R219, R224, R225: a diagnostic sets its state bit and its latched bit, counts and raises the point's source when newly latched; the
shut-off of a short circuit latches the switch off as well.
R221: a PWM period takes the latched duty and its on time on the 20 ns grid; on times and off times below 10 µs are none.
The model's choices here: assumption log 1, 5, 19, 37. -/
def Obligations.PointEvents : Prop :=
  (∀ (s : State) (n : Fin 96) (d : Diag), fieldPowered s (bankOf n) = true →
    let p := s.fld.pts[n]
    let sets := fun (c : Instr) (d : Diag) (q : Pt) => Does c s [.fld] (fun t =>
      let m : BitVec 5 := 1#5 <<< (match d with | .openWire => 0 | .short => 1 | .over => 2 | .rbMis => 3 | .supply => 4 : Nat)
      t.fld.banks = s.fld.banks ∧ t.fld.dist = s.fld.dist ∧ t.fld.distRb = s.fld.distRb ∧ (∀ j : Fin 96, j ≠ n → t.fld.pts[j] = s.fld.pts[j]) ∧
      t.fld.pts[n] = { q with
        diag := p.diag ||| m, diagL := p.diagL ||| m, diagCnt := if p.diagL &&& m = 0 then satInc p.diagCnt else p.diagCnt } ∧
      (p.diagL &&& m = 0 → Settled s → Raised t (16 * (n.val / 12) + n.val % 12)))
    (diagApplies p d = true → (d = .supply → s.fld.banks[bankOf n].lp ≠ 2) → sets (.diagDetect n d) d p) ∧
    (p.isSwitch = true → p.prot = 0 → (∃ w, driven s n = some w ∧ w ≠ 0) → sets (.shortCircuitShutoff n) .short { p with prot := 1 })) ∧
  ((∀ (s : State) (n : Fin 96), fieldPowered s (bankOf n) = true → s.fld.pts[n].mode = 7 → s.fld.pts[n].pwmRun = true →
    DoesSilently (.pwmPeriodStart n) s [.fld] (fun t =>
      let d := s.fld.pts[n].eff.getD 0
      t.fld.banks = s.fld.banks ∧ t.fld.dist = s.fld.dist ∧ t.fld.distRb = s.fld.distRb ∧
      (∀ j : Fin 96, j ≠ n → t.fld.pts[j] = s.fld.pts[j]) ∧
      t.fld.pts[n] = { s.fld.pts[n] with duty := d, onNs := pwmOn d.toNat (fld s.fld.pts[n].pwmPeriod 0 24) })) ∧
  ∀ duty period : Nat,
    let on := pwmOn duty period
    let exact := min duty 65536 * period * 100
    (on = 0 ∨ 10000 ≤ on) ∧ (on = 100 * period ∨ 100 * period < 10000 ∨ 10000 ≤ 100 * period - on) ∧
    (on = 0 ∨ on = 100 * period ∨ (on % 20 = 0 ∧ 65536 * on ≤ exact + 655360 ∧ exact ≤ 65536 * on + 655360)))

/-- R223, R226–R230: what each event of a bank does to the bank and to its points; every other bank and point is as it was.
R7, R225: CLR_DIAG leaves of a bank's latched bits those whose condition stands; CLR_CNT clears the counts of the bank and of its
points.
The model's choices here: assumption log 5, 19, 37. -/
def Obligations.BankControl : Prop :=
  (∀ (s : State) (b : Fin 8), (s.pwr.power = .run ∨ s.pwr.power = .warm) →
    let bank := s.fld.banks[b]
    let event := fun (c : Instr) (k : Bank) (P : Fin 96 → Pt → Prop) (src : Option Nat) => Does c s [.fld] (fun t =>
      t.fld.banks[b] = k ∧ (∀ j : Fin 8, j ≠ b → t.fld.banks[j] = s.fld.banks[j]) ∧ t.fld.dist = s.fld.dist ∧
      t.fld.distRb = s.fld.distRb ∧ (∀ n : Fin 96, if n.val / 12 = b.val then P n t.fld.pts[n] else t.fld.pts[n] = s.fld.pts[n]) ∧
      ∀ i, src = some i → Settled s → Raised t (16 * b.val + i))
    let noSupply := fun (n : Fin 96) (q : Pt) => if s.fld.pts[n].mode = 0 then q.diag = s.fld.pts[n].diag ∧ q.diagL = s.fld.pts[n].diagL
      else q.diag = s.fld.pts[n].diag ||| 16#5 ∧ q.diagL = s.fld.pts[n].diagL ||| 16#5
    (bank.fsPow = true →
      ((∃ n : Fin 96, n.val / 12 = b.val ∧ s.fld.pts[n].isSwitch = true) → event (.bankOverload b) { bank with ovl := true }
        (fun n q => q = if s.fld.pts[n].isSwitch && decide (s.fld.pts[n].prot = 0) then { s.fld.pts[n] with prot := 2 } else s.fld.pts[n])
        (some 15)) ∧
      (∀ mv ma, let c := supplyClass 12000 16000 mv bank.lp
        event (.lplusChange b mv ma) { bank with lp := c, volt := satNat 16 (mv / 10), curr := satNat 16 ma }
          (fun n q => q = if c = 2 ∧ s.fld.pts[n].isOut = true then
            { s.fld.pts[n] with diag := s.fld.pts[n].diag &&& 0b01111#5 } else s.fld.pts[n])
          (if c ≠ bank.lp ∧ c ≠ 2 then some 14 else none))) ∧
    (bank.fsOk = true →
      event (.fieldSideFail ⟨b, false⟩) { bank with fsOk := false }
        (fun n q => q = { s.fld.pts[n] with diag := q.diag, diagL := q.diagL, diagCnt := q.diagCnt } ∧ noSupply n q) (some 15)) ∧
    (bank.fsOk = true ∨ bank.fsPow = true →
      event (.fieldSideFail ⟨b, true⟩) { bank with fsOk := false, fsPow := false, open_ := false }
        (fun n q => q.eff = none ∧ q.pwmRun = false ∧ q.cfg = s.fld.pts[n].cfg ∧ q.smp = s.fld.pts[n].smp ∧ q.count = s.fld.pts[n].count ∧
          noSupply n q) (some 15)) ∧
    (bank.fsPow = true →
      (bank.open_ = true → event (.shutterExpire b) { bank with open_ := false, closeCnt := satInc bank.closeCnt }
        (fun n q =>
          let p := s.fld.pts[n]
          q = if p.isOut then
              let safe := match p.safe with
                | 0 => none
                | 1 => if p.mode = 2 then some 1#32 else if p.mode = 7 then some 65536#32 else none
                | 2 => p.carries s.stn.tierRef.toNat
                | _ => some (p.clampCmd p.safeVal)
              { p with eff := safe, showAt := 0, duty := safe.getD 0 }
            else p) (some 12)) ∧
      (bank.aoWait = true → event (.aoWaitExpire b) { bank with aoWait := false } (fun n q => q = s.fld.pts[n]) none)) ∧
    (bank.fsOk = false → event (.fieldSideRecover b)
      { bank with fsOk := true, fsPow := true, open_ := false, drive := false, aoWait := false }
      (fun n q => q.eff = none ∧ q.pwmRun = false ∧ q.started = false ∧ q.since = s.stn.time ∧ q.conv = [] ∧ q.edges = [] ∧
        q.count = s.fld.pts[n].count ∧ q.diagL = s.fld.pts[n].diagL ∧ q.diagCnt = s.fld.pts[n].diagCnt ∧ q.cfg = s.fld.pts[n].cfg ∧
        q.diag = if s.fld.pts[n].isOut = true ∧ bank.lp ≠ 2 then s.fld.pts[n].diag else s.fld.pts[n].diag &&& 0b01111#5) none)) ∧
  (∀ (s : State) (sess : Fin 4) (b : Fin 8), Opened s sess →
    Does (.clrDiag sess b) s [.fld] (fun t => t.fld.banks = s.fld.banks ∧ t.fld.dist = s.fld.dist ∧ t.fld.distRb = s.fld.distRb ∧ ∀ n : Fin 96,
      if n.val / 12 = b.val then
        t.fld.pts[n].diagL = s.fld.pts[n].diagL &&& s.fld.pts[n].diag ∧
        t.fld.pts[n] = { s.fld.pts[n] with diagL := t.fld.pts[n].diagL, diagCnt := t.fld.pts[n].diagCnt } ∧
        s.fld.pts[n].diagCnt.toNat ≤ t.fld.pts[n].diagCnt.toNat
      else t.fld.pts[n] = s.fld.pts[n]) ∧
    DoesSilently (.fldClrCnt sess b) s [.fld] (fun t => t.fld.dist = s.fld.dist ∧ t.fld.distRb = s.fld.distRb ∧
      (∀ j : Fin 8, t.fld.banks[j] = if j = b then { s.fld.banks[j] with closeCnt := 0 } else s.fld.banks[j]) ∧
      ∀ n : Fin 96, t.fld.pts[n] = if n.val / 12 = b.val then { s.fld.pts[n] with diagCnt := 0 } else s.fld.pts[n]))

/-! ### Loops -/

/-- R133, R134: at a release instant every sample of the engine whose instant it is waits; an idle engine takes, of the first that wait
of each loop, the one with the earliest deadline, of the lower loop where two are equal.
R134, R135, R151: when a sample completes, its shadow state replaces the loop state, the counts move on and the engine's least slack
follows.
R135, R155: an abandoned sample leaves, is counted and flagged; as many in a row as the limit put the loop into FAULT.
The model's choices here: assumption log 19, 36. -/
def Obligations.LoopSamples : Prop :=
  (∀ (s : State) (n : Fin 192) (a c : List LSample) (x : LSample), alive s = true →
    s.lp.loops[n].samples = a ++ x :: c → (∀ y ∈ a, y.phase ≠ .taken) → x.phase = .taken →
    let at_ := x.t0 + x.late + s.lp.loops[n].c.relNs
    let freed : Fin 192 → Loop := fun j => if j.val / 8 = n.val / 8 then
        { s.lp.loops[j] with samples := s.lp.loops[j].samples.map (fun y =>
            if y.phase = .taken ∧ y.t0 + y.late + s.lp.loops[j].c.relNs ≤ at_ then { y with phase := .released } else y) }
      else s.lp.loops[j]
    let busy := ∃ j : Fin 192, j.val / 8 = n.val / 8 ∧ ∃ y ∈ s.lp.loops[j].samples, y.phase = .running
    let leaves := fun (P : State → Prop) => Does (.loopSampleRelease n) s [.lp, .stn] (fun t => PassedTo s t at_ ∧ t.stn.cnt = s.stn.cnt ∧
      t.lp.eng = s.lp.eng ∧ t.lp.frozen = s.lp.frozen ∧ P t)
    (busy → leaves (fun t => ∀ j : Fin 192, t.lp.loops[j] = freed j)) ∧
    (¬ busy → leaves (fun t => ∃ (j : Fin 192) (y : LSample) (p q : List LSample), j.val / 8 = n.val / 8 ∧
      (freed j).samples = p ++ y :: q ∧ y.phase = .released ∧ (∀ z ∈ p, z.phase ≠ .released) ∧
      (∀ (i : Fin 192) (z : LSample), i.val / 8 = n.val / 8 → (freed i).samples.find? (fun w => w.phase == .released) = some z →
        deadline (freed j) y < deadline (freed i) z ∨ (deadline (freed j) y = deadline (freed i) z ∧ j ≤ i)) ∧
      ∀ i : Fin 192, t.lp.loops[i] = if i = j then { freed j with samples := p ++ { y with phase := .running } :: q } else freed i))) ∧
  (∀ (s : State) (n : Fin 192) (slack : Nat) (a c : List LSample) (x : LSample), alive s = true →
    s.lp.loops[n].samples = a ++ x :: c → (∀ y ∈ a, y.phase ≠ .running) → x.phase = .running →
    (∀ j : Fin 192, j.val / 8 = n.val / 8 → ∀ y ∈ s.lp.loops[j].samples, y.phase ≠ .released) →
    let l := s.lp.loops[n]
    let r := loopCompute l.c l.st l.stopW x
    Does (.loopSampleComplete n slack) s [.lp] (fun t => t.lp.frozen = s.lp.frozen ∧
      (∀ j : Fin 192, j ≠ n → t.lp.loops[j] = s.lp.loops[j]) ∧
      t.lp.loops[n].samples = a ++ { x with phase := .done, res := r.out } :: c ∧
      t.lp.loops[n].st = r.st ∧ t.lp.loops[n].consec = 0 ∧ t.lp.loops[n].sampleCnt = l.sampleCnt + 1 ∧ t.lp.loops[n].missCnt = l.missCnt ∧
      t.lp.loops[n].out = l.out ∧ t.lp.loops[n].outTag = l.outTag ∧ t.lp.loops[n].lim = r.lim ∧ t.lp.loops[n].pvBad = r.pvBad ∧
      t.lp.loops[n].spBad = r.spBad ∧ t.lp.loops[n].sat = (l.sat || r.sat) ∧ t.lp.loops[n].pvReg = x.pv.val ∧
      (x.stop ≠ 0 ∨ l.state = 7 ∨ s.stn.mode = .stop → t.lp.loops[n].state = l.state) ∧
      (x.stop = 0 → l.state ≠ 7 → s.stn.mode ≠ .stop → t.lp.loops[n].state = r.state) ∧
      (slack < 2 ^ 20 → t.lp.eng[engOf n].minSlack.toNat = min slack s.lp.eng[engOf n].minSlack.toNat) ∧
      (∀ e : Fin 24, e ≠ engOf n → t.lp.eng[e] = s.lp.eng[e]))) ∧
  (∀ (s : State) (n : Fin 192), alive s = true → (∃ x ∈ s.lp.loops[n].samples, x.phase ≠ .done) →
    let l := s.lp.loops[n]
    let e := engOf n
    let faults := l.c.missLim ≠ 0 ∧ l.c.missLim ≤ (satInc l.consec).toNat ∧ l.state ≠ 7
    Does (.loopSampleMiss n) s [.lp, .stn] (fun t =>
      (∀ x, l.samples.find? (fun x => x.phase != .done) = some x → PassedTo s t (deadline l x)) ∧
      t.lp.loops[n].samples.length + 1 = l.samples.length ∧ t.lp.loops[n].miss = true ∧ t.lp.loops[n].missCnt = satInc l.missCnt ∧
      t.lp.loops[n].consec = satInc l.consec ∧ t.lp.loops[n].st = l.st ∧ t.lp.loops[n].out = l.out ∧
      t.lp.loops[n].sampleCnt = l.sampleCnt ∧
      (∀ i : Fin 8, t.lp.eng[e].miss.getLsbD i.val = (s.lp.eng[e].miss.getLsbD i.val || decide (i.val = n.val % 8))) ∧
      (s.lp.eng[e].miss.getLsbD (n.val % 8) = false → Settled s → Raised t (256 + 2 * (n.val / 8))) ∧
      (faults → t.lp.loops[n].state = 7 ∧ t.lp.loops[n].faultCause = 1 ∧ t.lp.loops[n].initDue = true ∧
        (Settled s → Raised t (257 + 2 * (n.val / 8)))) ∧
      (¬ faults → t.lp.loops[n].state = l.state ∧ t.lp.loops[n].faultCause = l.faultCause) ∧
      ∀ j : Fin 192, j ≠ n → t.lp.loops[j].st = s.lp.loops[j].st ∧ t.lp.loops[j].out = s.lp.loops[j].out ∧
        t.lp.loops[j].state = s.lp.loops[j].state ∧ t.lp.loops[j].samples.length = s.lp.loops[j].samples.length))

/-- R132, R133, R157: at its output instant, before the next boundary and after what R132 puts before it, a completed sample's result
becomes the loop's output and is written to its variable with AGE = 0, or latched by its point.
The model's choices here: assumption log 19, 36. -/
def Obligations.LoopOutput : Prop :=
  ∀ (s : State) (n : Fin 192) (x : LSample) (r : List LSample), alive s = true → s.lp.loops[n].samples = x :: r → x.phase = .done →
    let l := s.lp.loops[n]
    let at_ := x.t0 + x.late + 100 * l.c.outDly
    s.pair.await = none → at_ < s.stn.lastB + 20000 → outputWaits s n at_ = false →
    let loops := fun (t : State) => PassedTo s t at_ ∧ (∀ j : Fin 192, t.lp.loops[j] = if j = n then
      { l with samples := r, out := x.res.val, outTag := x.res.tag } else s.lp.loops[j]) ∧ t.lp.eng = s.lp.eng ∧ t.lp.frozen = s.lp.frozen
    (bindPoint l.c.out = none → Does (.loopOutput n) s [.lp, .stn, .vars] (fun t => loops t ∧
      t.vars = match bindVar l.c.out with
        | some v => s.vars.map (fun y => if y.idx == v then varWrite s.stn.forces y { x.res with tag := { x.res.tag with age := 0 } } else y)
        | none => s.vars)) ∧
    ∀ p : Fin 96, bindPoint l.c.out = some p.val → s.fld.pts[p].isOut = true →
      Does (.loopOutput n) s [.lp, .stn, .fld] (fun t => loops t ∧ t.fld.pts[p].smp = x.res ∧
        (s.fld.banks[bankOf p].open_ = true → s.fld.banks[bankOf p].fsOk = true → x.res.tag.q ≠ 7 →
          t.fld.pts[p].eff = some (s.fld.pts[p].clampCmd x.res.val)) ∧
        (s.fld.banks[bankOf p].open_ = false → s.fld.pts[p].prot = 0 → t.fld.pts[p].eff = s.fld.pts[p].eff) ∧
        ∀ q : Fin 96, q ≠ p → t.fld.pts[q] = s.fld.pts[q])

/-- R7, R155, R156, R158: the stall of an angle loop, a memory error and its reload, RESTART, and the clear commands of a loop and of an
engine.
The model's choices here: assumption log 5, 19, 36. -/
def Obligations.LoopCommands : Prop :=
  ∀ (s : State) (sess : Fin 4) (n : Fin 192) (e : Fin 24), alive s = true →
    let l := s.lp.loops[n]
    let one := fun (t : State) (l' : Loop) => t.lp.eng = s.lp.eng ∧ t.lp.frozen = s.lp.frozen ∧
      ∀ j : Fin 192, t.lp.loops[j] = if j = n then l' else s.lp.loops[j]
    (l.used = true → l.started = true → l.c.src = 4 → l.c.stallT2 ≠ 0 → l.stall = false → l.c.stallT2 ≤ l.noSample →
      DoesSilently (.loopStall n) s [.lp] (fun t => one t { l with stall := true })) ∧
    (l.used = true → Does (.loopMemErr n) s [.lp] (fun t =>
      t.lp.loops[n].state = 7 ∧ t.lp.loops[n].faultCause = 2 ∧ t.lp.loops[n].initDue = true ∧ t.lp.loops[n].st = l.st ∧
      t.lp.loops[n].out = l.out ∧ t.lp.eng[engOf n].memErr = true ∧ (∀ j : Fin 192, j ≠ n → t.lp.loops[j] = s.lp.loops[j]) ∧
      (Settled s → Raised t (257 + 2 * (n.val / 8))))) ∧
    (l.reload = true → DoesSilently (.loopReloadDone n) s [.lp] (fun t => one t { l with reload := false })) ∧
    (Windowed s sess (0xC0010 + 0x800 * (n.val / 8)) →
      DoesSilently (.loopClrCnt sess n) s [.lp] (fun t => one t { l with missCnt := 0, consec := 0, skipCnt := 0 }) ∧
      (l.used = true → l.restart = false → s.pair.state ≠ 4 → DoesSilently (.loopRestart sess n) s [.lp, .stn] (fun t =>
        one t { l with restart := true, restartReady := false, restartT := none } ∧
        t.stn = { s.stn with accepted := s.stn.accepted ++ [.loopRestart n] }))) ∧
    (Opened s sess → DoesSilently (.loopEngClrStat sess e) s [.lp] (fun t => t.lp.loops = s.lp.loops ∧ t.lp.frozen = s.lp.frozen ∧
      ∀ j : Fin 24, t.lp.eng[j] = if j = e then { s.lp.eng[j] with minSlack := 0xFFFFF } else s.lp.eng[j]))

/-! ### Solver -/

/-- R172, R179, R181, R267: a released solve takes a carried cold request with it; a completed one leaves what the computation on its captured
inputs gives: the status and its counts, the iterations, the cost, the residuals and, in the output buffer, the outputs.
The model's choices here: assumption log 19, 40, 41. -/
def Obligations.Solves : Prop :=
  ∀ (s : State) (p : Fin 64), alive s = true →
    let q := s.qp.slots[p]
    let others := fun (t : State) => t.qp.clus = s.qp.clus ∧ ∀ j : Fin 64, j ≠ p → t.qp.slots[j] = s.qp.slots[j]
    (q.phase = .taken → Does (.solveRelease p) s [.qp, .stn] (fun t => others t ∧ t.qp.tmpls = s.qp.tmpls ∧
      t.qp.slots[p] = { q with
        phase := .solving, coldNow := q.coldCarried, coldReq := q.coldReq && !q.coldCarried, coldCarried := false } ∧
      PassedTo s t (s.stn.lastB + 4000 + if lateOf s s.stn.lastB = 0 then 0 else 4000))) ∧
    (q.phase = .solving → q.tier ≠ 0 → ¬ (s.pair.state = 4 ∧ q.tier = 7) → Does (.solveComplete p) s [.qp] (fun t => others t ∧
      let o := solveSlot q
      let r := t.qp.slots[p]
      r.phase = .idle ∧ r.solveCnt = q.solveCnt + 1 ∧ r.status = BitVec.ofNat 3 o.res.status ∧ r.wsRej = o.wsRej ∧ r.cold = o.cold ∧
      r.refact = o.refact ∧ r.iter.toNat = min o.res.iters 4095 ∧ r.used = BitVec.ofNat 32 o.res.used ∧ r.mem = storeResult o ∧
      r.deadlineCnt = (if o.res.status = 2 then satInc q.deadlineCnt else q.deadlineCnt) ∧
      r.infeasCnt = (if o.res.status = 3 ∨ o.res.status = 4 then satInc q.infeasCnt else q.infeasCnt) ∧
      r.numericCnt = (if o.res.status = 5 then satInc q.numericCnt else q.numericCnt) ∧
      (∀ a b c, o.res.res = some (a, b, c) → r.rp = BitVec.ofNat 32 a ∧ r.rd = BitVec.ofNat 32 b ∧ r.merit = BitVec.ofNat 32 c) ∧
      (o.res.res = none → r.merit = 0x7F800000) ∧
      (q.tier ≠ 7 → r.out = some (slotOutputs q.bind o.res.ret.x
        (match o.res.status, o.res.cert with | 3, some c => c | _, _ => o.res.ret.y) r.merit
        (statusWord o.res.status o.wsRej o.cold r.pivotFixed o.refact o.res.iters 0)
        (solveTag q false o.res.status (stateBit r.mem 2)) false)) ∧
      (q.evtMask.getLsbD o.res.status = true → Settled s → Raised t (192 + p.val))))

/-- R50, R52, R53, R185, R186: the waiting placed problem of the largest AGE, own or a peer's, takes the free slot that R52 names, or goes to
the nearest peer that offers one; its result, from the slot or from the peer for the present issue, is handed back for a boundary at least 4 µs on, and the
template is free for the next request.
R7, R164, R179, R187, R189: a memory error reloads the slot, ends a solve as NUMERIC and is recorded; the reload leaves nothing stored;
the commands of a slot and of a cluster; a read of MEM_DATA moves the address on.
The model's choices here: assumption log 5, 15, 19, 41. -/
def Obligations.SolverCommands : Prop :=
  (∀ (s : State) (x : Fin 64) (m : QTmpl), alive s = true → s.pair.state ≠ 4 → s.qp.tmpls[x] = some m →
    let others := fun (t : State) => t.qp.clus = s.qp.clus ∧ ∀ j : Fin 64, j ≠ x → t.qp.tmpls[j] = s.qp.tmpls[j]
    (∀ (offers : List Nat) (r : PReq) (w : List PReq), nextTmpl s = some x → m.run = none → m.wait = r :: w →
      (∀ y k, waitingAge s y = some k → k ≤ reqAge s m r) ∧
      (∀ p : Fin 64, freeSlot s = some p → ownFirst s x = true → DoesSilently (.placedProblemStart (.own x offers)) s [.qp] (fun t =>
        others t ∧ (∀ v, nextPeer s = some v → peerAge s v ≤ reqAge s m r) ∧
        t.qp.tmpls[x] = some { m with wait := w, run := some (r, .slot p), res := none, issue := s.qp.issued + 1 } ∧ t.qp.lastT = x ∧
        (s.qp.slots[p].tier = 7 ∧ s.qp.slots[p].phase = .idle ∧ s.qp.slots[p].reload = false) ∧
        t.qp.slots[p].phase = .solving ∧ t.qp.slots[p].ins = r.ins ∧ t.qp.slots[p].params = r.params ∧ t.qp.slots[p].bind = m.bind ∧
        t.qp.slots[p].template.toNat = x.val ∧ t.qp.slots[p].remote = false ∧
        t.qp.slots[p].mem = loadTemplate s.qp.slots[p].mem m.content ∧ t.qp.slots[p].status = s.qp.slots[p].status ∧
        ∀ j : Fin 64, j ≠ p → t.qp.slots[j] = s.qp.slots[j])) ∧
      (∀ k, freeSlot s = none → s.stk.inStack = true → nearestPeer s offers = some k →
        k ∈ offers ∧ Does (.placedProblemStart (.own x offers)) s [.qp, .fab] (fun t => others t ∧ t.qp.slots = s.qp.slots ∧
          t.qp.tmpls[x] = some { m with wait := w, run := some (r, .peer k), res := none, issue := s.qp.issued + 1 } ∧
          t.fab = (plTakeAged s [(plOver s 2 m.soon 5 k (problemWords m.content r), reqAge s m r)]).fab ∧
          Sends s t (.peerProblem k x.val (s.qp.issued + 1) m.content r (reqAge s m r))))) ∧
    (∀ (r : PReq) (p : Fin 64) (l : List (Word × TWord)), m.run = some (r, .slot p) → m.res = some l →
      DoesSilently (.placedResult x none) s [.qp] (fun t => others t ∧ t.qp.slots = s.qp.slots ∧
        t.qp.tmpls[x] = some { m with deliver := m.deliver ++ [(r, s.stn.tierRef.toNat, l)], run := none, res := none })) ∧
    (∀ (r : PReq) (k i : Nat) (l : List TWord), m.run = some (r, .peer k) →
      (i = m.issue → DoesSilently (.placedResult x (some (i, l))) s [.qp] (fun t => others t ∧ t.qp.slots = s.qp.slots ∧
        t.qp.tmpls[x] = some { m with
          deliver := m.deliver ++ [(r, s.stn.tierRef.toNat, (m.bind.xs ++ m.bind.ys ++ [m.bind.merit, m.bind.status]).zip l)]
          run := none, res := none })) ∧
      (i ≠ m.issue → DoesSilently (.placedResult x (some (i, l))) s [] (fun _ => True)))) ∧
  (∀ (s : State) (v : PeerWait) (p : Fin 64), alive s = true → s.pair.state ≠ 4 → nextPeer s = some v → freeSlot s = some p →
    (∀ x, nextTmpl s = some x → ownFirst s x = false) →
    (∀ v' ∈ s.qp.peers, peerAge s v' ≤ peerAge s v) ∧ (∀ x k, nextTmpl s = some x → waitingAge s x = some k → k ≤ peerAge s v) ∧
    DoesSilently (.placedProblemStart (.fromPeer v.prob)) s [.qp] (fun t => t.qp.tmpls = s.qp.tmpls ∧
      t.qp.peers = s.qp.peers.eraseP (fun w => w.prob == v.prob) ∧ t.qp.slots[p].phase = .solving ∧ t.qp.slots[p].peer = some v.prob ∧
      t.qp.slots[p].ins = v.prob.req.ins ∧ t.qp.slots[p].params = v.prob.req.params ∧ t.qp.slots[p].remote = true ∧
      t.qp.slots[p].mem = loadTemplate s.qp.slots[p].mem v.prob.content ∧ ∀ j : Fin 64, j ≠ p → t.qp.slots[j] = s.qp.slots[j])) ∧
  (∀ (s : State) (sess : Fin 4) (p : Fin 64) (k : Fin 8), alive s = true →
    let q := s.qp.slots[p]
    let one := fun (t : State) (q' : QSlot) => t.qp.clus = s.qp.clus ∧ t.qp.tmpls = s.qp.tmpls ∧
      ∀ j : Fin 64, t.qp.slots[j] = if j = p then q' else s.qp.slots[j]
    (∀ ofs : BitVec 16, q.tier ≠ 0 → Does (.slotMemErr p ofs) s [.qp] (fun t =>
      t.qp.clus[clusOf p].memErr = true ∧ t.qp.slots[p].phase = .idle ∧ t.qp.slots[p].reload = true ∧
      (∀ j : Fin 64, j ≠ p → t.qp.slots[j] = s.qp.slots[j]) ∧
      (q.phase = .solving → t.qp.slots[p].status = 5 ∧ t.qp.slots[p].numericCnt = satInc q.numericCnt ∧ t.qp.slots[p].merit = 0x7F800000) ∧
      (q.phase ≠ .solving → t.qp.slots[p] = { q with phase := .idle, reload := true, facKey := [] } ∧
        Noted s t 0x2802 p.val 3 (leN 4 ofs.toNat)))) ∧
    (q.reload = true → DoesSilently (.slotReloadDone p) s [.qp] (fun t =>
      one t { q with mem := freshSlotMem (slotContent s p), facKey := [], reload := false } ∧
      stateBit t.qp.slots[p].mem 0 = false ∧ stateBit t.qp.slots[p].mem 1 = false)) ∧
    (Windowed s sess (0xD0014 + 0x2000 * (p.val / 8)) →
      DoesSilently (.slotClrCnt sess p) s [.qp] (fun t => one t { q with deadlineCnt := 0, infeasCnt := 0, numericCnt := 0 }) ∧
      (s.pair.state ≠ 4 → q.coldReq = false → DoesSilently (.coldReq sess p) s [.qp, .stn] (fun t =>
        one t { q with coldReq := true, coldCarried := false } ∧
        t.stn = { s.stn with accepted := s.stn.accepted ++ [.coldReq p] }))) ∧
    (Opened s sess → DoesSilently (.qpClClrStat sess k) s [.qp] (fun t => t.qp.clus = s.qp.clus ∧ t.qp.tmpls = s.qp.tmpls ∧
      ∀ j : Fin 64, t.qp.slots[j] = if j.val / 8 = k.val then
        { s.qp.slots[j] with deadlineCnt := 0, infeasCnt := 0, numericCnt := 0, supersede := 0 } else s.qp.slots[j])) ∧
    DoesSilently (.memDataRead k) s [.qp] (fun t => t.qp.slots = s.qp.slots ∧ t.qp.tmpls = s.qp.tmpls ∧
      ∀ j : Fin 8, t.qp.clus[j] = if j = k then { s.qp.clus[j] with addr := s.qp.clus[j].addr + 1 } else s.qp.clus[j]))

/-! ### Angle -/

/-- R193, R198, R202: transitions and index edges of an encoder that is not lost: the position, the direction, the estimate's edges,
synchronisation, corrections and losses.
R194: an edge of a synchronised wheel `ρ = T ÷ T_ref` after the one before: too near it is ignored, off the gap it is the next tooth,
at the gap it is the tooth after it.
The model's choices here: assumption log 5, 38. -/
def Obligations.AngleEdges : Prop :=
  (∀ (s : State) (a : Fin 8) (w : Nat), alive s = true → s.pair.await = none → w < s.stn.lastB + 20000 → s.ang.src[a].type = 1 → s.ang.src[a].loss = false →
    let r := s.ang.src[a]
    let src := fun (k : EdgeIn) (P : State → ASrc → Prop) => Does (.angleEdge a k w) s [.ang] (fun t =>
      t.ang = { s.ang with src := t.ang.src } ∧ (∀ j : Fin 8, j ≠ a → t.ang.src[j] = s.ang.src[j]) ∧ P t t.ang.src[a])
    let raised := fun (t : State) (i : Nat) => Settled s → Raised t (368 + 8 * a.val + i)
    let lost := fun (c : BitVec 3) (t : State) (q : ASrc) => q.sync = 1 ∧ q.cause = c ∧ q.filled = false ∧ q.edges = [] ∧
      q.angle = r.angle ∧ raised t 4 ∧ (r.sync = 2 → raised t 3)
    src .both (lost 2) ∧
    (∀ fwd : Bool,
      let pos := if fwd then r.pos + 1 else r.pos - 1
      let edge : AEdge := { t := w, th := ({ r with pos := pos } : ASrc).th }
      (r.sync ≠ 2 → r.zmode = true → src (.quad fwd) (fun _ q =>
        q = { r with edgeCnt := r.edgeCnt + 1, pos := pos, rev := !fwd })) ∧
      (r.sync ≠ 2 → r.zmode = false → src (.quad fwd) (fun t q =>
        q.sync = 2 ∧ q.pos = 0 ∧ q.rev = !fwd ∧ q.edgeCnt = r.edgeCnt + 1 ∧ q.edges.length = 1 ∧ q.filled = false ∧ q.cause = 0 ∧ raised t 2)) ∧
      (r.sync = 2 → r.rev = !fwd → src (.quad fwd) (fun _ q =>
        q.pos = pos ∧ q.rev = r.rev ∧ q.sync = 2 ∧ q.edgeCnt = r.edgeCnt + 1 ∧ q.stillF = false ∧ q.against = 0 ∧
        q.edges = if r.stillF then [edge] else (edge :: r.edges).take (2 * r.k + 1))) ∧
      (r.sync = 2 → r.rev = fwd → r.against + 1 < r.revEdges → src (.quad fwd) (fun _ q =>
        q = { r with edgeCnt := r.edgeCnt + 1, pos := pos, against := r.against + 1 })) ∧
      (r.sync = 2 → r.rev = fwd → r.revEdges ≤ r.against + 1 → src (.quad fwd) (fun t q =>
        q.pos = pos ∧ q.rev = !fwd ∧ q.sync = 2 ∧ q.edges = [edge].take (2 * r.k + 1) ∧ q.filled = false ∧ q.against = 0 ∧ raised t 6))) ∧
    (r.zmode = true →
      let n : Int := 4 * r.lines
      (r.sync ≠ 2 → src .index (fun t q => q.sync = 2 ∧ q.pos = 0 ∧ q.filled = false ∧ q.edges = [] ∧ q.cause = 0 ∧ raised t 2)) ∧
      (r.sync = 2 → r.pos % n = 0 → src .index (fun _ q => q = r)) ∧
      (r.sync = 2 → r.pos % n = 1 → n ≠ 1 → src .index (fun _ q => q = { r with pos := r.pos - 1, errCnt := satInc r.errCnt })) ∧
      (r.sync = 2 → r.pos % n = n - 1 → n ≠ 1 → src .index (fun _ q => q = { r with pos := r.pos + 1, errCnt := satInc r.errCnt })) ∧
      (r.sync = 2 → r.pos % n ≠ 0 → r.pos % n ≠ 1 → r.pos % n ≠ n - 1 → src .index (lost 3)))) ∧
  (∀ (s : State) (a : Fin 8) (w w0 : Nat), alive s = true → s.pair.await = none → w < s.stn.lastB + 20000 → s.ang.src[a].type = 2 → s.ang.src[a].loss = false →
    s.ang.src[a].sync = 2 → s.ang.src[a].lastT = some w0 → s.ang.src[a].refN ≠ 0 → s.ang.src[a].stillF = false →
    let r := s.ang.src[a]
    let T := w - w0
    let below := fun (h : Nat) => 2 * T * r.refD < h * r.refN
    let atGap := (r.pos % (r.lines : Int)).toNat + 1 = r.lines - r.gap
    let src := fun (P : ASrc → Prop) => Does (.angleEdge a .tooth w) s [.ang] (fun t =>
      t.ang = { s.ang with src := t.ang.src } ∧ (∀ j : Fin 8, j ≠ a → t.ang.src[j] = s.ang.src[j]) ∧
      t.ang.src[a].edgeCnt = r.edgeCnt + 1 ∧ P t.ang.src[a])
    (below 1 → src (fun q => q = { r with edgeCnt := r.edgeCnt + 1, errCnt := satInc r.errCnt })) ∧
    (¬ below 1 → ¬ atGap → below 3 → src (fun q =>
      q.pos = r.pos + 1 ∧ q.lastT = some w ∧ q.refN = T ∧ q.refD = 1 ∧ q.sync = 2 ∧ q.errCnt = r.errCnt ∧ q.turnErr = r.turnErr ∧
      q.edges = ({ t := w, th := ({ r with pos := r.pos + 1 } : ASrc).th } :: r.edges).take (2 * r.k + 1))) ∧
    (¬ below 1 → atGap → ¬ below (2 * r.gap + 1) → below (2 * r.gap + 3) → src (fun q =>
      q.pos = r.pos + r.gap + 1 ∧ q.lastT = some w ∧ q.refN = T ∧ q.refD = r.gap + 1 ∧ q.sync = 2 ∧ q.errCnt = r.errCnt ∧ q.turnErr = 0)))

/-- R195, R202: a zero crossing measures its set and moves each of its sources on; a loss of voltage, a line fault, a standstill and the
end of a lasting loss change the state of the source and raise its events.
The model's choices here: assumption log 5, 19, 38. -/
def Obligations.SourceStates : Prop :=
  ∀ (s : State), alive s = true →
    let raised := fun (t : State) (a : Fin 8) (i : Nat) => Settled s → Raised t (368 + 8 * a.val + i)
    let frame := fun (t : State) => t.ang = { s.ang with src := t.ang.src, vs := t.ang.vs }
    let lost := fun (t : State) (a : Fin 8) (c : BitVec 3) =>
      t.ang.src[a].sync = 0 ∧ t.ang.src[a].loss = true ∧ t.ang.src[a].cause = c ∧ t.ang.src[a].edges = [] ∧
      t.ang.src[a].angle = s.ang.src[a].angle ∧ raised t a 4 ∧ (s.ang.src[a].sync = 2 → raised t a 3)
    (∀ a : Fin 8,
      let others := fun (t : State) => t.ang.vs = s.ang.vs ∧ frame t ∧ ∀ j : Fin 8, j ≠ a → t.ang.src[j] = s.ang.src[j]
      (s.ang.src[a].type = 1 → Does (.lineFault a) s [.ang] (fun t => others t ∧ lost t a 1)) ∧
      (1 ≤ s.ang.src[a].type → s.ang.src[a].type ≤ 4 → s.ang.src[a].sync = 2 → s.ang.src[a].stillF = false → s.ang.src[a].loss = false →
        Does (.standstill a) s [.ang] (fun t => others t ∧ t.ang.src[a].stillF = true ∧
          raised t a 5 ∧ (s.ang.src[a].type ≠ 2 → t.ang.src[a] = { s.ang.src[a] with stillF := true }) ∧
          (s.ang.src[a].type = 2 → t.ang.src[a].sync = 1 ∧ raised t a 3))) ∧
      (s.ang.src[a].loss = true → DoesSilently (.lossRecovery a) s [.ang] (fun t => others t ∧
        t.ang.src[a] = { s.ang.src[a] with loss := false, sync := 1 }))) ∧
    ∀ (v : Fin 2) (rms : Vector (BitVec 16) 3), s.ang.vs[v].used = true →
      let measured := fun (t : State) => t.ang.vs[v].rms = rms ∧ (∀ j : Fin 2, j ≠ v → t.ang.vs[j] = s.ang.vs[j]) ∧
        (∀ i : Fin 3, t.ang.vs[v].present.getLsbD i.val = decide (s.ang.vs[v].vnom.toNat ≤ 10 * rms[i].toNat)) ∧
        (∀ a : Fin 8, s.ang.src[a].type ≠ 3 + v.val → t.ang.src[a] = s.ang.src[a])
      Does (.noVoltage v rms) s [.ang] (fun t => frame t ∧ measured t ∧
        ∀ a : Fin 8, s.ang.src[a].type = 3 + v.val → if s.ang.src[a].loss then t.ang.src[a] = s.ang.src[a] else lost t a 5) ∧
      ∀ (k : Fin 6) (w mhz : Nat), s.pair.await = none → w < s.stn.lastB + 20000 → Does (.vsCrossing v k w rms mhz) s [.ang] (fun t => frame t ∧ measured t ∧
        (mhz < 2 ^ 24 → t.ang.vs[v].freq.toNat = mhz) ∧
        ∀ a : Fin 8, s.ang.src[a].type = 3 + v.val → t.ang.src[a].edgeCnt = s.ang.src[a].edgeCnt + 1 ∧
          (s.ang.src[a].loss = false → s.ang.src[a].sync = 2 → 40000 ≤ mhz → mhz ≤ 70000 →
            ∀ p : Fin 6, s.ang.src[a].lastX = some p → k.val = (p.val + 1) % 6 →
              t.ang.src[a].pos = s.ang.src[a].pos + 1 ∧ t.ang.src[a].lastX = some k ∧ t.ang.src[a].sync = 2))

/-- R203, R205–R207: the window of 20 µs gives an armed event of a source that predicts the earliest instant of the 2 ns grid at which it has
reached its next target, flags one whose target had gone by, and none where DIR, the vertex or the speed limits exclude it; a firing event,
before the next boundary and after those with lower numbers, is counted and disarmed after a single shot, and its point takes its level.
R7, R202, R205: RESYNC and a control word written to an event travel from the active station at the next T1 boundary; CLR_STAT
clears the error counts and the events' latched bits.
The model's choices here: assumption log 19, 39. -/
def Obligations.AngleEvents : Prop :=
  (∀ s : State, alive s = true →
    Does .angleWindow s [.ang, .stn] (fun t => PassedTo s t (s.ang.winB + 4000) ∧ t.ang = { s.ang with evt := t.ang.evt } ∧ ∀ n : Fin 128,
      let e := s.ang.evt[n]
      let r := s.ang.src[srcOfEvt n]
      let neg : Bool := decide (r.vel.toInt < 0)
      let d0 : Int := (s.ang.winB - s.ang.bNs : Nat)
      let u := fun (dns : Int) => uAt r e neg dns
      let m0 := e.mark.getD (u (d0 + 4000))
      let m1 := fmax m0 (u (d0 + 23998))
      let p := nextTarget e.tgt neg (ratOf m0)
      let runs := e.armed = true ∧ r.pubPredicting = true ∧ r.vel ≠ 0
      let skips := (fld e.cfg 4 2 = 0 ∧ neg = true) ∨ (fld e.cfg 4 2 = 1 ∧ neg = false) ∨ vertexIn r e (s.ang.winB - s.ang.bNs) = true
      let fast := r.vel.toInt < e.vmin.toInt ∨ e.vmax.toInt < r.vel.toInt
      (¬ runs → t.ang.evt[n] = e) ∧
      (runs → skips → t.ang.evt[n] = { e with mark := some m1 }) ∧
      (runs → ¬ skips → fast → t.ang.evt[n] = { e with mark := some m1, inhib := true }) ∧
      (runs → ¬ skips → ¬ fast → ratOf (u (d0 + 23998)) < p → t.ang.evt[n] = { e with mark := some m1 }) ∧
      ∀ i : Nat, i < 10000 → runs → ¬ skips → ¬ fast → p ≤ ratOf (u (d0 + 23998)) → p ≤ ratOf (u (d0 + 4000 + 2 * (i : Int))) →
        (∀ j : Nat, j < i → ratOf (u (d0 + 4000 + 2 * (j : Int))) < p) →
        t.ang.evt[n] = { e with
          mark := some m1, due := some (s.ang.winB + 4000 + 2 * i)
          late := e.late || (decide (i = 0) && decide (p ≤ ratOf (u (d0 + 3998)))) }) ∧
    ∀ (n : Fin 128) (raw : List (Fin 96 × TWord)) (w : Nat),
      let e := s.ang.evt[n]
      e.armed = true → e.due = some w → s.ang.src[srcOfEvt n].pubPredicting = true → s.pair.await = none → w < s.stn.lastB + 20000 → firesBefore s n w = false →
      Does (.angleEventFire n raw) s (if e.kind = 1 then [.ang, .stn, .fld] else if e.kind = 2 then [.ang, .stn, .lp] else [.ang, .stn])
        (fun t => PassedTo s t w ∧ t.ang.src = s.ang.src ∧ t.ang.vs = s.ang.vs ∧ (∀ j : Fin 128, t.ang.evt[j] = if j = n then
            { e with due := none, fireCnt := e.fireCnt + 1, lastT := BitVec.ofNat 32 w, armed := decide (e.armMode ≠ 1) }
          else s.ang.evt[j]) ∧
          (Settled s → Raised t (368 + 8 * (n.val / 16) + if bit e.cfg 3 then 1 else 0)) ∧
          ∀ p : Fin 96, e.kind = 1 → e.point = p.val → s.fld.pts[p].isOut = true →
            t.fld.pts[p].smp.val = (if bit e.cfg 2 then 1 else 0) ∧ ∀ j : Fin 96, j ≠ p → t.fld.pts[j] = s.fld.pts[j])) ∧
  (∀ (s : State) (sess : Fin 4),
    (Windowed s sess 0xB0004 → s.pair.state ≠ 4 →
      (∀ a : Fin 8, s.ang.src[a].type ≠ 0 → s.ang.src[a].resync = false → DoesSilently (.resync sess a) s [.ang, .stn] (fun t =>
        (∀ j : Fin 8, t.ang.src[j] = if j = a then { s.ang.src[j] with resync := true } else s.ang.src[j]) ∧
        t.ang = { s.ang with src := t.ang.src } ∧ t.stn = { s.stn with accepted := s.stn.accepted ++ [.resync a] })) ∧
      ∀ (n : Fin 128) (mode : BitVec 2) (seq : BitVec 8), bit s.ang.evt[n].cfg 7 = false →
        DoesSilently (.evtCtrlWrite sess n mode seq) s [.stn] (fun t =>
          t.stn = { s.stn with accepted := s.stn.accepted ++ [.evtCtrl n mode seq] })) ∧
    (Opened s sess → DoesSilently (.angClrStat sess) s [.ang] (fun t =>
      (∀ j : Fin 8, t.ang.src[j] = { s.ang.src[j] with errCnt := 0 }) ∧
      (∀ n : Fin 128, t.ang.evt[n] = { s.ang.evt[n] with late := false, inhib := false }) ∧
      t.ang = { s.ang with src := t.ang.src, evt := t.ang.evt })))

/-! ### On-line change and forcing -/

/-- R116–R120, R128: PREPARE is taken up where a package is held and the station may, and a synchronised standby is sent the package; its
checks end in PREPARED, STAGED with the first code that holds, or with code 10 where only the partner fails; a standby that finds
the package good is PREPARED too; COMMIT repeats its checks and waits for the next T1 boundary; DISCARD drops the package; a standby refuses the three commands; the writes
of the station and of its synchronised standby that persist a change leave STATE IDLE.
The model's choices here: assumption log 4, 14, 28, 78. -/
def Obligations.OnlineChange : Prop :=
  ∀ (s : State) (sess : Fin 4),
    let st := s.stn.olcState
    let held : BitVec 3 := if st = 4 ∨ st = 5 then st else if s.stn.staged = [] then 0 else 1
    let refused := fun (c : Instr) (src code : Nat) (cmd : Byte) (after : BitVec 3) => Does c s [.stn] (fun t =>
      t.stn = { s.stn with
        olcResult := BitVec.ofNat 4 code, olcCmd := 0, olcState := after
        admCode := t.stn.admCode, admTier := t.stn.admTier, admObj := t.stn.admObj } ∧
      (code ≠ 1 → t.stn.admCode = s.stn.admCode ∧ t.stn.admTier = s.stn.admTier ∧ t.stn.admObj = s.stn.admObj) ∧
      (Settled s → Raised t 505) ∧ ∃ p, Noted s t 0x5007 src 1 ([BitVec.ofNat 8 code, cmd, 0, 0] ++ p))
    let changes := fun (c : Instr) (n : Stn) => DoesSilently c s [.stn] (fun t => t.stn = n)
    let standby := s.pair.state = 4
    let none_ := s.img.running = none
    (Windowed s sess 0x308 →
      (standby → refused (.prepare sess) sess.val 12 1 held) ∧
      (¬ standby → none_ → refused (.prepare sess) sess.val 13 1 held) ∧
      (¬ standby → ¬ none_ → notPersisted s = true → refused (.prepare sess) sess.val 11 1 held) ∧
      (¬ standby → ¬ none_ → notPersisted s = false →
        let taken : Stn := { s.stn with olcCmd := 1, olcSess := sess.val, olcState := 2, olcResult := 0 }
        (st = 1 ∨ st = 3 → s.pair.state = 2 → Does (.prepare sess) s [.stn, .fab] (fun t =>
          t.stn = taken ∧ Sends s t (.changePackage s.stn.staged))) ∧
        (st = 1 ∨ st = 3 → s.pair.state ≠ 2 → changes (.prepare sess) taken) ∧
        (¬ (st = 1 ∨ st = 3) → changes (.prepare sess) s.stn)) ∧
      (st = 3 → s.stn.olcCmd ≠ 2 → commitCode s ≠ 0 → refused (.commit sess) sess.val (commitCode s) 2 1) ∧
      (st = 3 → s.stn.olcCmd ≠ 2 → commitCode s = 0 →
        changes (.commit sess) { s.stn with olcCmd := 2, olcResult := 0, accepted := s.stn.accepted ++ [.commit] }) ∧
      (¬ (st = 3 ∧ s.stn.olcCmd ≠ 2) → standby → refused (.commit sess) sess.val 12 2 held) ∧
      (¬ (st = 3 ∧ s.stn.olcCmd ≠ 2) → ¬ standby → none_ → refused (.commit sess) sess.val 13 2 held) ∧
      (¬ (st = 3 ∧ s.stn.olcCmd ≠ 2) → ¬ standby → ¬ none_ → changes (.commit sess) s.stn) ∧
      (standby → refused (.discard sess) sess.val 12 3 held) ∧
      (¬ standby → changes (.discard sess) (if st = 1 ∨ (st = 3 ∧ s.stn.olcCmd ≠ 2) then
        { s.stn with olcState := 0, staged := [], olcResult := 0, olcCmd := 0 } else s.stn))) ∧
    (∀ partnerOk pkg, alive s = true → ¬ standby → st = 2 →
      ((prepareCode s).1 ≠ 0 → refused (.prepareDone ⟨partnerOk, pkg⟩) s.stn.olcSess (prepareCode s).1 1 1) ∧
      ((prepareCode s).1 = 0 → s.pair.state = 2 → partnerOk = false → refused (.prepareDone ⟨partnerOk, pkg⟩) s.stn.olcSess 10 1 1) ∧
      ((prepareCode s).1 = 0 → ¬ (s.pair.state = 2 ∧ partnerOk = false) →
        changes (.prepareDone ⟨partnerOk, pkg⟩) { s.stn with
          olcState := 3, olcCmd := 0, olcResult := 0, olcPartner := decide (s.pair.state = 2) })) ∧
    (∀ partnerOk pkg, alive s = true → standby →
      let here : State := { s with stn := { s.stn with staged := pkg } }
      ((prepareCode here).1 = 0 → changes (.prepareDone ⟨partnerOk, some pkg⟩) { here.stn with olcState := 3, olcCmd := 0, olcResult := 0 }) ∧
      ((prepareCode here).1 ≠ 0 → changes (.prepareDone ⟨partnerOk, some pkg⟩) s.stn)) ∧
    (alive s = true → s.img.wOlc = true →
      let w := s.img.wProf
      let same := s.img.same ||| (1#4 <<< w.toNat)
      let done := fun (c : Instr) (P : State → Prop) => Does c s [.img, .stn] (fun t =>
        t.stn = { s.stn with persisted := true, olcState := 0 } ∧ t.img.running = s.img.running ∧ P t)
      let written := fun (t : State) => vget t.img.banks (2 * w.toNat + if s.img.wBank then 1 else 0) [] = s.img.wBytes ∧
        ∃ c, t.img.commits[w.toFin] = some c ∧ c.imageId = imageId s.img.wBytes ∧ c.bank = s.img.wBank ∧ c.totalLen = s.img.wBytes.length
      (s.img.wState = 2 →
        Does (.olcPersisted false) s [.img] (fun t =>
          t.img = { s.img with loadCode := 12, loadSect := 0, loadProf := w, fromFlash := false } ∧ (Settled s → Raised t 501)) ∧
        (s.pair.state = 2 → s.img.wOwnDone = false → Does (.olcPersisted true) s [.img] (fun t =>
          written t ∧ t.img.wState = 5 ∧ t.img.wOwnDone = true)) ∧
        (¬ (s.pair.state = 2 ∧ s.img.wOwnDone = false) → done (.olcPersisted true) written)) ∧
      (s.img.wState ≠ 0 → s.pair.member = true →
        Does (.partnerWriteDone false) s [.img] (fun t =>
          t.img = { s.img with loadCode := 14, loadSect := 0, loadProf := w, fromFlash := false } ∧ (Settled s → Raised t 501)) ∧
        (s.img.wState = 5 → done (.partnerWriteDone true) (fun t => t.img.same = same ∧ t.img.banks = s.img.banks)) ∧
        (s.img.wState ≠ 5 → DoesSilently (.partnerWriteDone true) s [.img] (fun t => t.img = { s.img with same := same, wOwnDone := true }))))

/-- R123, R124: a force command stores its variable and the first result that holds; an accepted one waits for the next T1 boundary, and a
refused one changes no force.
The model's choices here: assumption log 13, 61. -/
def Obligations.Forces : Prop :=
  ∀ (s : State) (sess : Fin 4) (v : BitVec 20), Windowed s sess 0x308 →
    let here := s.pair.state ≠ 4
    let may := s.stn.commissioning = true ∨ s.stn.forcePermit = true
    let x := s.vars.find? (fun x => x.idx == v.toNat)
    let touched := fun (y : Var) => commitPending s = true ∧ changeTouches s.stn.staged y = true
    let full := (∀ f ∈ s.stn.forces, f.idx ≠ v.toNat) ∧ 1024 ≤ s.stn.forces.length + pendingForces s
    let common : Nat → Prop := fun r => (r = 6 ∧ ¬ here) ∨ (r = 3 ∧ here ∧ ¬ may)
    let setRes : Nat → Prop := fun r => common r ∨ (here ∧ may ∧ ((r = 4 ∧ x = none) ∨ ∃ y, x = some y ∧
      ((r = 1 ∧ y.wblk ∉ [0, 1, 2, 3, 10]) ∨ (y.wblk ∈ [0, 1, 2, 3, 10] ∧
        ((r = 5 ∧ touched y) ∨ (¬ touched y ∧ ((r = 2 ∧ full) ∨ (r = 0 ∧ ¬ full))))))))
    let removeRes : Nat → Prop := fun r => common r ∨ (here ∧ may ∧ ((r = 4 ∧ x = none) ∨ (r = 0 ∧ x ≠ none)))
    let answers := fun (c : Instr) (res : Nat → Prop) (var : BitVec 20) (act : BitVec 2) (cmd : DistCmd) =>
      ∃ r, res r ∧ DoesSilently c s [.stn] (fun t => t.stn = { s.stn with
        forceVar := var, forceRes := BitVec.ofNat 3 r, forceAct := if r = 0 then act else 0
        accepted := if r = 0 then s.stn.accepted ++ [cmd] else s.stn.accepted })
    answers (.forceSet sess v) setRes v 1 (.forceSet v.toNat s.stn.forceVal) ∧
    answers (.forceRemove sess v) removeRes v 2 (.forceRemove v.toNat) ∧
    answers (.forceRemoveAll ⟨sess, v⟩) removeRes v 3 .forceRemoveAll

/-! ### Images and profiles -/

/-- R344, R355–R358: the end of a flash write makes the bank's image the committed one and clears the marker, or is reported with code
12; in a pair the final code waits for both writes; a load takes the committed image of the selected profile when every check
passes, and leaves the STOP without an image otherwise.
R359–R361: a request for a profile waits for the next T1 boundary and replaces one that has not been carried; the preparation ends
PREPARED, or in the result and event of a refused switch.
The model's choices here: assumption log 4, 5, 18, 19, 52, 57. -/
def Obligations.ImageWrites : Prop :=
  (∀ s : State, alive s = true →
    let ownWrite := s.img.wOlc = false
    let i := s.img
    let written := fun (t : State) =>
      vget t.img.banks (2 * i.wProf.toNat + if i.wBank then 1 else 0) [] = i.wBytes ∧
      ∃ c, t.img.commits[i.wProf.toFin] = some c ∧ c.imageId = imageId i.wBytes ∧ c.bank = i.wBank ∧ c.totalLen = i.wBytes.length
    (i.wState = 2 → ownWrite →
      Does (.imageWriteDone false) s [.img] (fun t => t.img.banks = i.banks ∧ t.img.commits = i.commits ∧ t.img.loadCode = 12 ∧
        t.img.loadProf = i.wProf ∧ (i.wWait = [] → t.img.marker = none ∧ t.img.wState = 0) ∧ (Settled s → Raised t 501)) ∧
      Does (.imageWriteDone true) s [.img] (fun t => written t ∧
        (s.pair.state = 2 → i.wOwnDone = false → t.img.wState = 5 ∧ t.img.wOwnDone = true ∧ t.img.loadCode = i.loadCode) ∧
        (¬ (s.pair.state = 2 ∧ i.wOwnDone = false) → (i.loadCode ≠ 14 → t.img.loadCode = 0 ∧ t.img.loadProf = i.wProf) ∧
          (i.wWait = [] → t.img.wState = 0 ∧ t.img.marker = none)))) ∧
    (∀ ok, i.wState ≠ 0 → ownWrite → s.pair.member = true →
      Does (.partnerWriteDone ok) s [.img] (fun t => t.img.banks = i.banks ∧ t.img.commits = i.commits ∧
        t.img.same = (if ok then i.same ||| (1#4 <<< i.wProf.toNat) else i.same) ∧
        (ok = false → t.img.loadCode = 14 ∧ t.img.loadProf = i.wProf ∧ (Settled s → Raised t 501)) ∧
        (i.wState = 5 → ok = true → t.img.loadCode = 0 ∧ t.img.loadProf = i.wProf) ∧
        (i.wState = 5 → i.wWait = [] → t.img.wState = 0) ∧ (i.wState ≠ 5 → t.img.wOwnDone = true ∧ t.img.wState = i.wState))) ∧
    (i.running = none → s.stn.stopCause ≠ 7 → i.marker = none → i.wWait = [] → ∃ t, exec .imageLoad s = .next t ∧ t.pending = s.pending ∧
      let p := selectProfile s
      let fails := t.img.running = none ∧ t.stn.mode = .stop ∧ t.stn.faultStop = false ∧ t.stn.stopCause = 7 ∧ t.vars = s.vars ∧
        t.fld.banks = s.fld.banks ∧ (∀ n : Fin 96, t.fld.pts[n].eff = none ∧ t.fld.pts[n].isOut = false ∧
          t.fld.pts[n].count = s.fld.pts[n].count ∧ t.fld.pts[n].diagL = s.fld.pts[n].diagL) ∧ (Settled s → Raised t 501)
      (committed s p = none → t.img.loadCode = 1 ∧ t.img.loadProf = p ∧ t.img.fromFlash = true ∧ fails) ∧
      ∀ b, committed s p = some b →
        t.img.loadProf = p ∧ t.img.fromFlash = true ∧ t.img.loadCode = BitVec.ofNat 4 (checkImage s p.toNat b).1.1 ∧
        ((checkImage s p.toNat b).1.1 ≠ 0 → fails) ∧
        ((checkImage s p.toNat b).1.1 = 0 → t.img.running = some b ∧ t.img.actProf = p ∧ t.stn.mode = s.stn.mode ∧
          t.vars.map (fun v => v.idx) = (varsOf (recs b 1)).map (fun v => v.idx) ∧ t.evr.routes = routesOf (recs b 1)))) ∧
  (∀ s : State,
    let takes := s.pair.state ∈ [0, 2, 3] ∧ s.pwr.quiet.getLsbD 11 = false
    let isProfile : DistCmd → Bool := fun c => match c with | .profile _ _ => true | _ => false
    let was := ∃ c ∈ s.stn.accepted, isProfile c = true
    let asked := fun (t : State) (p : BitVec 2) (byCmd : Bool) =>
      t.stn = { s.stn with accepted := s.stn.accepted.filter (fun c => !isProfile c) ++ [.profile p byCmd] } ∧
      t.img.swReq = byCmd ∧ (was → t.img.swResult = 6) ∧ (¬ was → t.img.swResult = s.img.swResult)
    (∀ pins, alive s = true → s.img.pinProf ≠ pins →
      (s.img.running ≠ none → takes → DoesSilently (.profSelChange pins) s [.stn, .img] (fun t => asked t pins false ∧
        t.img = { s.img with pinProf := pins, swReq := false, swResult := t.img.swResult })) ∧
      (¬ (s.img.running ≠ none ∧ takes) → DoesSilently (.profSelChange pins) s [.img] (fun t =>
        t.img = { s.img with pinProf := pins }))) ∧
    (∀ sess p, Windowed s sess 0x1001C →
      (takes → DoesSilently (.swCmdReq sess p) s [.stn, .img] (fun t => asked t p true ∧
        t.img = { s.img with swCmdProf := p, swReq := true, swResult := t.img.swResult })) ∧
      (¬ takes → DoesSilently (.swCmdReq sess p) s [.img] (fun t => t.img = { s.img with swCmdProf := p }))) ∧
    (alive s = true → s.img.swState = 1 → s.pair.state ≠ 4 → s.img.prepared = none →
      Does .switchPrepared s [.stn, .img] (fun t => t.img.running = s.img.running ∧ t.img.actProf = s.img.actProf ∧
        ((prepareSwitch s).1 = 0 → s.pair.state ≠ 2 → t.img.swState = 2 ∧ t.img.prepared = committed s s.img.swTarget ∧ t.stn.accepted = s.stn.accepted) ∧
        ((prepareSwitch s).1 = 0 → s.pair.state = 2 → t.img.swState = 1 ∧ ∀ b, committed s s.img.swTarget = some b → t.stn.accepted = s.stn.accepted ++ [.prepared (imageId b)]) ∧
        ((prepareSwitch s).1 ≠ 0 → t.img.swState = 0 ∧ t.img.swPending = false ∧ t.img.swReq = false ∧
          t.img.swResult = BitVec.ofNat 4 (prepareSwitch s).1 ∧ t.img.swRefused = satInc s.img.swRefused ∧
          t.stn.accepted = s.stn.accepted ∧ (Settled s → Raised t 500)))))

/-! ### Engineering protocol -/

/-- R328–R330, R334: HELLO opens a challenge where the address is not locked out, PROOF opens a session or counts as failed, CLOSE and 30 s
without a datagram end a session with its keyed windows, and an unknown operation is answered with STATUS 7.
The model's choices here: assumption log 1, 19, 49, 50, 51. -/
def Obligations.Sessions : Prop :=
  ∀ (s : State) (d : Dgram), dgramHere s d = true →
    let zeros : List Byte := List.replicate 16 0
    let replies := fun (op : Byte) (st : Nat) => Does (.hello d) s [.net] (fun t => Responded t s.net d op st 0 [] zeros)
    let closed := fun (t : State) (i : Fin 4) => (∀ w, w ∈ t.windows ↔ w ∈ s.windows ∧ w.1 ≠ i.val) ∧
      (∀ w, w ∈ t.armed ↔ w ∈ s.armed ∧ w.1 ≠ i.val) ∧ (∀ r : Fin 21, t.latch[r] = if r.val = i.val + 1 then .empty else s.latch[r]) ∧
      (Settled s → Raised t 475)
    let out := d.ip ∈ s.net.lockouts
    let quiet := s.pwr.quiet.getLsbD 0 = true
    let full := ∀ i : Fin 4, s.net.sess[i] ≠ none
    let known := ∃ k, keyEnt s (d.payload.headD 0) = some k
    (out → DoesSilently (.hello d) s [] (fun _ => True)) ∧
    (¬ out → quiet → replies 2 5) ∧ (¬ out → ¬ quiet → d.payload.length ≠ 17 → replies 2 3) ∧
    (¬ out → ¬ quiet → d.payload.length = 17 → full → replies 2 6) ∧
    (¬ out → ¬ quiet → d.payload.length = 17 → ¬ full → ¬ known → replies 2 1) ∧
    (¬ out → ¬ quiet → d.payload.length = 17 → ¬ full → known → Does (.hello d) s [.net] (fun t => ∃ id ns, ns.length = 16 ∧
      Responded t { s.net with
        chals := s.net.chals ++ [{ id := id, ip := d.ip, keyId := d.payload.headD 0, nc := d.payload.drop 1, ns := ns }] }
        d 2 0 id (ns ++ leN 8 Config.serial.toNat) zeros)) ∧
    (∀ c k, sessOf s d = none → s.net.chals.find? (fun c => c.id == d.sess) = some c → keyEnt s c.keyId = some k →
      let key := hmac k.secret (keps ++ c.nc ++ c.ns)
      let mac := d.mac = kepMac key 3 false 0 d.sess d.seq d.payload
      let good := d.payload = hmac k.secret (kepp ++ c.nc ++ c.ns ++ leN 4 c.id.toNat)
      let rest := s.net.chals.filter (fun x => x.id ≠ c.id)
      let failed := fun (t : State) => t.net.authFail = satInc s.net.authFail ∧ t.net.chals = rest ∧ t.net.sess = s.net.sess ∧
        t.net.keys = s.net.keys ∧ (Settled s → Raised t 476) ∧ Noted s t 0x1000 d.port.val 1 ([c.keyId, 0, 0, 0] ++ leN 4 d.ip.toNat)
      (¬ mac → Does (.proof d) s [.net] (fun t => failed t ∧ t.net.ports = s.net.ports)) ∧
      (mac → quiet → Does (.proof d) s [.net] (fun t => Responded t s.net d 4 5 c.id [] (kepMac key 4 true 5 c.id d.seq []))) ∧
      (mac → ¬ quiet → ¬ good → Does (.proof d) s [.net] (fun t => failed t ∧
        Responded t { t.net with ports := s.net.ports } d 4 1 c.id [] (kepMac key 4 true 1 c.id d.seq []))) ∧
      (mac → ¬ quiet → good → full → Does (.proof d) s [.net] (fun t =>
        Responded t { s.net with chals := rest } d 4 6 c.id [] (kepMac key 4 true 6 c.id d.seq []))) ∧
      (mac → ¬ quiet → good → ∀ i : Fin 4, s.net.sess[i] = none → (∀ j : Fin 4, j < i → s.net.sess[j] ≠ none) →
        let pl := hmac k.secret (kepa ++ c.ns ++ c.nc ++ leN 4 c.id.toNat) ++ [BitVec.ofNat 8 k.role]
        Does (.proof d) s [.net] (fun t => (Settled s → Raised t 474) ∧
          Responded t { s.net with
            chals := rest
            sess := s.net.sess.set i (some { id := c.id, keyId := c.keyId, role := k.role, key := key, last := some d.seq
                                             resp := some (4, 0, pl) }) }
            d 4 0 c.id pl (kepMac key 4 true 0 c.id d.seq pl)))) ∧
    (∀ i x, Requested s 5 d i x → Served (.close d) s 5 d i x 0 (d.payload ≠ [])
      (Does (.close d) s [.net, .windows, .armed, .latch] (fun t => closed t i ∧
        Responded t { s.net with
          sess := s.net.sess.set i none, clearNonce := s.net.clearNonce.filter (fun c => c.sess ≠ i.val) }
          d 5 0 d.sess [] (kepMac x.key 5 true 0 d.sess d.seq [])))) ∧
    (∀ op i x, opUnknown op = true → Requested s op d i x →
      Replies (.unknownOperation op d) s op d i x [] s.net 7 [] (fun _ => True)) ∧
    (∀ i : Fin 4, s.net.sess[i] ≠ none → Does (.sessionTimeout i) s [.net, .windows, .armed, .latch] (fun t => closed t i ∧
      t.net = { s.net with sess := s.net.sess.set i none, clearNonce := s.net.clearNonce.filter (fun c => c.sess ≠ i.val) })) ∧
    (∀ c ∈ s.net.chals, DoesSilently (.challengeLapse c.id) s [.net] (fun t =>
      t.net = { s.net with chals := s.net.chals.filter (fun x => x.id ≠ c.id) })) ∧
    (∀ ip ∈ s.net.lockouts, DoesSilently (.helloLockoutEnd ip) s [.net] (fun t =>
      t.net = { s.net with lockouts := s.net.lockouts.filter (fun x => x ≠ ip) }))

/-- R327–R331: a request with a wrong MAC or an older SEQ is discarded, and one that repeats the last SEQ is answered again without effect;
a new one is answered STATUS 5 while the last executes or NET is quiesced. R331, R332: READ answers with the words of its registers; WRITE applies words up to the first refused, none of a register with RWK fields;
KWRITE does so inside the keyed window of its block; MODE writes MODE_CMD; each answers with how far it came.
The model's choices here: assumption log 49, 50, 51, 54. -/
def Obligations.RegisterRequests : Prop :=
  (∀ (s : State) (d : Dgram) (op : Byte) (c : Instr) (i : Fin 4) (x : Sess),
    (op, c) ∈ [((0x05 : Byte), Instr.close d), (0x10, .read d), (0x11, .write d), (0x12, .kwrite d), (0x20, .imgOpen d), (0x21, .imgData d),
      (0x22, .imgEnd d), (0x30, .modeOp d), (0x40, .logRead d), (0x42, .logClearChal d), (0x43, .logClear d), (0x44, .canCapture d),
      (0x50, .keySet d)] → dgramHere s d = true → sessOf s d = some (i, x) →
    (d.mac ≠ kepMac x.key op false 0 d.sess d.seq d.payload → DoesSilently c s [] (fun _ => True)) ∧
    (∀ l, x.last = some l → l ≠ d.seq → seqAfter d.seq l = false → DoesSilently c s [] (fun _ => True)) ∧
    (∀ o st pl, d.mac = kepMac x.key op false 0 d.sess d.seq d.payload → x.last = some d.seq → x.resp = some (o, st, pl) →
      Does c s [.net] (fun t => Responded t s.net d o st d.sess pl (kepMac x.key o true st d.sess d.seq pl))) ∧
    (d.mac = kepMac x.key op false 0 d.sess d.seq d.payload → (∀ l, x.last = some l → l ≠ d.seq ∧ seqAfter d.seq l = true) →
      (s.pwr.quiet.getLsbD 0 = true ∨ executing s x = true) → (s.net.transfer = none → dramRoom s (rd d.payload 4 4) = true) →
      Does c s [.net] (fun t => Responded t s.net d op 5 d.sess [] (kepMac x.key op true 5 d.sess d.seq [])))) ∧
  (∀ (s : State) (d : Dgram) (i : Fin 4) (x : Sess),
    let a := rd d.payload 0 4
    let n := rd d.payload 4 2
    let u := seenBy s d i
    let span := a % 4 = 0 ∧ a + 4 * n ≤ 2 ^ 32
    -- the work of the request has left the state `v`; the station answers with `st` and `pl`
    let ends := fun (c : Instr) (op : Byte) (v : State) (st : Nat) (pl : List Byte) => ∃ t, exec c s = .next t ∧ t.pending = s.pending ∧
      (∀ b : Block, b ≠ .net → b.Same v t) ∧ (alive v = true → v.net.sess[i] = some { x with last := some d.seq } →
        Responded t (answeredNet v.net d i x op st pl) d op st d.sess pl (kepMac x.key op true st d.sess d.seq pl))
    (Requested s 0x10 d i x → Served (.read d) s 0x10 d i x 0 (d.payload.length ≠ 6 ∨ n = 0 ∨ 256 < n ∨ ¬ span)
      (let r := readWords (sessReq i) n a u
       Replies (.read d) s 0x10 d i x [.latch, .qp] s.net 0 (leN 2 n ++ [0, 0] ++ r.1) (fun t => t.latch = r.2.latch ∧ t.qp = r.2.qp))) ∧
    (Requested s 0x11 d i x → Served (.write d) s 0x11 d i x (writeRole a n)
      (n = 0 ∨ 64 < n ∨ d.payload.length ≠ 8 + 4 * n ∨ ¬ span)
      (let r := writeWords i.val (wordsOf (d.payload.drop 8)) a u
       ends (.write d) 0x11 r.2 (if r.1 = n then 0 else 4) (leN 2 r.1) ∧ r.1 ≤ n ∧
         ((∀ j < n, isRwk (a + 4 * j) = false ∧ dataIdx (a + 4 * j) = none) → r.1 = n) ∧ (isRwk a = true → r.1 = 0))) ∧
    (let pairs := (List.range n).map (fun j => (rd d.payload (8 + 8 * j) 4, rdW d.payload (12 + 8 * j)))
     Requested s 0x12 d i x → Served (.kwrite d) s 0x12 d i x 2
      (n = 0 ∨ 16 < n ∨ d.payload.length ≠ 8 + 8 * n ∨ isKey a = false ∨ ∃ p ∈ pairs, p.1 % 4 ≠ 0 ∨ blockKey p.1 ≠ some a)
      (let r := writePairs i.val pairs (openWindow u i.val a)
       ends (.kwrite d) 0x12 (closeWindow r.2 i.val a) (if r.1 = n then 0 else 4) (leN 2 r.1) ∧ (i.val, a) ∈ (openWindow u i.val a).windows ∧
         (i.val, a) ∉ (closeWindow r.2 i.val a).windows)) ∧
    (let k := rd d.payload 0 1
     let keys := fun (t : State) => t.windows = s.windows.filter (· ≠ (i.val, 0x308)) ∧ t.armed = s.armed.filter (· ≠ (i.val, 0x308))
     Requested s 0x30 d i x → Served (.modeOp d) s 0x30 d i x 1 (d.payload.length ≠ 4 ∨ 7 < k)
      ((k = 0 → Replies (.modeOp d) s 0x30 d i x [.windows, .armed] s.net 0 [] keys) ∧
       (k ≠ 0 → modeOk s k = true → Replies (.modeOp d) s 0x30 d i x [.stn, .windows, .armed] s.net 0 [] (fun t => keys t ∧
         t.stn.modeCmd = BitVec.ofNat 3 k ∧ t.stn.modeSess = i.val ∧ .mode (BitVec.ofNat 3 k) i.val ∈ t.stn.accepted)) ∧
       (k ≠ 0 → modeOk s k = false → Replies (.modeOp d) s 0x30 d i x [.stn, .windows, .armed] s.net 4 [] (fun t => keys t ∧
         t.stn.accepted = s.stn.accepted ∧ t.stn.mode = s.stn.mode ∧
         Noted s t 0x5005 i.val 1 [BitVec.ofNat 8 k, BitVec.ofNat 8 s.stn.mode.code, s.stn.stopCause.zeroExtend 8])))))

/-- R333, R352, R356: one image transfer is open at a time; chunks come in any order; its end hands a full image to IMG, which writes it when
every check passes, or stages a change package.
The model's choices here: assumption log 4, 50, 51, 52. -/
def Obligations.Transfers : Prop :=
  ∀ (s : State) (d : Dgram) (i : Fin 4) (x : Sess),
    let target := rd d.payload 0 1
    let total := rd d.payload 4 4
    let o := rd d.payload 0 4
    let n := rd d.payload 4 2
    (s.net.transfer = none → d.payload.length = 8 → target ≤ 4 → total ≤ (if target = 4 then 0x1000000 else 0x10000000) →
      dramRoom s total = false → DoesSilently (.imgOpen d) s [] (fun _ => True)) ∧
    (Requested s 0x20 d i x → (s.net.transfer = none → dramRoom s total = true) → Served (.imgOpen d) s 0x20 d i x 2
      (d.payload.length ≠ 8 ∨ 4 < target ∨ total = 0 ∨ (if target = 4 then 0x1000000 else 0x10000000) < total)
      ((s.net.transfer ≠ none → Replies (.imgOpen d) s 0x20 d i x [] s.net 5 [] (fun _ => True)) ∧
       (s.net.transfer = none → Replies (.imgOpen d) s 0x20 d i x []
         { s.net with transfer := some { target := target, total := total, chunks := [] } } 0 [] (fun _ => True)))) ∧
    (Requested s 0x21 d i x → Served (.imgData d) s 0x21 d i x 2 (n = 0 ∨ 1024 < n ∨ d.payload.length ≠ 8 + n)
      ((s.net.transfer = none → Replies (.imgData d) s 0x21 d i x [] s.net 4 [] (fun _ => True)) ∧
       ∀ f, s.net.transfer = some f →
         (f.total < o + n → Replies (.imgData d) s 0x21 d i x [] s.net 3 [] (fun _ => True)) ∧
         (o + n ≤ f.total → Replies (.imgData d) s 0x21 d i x []
           { s.net with transfer := some { f with chunks := f.chunks ++ [(o, d.payload.drop 8)] } } 0 [] (fun _ => True)))) ∧
    (Requested s 0x22 d i x → Served (.imgEnd d) s 0x22 d i x 2 (d.payload ≠ [])
      ((s.net.transfer = none → Replies (.imgEnd d) s 0x22 d i x [] s.net 4 [] (fun _ => True)) ∧
       ∀ f, s.net.transfer = some f →
         let done := fun (l : List Block) (st : Nat) (P : State → Prop) => ∃ w, Replies (.imgEnd d) s 0x22 d i x l
           { s.net with transfer := none } st (if st = 4 then [] else leN 4 w ++ leN 4 0) (fun t => (Settled s → Raised t 477) ∧ P t)
         let b := f.bytes
         let p : BitVec 2 := BitVec.ofNat 2 f.target
         let busy := s.stn.olcState ∈ [2, 4, 5] ∨ commitPending s = true
         let loads := fun (t : State) (code : Nat) => t.img.loadCode = BitVec.ofNat 4 code ∧ t.img.loadProf = p ∧ t.img.fromFlash = false
         (∀ m r, f.missing = m :: r →
           Replies (.imgEnd d) s 0x22 d i x [] s.net 3 (leN 4 m ++ leN 4 (r.length + 1)) (fun _ => True)) ∧
         (f.missing = [] → f.target = 4 →
           (packageOk b = false → done [] 3 (fun _ => True)) ∧ (packageOk b = true → busy → done [] 4 (fun _ => True)) ∧
           (packageOk b = true → ¬ busy → done [.stn] 0 (fun t => t.stn = { s.stn with staged := b, olcState := 1, olcCmd := 0 }))) ∧
         (f.missing = [] → f.target < 4 →
           let c := (checkImage s p.toNat b).1.1
           done [.stn, .img] (if s.pair.state ∈ [1, 4, 5] then 4 else 0) (fun t => t.img.running = s.img.running ∧ t.img.banks = s.img.banks ∧ t.img.commits = s.img.commits ∧
             t.stn.staged = s.stn.staged ∧
             (c ≠ 0 → loads t c ∧ t.img.wState = s.img.wState ∧ (Settled s → Raised t 501)) ∧
             (c = 0 → flashBusy s p = true → loads t 13 ∧ t.img.wState = s.img.wState ∧ (Settled s → Raised t 501)) ∧
             (c = 0 → flashBusy s p = false → s.pair.state ∈ [1, 4, 5] → loads t 15 ∧ t.img.wState = s.img.wState ∧
               (Settled s → Raised t 501)) ∧
             (c = 0 → flashBusy s p = false → s.pair.state ∉ [1, 4, 5] → loads t 0 ∧
               (s.img.wState = 0 → t.img.wState = 2 ∧ t.img.wProf = p ∧ t.img.wBytes = b) ∧
               (s.img.wState ≠ 0 → t.img.wWait = s.img.wWait ++ [(p, false, b)])))))) ∧
    (alive s = true → s.net.transfer ≠ none → DoesSilently .transferAbandon s [.net] (fun t => t.net = { s.net with transfer := none }))

/-! ### Ledger and event router -/

/-- R7, R374, R376, R378, R382, R383, R410: a record flushed stands in its slot, or leaves the slot bad with MRAM_ERR; the clears and
counts of LOG and EVR; and the supervisor takes the raise of the highest priority, then the lowest source.
R334, R335, R343, R381, R382: the answers of LOG_READ and CAN_CAPTURE; a clear takes its challenge, the HMAC of the station key and no other
clear in progress; KEY_SET writes one key and makes a MAJOR record.
The model's choices here: assumption log 1, 24, 50, 51, 53, 56. -/
def Obligations.LedgerCommands : Prop :=
  (∀ s : State,
    (∀ r own rest, Quiet s → alive s = true → s.log.flush ≠ .idle → 0 < s.log.flushLeft → s.log.buf = (r, own) :: rest →
      rest.length < 200 →
      (Does (.flushRecordDone true) s [] (fun t =>
        aget t.log.circ (r.seq.toNat % 65536) = some (.good r) ∧
        (∀ n, n ≠ r.seq.toNat % 65536 → aget t.log.circ n = aget s.log.circ n) ∧
        (r.seq.toNat < 4096 → aget t.log.perm r.seq.toNat = some (.good r) ∨
          ∃ q, aget s.log.perm r.seq.toNat = some (.good q) ∧ t.log.perm = s.log.perm) ∧
        (∃ new, t.log.buf = rest ++ new) ∧ t.log.mramErr = s.log.mramErr ∧
        (s.log.flushLeft = 1 → t.log.twPcyc = s.log.pcyc ∧ t.log.twOpms = s.log.opms ∧ t.log.twClean = false))) ∧
      (Does (.flushRecordDone false) s [] (fun t =>
        (∃ n, aget t.log.circ (r.seq.toNat % 65536) = some (.bad n)) ∧
        (∀ n, n ≠ r.seq.toNat % 65536 → aget t.log.circ n = aget s.log.circ n) ∧ t.log.perm = s.log.perm ∧
        (∃ new, t.log.buf = rest ++ new) ∧ t.log.mramErr = true ∧ Raised t 494))) ∧
    (alive s = true →
      (s.log.clearStep = 3 → Does .clearDone s [] (fun t => (Settled s → Raised t 491) ∧ (Quiet s → t.log.clearStep = 0 ∧
        ∀ x, x ∈ t.log.circ ↔ x ∈ s.log.circ ∧ ∀ r, x.2 = .good r → seqAfter s.log.clearSeq r.seq = false))) ∧
      (s.log.lockout = true → Does .clearLockoutEnd s [] (fun t =>
        Quiet s → t.log = { s.log with lockout := false, hmacFails := [] })) ∧
      (s.net.clearNonce ≠ none → DoesSilently .clearChallengeLapse s [.net] (fun t => t.net = { s.net with clearNonce := none })) ∧
      (Quiet s → s.evr.queue ≠ [] → Does .supQueueTake s [] (fun t => ∃ q ∈ s.evr.queue,
        (∀ x ∈ s.evr.queue, x.2 < q.2 ∨ (x.2 = q.2 ∧ q.1 ≤ x.1)) ∧ t.evr = { s.evr with queue := s.evr.queue.erase q } ∧
        t.log = s.log))) ∧
    ∀ sess, Opened s sess →
      Does (.logFlush sess) s [] (fun t => Quiet s → t.log = if s.log.buf = [] then { s.log with cmdLeft := 0 } else
        { s.log with flush := if s.log.flush = .idle then .command else s.log.flush
                     flushLeft := max s.log.flushLeft s.log.buf.length, cmdLeft := s.log.buf.length }) ∧
      Does (.logClrCnt sess) s [] (fun t => Quiet s → t.log = { s.log with dbDrop := 0, lost := 0, failCnt := 0 }) ∧
      Does (.evrClrCnt sess) s [] (fun t => Quiet s → t.evr = { s.evr with drop := 0, raiseCnt := Vector.replicate 512 0 })) ∧
  (∀ (s : State) (d : Dgram) (i : Fin 4) (x : Sess),
    let u := seenBy s d i
    (let g := rd d.payload 0 1
     let count := rd d.payload 2 2
     let first := rd d.payload 4 4
     let n := match g with
       | 0 => min count 32 | 1 => min (min count 16) (4096 - first) | 2 => min count 16 | _ => min (min count 16) (64 - first)
     let slot := fun (j : Nat) => if g = 1 then slotBytes (aget u.log.perm (first + j))
       else if g = 2 then slotBytes (aget u.log.circ ((first + j) % 65536)) else slotBytes ((u.log.hist[first + j]?).map Slot.good)
     Requested s 0x40 d i x → Served (.logRead d) s 0x40 d i x 0
      (d.payload.length ≠ 8 ∨ 3 < g ∨ (g = 1 ∧ 4096 ≤ first) ∨ (g = 2 ∧ 65536 ≤ first) ∨ (g = 3 ∧ 64 ≤ first))
      ((g = 0 → Replies (.logRead d) s 0x40 d i x [] s.net 0 (leN 2 n ++ [0, 0] ++ (dbRead n first u).1) (fun _ => True)) ∧
       (g ≠ 0 → Replies (.logRead d) s 0x40 d i x [] s.net 0 (leN 2 n ++ [0, 0] ++ (List.range n).flatMap slot) (fun _ => True)))) ∧
    (Requested s 0x42 d i x → Served (.logClearChal d) s 0x42 d i x 2 (d.payload ≠ [])
      ((u.log.lockout = true → Replies (.logClearChal d) s 0x42 d i x [] s.net 4 [] (fun _ => True)) ∧
       (u.log.lockout = false → ∃ nl, nl.length = 16 ∧ Replies (.logClearChal d) s 0x42 d i x []
         { s.net with clearNonce := some { sess := i.val, nl := nl, next := u.log.lgNext } } 0
         (nl ++ leN 8 Config.serial.toNat ++ leN 4 u.log.lgNext.toNat) (fun _ => True)))) ∧
    (let reason := rd d.payload 0 2
     let r := clearReason u i reason (sub d.payload 4 32)
     let used := { s.net with clearNonce := s.net.clearNonce.filter (fun c => c.sess ≠ i.val) }
     Requested s 0x43 d i x → Served (.logClear d) s 0x43 d i x 2 (d.payload.length ≠ 36)
      ((r ≠ 0 → Replies (.logClear d) s 0x43 d i x [] used 4 [] (fun t => (Settled s → Raised t 492) ∧
         Recorded s t 0x5806 0xFFFF 1 ([BitVec.ofNat 8 r, x.keyId, 0, 0] ++ leN 4 d.ip.toNat) ∧
         (Quiet s → t.log.failCnt = satInc s.log.failCnt ∧ t.log.clearStep = s.log.clearStep ∧
           (r ≠ 2 → t.log.lockout = s.log.lockout ∧ t.log.hmacFails = s.log.hmacFails)))) ∧
       (r = 0 → 256 ≤ u.log.buf.length → Replies (.logClear d) s 0x43 d i x [] used 5 [] (fun _ => True)) ∧
       (r = 0 → u.log.buf.length < 256 → Replies (.logClear d) s 0x43 d i x [] used 0 (leN 4 u.log.lgNext.toNat) (fun t =>
         Quiet s → t.log.clearStep = 2 ∧ t.log.clearSeq = s.log.lgNext ∧ t.log.flush ≠ .idle ∧
           ∃ c, t.log.hist = s.log.hist ++ [c] ∧ c.seq = s.log.lgNext ∧ c.code.toNat = 0x5805)))) ∧
    (let k := rd d.payload 0 1
     let n := rd d.payload 1 1
     Requested s 0x44 d i x → Served (.canCapture d) s 0x44 d i x 0 (d.payload.length ≠ 4 ∨ 7 < k ∨ n = 0 ∨ 16 < n)
      (∀ q : Fin 8, q.val = k →
        let l := s.can.ctl[q].cap.take n
        Replies (.canCapture d) s 0x44 d i x [.can] s.net 0
          ([BitVec.ofNat 8 l.length, 0, 0, 0] ++ leN 4 (s.can.ctl[q].wakeDm.toNat / 2 ^ 32) ++ l.flatMap capBytes) (fun t =>
            ∀ j : Fin 8, t.can.ctl[j] = if j = q then { s.can.ctl[q] with cap := s.can.ctl[q].cap.drop n } else s.can.ctl[j]))) ∧
    (let kind := rd d.payload 0 1
     let ent := rd d.payload 1 1
     let role := rd d.payload 3 1
     let key := sub d.payload 4 32
     let recorded := fun (t : State) => Recorded s t 0x6000 i.val 3 [BitVec.ofNat 8 kind, BitVec.ofNat 8 ent]
     Requested s 0x50 d i x → Served (.keySet d) s 0x50 d i x 3
      (d.payload.length ≠ 36 ∨ 2 < kind ∨ (match kind with | 0 => 16 | 1 => 4 | _ => 2) ≤ ent ∨ (kind = 0 ∧ 3 < role))
      ((kind = 0 → ent = 0 → Replies (.keySet d) s 0x50 d i x [] s.net 4 [] (fun _ => True)) ∧
       (kind = 0 → ent ≠ 0 → Replies (.keySet d) s 0x50 d i x []
         { s.net with keys := vmodN s.net.keys ent (fun _ => some { keyId := d.payload.getD 2 0, role := role, secret := key }) } 0 [] recorded) ∧
       (kind = 1 → Replies (.keySet d) s 0x50 d i x [.img] s.net 0 [] (fun t => recorded t ∧
         t.img = { s.img with imgKeys := vmodN s.img.imgKeys ent (fun _ => key) })) ∧
       (kind = 2 → Replies (.keySet d) s 0x50 d i x [.img] s.net 0 [] (fun t => recorded t ∧
         t.img = { s.img with safKeys := vmodN s.img.safKeys ent (fun _ => key) })))))

/-! ### Boundaries -/

/-- R21, R24, R60, R218, R262: a boundary falls 20 µs after the last, on every tier whose period divides its instant; time passes to it and TIER_CNT of those
tiers advances, in a warm reset too, in which COUNT points count on; a standby whose work has ended in its windows hands over and latches (R25) and holds the rest of
the boundary, with its own readings and the event tasks it would start, until its input set is complete; an active station of a synchronised pair sends the set.
The model's choices here: assumption log 5, 19, 20, 33, 66. -/
def Obligations.TierLadder : Prop :=
  ∀ (s : State) (x : BoundaryIn), (alive s = true ∨ s.pwr.power = .warm) → s.stn.refOk = true → s.stn.pllLock = true →
    let b := s.stn.lastB + 20000
    let slow := if b % 100000000 = 0 then 4 else if b % 10000000 = 0 then 3 else if b % 1000000 = 0 then 2
      else if b % 100000 = 0 then 1 else 0
    let late := alive s = true ∧ ((∃ (e : Fin 16) (k : Fin 5), Unfinished s e k ∧ windowEnd s ⟨e.val, by omega⟩ k ≤ b) ∨
      (s.le[(16 : Fin 17)].running = true ∧ windowEnd s 16 0 ≤ b ∧
        (s.le[(16 : Fin 17)].cyc.phase = .ready ∨ s.le[(16 : Fin 17)].cyc.phase = .run)))
    ∃ t, exec (.tierBoundary x) s = .next t ∧ t.pending = s.pending ∧ t.stn.lastB = b ∧ (¬ late → alive s = true → s.pair.state = 4 → PassedTo s t b) ∧
      (alive s = false → PassedTo s t b) ∧
      (∀ k : Fin 5, t.stn.cnt[k] = if k.val ≤ slow then s.stn.cnt[k] + 1 else s.stn.cnt[k]) ∧
      (alive s = false → KeepsBut [.stn, .fld] s t ∧ t.fld = { s.fld with pts := s.fld.pts.map (fun p =>
        if p.mode = 5 then { p with cand := p.cand.map (· + 20000) } else p) }) ∧
      (¬ late → alive s = true → s.pair.state = 4 → t.stn.accepted = s.stn.accepted ∧ t.ang = s.ang ∧ t.lp = s.lp ∧ t.can = s.can ∧
        t.net = s.net ∧ t.pwr = s.pwr ∧ t.img = s.img ∧
        (if 1 ≤ slow ∧ s.pwr.quiet.getLsbD 2 = false ∧ s.stk.role = 1 ∧ s.stk.up[(0 : Fin 3)] = true then
          t.stk = { s.stk with asked := true } else t.stk = s.stk) ∧
        (∃ l : List DistCmd, t.pair = { s.pair with await := some { slow := slow, own := x, starts := l, t0 := none }, fresh := t.pair.fresh } ∧
          ∀ c, c ∈ l ↔ ∃ (e : Fin 16) (i : Fin 4) (f : Fin 17), c = .evtTask e i ∧ f.val = e.val ∧ 1 ≤ slow ∧ s.le[f].running = true ∧
            s.le[f].frozen = false ∧ s.le[f].pending[i] = true) ∧
        ∀ e : Fin 16, ∀ f : Fin 17, f.val = e.val → s.le[f].running = true → s.le[f].frozen = false → s.le[f].cyc.phase = .done →
          1 ≤ s.le[f].tier.toNat → s.le[f].tier.toNat ≤ slow → s.pwr.pf = false → s.pwr.quiet = 0 → t.le[f].cyc.phase = .idle) ∧
      (alive s = true → s.pair.state = 2 → slow = 0 → s.pwr.quiet = 0 → s.sent = [] → ∃ l, Sent.inputSet false l ∈ t.sent)

/-! ### The redundant pair -/

/-- R259, R261, R264, R265, R269: heartbeats leave on the 5 µs grid; one that comes ends a run of misses, counts the lane it did not come
on, and moves the station between SEEKING, SYNCING, ACTIVE_SOLO, ACTIVE and STANDBY as its own STATE and the partner's say.
The model's choices here: assumption log 5, 19, 33. -/
def Obligations.Heartbeats : Prop :=
  ∀ s : State, alive s = true → s.pair.member = true →
    (let h := max (s.pair.hbT + 5000) ((s.stn.tierRef.toNat + 4999) / 5000 * 5000)
     Does .heartbeatSend s [.stn, .pair] (fun t => t.pair = { s.pair with hbT := h, seq := s.pair.seq + 1 } ∧ PassedTo s t h ∧
      t.stn.cnt = s.stn.cnt ∧ Sends s t (.heartbeat (heartbeatWord s (s.pair.seq + 1) false) (s.pwr.quiet.getLsbD 9)))) ∧
    ∀ (w : Word) (a b : LaneRx) (id depart : Bool), (a = .ok ∨ b = .ok) →
      let st : BitVec 3 := BitVec.ofNat 3 (w.toNat / 256 % 8)
      let fault := w.getLsbD 12
      let released := w.getLsbD 13
      let own := s.stn.pairIdPin
      let hears := fun (P : State → Prop) => Does (.heartbeatReceive w a b id depart) s [.stn, .pair, .stk, .can, .fld, .qp] (fun t =>
        t.pair.partner = st ∧ t.pair.misses = 0 ∧ SameClock s t ∧ P t ∧
        LaneTook s t 0 a (satInc s.pair.lanes[0].miss) ∧ LaneTook s t 1 b (satInc s.pair.lanes[1].miss))
      let stays := hears (fun t => t.pair.state = s.pair.state ∧ t.stn = s.stn ∧ t.can = s.can ∧ t.stk = s.stk ∧ t.qp = s.qp)
      (∀ m, s.pair.setMiss = some m → ¬ (s.pair.state = 4 ∧ fault = true ∧ released = true) → hears (fun t => t.pair.state = 5 ∧ t.pair.await = none ∧ t.pair.setMiss = none ∧ t.fld = s.fld ∧
        Noted s t 0x4801 0xFFFF 1 ([if m then (0 : Byte) else 1, 0, 0, 0] ++ leN 4 s.stn.cnt[0].toNat))) ∧
      (s.pair.state = 4 → fault = true → released = true → s.pair.await = none → hears (fun t => TookOver s t 2 true ∧
        (s.stk.member = false → t.stn = s.stn))) ∧
      (s.pair.setMiss = none →
        (s.pair.state = 1 → id = own → hears (fun t => t.pair.state = 1 ∧ t.pair.idConflict = true ∧ t.fld = s.fld)) ∧
        (s.pair.state = 1 → id ≠ own → (st = 2 ∨ st = 3) → hears (fun t => t.pair.state = 5 ∧ t.pair.idConflict = false ∧
          t.fld = s.fld ∧ ∃ off : Int, off.natAbs ≤ 50000000 ∧ t.stn = (slewBy s off).stn)) ∧
        (s.pair.state = 1 → id ≠ own → st = 1 → s.stn.refLoss = false → (w.getLsbD 14 = true ∨ own = false) →
          hears (fun t => t.pair.state = 3 ∧ t.pair.cause = 5 ∧ Drives t true ∧ (s.stk.member = false → t.stn = s.stn))) ∧
        (s.pair.state = 2 → (depart = true ∨ fault = true ∨ st ∈ [1, 5, 6, 7]) →
          hears (fun t => t.pair.state = 3 ∧ t.pair.check = none ∧ (Settled s → Raised t 454))) ∧
        (s.pair.state = 2 → depart = false → fault = false → st ∉ [1, 5, 6, 7] → stays) ∧
        (s.pair.state = 3 → st = 4 → depart = false → hears (fun t => t.pair.state = 2 ∧ t.pair.tookSilent = false)) ∧
        (s.pair.state = 3 → ¬ (st = 4 ∧ depart = false) → stays) ∧
        (s.pair.state = 4 → ¬ (fault = true ∧ released = true) → stays) ∧
        (s.pair.state = 5 → (st = 2 ∨ st = 3) → stays) ∧
        (s.pair.state = 5 → ¬ (st = 2 ∨ st = 3) → hears (fun t => t.pair.state = 1 ∧ t.fld = s.fld ∧ t.stn = s.stn)) ∧
        (s.pair.state ∈ [0, 6, 7] → stays))

/-- R262–R264, R266: a missed due item counts, and the second in a row is the partner's silence; a part of the set ends a run of misses, waits for
the other, and once the set is complete the held boundary is executed and no longer held; after a missed part the station leaves STANDBY.
The model's choices here: assumption log 5, 19, 33. -/
def Obligations.InputSets : Prop :=
  ∀ s : State, alive s = true → s.pair.member = true →
    let held := s.pair.await
    (∀ k : Fin 3, (s.pair.state ≠ 4 → k = 0) → (s.pair.state = 4 → match held with
        | some a => (k = 1 → a.t0 = none ∧ s.pair.setMiss = none) ∧ (k = 2 → 1 ≤ a.slow ∧ s.pair.setMiss ≠ some false)
        | none => k = 0) →
      let due := if k = 0 then (let g := s.stn.tierRef.toNat / 5000 * 5000 + 1000; if g < s.stn.tierRef.toNat then g + 5000 else g)
        else s.stn.lastB + (if k = 1 then 3000 else 4000)
      let missed := fun (P : State → Prop) => Does (.dueMiss k) s [.stn, .pair, .stk, .can, .fld, .qp] (fun t =>
        PassedTo s t due ∧ t.stn.cnt = s.stn.cnt ∧ P t ∧
        ∀ l : Fin 2, t.pair.lanes[l] = if k = 0 then { s.pair.lanes[l] with miss := satInc s.pair.lanes[l].miss } else s.pair.lanes[l])
      (s.pair.misses = 0 → missed (fun t => t.pair.state = s.pair.state ∧ t.pair.misses = 1 ∧ t.pair.await = held ∧ t.fld = s.fld ∧
        t.pair.setMiss = if k = 0 then s.pair.setMiss else some (k == 1))) ∧
      (1 ≤ s.pair.misses → s.pair.state = 4 → held = none → missed (fun t => TookOver s t 1 false)) ∧
      (1 ≤ s.pair.misses → s.pair.state = 2 → missed (fun t => t.pair.state = 3 ∧ t.pair.partner = 0 ∧ (Settled s → Raised t 454))) ∧
      (1 ≤ s.pair.misses → s.pair.state = 5 → missed (fun t => t.pair.state = 1 ∧ t.pair.partner = 0 ∧ t.fld = s.fld)) ∧
      (1 ≤ s.pair.misses → s.pair.state ∉ [2, 4, 5] → missed (fun t => t.pair.state = s.pair.state ∧ t.pair.partner = 0 ∧
        t.fld = s.fld ∧ t.can = s.can ∧ t.stk = s.stk))) ∧
    ∀ (w : Await) (a b : LaneRx) (rest : Bool) (items : List SetItem), held = some w → s.pair.state = 4 →
      let set := Instr.inputSetReceive rest ⟨a, b, items⟩
      let comes := a = .ok ∨ b = .ok
      let runs := ∃ t, exec set s = .next t ∧ t.pending = s.pending ∧ t.pair.await = none ∧ SameClock s t
      let takes := fun (l : List Block) (P : State → Prop) => Does set s l (fun t => P t ∧
        LaneTook s t 0 a s.pair.lanes[0].miss ∧ LaneTook s t 1 b s.pair.lanes[1].miss)
      let only := fun (t : State) (p : PairBlk) => t.pair = { p with lanes := t.pair.lanes, laneUp := t.pair.laneUp }
      (¬ comes → takes [.pair] (fun t => only t s.pair)) ∧
      (∀ m, comes → s.pair.setMiss = some m → takes [.pair, .stk, .can] (fun t =>
        t.pair.state = 5 ∧ t.pair.await = none ∧ Noted s t 0x4801 0xFFFF 1 ([if m then (0 : Byte) else 1, 0, 0, 0] ++ leN 4 s.stn.cnt[0].toNat))) ∧
      (comes → s.pair.setMiss = none →
        (rest = false → w.slow ≠ 0 → takes [.pair] (fun t =>
          only t { s.pair with misses := 0, await := some { w with t0 := some items } })) ∧
        (rest = false → w.slow = 0 → runs) ∧ (rest = true → w.t0 ≠ none → runs) ∧
        (rest = true → w.t0 = none → takes [.pair] (fun t => only t { s.pair with misses := 0 })))

/-- R23, R259–R261, R265, R268, R269, R274, R325: what moves a station between roles beside heartbeats and due items, the lanes, presence, and the
commands of PAIR.CTRL.
The model's choices here: assumption log 5, 19, 33, 59, 66. -/
def Obligations.PairRoles : Prop :=
  ∀ s : State, alive s = true →
    let p := s.pair
    let member := p.member = true
    let netUp := s.pwr.quiet.getLsbD 0 = false
    (∀ l : Fin 2,
      (p.laneUp[l] = true → Does (.laneDown l) s [.pair] (fun t => (Settled s → Raised t 449) ∧ t.pair = { p with
        laneUp := p.laneUp.set l false, lanes := p.lanes.set l { p.lanes[l] with down := satInc p.lanes[l].down, bad := 0 } })) ∧
      (p.laneUp[l] = false → Does (.laneUp l) s [.pair] (fun t => (Settled s → Raised t 450) ∧ t.pair = { p with
        laneUp := p.laneUp.set l true, lanes := p.lanes.set l { p.lanes[l] with bad := 0 } }))) ∧
    (member → (p.state = 2 ∨ p.state = 3) → ∃ t cause, exec .ownFaultReport s = .next t ∧ 2 ≤ cause ∧ cause ≤ 7 ∧ InWarmReset s t cause ∧
      t.pair.state = 6 ∧ t.pair.faulty = true ∧ Drives t false) ∧
    (member → p.state = 1 → p.heard = false → s.stn.refLoss = false → Does .seekingTimeout s [.stn, .pair, .stk, .can, .fld] (fun t =>
      t.pair.state = 3 ∧ t.pair.cause = 5 ∧ Drives t true ∧ SameClock s t ∧ (s.stk.member = false → t.stn = s.stn))) ∧
    (member → netUp → s.img.running ≠ none → p.state ≠ 6 → Does .presenceSend s [.stn] (fun t =>
      PassedTo s t (s.stn.lastB / 1000000 * 1000000 + 500000) ∧ t.stn.cnt = s.stn.cnt ∧ ∃ seq, ∀ leafB,
        let c : TelCopy := { ver := 1, kind := 2, telId := 0xFFFF, src := s.net.stnId.zeroExtend 16, dst := s.net.stnId.zeroExtend 16
                             seq := seq, len := 1, rsv := 0, words := [{ val := presenceWord s, tag := tagOf 0 }] }
        Sends s t (.telegram leafB (telOn s.net leafB s.net.presMac c)))) ∧
    (∀ (st : BitVec 3) (driving id : Bool), member → netUp → id ≠ s.stn.pairIdPin →
      let dual := p.tookSilent = true ∧ (p.state = 2 ∨ p.state = 3) ∧ (st = 2 ∨ st = 3) ∧ driving = true
      (¬ dual → DoesSilently (.presenceReceive st driving id) s [.pair] (fun t => t.pair = { p with presence := true })) ∧
      (dual → Does (.presenceReceive st driving id) s [.pair, .stk, .can, .fld] (fun t => t.pair = { p with presence := true, state := 7 } ∧
        Drives t false ∧ (Settled s → Raised t 455) ∧ Recorded s t 0x4803 0xFFFF 1 [st.zeroExtend 8]))) ∧
    (p.presence = true → DoesSilently .presenceLapse s [.pair] (fun t => t.pair = { p with presence := false })) ∧
    (∀ n : Fin 112, member → compared s n.val = true → (p.state = 2 ∨ (p.state = 4 ∧ cmpDue s n.val = true)) →
      DoesSilently (.fieldDisagree n) s [.pair] (fun t => t.pair = { p with
        cmpCnt := satInc p.cmpCnt, check := if p.check = none then some (.field n.val) else p.check, cmpRun := t.pair.cmpRun } ∧
        cmpDue t n.val = false)) ∧
    (s.stn.slewing = true → s.stn.slewLeft.natAbs ≤ 50 → DoesSilently .tierAligned s [.stn] (fun t =>
      t.stn = { s.stn with slewing := false, aligned := true, slewLeft := 0, slewRem := 0 })) ∧
    ∀ sess, Windowed s sess 0x3000C →
      (p.state = 2 → p.partner = 4 → p.switchReq = false → DoesSilently (.switch sess) s [.pair, .stn] (fun t =>
        t.pair = { p with switchReq := true } ∧ t.stn = { s.stn with accepted := s.stn.accepted ++ [.switchover] })) ∧
      (p.state = 2 → p.partner = 4 → p.switchReq = true → DoesSilently (.switch sess) s [] (fun _ => True)) ∧
      (¬ (p.state = 2 ∧ p.partner = 4) → Does (.switch sess) s [.pair] (fun t => t.pair = { p with switchReq := false } ∧
        Noted s t 0x4806 sess.val 1 [p.state.zeroExtend 8, p.partner.zeroExtend 8])) ∧
      (p.state = 6 ∨ p.state = 7 → Does (.rejoin sess) s [.pair, .stk, .can] (fun t =>
        t.pair = { p with state := 1, faulty := false, heard := false, tookSilent := false })) ∧
      (¬ (p.state = 6 ∨ p.state = 7) → DoesSilently (.rejoin sess) s [] (fun _ => True)) ∧
      DoesSilently (.pairClrCnt sess) s [.pair] (fun t => t.pair = { p with
        lanes := p.lanes.map (fun l => { l with miss := 0, crc := 0, down := 0 }), switchCnt := 0, resyncCnt := 0, cmpCnt := 0, cmpPoint := 0 })

/-- R259, R271–R273, R275: digests are computed and sent, compared, and the mask returned; a mismatch starts self-checks, whose outcome makes the
station FAULTY, switches over, or leaves STANDBY; at the end of the stream the joining station holds the active one's state and is STANDBY.
The model's choices here: assumption log 5, 16, 19, 34, 35, 59, 69. -/
def Obligations.DigestsAndSync : Prop :=
  ∀ s : State, alive s = true → s.pair.member = true →
    let p := s.pair
    let t2 := s.stn.lastB / 1000000 * 1000000
    let mismatch := fun (t : State) (m : BitVec 10) =>
      if m = 0 then t.pair.mismatch = p.mismatch ∧ t.pair.digCnt = p.digCnt ∧ t.pair.check = p.check
      else t.pair.mismatch = m ∧ t.pair.digCnt = satInc p.digCnt ∧ t.pair.check = some (.digest m) ∧ (Settled s → Raised t 451)
    ((p.state = 2 ∨ p.state = 4) → Does .digestComputed s [.stn, .pair] (fun t => PassedTo s t (t2 + 500000) ∧ t.stn.cnt = s.stn.cnt ∧
      t.pair = { p with digests := p.fresh } ∧ (p.state = 2 → Sends s t (.digests p.fresh)))) ∧
    (∀ a b l, (a = .ok ∨ b = .ok) → p.state = 4 → Does (.digestReceive ⟨a, b, l⟩) s [.stn, .pair] (fun t => PassedTo s t (t2 + 600000) ∧ t.pair.missedDig = 0 ∧
      t.pair.state = 4 ∧ ∃ m, Sends s t (.mask m) ∧ mismatch t m ∧
        ∀ k : Fin 10, m.getLsbD k.val = true ↔ p.digests[k.val]? ≠ l[k.val]?)) ∧
    (∀ a b m, (a = .ok ∨ b = .ok) → p.state = 2 → Does (.mismatchMaskReceive ⟨a, b, m⟩) s [.stn, .pair] (fun t => PassedTo s t (t2 + 700000) ∧ t.pair.state = 2 ∧
      t.pair.missedDig = 0 ∧ mismatch t m)) ∧
    ((p.state = 2 ∨ p.state = 4) → p.missedDig < 2 → Does .digestTransferMissed s [.stn, .pair] (fun t =>
      PassedTo s t (t2 + if p.state = 4 then 600000 else 700000) ∧
      t.pair = { p with missedDig := p.missedDig + 1 })) ∧
    (p.state = 4 → 2 ≤ p.missedDig → Does .digestTransferMissed s [.stn, .pair, .stk, .can] (fun t => PassedTo s t (t2 + 600000) ∧
      t.pair.state = 5 ∧ t.pair.missedDig = 0 ∧ t.pair.digCnt = satInc p.digCnt ∧ t.pair.mismatch = 0x3FF ∧ t.pair.result = 4 ∧
      (Settled s → Raised t 451))) ∧
    (p.state = 2 → 2 ≤ p.missedDig → Does .digestTransferMissed s [.stn, .pair] (fun t => PassedTo s t (t2 + 700000) ∧
      t.pair = { p with missedDig := 0, digCnt := satInc p.digCnt, mismatch := 0x3FF, result := 4 } ∧ (Settled s → Raised t 451) ∧
      Recorded s t 0x4804 0xFFFF 1 (([255, 3, 4, 0] : List Byte) ++ leN 4 s.stn.cnt[2].toNat))) ∧
    (∀ c own partner, p.check = some c → (p.state = 2 ∨ p.state = 4) →
      let standbyFails := if p.state = 4 then own else partner
      let activeFails := if p.state = 4 then partner else own
      let code := if standbyFails then (if activeFails then 3 else 1) else if activeFails then 2 else 4
      let result := fun (t : State) => t.pair.check = none ∧ t.pair.result.toNat = code
      let faulty := ∃ t cause, exec (.selfCheckOutcome own partner) s = .next t ∧ 2 ≤ cause ∧ cause ≤ 7 ∧ InWarmReset s t cause ∧
        t.pair.state = 6 ∧ t.pair.faulty = true ∧ Drives t false
      let does := fun (P : State → Prop) => Does (.selfCheckOutcome own partner) s [.pair, .stk, .can, .fld, .qp] (fun t => result t ∧ P t)
      (code = 4 → does (fun t => t.fld = s.fld ∧ t.qp = s.qp ∧ (∀ n, c = .field n → t.pair.cmpPoint = BitVec.ofNat 7 n) ∧
        t.pair.state = if p.state = 4 ∧ (∃ m, c = .digest m) then 5 else p.state)) ∧
      (code = 2 → p.state = 4 → Does (.selfCheckOutcome own partner) s [.stn, .pair, .stk, .can, .fld, .qp] (fun t => result t ∧
        SameClock s t ∧ (s.stk.member = false → t.stn = s.stn) ∧
        t.pair.state = 3 ∧ t.pair.cause = 3 ∧ Drives t true ∧ (Settled s → Raised t 448))) ∧
      (code = 2 → p.state = 2 → faulty) ∧
      ((code = 1 ∨ code = 3) → p.state = 4 → faulty) ∧
      ((code = 1 ∨ code = 3) → p.state = 2 → does (fun t => t.pair.state = 3 ∧ t.fld = s.fld ∧ (Settled s → Raised t 454)))) ∧
    (∀ (a b : LaneRx) (x : SyncSet), p.state = 5 → s.stn.aligned = true → s.stn.lastB % 100000000 = 0 → x.stn.lastB % 100000000 = 0 →
      a ≠ .ok → b ≠ .ok → Does (.resyncMarkReceive ⟨a, b, x⟩) s [.pair] (fun t =>
        LaneTook s t 0 a p.lanes[0].miss ∧ LaneTook s t 1 b p.lanes[1].miss)) ∧
    (∀ (a b : LaneRx) (x : SyncSet), (a = .ok ∨ b = .ok) → p.state = 5 → s.stn.aligned = true → s.stn.lastB % 100000000 = 0 →
      x.stn.lastB % 100000000 = 0 → s.img.running.map imageId = some (imageId x.image) →
      Does (.resyncMarkReceive ⟨a, b, x⟩) s [.stn, .vars, .le, .lp, .qp, .ang, .fld, .saf, .pair, .stk, .can, .net, .img] (fun t =>
        t.img.running = s.img.running ∧
        LaneTook s t 0 a p.lanes[0].miss ∧ LaneTook s t 1 b p.lanes[1].miss ∧
        t.pair.state = 4 ∧ t.pair.progress = 100 ∧ t.pair.passes = x.passes ∧ t.pair.resyncCnt = satInc p.resyncCnt ∧ t.pair.await = none ∧ t.pair.misses = 0 ∧
        (Settled s → Raised t 453) ∧ t.vars = x.vars ∧ (∀ e : Fin 17, Engine.SameBut x.le[e] t.le[e]) ∧ t.lp = x.lp ∧ t.qp = x.qp.placedIdle ∧
        t.stn.cnt = x.stn.cnt ∧ t.stn.mode = x.stn.mode ∧ t.stn.forces = x.stn.forces ∧ t.stn.halves = x.stn.halves ∧
        t.stn.time = s.stn.time ∧ t.stn.accepted = [] ∧ t.net.tx = x.tx ∧ (∀ r : Fin 128, (t.net.rx[r]).map RxTel.portless = (x.rx[r]).map RxTel.portless) ∧ t.net.sess = s.net.sess ∧
        t.ang.evt = x.ang.evt ∧ ∀ b : Fin 8, t.fld.banks[b].drive = false)) ∧
    (∀ (a b : LaneRx) (x : SyncSet), (a = .ok ∨ b = .ok) → p.state = 5 → s.stn.aligned = true → s.stn.lastB % 100000000 = 0 →
      x.stn.lastB % 100000000 = 0 → s.img.running.map imageId ≠ some (imageId x.image) →
      let code := (checkImage s (imageProfile x.image % 4) x.image).1.1
      ∃ t, exec (.resyncMarkReceive ⟨a, b, x⟩) s = .next t ∧ t.pending = s.pending ∧ t.img.loadCode = BitVec.ofNat 4 code ∧
        (code ≠ 0 → t.pair = { p with lanes := t.pair.lanes, laneUp := t.pair.laneUp } ∧ t.img.running = s.img.running ∧ t.vars = s.vars) ∧
        (code = 0 → t.pair.state = 4 ∧ t.img.running = some x.image ∧ t.vars = x.vars ∧
          (s.img.wState = 0 → (committed s (BitVec.ofNat 2 (imageProfile x.image))).map imageId ≠ some (imageId x.image) →
            t.img.wState = 2 ∧ t.img.wBytes = x.image)))

/-! ### The stack -/

/-- R259, R280–R285, R287–R293, R409: what each kind of Transom packet does at the station that it is for; a packet whose CRC fails counts, and the
third in a row takes its port down; over the Sash link the lanes count, and the first good copy is taken. In a warm reset the station goes on passing packets.
The model's choices here: assumption log 5, 55, 80, 82. -/
def Obligations.StackPackets : Prop :=
  (∀ (s : State) (a b : LaneRx) (c : Bool) (p : TPkt), transomUp s = true → s.pair.member = true →
    let took := fun (u : State) => LaneTook s u 0 a s.pair.lanes[0].miss ∧ LaneTook s u 1 b s.pair.lanes[1].miss ∧ KeepsBut [.pair] s u ∧
      u.pair = { s.pair with lanes := u.pair.lanes, laneUp := u.pair.laneUp }
    let good := fun (x : LaneRx) => if x = .ok then LaneRx.ok else .none
    (a ≠ .ok → b ≠ .ok → Does (.transomPacketReceive (.sash a b) c p) s [.pair] took) ∧
    (a = .ok ∨ b = .ok → ∃ u, took u ∧
      exec (.transomPacketReceive (.sash a b) c p) s = exec (.transomPacketReceive (.sash (good a) (good b)) true p) u)) ∧
  ∀ (s : State) (q : PktIn) (p : TPkt), transomUp s = true → (∀ i, q = .port i → s.stk.up[i] = true) →
    (∀ a b, q = .sash a b → s.pair.member = true ∧ a ≠ .crc ∧ b ≠ .crc ∧ (a = .ok ∨ b = .ok) ∧
      (a = .ok → s.pair.lanes[0].bad = 0) ∧ (b = .ok → s.pair.lanes[1].bad = 0)) →
    let k := match q with
      | .port i => { s.stk with ports := s.stk.ports.set i { s.stk.ports[i] with run := 0 } }
      | .sash _ _ => s.stk
    let inp : Fin 8 := match q with | .port i => ⟨5 + i.val, by omega⟩ | .sash _ _ => 4
    let pkt := Instr.transomPacketReceive q true p
    let nothing := DoesSilently pkt s [.stk] (fun t => t.stk = k)
    let passes := fun (outs : List (Option (Fin 3))) => Does pkt s [.stk] (fun t => t.stk = k ∧ (outs ≠ [] → Sends s t (.stack outs p)))
    let standby := s.pair.state = 4
    let master := k.role = 2 ∨ k.role = 4
    (∀ i, q = .port i →
      let bad := fun (r : Nat) => k.ports.set i { s.stk.ports[i] with crc := satInc s.stk.ports[i].crc, run := r }
      (s.stk.ports[i].run < 2 → DoesSilently (.transomPacketReceive q false p) s [.stk] (fun t =>
        t.stk = { k with ports := bad (s.stk.ports[i].run + 1) })) ∧
      (2 ≤ s.stk.ports[i].run → Does (.transomPacketReceive q false p) s [.stk, .qp] (fun t =>
        PortLost s t i { k with ports := bad 0 }))) ∧
    (∀ port : Fin 3, p = .transit port →
      (k.up[port] = true → Does pkt s [.stk] (fun t => t.stk = k ∧ Sends s t (.forward port.val))) ∧ (k.up[port] = false → nothing)) ∧
    (∀ (port : Fin 3) h ns, p = .placedTransit port h ns →
      (k.up[port] = true ∨ (alive s = true ∧ s.pair.member = true) → DoesSilently pkt s [.fab, .stk] (fun t => t.stk = k ∧
        t.fab = { s.fab with wait := s.fab.wait ++
          [{ port := inp, via := [], tgt := if k.up[port] then .transom port else .sash, soon := h.soon, srcBlk := h.srcBlk
             srcStn := h.srcStn, dstBlk := h.dstBlk, dst := h.dstStn, words := h.words
             age0 := min (h.age + ns / 8) 0x7FFFFF, issued := s.stn.time.toNat
             deadline := s.stn.time.toNat + h.deadline - s.stn.tierRef.toNat, kib := 0, release := none, sat := false }] })) ∧
      (k.up[port] = false → s.pair.member = false → nothing)) ∧
    (alive s = false →
      (∀ pair id, p = .barArrive pair id → passes (upOuts s inp)) ∧ (∀ id failed, p = .barRelease id failed → passes (downOuts s inp)) ∧
      (∀ id ts, p = .snapAnnounce id ts → passes (downOuts s inp))) ∧
    (alive s = true →
      (∀ i vals, p = .xfer i vals →
        let mine := fun (x : Xfer) => k.xfers[i]? = some x ∧ x.dst = k.pairNum.toNat ∧ k.inStack = true ∧ k.mismatch = false
        ((∀ x, ¬ mine x) → nothing) ∧
        ∀ x, mine x →
          let c := s.stn.tierRef.toNat / tierNs x.tier
          (standby → Does pkt s [.stk] (fun t => t.stk = k ∧ Sends s t (.sashXfer i vals))) ∧
          (¬ standby → (∃ r ∈ k.rx, r.1 = i ∧ r.2.1 = c) → nothing) ∧
          (¬ standby → (∀ r ∈ k.rx, ¬ (r.1 = i ∧ r.2.1 = c)) → DoesSilently pkt s [.stk] (fun t =>
            t.stk = { k with rx := k.rx.filter (fun r => r.1 ≠ i) ++ [(i, c, vals)] }))) ∧
      (∀ ns, p = .timing ns →
        let d : Int := if ns < -10 then -10 else if 10 < ns then 10 else ns
        (¬ (k.role = 1 ∧ k.asked = true) → nothing) ∧
        (k.role = 1 → k.asked = true → DoesSilently pkt s [.stk, .stn] (fun t =>
          t.stk = { k with ofs := k.ofs + BitVec.ofInt 64 d, synced := decide ((ns - d).natAbs ≤ 50), asked := false } ∧
          t.stn = if s.pair.state = 4 ∨ s.pair.state = 5 then s.stn
            else if s.stn.slewing then { s.stn with slewLeft := s.stn.slewLeft + d }
            else { s.stn with tierRef := s.stn.tierRef + BitVec.ofInt 64 d }))) ∧
      (∀ m sched time, p = .members m sched time → Does pkt s [.stk, .qp, .stn] (fun t => NoticeTaken s t k inp m sched time)) ∧
      (∀ pair id, p = .barArrive pair id →
        let cols := arrive k.cols id (1#32 <<< pair.val) s.stn.tierRef.toNat
        let full := fun (c : Collect) => c.bits &&& k.members = k.members
        (¬ master → passes (upOuts s inp)) ∧
        (master → (∀ c ∈ cols, ¬ full c) → DoesSilently pkt s [.stk] (fun t => t.stk = { k with cols := cols })) ∧
        (master → (∀ c ∈ cols, full c ↔ c.id = id) → (∃ c ∈ cols, c.id = id) → Does pkt s [.stk] (fun t =>
          BarrierOver s t { k with cols := cols } id false))) ∧
      (∀ id failed, p = .barRelease id failed → Does pkt s [.stk] (fun t =>
        (downOuts s inp ≠ [] → Sends s t (.stack (downOuts s inp) p)) ∧
        (k.role = 0 → t.stk = k) ∧ (k.role ≠ 0 → BarrierEnds s t k id failed))) ∧
      (∀ id ts, p = .snapAnnounce id ts → Does pkt s [.stk] (fun t =>
        (downOuts s inp ≠ [] → Sends s t (.stack (downOuts s inp) p)) ∧
        let known := k.role = 0 ∨ (k.snapState ≠ 0 ∧ k.snapId = id ∧ k.snapT = ts)
        let late := ts.toNat < (s.stn.time + k.ofs).toNat
        (known → t.stk = k) ∧
        (¬ known → t.stk = { k with snapId := id, snapT := ts, snapState := if late then 3 else 1 } ∧
          (late → Settled s → Raised t 463)))) ∧
      (∀ stn id time d, p = .snapSet stn id time d →
        (master ∧ id = k.snapId → DoesSilently pkt s [.stk] (fun t =>
          t.stk = { k with snapSets := k.snapSets.filter (fun x => x.1 ≠ stn.val) ++ [(stn.val, time, d)] })) ∧
        (¬ (master ∧ id = k.snapId) → nothing)) ∧
      (∀ x, p = .problem x →
        (¬ standby → k.inStack = true → DoesSilently pkt s [.stk, .qp] (fun t => t.stk = k ∧
          t.qp = { s.qp with peers := s.qp.peers ++ [{ prob := x, t0 := s.stn.tierRef.toNat, sat := false }] })) ∧
        (standby ∨ k.inStack = false → nothing)) ∧
      (∀ n prio, p = .raised n prio → Does pkt s [.stk] (fun t => t.stk = k ∧ (Quiet s →
        (master → ¬ standby → s.evr.queue.length < 128 → t.evr = { s.evr with queue := s.evr.queue ++ [(n.val, prio.val)] }) ∧
        (¬ (master ∧ ¬ standby) → t.evr = s.evr)))))

/-- R7, R281, R283, R284, R287–R289, R292–R294: ports go down and up, a remote output without its commands takes its safe state, barriers time
out and snapshots are latched, and what a session may ask of the stack; the stack-reset symbol is sent on and resets the station.
The model's choices here: assumption log 5, 19, 55, 82. -/
def Obligations.StackCommands : Prop :=
  ∀ s : State,
    let k := s.stk
    let own : Word := 1#32 <<< k.pairNum.toNat
    let master := k.role = 2 ∨ k.role = 4
    let below := upPorts s [1, 2] ++ sashOut s
    (transomUp s = true →
      (∀ q mirror sched told, k.up[(q : Fin 3)] = true → Does (.portDown q mirror sched told) s [.stk, .qp] (fun t =>
        PortLost s t q (if told then StkBlk.schedHeard { k with up := k.up.set q false, mirror := mirror } 4 sched else k))) ∧
      (∀ q heard sched time, k.up[(q : Fin 3)] = false → Does (.portUp q heard sched time) s [.stk, .qp, .stn] (fun t =>
        (alive s = true → Settled s → Raised t 457) ∧
        NoticeTaken s t { k with up := k.up.set q true, ports := k.ports.set q { k.ports[q] with run := 0 } } ⟨5 + q.val, by omega⟩ heard sched
          time)) ∧
      (∀ q : Fin 3, k.up[q] = true → ∃ t, exec (.stackResetSymbol q) s = .next t ∧ InWarmReset s t 5 ∧ Sends s t .resetSymbol)) ∧
    (alive s = true →
      (∀ (p : Fin 96) n, remLoss s p.val = some n → n ≤ (aget k.miss p.val).getD 0 → p.val ∉ k.remSafe →
        Does (.remoteOutputLoss p) s [.stk, .fld, .vars] (fun t => t.stk = { k with remSafe := p.val :: k.remSafe } ∧
          (∀ j : Fin 96, t.fld.pts[j] = if j = p then s.fld.pts[p].toSafe s.stn.tierRef.toNat else s.fld.pts[j]) ∧ t.fld.banks = s.fld.banks)) ∧
      (∀ c rest, k.cols = c :: rest → master → Does .barrierTimeout s [.stk, .stn] (fun t =>
        BarrierOver s t k c.id true ∧ PassedTo s t (c.t0 + 10000000))) ∧
      (k.snapState = 1 → s.pair.await = none →
        (k.snapT.toNat : Int) ≤ ((s.stn.time + k.ofs).toNat : Int) - s.stn.tierRef.toNat + s.stn.lastB + 50 →
        let d := k.snapList.map (fun n => (n, dataRead s n))
        Does .snapshotLatch s [.stk, .fab] (fun t => (Settled s → Raised t 463) ∧
          (∃ sets, t.stk = { k with snapState := 2, snapTime := s.stn.time, snapData := d, snapSets := sets } ∧
            (master → ∃ i, (i, s.stn.time, d) ∈ sets) ∧ (¬ master → sets = k.snapSets)) ∧
          (¬ master → Sends s t (.snapSet k.snapId s.stn.time d)))) ∧
      ∀ sess, Windowed s sess 0x4001C →
        (master → ∃ t, exec (.stackReset sess) s = .next t ∧ InWarmReset s t 5 ∧ Sends s t .resetSymbol) ∧
        (¬ master → Does (.stackReset sess) s [] (fun t => Noted s t 0x4001 sess.val 1 [k.role.zeroExtend 8])) ∧
        (¬ master → DoesSilently (.snapReq sess) s [] (fun _ => True)) ∧
        (master → Does (.snapReq sess) s [.stk] (fun t => ∃ id ts, (s.stn.time + k.ofs).toNat + 1600 * k.depth.toNat + 1000 ≤ ts ∧
          ts < (s.stn.time + k.ofs).toNat + 1600 * k.depth.toNat + 101000 ∧ ts % 100000 = 0 ∧
          t.stk = { k with snapId := id, snapState := 1, snapT := BitVec.ofNat 64 ts, snapSets := [] } ∧
          (below ≠ [] → Sends s t (.stack below (.snapAnnounce id (BitVec.ofNat 64 ts)))))) ∧
        DoesSilently (.stkClrCnt sess) s [.stk] (fun t =>
          t.stk = { k with ports := t.stk.ports, peerLost := 0, reroot := 0 } ∧
          ∀ q : Fin 3, t.stk.ports[q] = { late := 0, crc := 0, down := 0, run := k.ports[q].run }) ∧
        ∀ id : BitVec 16,
          let free := k.role ≠ 0 ∧ s.pair.state ≠ 4
          let outs := upPorts s [0] ++ sashOut s
          let w := { k with barId := id, barState := 1, cols := arrive k.cols id own s.stn.tierRef.toNat }
          let full := fun (c : Collect) => c.bits &&& k.members = k.members
          (¬ free → DoesSilently (.barrierArrive sess id) s [] (fun _ => True)) ∧
          (free → k.barState = 1 → k.barId = id → DoesSilently (.barrierArrive sess id) s [] (fun _ => True)) ∧
          (free → k.barState = 1 → k.barId ≠ id → Does (.barrierArrive sess id) s [] (fun t =>
            Noted s t 0x4000 (2 * k.pairNum.toNat + if s.stn.pairIdPin then 1 else 0) 1 (leN 2 id.toNat ++ leN 2 k.barId.toNat))) ∧
          (free → k.barState ≠ 1 → ¬ master → Does (.barrierArrive sess id) s [.stk] (fun t =>
            t.stk = { k with barId := id, barState := 1 } ∧ (outs ≠ [] → Sends s t (.stack outs (.barArrive k.pairNum.toFin id))))) ∧
          (free → k.barState ≠ 1 → master → (∀ c ∈ w.cols, ¬ full c) → DoesSilently (.barrierArrive sess id) s [.stk] (fun t => t.stk = w)) ∧
          (free → k.barState ≠ 1 → master → (∀ c ∈ w.cols, full c ↔ c.id = id) → (∃ c ∈ w.cols, c.id = id) →
            Does (.barrierArrive sess id) s [.stk] (fun t => BarrierOver s t w id false)))

/-! ### The fabric -/

/-- R7, R45, R46, R49, R51, R53–R55: a timed transfer that misses its deadline ages its variables and makes a MAJOR entry; no port has more
than 16 packets outstanding toward a target; an arbiter grants the packet of the largest AGE, in turn among equals, once a gap and a buffer
wait for it; a buffer stands until it is freed; a late packet and a saturated AGE count; CLR_CNT clears the counts.
The model's choices here: assumption log 4, 5, 42, 73, 80. -/
def Obligations.Fabric : Prop :=
  ∀ s : State,
    (alive s = true →
      (∀ blk inst tier dl vars port, Does (.timedDeadlineMiss blk inst tier dl vars port) s [.stn, .vars, .stk] (fun t =>
        t.stn = { s.stn with timedLate := satInc s.stn.timedLate } ∧ (Settled s → Raised t 496) ∧
        Noted s t 0x5003 (256 * (blk % 256) + inst % 256) 3 ([BitVec.ofNat 8 tier.val, 0, 0, 0] ++ leN 4 dl.toNat) ∧
        t.vars.length = s.vars.length ∧
        (∀ (i : Nat) (v : Var), s.vars[i]? = some v → ∃ w, t.vars[i]? = some w ∧ w.idx = v.idx ∧ w.cur.val = v.cur.val ∧ w.wrote = v.wrote ∧
          (v.idx ∉ vars → w = v) ∧ (v.idx ∈ vars → v.forced = false → 5 ≤ w.cur.tag.q.toNat) ∧ (v.idx ∈ vars → 5 ≤ w.unf.tag.q.toNat)) ∧
        t.stk = { s.stk with ports := t.stk.ports } ∧
        ∀ p : Fin 3, t.stk.ports[p] = if port = some p then { s.stk.ports[p] with late := satInc s.stk.ports[p].late }
          else s.stk.ports[p])) ∧
      (∀ tgt new,
        let w := plBegin s new
        let bounded := fun (x : State) => ∀ port to_, plOutstanding s port to_ ≤ 16 → plOutstanding x port to_ ≤ 16
        let age := fun (p : PlPkt) => plAge s.stn.time.toNat p
        let oldest := fun (p : PlPkt) => p ∈ w.fab.wait ∧ p.at_ = tgt ∧ ∀ q ∈ w.fab.wait, q.at_ = tgt →
          age q ≤ age p ∧ (age q = age p → plTurn w tgt p.port ≤ plTurn w tgt q.port)
        let cmd := Instr.placedPacketGrant tgt new
        s.fab.wait <+: w.fab.wait ∧ bounded w ∧ (∀ p ∈ w.fab.wait ++ w.fab.queue, p ∈ s.fab.wait ++ s.fab.queue ∨ p.words ≤ 64 ∨
          ∃ q ∈ s.fab.queue, p = q.issuedAt s.stn.time.toNat) ∧
        ((∀ p, oldest p → plReady w p = false) → Does cmd s [.fab] (fun t => t.fab = w.fab ∧ (s.evr.out = [] → Silent s t))) ∧
        ((∃ p, oldest p) → (∀ p, oldest p → plReady w p = true) → Does cmd s [.fab, .stn] (fun t => ∃ p, oldest p ∧
          Sends s t (.packet tgt (plHdr s p).bits) ∧
          t.fab.queue = w.fab.queue ∧ t.fab.last = (tgt, p.port) :: w.fab.last.filter (fun x => x.1 ≠ tgt) ∧
          (p.via ≠ [] → t.stn = s.stn ∧ t.fab.out = w.fab.out ∧ t.fab.bufs = w.fab.bufs ∧
            t.fab.wait = w.fab.wait.erase p ++ [{ p with via := p.via.tail }]) ∧
          (p.via = [] → t.fab.wait = w.fab.wait.erase p ∧ t.fab.out = w.fab.out ++ [p] ∧
            (p.kib = 0 → t.stn = s.stn ∧ t.fab.bufs = w.fab.bufs) ∧
            (p.kib ≠ 0 → ∃ sram, t.fab.bufs = w.fab.bufs ++ [{ num := w.fab.next, kib := p.kib, inSram := sram }] ∧
              t.stn = { s.stn with placedFree := t.stn.placedFree, dramFree := t.stn.dramFree } ∧
              (sram = true → p.soon = true ∧ p.kib ≤ 64 ∧ t.stn.dramFree = s.stn.dramFree ∧
                t.stn.placedFree.toNat + p.kib = s.stn.placedFree.toNat) ∧
              (sram = false → t.stn.placedFree = s.stn.placedFree ∧ t.stn.dramFree.toNat + p.kib = s.stn.dramFree.toNat)))))) ∧
      (∀ port tgt p, s.fab.out.find? (fun p => p.port == port && p.tgt == tgt) = some p →
        Does (.placedPacketComplete port tgt) s [.fab, .stn] (fun t =>
          t.fab.out = s.fab.out.erase p ∧ s.fab.wait <+: t.fab.wait ∧
          (∀ q rest, s.fab.queue = q :: rest → q.port = port → q.tgt = tgt → plOutstanding s port tgt ≤ 16 →
            q.issuedAt s.stn.time.toNat ∈ t.fab.wait) ∧
          (let late := p.deadline < s.stn.time.toNat
           (late → t.stn.lateCnt = satInc s.stn.lateCnt ∧ (Settled s → Raised t 497)) ∧ (¬ late → t.stn.lateCnt = s.stn.lateCnt)) ∧
          t.stn = { s.stn with lateCnt := t.stn.lateCnt, placedFree := t.stn.placedFree, dramFree := t.stn.dramFree } ∧
          (p.release = none → t.stn.placedFree = s.stn.placedFree ∧ t.stn.dramFree = s.stn.dramFree ∧ t.fab.bufs = s.fab.bufs) ∧
          (∀ n b, p.release = some n → s.fab.bufs.find? (fun b => b.num == n) = some b →
            t.fab.bufs = s.fab.bufs.filter (fun b => b.num ≠ n) ∧
            if b.inSram then t.stn.placedFree = s.stn.placedFree + BitVec.ofNat 16 b.kib ∧ t.stn.dramFree = s.stn.dramFree
            else t.stn.placedFree = s.stn.placedFree ∧ t.stn.dramFree = s.stn.dramFree + BitVec.ofNat 32 b.kib))) ∧
      (∀ tgt,
        let mark := fun (p : PlPkt) => { p with sat := true }
        let sat := plSaturates s tgt
        let counts := fun (t : State) => t.stn = { s.stn with satCnt := satInc s.stn.satCnt } ∧ (Settled s → Raised t 498)
        (s.fab.wait.any sat = true → Does (.ageSaturation tgt) s [.fab, .stn] (fun t => counts t ∧
          t.fab = { s.fab with wait := modFirst sat mark s.fab.wait })) ∧
        (s.fab.wait.any sat = false → s.fab.out.any sat = true → Does (.ageSaturation tgt) s [.fab, .stn] (fun t => counts t ∧
          t.fab = { s.fab with out := modFirst sat mark s.fab.out })) ∧
        (tgt = .solver → (s.fab.wait ++ s.fab.out).any sat = false → (∃ x, reqSaturates s x = true) →
          Does (.ageSaturation tgt) s [.qp, .stn] (fun t => counts t ∧ t.qp.slots = s.qp.slots ∧ ∃ x m, s.qp.tmpls[x] = some m ∧
            reqSaturates s x = true ∧ t.qp.tmpls[x] = some { m with
              wait := modFirst (fun r => !r.sat && reqAge s m r == 0x7FFFFF) (fun r => { r with sat := true }) m.wait } ∧
            ∀ j : Fin 64, j ≠ x → t.qp.tmpls[j] = s.qp.tmpls[j])))) ∧
    ∀ sess, Opened s sess → DoesSilently (.fabClrCnt sess) s [.stn] (fun t =>
      t.stn = { s.stn with timedLate := 0, lateCnt := 0, satCnt := 0 })

/-! ### CAN -/

/-- R299–R304, R306, R307, R310: a frame received counts, and the first object that it suits takes its data, or the capture FIFO the frame; a frame
sent leaves its request; the time master sends its reference message; windows open, close and are missed.
The model's choices here: assumption log 5, 45. -/
def Obligations.CanTraffic : Prop :=
  ∀ (s : State) (k : Fin 8), alive s = true → s.pwr.quiet.getLsbD 1 = false →
    let c := s.can.ctl[k]
    let src := fun (i : Nat) => 128 + 8 * k.val + i
    (∀ f res, (c.state = 2 ∨ c.state = 3) → (f.fdf = true → c.cfg.getLsbD 1 = true) → f.data.length ≤ (if f.fdf then 64 else 8) →
      let does := CanDoes (.canFrameReceive k f res) s k
      let found := c.objs.find? (fun o => o.selects f)
      (f.fdf = true → res = true → does (fun _ d => d = { c with
        pxe := true, pxeCnt := if c.state = 2 then satInc c.pxeCnt else c.pxeCnt, state := 1 })) ∧
      (¬ (f.fdf = true ∧ res = true) →
        does (fun _ d => d.rxCnt = c.rxCnt + (if c.state = 2 then 1 else 0) ∧ d.txdOff = false ∧ d.state = c.state ∧ d.tec = c.tec ∧ d.txCnt = c.txCnt ∧ d.acks = c.acks ∧
          (c.state = 2 → d.reqs = c.reqs ∧ (c.recv.toNat ≤ 127 → d.recv = c.recv - (if c.recv = 0 then 0 else 1)) ∧
            (127 < c.recv.toNat → 119 ≤ d.recv.toNat ∧ d.recv.toNat ≤ 127))) ∧
        (∀ o, found = some o → f.data.length < o.len → does (fun _ d =>
          d.lenErr = (if c.state = 2 then satInc c.lenErr else c.lenErr) ∧ d.rx = c.rx ∧ d.cap = c.cap)) ∧
        (∀ o, found = some o → o.len ≤ f.data.length → c.state = 2 → does (fun t d =>
          d.rx = c.rx.filter (fun x => x.1 ≠ o.idx) ++ [(o.idx, f.data)] ∧ d.lenErr = c.lenErr ∧ d.cap = c.cap ∧
          ((∃ x ∈ c.rx, x.1 = o.idx) → d.overwrite = satInc c.overwrite ∧ (Settled s → Raised t (src 5))) ∧
          ((∀ x ∈ c.rx, x.1 ≠ o.idx) → d.overwrite = c.overwrite))) ∧
        (∀ o, found = some o → c.state = 3 → does (fun _ d => d.rx = c.rx ∧ d.cap = c.cap)) ∧
        (found = none → c.cfg.getLsbD 10 = false → does (fun _ d => d.rx = c.rx ∧ d.cap = c.cap)) ∧
        (found = none → c.cfg.getLsbD 10 = true → c.cap.length < 64 → does (fun _ d => d.rx = c.rx ∧ d.cap = c.cap ++ [(s.stn.time, f)])) ∧
        (found = none → c.cfg.getLsbD 10 = true → 64 ≤ c.cap.length → does (fun t d => d.rx = c.rx ∧ d.cap = c.cap ∧
          if c.state = 2 then d.capOvf = satInc c.capOvf ∧ (Settled s → Raised t (src 5)) else d.capOvf = c.capOvf)) ∧
        (c.cfg.toNat / 4 % 4 ≠ 0 → c.ttMaster = false → c.isRef f = true → (f.data.getD 0 0).getLsbD 7 = false →
          does (fun _ d => d.ttSync = true ∧ d.cycle = (f.data.getD 0 0).truncate 6)))) ∧
    (c.state = 2 →
      (∀ i o tdcv, c.maySend (128 + (i : Fin 64).val) s.stn.tierRef.toNat = true → c.obj? (128 + i.val) = some o →
        CanDoes (.canFrameSent k (some i) tdcv) s k (fun t d => d.txCnt = c.txCnt + 1 ∧ d.tec = c.tec - (if c.tec = 0 then 0 else 1) ∧
          d.reqs = c.reqs.filter (fun r => r.obj ≠ o.idx) ∧ d.state = 2 ∧ d.txdOff = false ∧
          (bindVar o.ack = none → d.acks = c.acks) ∧
          (bindVar o.ack ≠ none → aget d.acks o.idx = some ((aget c.acks o.idx).getD 0 + 1) ∧ o.idx ∈ d.ackNew) ∧
          (Quiet s → ∃ f, .canFrame k.val f ∈ t.sent.take 1 ∧ f.id = o.id.truncate 29 ∧ f.ide = o.ide ∧
            f.fdf = c.sendsFd o ∧ f.esi = (f.fdf && (127 < c.tec.toNat || 127 < c.recv.toNat)) ∧ f.brs = (f.fdf && o.brs && !(c.dbt.getLsbD 19 && 127 < tdcv)) ∧
            ∀ r, c.reqs.find? (fun r => r.obj == o.idx) = some r → r.data.length ≤ f.data.length → f.data.take r.data.length = r.data) ∧
          (c.sendsFd o = true → c.dbt.getLsbD 19 = true → tdcv ≤ 127 → d.tdcv.toNat = tdcv ∧ d.tdcErr = c.tdcErr) ∧
          (c.sendsFd o = true → c.dbt.getLsbD 19 = true → 127 < tdcv → d.tdcErr = satInc c.tdcErr))) ∧
      (∀ tdcv, c.ttMaster = true → CanDoes (.canFrameSent k none tdcv) s k (fun _ d =>
        d = { c with txCnt := c.txCnt + 1, tec := c.tec - (if c.tec = 0 then 0 else 1), txdOff := false })) ∧
      (∀ i o, c.maySend (128 + (i : Fin 64).val) s.stn.tierRef.toNat = true → c.obj? (128 + i.val) = some o →
        CanDoes (.arbitrationLoss k (.object i)) s k (fun t d =>
          if c.once o then d = { c with reqs := c.reqs.filter (fun r => r.obj ≠ 128 + i.val), oneshot := satInc c.oneshot } ∧
            (Settled s → Raised t (src 4)) else d = c)) ∧
      (c.ttMaster = true → CanDoes (.arbitrationLoss k (.reference true)) s k (fun t d =>
        d = { c with conflict := true, demoted := true, ttMaster := false } ∧ (Settled s → Raised t (src 7)))) ∧
      (c.ttMaster = true → CanDoes (.arbitrationLoss k (.reference false)) s k (fun _ d => d = c)) ∧
      (∀ (n : Fin 64) late, c.tt = 1 → c.bound = true → c.demoted = false → n.val < c.nbc →
        CanDoes (.canReferenceSend k n late) s k (fun t d => d = { c with
          ttMaster := true, ttSync := true, cycle := BitVec.ofNat 6 n.val, rfLate := if late then satInc c.rfLate else c.rfLate } ∧
          Sends s t (.canFrame k.val (refFrame c n.val))))) ∧
    (c.state = 3 → ∀ (n : Fin 64) late, c.tt = 1 → c.bound = true → c.demoted = false → n.val < c.nbc →
      CanDoes (.canReferenceSend k n late) s k (fun _ d => d = { c with ttSync := true, cycle := BitVec.ofNat 6 n.val })) ∧
    (∀ w, (c.state = 2 ∨ c.state = 3) → c.tt ≠ 0 → c.ttSync = true → w < c.wins.length →
      CanDoes (.canWindowOpen k w) s k (fun _ d => d = { c with win := some w, winHit := false })) ∧
    (∀ w, c.win = some w →
      let shut := { c with win := none, winHit := false }
      let closes := CanDoes (.canWindowClose k w) s k
      let missed := fun (x : CanWin) => x.kind = 1 ∧ x.obj < 128 ∧ c.winHit = false ∧ c.bound = true ∧ c.state ≠ 3
      let stale := fun (x : CanWin) => x.kind = 1 ∧ 128 ≤ x.obj ∧ c.state = 3
      (∀ x, c.wins[w]? = some x → missed x → closes (fun t d => d = { shut with
        winMiss := satInc c.winMiss
        missed := if x.obj ∉ c.missed then c.missed ++ [x.obj] else c.missed } ∧ (Settled s → Raised t (src 3)))) ∧
      (∀ x, c.wins[w]? = some x → stale x → closes (fun _ d => d = { shut with reqs := c.reqs.filter (fun r => r.obj ≠ x.obj) })) ∧
      ((∀ x, c.wins[w]? = some x → ¬ missed x ∧ ¬ stale x) → closes (fun _ d => d = shut)))

/-- R305, R307, R310–R312: errors move the counters and end in bus-off, recovery ends it, wake-up, time-out and integration; what a session asks of a
controller waits for the next T1 boundary, or is refused in an entry that says which request.
The model's choices here: assumption log 5, 45, 46. -/
def Obligations.CanControl : Prop :=
  ∀ (s : State) (k : Fin 8),
    let c := s.can.ctl[k]
    let src := fun (i : Nat) => 128 + 8 * k.val + i
    let role : BitVec 3 := if s.pair.state ∈ [0, 2, 3] then 2 else if s.pair.state = 6 ∨ s.pair.state = 7 then 7 else 3
    let exact := fun (cmd : Instr) (n : CanCtl) => CanDoes cmd s k (fun _ d => d = n)
    (alive s = true → s.pwr.quiet.getLsbD 1 = false →
      (∀ (kind : Fin 6) (dp : Bool) (e : ErrStep) (obj : Option (Fin 64)),
        let does := CanDoes (.canError k kind dp e obj) s k
        let code : BitVec 3 := BitVec.ofNat 3 (kind.val + 1)
        let tec := c.tec.toNat + if e = .tx8 then 8 else 0
        let noted := fun (d : CanCtl) => d.lec = (if dp then c.lec else code) ∧ d.dlec = (if dp then code else c.dlec) ∧ d.txdOff = false
        (c.state = 3 → does (fun _ d => noted d ∧ d.tec = c.tec ∧ d.recv = c.recv ∧ d.state = 3)) ∧
        (c.state = 2 → tec ≤ 255 → does (fun _ d => noted d ∧ d.tec.toNat = tec ∧ d.state = 2 ∧
          d.recv.toNat = min 255 (c.recv.toNat + match e with | .rx1 => 1 | .rx8 => 8 | _ => 0))) ∧
        (c.state = 2 → 255 < tec → does (fun t d => noted d ∧ d.state = 5 ∧ d.reqs = [] ∧ d.ttMaster = false ∧ d.boffCnt = satInc c.boffCnt ∧
          (Settled s → Raised t (src 1)) ∧ ∃ p, Noted s t 0x0800 k.val 3 p)) ∧
        (c.state = 2 → obj = none → tec ≤ 255 → c.tec.toNat ≤ 127 → c.recv.toNat ≤ 127 →
          (127 < tec ∨ 127 < c.recv.toNat + match e with | .rx1 => 1 | .rx8 => 8 | _ => 0) →
          does (fun t _ => Settled s → Raised t (src 0)))) ∧
      (c.state = 6 → CanDoes (.boffRecovered k) s k (fun t d =>
        d = { c with state := role, tec := 0, recv := 0, lec := 0, dlec := 0 } ∧ (Settled s → Raised t (src 2)))) ∧
      (c.ttSync = true → c.ttMaster = false → CanDoes (.ttSyncLoss k) s k (fun t d =>
        d = { c with ttSync := false, win := none } ∧ (Settled s → Raised t (src 7)))) ∧
      (∀ f : Option CanFrame, c.state = 4 → (match f with | none => c.wakeKind = 1 | some f => c.wakeKind = 2 ∧ c.wakes f = true) →
        CanDoes (.canWake k f) s k (fun t d => d = { c with state := 1, waking := true, integ := false, wakeReq := false } ∧
          (Settled s → Raised t (src 6)))) ∧
      (∀ f : CanFrame, c.state = 4 → c.wakeKind = 2 → f.fdf = true → c.wakeCfg.getLsbD 8 = false →
        exact (.canWake k (some f)) { c with xcvErr := c.xcvErr + 1 }) ∧
      (c.state = 2 → exact (.txdTimeout k) { c with txdOff := true }) ∧
      ((c.state = 1 ∨ (c.state = 3 ∧ role = 2)) → exact (.canIntegrated k)
        (if c.waking then { c with integ := true, txdOff := false } else { c with state := role, txdOff := false }))) ∧
    ∀ sess, Windowed s sess (0xE001C + 0x1000 * k.val) →
      let here := s.pair.state ≠ 4
      let asks := fun (cmd : Instr) (code : Byte) (ok : Prop) (n : CanCtl) (x : DistCmd) =>
        (ok → here → DoesSilently cmd s [.can, .stn] (fun t => t.stn = { s.stn with accepted := s.stn.accepted ++ [x] } ∧
          ∀ j : Fin 8, t.can.ctl[j] = if j = k then n else s.can.ctl[j])) ∧
        (¬ (ok ∧ here) → Does cmd s [] (fun t => Noted s t 0x0801 k.val 1 [code, c.state.zeroExtend 8]))
      asks (.boffRec sess k) 0 (c.state = 5) { c with boffReq := true } (.boffRec k) ∧
      asks (.canSleepReq sess k) 1 (c.bound = false) { c with sleepReq := true } (.canSleep k) ∧
      asks (.wakeReq sess k) 2 (c.state = 4 ∨ c.sleepReq = true) { c with wakeReq := true } (.canWake k) ∧
      exact (.canClrCnt sess k) { c with
        rxCnt := 0, txCnt := 0, boffCnt := 0, oneshot := 0, pxeCnt := 0, winMiss := 0, overwrite := 0, replace := 0, lenErr := 0
        capOvf := 0, tdcErr := 0, rfLate := 0 }

/-! ### The plant network -/

/-- R315–R322: a telegram that is due leaves with the next SEQ, which a standby only counts; a copy that does not fit is counted, one of a SEQ accepted
before is compared, one of a held SEQ joins it, and a newer SEQ is held; the watchdog's end lets the safe values stand.
The model's choices here: assumption log 5, 47. -/
def Obligations.Telegrams : Prop :=
  ∀ s : State, alive s = true → s.pwr.quiet.getLsbD 0 = false →
    (∀ (n : Fin 64) x ws, s.net.tx[n] = some x → x.due = some ws → s.pwr.pf = false →
      let sent := fun (t : State) => t.net = { s.net with tx := s.net.tx.set n (some { x with seq := x.seq + 1, due := none }) }
      let c : TelCopy := { ver := 1, kind := BitVec.ofNat 8 x.kind, telId := x.telId, src := s.net.stnId.zeroExtend 16, dst := x.dst
                           seq := x.seq + 1, len := BitVec.ofNat 8 ws.length, rsv := 0, words := ws }
      (s.pair.state ∈ [0, 2, 3] → Does (.telegramSend n) s [.net] (fun t => sent t ∧ ∀ leafB : Bool, Sends s t (.telegram leafB
        { mac := BitVec.ofNat 48 x.mac, from_ := Config.mac + (if leafB then 1 else 0), tci := s.net.vlan, etype := s.net.etype
          tel := c, leaf := if leafB then 1 else 0, crc := telCrc c (if leafB then 1 else 0) }))) ∧
      (s.pair.state = 4 → DoesSilently (.telegramSend n) s [.net] sent)) ∧
    (∀ leafB (f : TelFrame), portUp s (if leafB then 1 else 0) = true →
      let c := f.tel
      let mine := (f.mac = Config.mac + (if leafB then 1 else 0) ∨ f.mac = BitVec.allOnes 48 ∨ f.mac.toNat ∈ s.net.groups) ∧ f.etype = s.net.etype
      (¬ mine ∨ telFor s c = none → DoesSilently (.telegramReceive leafB f) s [] (fun _ => True)) ∧
      ∀ r x, mine → telFor s c = some r → s.net.rx[(r : Fin 128)] = some x →
        let standby := s.pair.state = 4
        let listens := fun (y : RxTel) (P : State → Prop) => Does (.telegramReceive leafB f) s [.net] (fun t =>
          t.net = { s.net with rx := s.net.rx.set r (some y) } ∧ P t)
        let takes := fun (y : RxTel) (P : State → Prop) => ¬ standby → listens y P
        let fits := f.crc = telCrc c f.leaf ∧ c.ver = 1 ∧ c.kind.toNat = x.kind ∧ c.len.toNat = x.len ∧ (c.dst.toNat = s.net.stnId.toNat ∨ c.dst.toNat = 4095)
        let bad := listens (if leafB then { x with errB := satInc x.errB } else { x with errA := satInc x.errA }) (fun _ => True)
        let before := x.ones.find? (fun o => o.1 == c.seq && o.2.1 != leafB)
        let newer := fun (l : Word) => 1 ≤ (c.seq - l).toNat ∧ (c.seq - l).toNat ≤ 2 ^ 31 - 1
        let put := fun (h : HeldSeq) => if leafB then { h with b := h.b.or (some c) } else { h with a := h.a.or (some c) }
        let new : HeldSeq := { seq := c.seq, a := if leafB then none else some c, b := if leafB then some c else none
                               at_ := s.stn.time }
        (¬ fits → bad) ∧ (fits → standby → listens x (fun _ => True)) ∧
        (∀ o, fits → before = some o → takes { x with
          ones := x.ones.filter (fun z => z ≠ o), late := if o.2.2 = c then satInc x.late else x.late
          lateDiff := if o.2.2 = c then x.lateDiff else true } (fun _ => True)) ∧
        (fits → ¬ standby → before = none → (∃ l, x.last = some l ∧ ¬ newer l) → bad) ∧
        (fits → before = none → (∀ l, x.last = some l → newer l) → (∃ h ∈ x.held, h.seq = c.seq) →
          takes { x with held := x.held.map (fun h => if h.seq = c.seq then put h else h) } (fun _ => True)) ∧
        (fits → before = none → x.held = [] → x.last = none → takes { x with held := [new] } (fun _ => True)) ∧
        (∀ l, fits → before = none → x.held = [] → x.last = some l → newer l →
          takes { x with held := [new], gap := if c.seq = l + 1 then x.gap else satInc x.gap }
            (fun t => c.seq ≠ l + 1 → Settled s → Raised t 473)) ∧
        (∀ l h, fits → before = none → (∀ l, x.last = some l → newer l) → (∀ y ∈ x.held, y.seq ≠ c.seq) → x.held = l ++ [h] → l.length < 3 →
          (¬ newer h.seq → ¬ standby → bad) ∧
          (newer h.seq → takes { x with held := x.held ++ [new], gap := if c.seq = h.seq + 1 then x.gap else satInc x.gap }
            (fun t => c.seq ≠ h.seq + 1 → Settled s → Raised t 473)))) ∧
    ∀ (r : Fin 128) x, s.net.rx[r] = some x → s.pair.state ≠ 4 → x.wdgExp = false → x.left = 1 → telWillAccept x s.stn.time.toNat = false →
      Does (.telegramWatchdog r) s [.net] (fun t =>
        t.net = { s.net with rx := s.net.rx.set r (some { x with wdgExp := true, expCnt := satInc x.expCnt }) } ∧
        (Settled s → Raised t 471 ∧ (x.kind = 1 → Raised t 438)))

/-- R7, R313–R315: requests to the port's address are answered by placed frames, echo at most ten times a second; links change, placed frames leave
oldest first, each where it ends 1 µs before the port's next telegram, dropped frames count.
The model's choices here: assumption log 5, 48. -/
def Obligations.NetPorts : Prop :=
  ∀ s : State,
    (alive s = true → ∀ p : Fin 3,
      let n := s.net.ports[p]
      let leads := fun (cmd : Instr) (m : NetPort) (P : State → Prop) => Does cmd s [.net] (fun t => t.net = { s.net with
        ports := s.net.ports.set p m } ∧ P t)
      let room := n.queue.length < 64
      let recent := n.echoes.filter (fun t => s.stn.time.toNat < t.toNat + 1000000000)
      (s.pwr.quiet.getLsbD 0 = false → portUp s p = true →
        (room → leads (.arpRequest p) { n with queue := n.queue ++ [.arp] } (fun _ => True)) ∧
        (¬ room → leads (.arpRequest p) { n with qdrop := satInc n.qdrop } (fun t => Settled s → Raised t 478)) ∧
        (recent.length < 10 → room → leads (.icmpEcho p) { n with echoes := s.stn.time :: recent, queue := n.queue ++ [.echo] } (fun _ => True)) ∧
        (recent.length < 10 → ¬ room → leads (.icmpEcho p) { n with echoes := s.stn.time :: recent, qdrop := satInc n.qdrop }
          (fun t => Settled s → Raised t 478)) ∧
        (10 ≤ recent.length → leads (.icmpEcho p) { n with echoes := recent } (fun _ => True))) ∧
      (∀ up, n.link ≠ up → leads (.netLinkChange p up) { n with link := up, downCnt := if up then n.downCnt else satInc n.downCnt }
        (fun t => Settled s → Raised t (if p.val = 2 then 468 else 464 + 2 * p.val + if up then 1 else 0))) ∧
      (∀ f rest, n.queue = f :: rest → n.link = true → frameFits s p f = true → leads (.placedFrameSend p) { n with queue := rest } (fun t =>
        Sends s t (.netFrame p.val f))) ∧
      (∀ why, s.pwr.quiet.getLsbD 0 = false → n.link = true → (∀ k, why = .length k → 1522 < k) →
        Does (.droppedFrame { port := p, why := why }) s [.net] (fun t =>
          t.net = { s.net with drop := s.net.drop + 1 } ∧ (Settled s → Raised t 478)))) ∧
    ∀ sess, Opened s sess → DoesSilently (.netClrCnt sess) s [.net] (fun t =>
      t.net = { s.net with drop := 0, authFail := 0, ports := t.net.ports, rx := t.net.rx } ∧
      (∀ p : Fin 3, t.net.ports[p] = { s.net.ports[p] with downCnt := 0, qdrop := 0 }) ∧
      ∀ r : Fin 128, t.net.rx[r] = (s.net.rx[r]).map (fun y => { y with
        missA := 0, missB := 0, errA := 0, errB := 0, late := 0, gap := 0, diffCnt := 0, expCnt := 0 }))

/-! ### Power, resets, SLEEP -/

/-- R377–R379, R384, R386, R387: the power-on reset ends in RUN power with every register at reset and MRAM and flash kept; feeds are classified and
their losses, returns and ride-throughs counted; the power-fail sequence sets PF and ends in a reset with its mark in the time word; and
without hold-up the station is OFF.
The model's choices here: assumption log 5, 17, 19, 56, 60. -/
def Obligations.PowerStates : Prop :=
  ∀ s : State,
    (∀ x : PowerIn, (s.pwr.power = .held ∨ s.pwr.power = .off) → (17000 ≤ x.feedA ∨ 17000 ≤ x.feedB) →
      ∃ t, exec (.powerOn x) s = .next t ∧ Emptied s t ∧
        t.pwr = { PwrBlk.reset with
          power := .run, feedA := firstClass 16000 18000 x.feedA, feedB := firstClass 16000 18000 x.feedB
          aV := satNat 16 (x.feedA / 10), bV := satNat 16 (x.feedB / 10) } ∧
        t.can = .reset ∧ t.stn.time = 0 ∧ t.stn.cnt = Vector.replicate 5 0 ∧ t.stn.stopCause = 1 ∧ t.stn.faultStop = false ∧
        t.stn.refOk = true ∧ t.stn.pllLock = true ∧ t.stn.holdPermit = x.permit ∧ t.stn.wakePins = x.wake ∧
        t.stn.stackRoot = x.stackRoot ∧ t.stn.pairIdPin = x.pairId ∧ t.stn.halves = s.stn.halves ∧ t.stn.dirs = s.stn.dirs ∧
        t.img.pinProf = x.prof ∧ Drives t false ∧ (∀ b : Fin 8, t.fld.banks[b].fsOk = true ∧ t.fld.banks[b].open_ = false) ∧
        t.log.pcyc = s.log.twPcyc + 1 ∧ t.log.opms = s.log.twOpms ∧ t.log.unclean = !s.log.twClean ∧ t.log.twClean = false ∧
        (SlotsGood s → ∃ r ∈ t.log.buf, r.1.code.toNat = 0x5800 ∧ r.1.unclean = !s.log.twClean)) ∧
    (∀ b mv, (s.pwr.power = .run ∨ s.pwr.power = .warm) →
      let old := if b then s.pwr.feedB else s.pwr.feedA
      let c := supplyClass 16000 18000 mv old
      let v : BitVec 16 := satNat 16 (mv / 10)
      let lost := c = 0 ∧ old ≠ 0
      let back := c ≠ 0 ∧ old = 0
      let ridden := back ∧ s.pwr.feedA = 0 ∧ s.pwr.feedB = 0 ∧ s.pwr.pf = false
      Does (.feedChange b mv) s [.pwr] (fun t =>
        t.pwr = { s.pwr with
          feedA := if b then s.pwr.feedA else c, feedB := if b then c else s.pwr.feedB
          aV := if b then s.pwr.aV else v, bV := if b then v else s.pwr.bV
          dropA := if b = false ∧ lost then satInc s.pwr.dropA else s.pwr.dropA
          dropB := if b = true ∧ lost then satInc s.pwr.dropB else s.pwr.dropB
          ride := if ridden then satInc s.pwr.ride else s.pwr.ride } ∧
        (Settled s → (lost → Raised t (480 + if b then 1 else 0)) ∧ (back → Raised t 482) ∧ (ridden → Raised t 484)))) ∧
    (∀ b mv, s.pwr.power = .sleep →
      let c := supplyClass 16000 18000 mv (if b then s.pwr.feedB else s.pwr.feedA)
      let other := if b then s.pwr.feedA else s.pwr.feedB
      (c = 0 ∧ other = 0 → ∃ t, exec (.feedChange b mv) s = .next t ∧ Emptied s t ∧ t.pwr = { PwrBlk.reset with power := .off }) ∧
      (¬ (c = 0 ∧ other = 0) → Does (.feedChange b mv) s [.pwr] (fun t => t.pwr.power = .sleep ∧
        t.pwr.feedA = (if b then s.pwr.feedA else c) ∧ t.pwr.feedB = if b then c else s.pwr.feedB))) ∧
    (s.pwr.power = .run → s.pwr.feedA = 0 → s.pwr.feedB = 0 → s.pwr.pf = false →
      Does .powerFail s [.pwr, .stn, .img, .pair, .fld] (fun t =>
        t.pwr.pf = true ∧ t.pwr.pfDone = false ∧ t.pwr.pfCnt = satInc s.pwr.pfCnt ∧ t.pwr.entry = .none ∧ t.pwr.quiet = (if s.pwr.entry = .none then s.pwr.quiet else 0) ∧
        (Settled s → Raised t 483) ∧ Recorded s t 0x8000 0xFFFF 4 (leN 2 s.pwr.aV.toNat ++ leN 2 s.pwr.bV.toNat) ∧
        t.img.wState = 0 ∧ t.img.swPending = false ∧ t.img.banks = s.img.banks ∧ t.img.commits = s.img.commits ∧
        (s.img.running ≠ none → t.stn.retainSeq = s.stn.retainSeq + 1) ∧ SameClock s t ∧ t.stn.mode = s.stn.mode ∧
        (s.pair.state = 2 → t.pair.state = 6 ∧ t.pair.faulty = true ∧ Drives t false ∧ (Settled s → Raised t 452)) ∧
        (s.pair.state ≠ 2 → t.pair = s.pair ∧ t.fld = s.fld))) ∧
    (s.pwr.power = .run → s.pwr.pf = true → s.pwr.pfDone = false →
      ∃ t, exec .powerFailFlushDone s = .next t ∧ InWarmReset s t 7 ∧ t.pwr.pf = true ∧ t.pwr.pfDone = true ∧ t.log.twClean = true ∧
        t.log.twPcyc = s.log.pcyc ∧ t.log.twOpms = s.log.opms) ∧
    (s.pwr.power = .warm → s.pwr.pf = true → s.pwr.pfDone = true → s.stn.refOk = true → s.stn.pllLock = true → (1700 ≤ s.pwr.aV.toNat ∨ 1700 ≤ s.pwr.bV.toNat) →
      Does .powerFailRecovery s [.pwr, .fld] (fun t => (Settled s → Raised t 487) ∧ InputsAfresh s t ∧
        t.pwr = { s.pwr with power := .run, warmCnt := satInc s.pwr.warmCnt, pf := false, pfDone := false })) ∧
    ((s.pwr.power = .run ∨ s.pwr.power = .warm) → s.pwr.feedA = 0 → s.pwr.feedB = 0 →
      ∃ t, exec .holdupEnd s = .next t ∧ Emptied s t ∧ t.pwr = { PwrBlk.reset with power := .off })

/-- R7, R19, R218, R265, R389, R390, R392: each cause of a warm reset and its end, the clock fault that holds one and its recovery, and the requests of
PWR.CTRL.
The model's choices here: assumption log 19, 57, 58, 59. -/
def Obligations.Resets : Prop :=
  ∀ s : State,
    let keeps := fun (t : State) => t.stn.refOk = s.stn.refOk ∧ t.stn.pllLock = s.stn.pllLock ∧ t.stn.refLoss = s.stn.refLoss ∧
      t.stn.halves = s.stn.halves ∧ t.pwr.pf = s.pwr.pf ∧ ∀ b : Fin 8, t.fld.banks[b] = s.fld.banks[b]
    let faultyPair := fun (t : State) => t.pair.state = (if s.pair.faulty then 6 else 0) ∧ t.pair.faulty = s.pair.faulty
    (alive s = true ∨ s.pwr.power = .warm → s.pwr.pf = false →
      ∃ t, exec .nreset s = .next t ∧ InWarmReset s t 1 ∧ keeps t ∧ t.pair.state = 0 ∧ t.pair.faulty = false) ∧
    (alive s = true → s.pwr.pf = false →
      (∃ t, exec .supWatchdog s = .next t ∧ InWarmReset s t 3 ∧ keeps t ∧ faultyPair t) ∧
      (∃ t, exec .lockstepMismatch s = .next t ∧ InWarmReset s t 4 ∧ keeps t ∧ faultyPair t) ∧
      (∃ t, exec .clockFault s = .next t ∧ InWarmReset s t 6 ∧ t.stn.refLoss = true ∧ (t.stn.refOk && t.stn.pllLock) = false ∧
        t.stn.halves = s.stn.halves ∧ (s.pair.member = true → Drives t false) ∧
        (s.pair.state = 2 ∨ s.pair.state = 3 → t.pair.state = 6 ∧ t.pair.faulty = true) ∧
        (s.pair.state ≠ 2 → s.pair.state ≠ 3 → faultyPair t))) ∧
    ((s.pwr.power = .warm ∨ (alive s = true ∧ s.pwr.pf = true)) → Does .clockFault s [.stn] (fun t =>
      t.stn = { s.stn with refLoss := true, refOk := t.stn.refOk, pllLock := t.stn.pllLock } ∧
      (t.stn.refOk && t.stn.pllLock) = false ∧ (Settled s → Raised t 502) ∧ ∃ p, Recorded s t 0x5001 0xFFFF 3 p)) ∧
    (s.pwr.power = .warm → s.pwr.pf = false → s.stn.refOk = true → s.stn.pllLock = true →
      Does .warmResetEnd s [.pwr, .fld] (fun t => (Settled s → Raised t 487) ∧ InputsAfresh s t ∧
        t.pwr = { s.pwr with power := .run, warmCnt := satInc s.pwr.warmCnt, pf := false, pfDone := false })) ∧
    (s.pwr.power = .warm → (s.stn.refOk = false ∨ s.stn.pllLock = false) → DoesSilently .clockRecovered s [.stn, .fld] (fun t =>
      t.fld = { s.fld with pts := s.fld.pts.map (fun p =>
        if p.mode = 5 then { p with cand := p.cand.map (· + (t.stn.lastB - s.stn.lastB)) } else p) } ∧
      t.stn = { s.stn with refOk := true, pllLock := true, lastB := max s.stn.lastB (s.stn.tierRef.toNat / 20000 * 20000) })) ∧
    ∀ sess, Windowed s sess 0x50010 →
      DoesSilently (.warmReset sess) s [.pwr] (fun t => t.pwr = { s.pwr with warmReq := true }) ∧
      DoesSilently (.sleepReq sess) s [.pwr] (fun t =>
        t.pwr = if s.pwr.entry = .none then { s.pwr with sleepReq := true, entry := .asked } else s.pwr) ∧
      DoesSilently (.pwrClrCnt sess) s [.pwr] (fun t => t.pwr = { s.pwr with
        dropA := 0, dropB := 0, ride := 0, pfCnt := 0, warmCnt := 0, refuseCnt := 0 })

/-- R392–R396, R399, R400, R402: the vote ends in the first refusal or in agreement; each slot of phase 2 quiets its block or refuses, the last one
commits SLEEP; blocks are restored in reverse order; an enabled source wakes the station, which takes back what retention SRAM holds.
The model's choices here: assumption log 5, 19, 60. -/
def Obligations.Sleep : Prop :=
  ∀ s : State,
    let refused := fun (c : Instr) (l : List Block) (result : BitVec 3) (b r : Nat) (e : Entry) (P : State → Prop) => Does c s l (fun t =>
      t.pwr = { s.pwr with
        sleepReq := false, slResult := result, slBlock := BitVec.ofNat 5 b, slReason := BitVec.ofNat 4 r
        refuseCnt := satInc s.pwr.refuseCnt, entry := e } ∧ (Settled s → Raised t 485) ∧ P t ∧
      Noted s t 0x8002 0xFFFF 1 [result.zeroExtend 8, BitVec.ofNat 8 b, BitVec.ofNat 8 r])
    (alive s = true →
      (s.pwr.entry = .voting →
        (∀ b r, b < 17 → sleepRefusal s b = some r → (∀ a < b, sleepRefusal s a = none) →
          refused .sleepVoteDone [.pwr] 2 b r .none (fun _ => True)) ∧
        ((∀ b < 17, sleepRefusal s b = none) → DoesSilently .sleepVoteDone s [.pwr] (fun t => t.pwr = { s.pwr with entry := .agreed }))) ∧
      (∀ i, s.pwr.entry = .slots i →
        -- what the block of the slot answers at the instant the slot opens
        let refusal := sleepRefusal (passTo s (s.pwr.bs + 50000 * i)) (slotBlock i)
        (∀ r, refusal = some r → refused .sleepQuiesceSlot [.pwr, .stn] 3 (slotBlock i) r
          (if i = 0 then .none else .restore i) (fun t => PassedTo s t (s.pwr.bs + 50000 * i))) ∧
        (refusal = none → i < 14 → i ≠ 7 → Does .sleepQuiesceSlot s [.pwr, .stn] (fun t =>
          t.pwr = { s.pwr with quiet := s.pwr.quiet ||| (1#15 <<< i), entry := .slots (i + 1) } ∧
          PassedTo s t (s.pwr.bs + 50000 * i))) ∧
        (refusal = none → i = 7 → Does .sleepQuiesceSlot s [.pwr, .stn, .vars, .le, .saf] (fun t =>
          t.pwr = { s.pwr with quiet := s.pwr.quiet ||| 0x80, entry := .slots 8 } ∧ t.le[(16 : Fin 17)].running = false ∧
          t.saf.wdOn = false ∧ ∀ k : Fin 4, t.saf.tp[k].high = false ∧ t.saf.tp[k].pulsing = false)) ∧
        (refusal = none → 14 ≤ i → ∃ t, exec .sleepQuiesceSlot s = .next t ∧ Emptied s t ∧
          t.pwr.power = .sleep ∧ t.pwr.slResult = 0 ∧ t.pwr.refuseCnt = s.pwr.refuseCnt ∧ t.pair.faulty = s.pair.faulty ∧
          t.log.pcyc = s.log.pcyc ∧ t.log.ring = [] ∧ t.log.twClean = false ∧
          (s.img.running ≠ none → t.stn.retainSeq = s.stn.retainSeq + 1) ∧
          (∀ k : Fin 8, t.can.ctl[k].state = if s.can.ctl[k].state = 5 ∨ s.can.ctl[k].state = 6 then 5 else 0) ∧
          ∃ m, t.pwr.retention = some m ∧ m.cnt = s.stn.cnt ∧
            (let n := s.pwr.bs + 50000 * i - s.stn.tierRef.toNat
             s.stn.slewing = false → m.time = s.stn.time + BitVec.ofNat 64 (n + n % 2)) ∧ m.faultStop = s.stn.faultStop ∧
            m.stopCause = s.stn.stopCause ∧ m.warmCnt = s.pwr.warmCnt ∧ m.pinEn = s.pwr.pinEn ∧ m.can = s.can.ctl)) ∧
      (∀ n, s.pwr.entry = .restore n → n - 1 ≠ 7 → DoesSilently .sleepRestore s [.pwr] (fun t => t.pwr = { s.pwr with
        quiet := s.pwr.quiet &&& ~~~(1#15 <<< (n - 1)), entry := if n - 1 = 0 then .none else .restore (n - 1) })) ∧
      (s.pwr.entry = .restore 8 → DoesSilently .sleepRestore s [.pwr, .saf] (fun t =>
        t.pwr = { s.pwr with quiet := s.pwr.quiet &&& ~~~0x80#15, entry := .restore 7 } ∧
        t.saf = { s.saf with startReq := s.saf.cfg.getLsbD 0 && !s.saf.sleFault, tp := t.saf.tp, si := t.saf.si } ∧
        (∀ i : Fin 16, t.saf.si[i] = { s.saf.si[i] with
          level := false, run := 0, masked := false, held := false, before := 0, offAt := 0, stuck := 0 }) ∧
        ∀ k : Fin 4, t.saf.tp[k] = { s.saf.tp[k] with high := tpUsed s k && !s.saf.tp[k].fault && !s.saf.wdExpired }))) ∧
    (∀ pins can nreset cnt ok x, s.pwr.power = .sleep → wakeValid s pins can nreset = true →
      ∃ t, exec (.wakeSource pins can nreset cnt ok x) s = .next t ∧ t.pending = s.pending ∧ t.pwr.power = .run ∧ t.img.running = s.img.running ∧
        t.pwr.wakePin = pins ∧ t.pwr.wakeCan = can ∧ t.pwr.wakeReset = nreset ∧ t.pwr.sleepCnt = cnt ∧ t.pwr.retention = none ∧
        t.stn.refOk = true ∧ t.stn.pllLock = true ∧ t.log.pcyc = s.log.pcyc ∧ (Settled s → Raised t 486) ∧
        t.pwr.cause = (if ok then 8 else 9) ∧ t.pwr.slResult = (if ok then 1 else 5) ∧
        (∀ r, ok = true → s.pwr.retention = some r → t.stn.time = r.time ∧ t.stn.cnt = r.cnt ∧ t.stn.faultStop = r.faultStop ∧
          t.stn.stopCause = (if r.faultStop then r.stopCause else 1) ∧ t.pwr.pinEn = r.pinEn ∧ t.pwr.warmCnt = r.warmCnt ∧
          ∀ k : Fin 8, t.can.ctl[k] = if (r.can[k]).wakeKind = 1 ∨ (r.can[k]).wakeKind = 2 then
            { s.can.ctl[k] with
              cfg := r.can[k].cfg, nbt := r.can[k].nbt, sjw := r.can[k].sjw, wakeCfg := r.can[k].wakeCfg
              wakeId := r.can[k].wakeId, wakeIdm := r.can[k].wakeIdm, wakeDm := r.can[k].wakeDm } else s.can.ctl[k]) ∧
        (ok = false → t.can = CanBlk.reset ∧ t.stn.time = s.stn.time ∧ t.stn.cnt = s.stn.cnt))

/-! ### Reads and writes of registers -/

/-- R18, R41: a read of the low word of a two-word count latches the high word for its requester alone, and a read of a value word latches its tag.
R5–R7, R9, R10, R42: a session's write of an aligned word is the command that its address and value spell; a register with RWK fields needs its
window; RO fields and addresses without a register take nothing.
The model's choices here: assumption log 31, 32, 54. -/
def Obligations.RegisterAccess : Prop :=
  (∀ (s : State) (r : Fin 21), canRead s r = true →
    let latches := fun (c : Instr) (l : Latch) => DoesSilently c s [.latch] (fun t => t.latch = s.latch.set r l)
    let was := s.latch[r]
    latches (.timeLoRead r) { was with timeHi := some (s.stn.time >>> 32).toNat } ∧
    latches (.stkTimeLoRead r) { was with stkHi := some ((s.stn.time + s.stk.ofs) >>> 32).toNat } ∧
    latches (.opmsLoRead r) { was with opmsHi := some (s.log.opms >>> 32).toNat } ∧
    latches (.sleepCntLoRead r) { was with sleepHi := some (s.pwr.sleepCnt >>> 32).toNat } ∧
    ∀ n : BitVec 20, latches (.dataValueRead r n) { was with data := some (n.toNat, (dataRead s n.toNat).tag) }) ∧
  (∀ (s : State) (sess : Fin 4) (a v : Word), Opened s sess →
    let w := Instr.registerWrite sess a v
    let same := fun (c : Instr) => exec w s = exec c s
    let o := a.toNat
    let x := v.toNat
    let nothing := DoesSilently w s [] (fun _ => True)
    (o % 4 ≠ 0 → nothing) ∧
    (o % 8 = 0 → 0x1000000 ≤ o → o < 0x1800000 → same (.dataWrite sess (BitVec.ofNat 20 ((o - 0x1000000) / 8)) false v)) ∧
    (o % 8 = 4 → 0x1000000 ≤ o → o < 0x1800000 → same (.dataWrite sess (BitVec.ofNat 20 ((o - 0x1000000) / 8)) true v)) ∧
    (o % 4 = 0 → isKey o = true → same (.keyWrite sess a v)) ∧
    (o % 4 = 0 → isRwk o = true → (∀ q ∈ s.windows, q.1 = sess.val → blockKey o ≠ some q.2) →
      Does w s [] (fun t => (Settled s → Raised t 509) ∧ Noted s t 0x5000 sess.val 1 (leN 4 o))) ∧
    (o = 0x304 → (x = 1 → same (.stop sess)) ∧ (x = 2 → same (.runCold sess)) ∧ (x = 3 → same (.runWarm sess)) ∧
      (x = 4 → same (.runHot sess)) ∧ (x = 5 → same (.release sess))) ∧
    (o = 0x400 → (x = 1 → same (.prepare sess)) ∧ (x = 2 → same (.commit sess)) ∧ (x = 3 → same (.discard sess))) ∧
    (o = 0x420 → (x / 0x100000 = 1 → same (.forceSet sess (v.truncate 20))) ∧ (x / 0x100000 = 2 → same (.forceRemove sess (v.truncate 20)))) ∧
    (o = 0x210 → x = 1 → same (.fabClrCnt sess)) ∧ (o = 0x2000C → x = 1 → same (.evrClrCnt sess)) ∧
    (o = 0x30008 → (x = 1 → same (.switch sess)) ∧ (x = 2 → same (.rejoin sess)) ∧ (x = 4 → same (.pairClrCnt sess))) ∧
    (o = 0x40020 → (x = 1 → same (.stackReset sess)) ∧ (x = 2 → same (.snapReq sess)) ∧ (x = 4 → same (.stkClrCnt sess))) ∧
    (o = 0x4002C → same (.barrierArrive sess (v.truncate 16))) ∧
    (o = 0x6002C → (x = 1 → same (.logFlush sess)) ∧ (x = 2 → same (.logClrCnt sess))) ∧ (o = 0xF0030 → x = 1 → same (.netClrCnt sess)) ∧
    (∀ e : Fin 16, o = 0x10001C + 0x10000 * e.val →
      (x = 1 → same (.step sess e)) ∧ (x = 2 → same (.resume sess e)) ∧ (x = 3 → same (.freeze sess e))) ∧
    (o = 0x42C → DoesSilently w s [.stn] (fun t => t.stn = { s.stn with forceIdx := v.truncate 10 })) ∧
    (o = 0x130 → DoesSilently w s [.stn] (fun t => t.stn = { s.stn with refLoss := s.stn.refLoss && !v.getLsbD 8 })) ∧
    (o = 0x314 → DoesSilently w s [.stn] (fun t => t.stn = { s.stn with restoreFail := s.stn.restoreFail && !v.getLsbD 18 })) ∧
    (∀ e : Fin 16, o = 0x100004 + 0x10000 * e.val → DoesSilently w s [.le] (fun t => ∀ e' : Fin 17,
      Engine.SameBut (if e'.val = e.val then { s.le[e'] with
        overrun := s.le[e'].overrun && !v.getLsbD 3, fault := s.le[e'].fault && !v.getLsbD 4 } else s.le[e']) t.le[e'])) ∧
    (Windowed s sess 0x308 →
      (o = 0x30C → DoesSilently w s [.stn] (fun t => t.stn = { s.stn with holdTmo := v.truncate 6 })) ∧
      (o = 0x424 → DoesSilently w s [.stn] (fun t => t.stn = { s.stn with forceVal := v }))) ∧
    (∀ i : Fin 16, o = 0x20100 + 4 * i.val → Does w s [] (fun t => Quiet s →
      t.evr = { s.evr with raised := s.evr.raised.set i (s.evr.raised[i] &&& ~~~v) })) ∧
    (o = 0x20010 → Does w s [] (fun t => Quiet s → t.evr = { s.evr with sel := v.truncate 9 })) ∧
    (o ∈ [0x100, 0x104, 0x300, 0x30000, 0x40000, 0x50000, 0x70000, 0x90000, 0x200000] → nothing))

/-! ### Reset -/

/-- The state after reset holds no work left over, every register at its reset value, and a power-on reset that waits for a feed.
The model's choices here: assumption log 17, 18, 64. -/
def Obligations.ResetStation : Prop :=
  Settled State.reset ∧ State.reset.pwr.power = .held ∧ State.reset.stn.mode = .stop ∧ State.reset.stn.stopCause = 1 ∧
  State.reset.stn.time = 0 ∧ (∀ k : Fin 5, State.reset.stn.cnt[k] = 0) ∧ State.reset.img.running = none ∧ State.reset.vars = [] ∧
  (∀ e : Fin 17, State.reset.le[e] = .unused) ∧ State.reset.windows = [] ∧ (∀ i : Fin 4, State.reset.net.sess[i] = none) ∧
  State.reset.log.ring = [] ∧ (∀ n : Fin 16, State.reset.evr.raised[n] = 0) ∧ (∀ k : Fin 8, State.reset.can.ctl[k].state = 0) ∧
  (∀ b : Fin 8, State.reset.fld.banks[b].drive = false) ∧ State.reset.pending = []
end

