-- ==== Sys2Proof/Laws/State.lean ====
section
/-! SUPPORT. What each named update of the state writes and what it leaves: one lemma per update and field, true by
computation. -/

namespace Sys2Proof.Machine
open Sys2Proof

/-! ### modStn -/

section
variable (s : State) (f : Stn → Stn)
@[simp] theorem modStn_stn : (modStn s f).stn = f s.stn := rfl
@[simp] theorem modStn_vars : (modStn s f).vars = s.vars := rfl
@[simp] theorem modStn_le : (modStn s f).le = s.le := rfl
@[simp] theorem modStn_log : (modStn s f).log = s.log := rfl
@[simp] theorem modStn_evr : (modStn s f).evr = s.evr := rfl
@[simp] theorem modStn_img : (modStn s f).img = s.img := rfl
@[simp] theorem modStn_fab : (modStn s f).fab = s.fab := rfl
@[simp] theorem modStn_lp : (modStn s f).lp = s.lp := rfl
@[simp] theorem modStn_qp : (modStn s f).qp = s.qp := rfl
@[simp] theorem modStn_ang : (modStn s f).ang = s.ang := rfl
@[simp] theorem modStn_fld : (modStn s f).fld = s.fld := rfl
@[simp] theorem modStn_saf : (modStn s f).saf = s.saf := rfl
@[simp] theorem modStn_pair : (modStn s f).pair = s.pair := rfl
@[simp] theorem modStn_stk : (modStn s f).stk = s.stk := rfl
@[simp] theorem modStn_can : (modStn s f).can = s.can := rfl
@[simp] theorem modStn_net : (modStn s f).net = s.net := rfl
@[simp] theorem modStn_pwr : (modStn s f).pwr = s.pwr := rfl
@[simp] theorem modStn_latch : (modStn s f).latch = s.latch := rfl
@[simp] theorem modStn_windows : (modStn s f).windows = s.windows := rfl
@[simp] theorem modStn_armed : (modStn s f).armed = s.armed := rfl
@[simp] theorem modStn_sent : (modStn s f).sent = s.sent := rfl
@[simp] theorem modStn_free : (modStn s f).free = s.free := rfl
@[simp] theorem modStn_pending : (modStn s f).pending = s.pending := rfl
end

/-! ### modImg -/

section
variable (s : State) (f : Img → Img)
@[simp] theorem modImg_stn : (modImg s f).stn = s.stn := rfl
@[simp] theorem modImg_vars : (modImg s f).vars = s.vars := rfl
@[simp] theorem modImg_le : (modImg s f).le = s.le := rfl
@[simp] theorem modImg_log : (modImg s f).log = s.log := rfl
@[simp] theorem modImg_evr : (modImg s f).evr = s.evr := rfl
@[simp] theorem modImg_img : (modImg s f).img = f s.img := rfl
@[simp] theorem modImg_fab : (modImg s f).fab = s.fab := rfl
@[simp] theorem modImg_lp : (modImg s f).lp = s.lp := rfl
@[simp] theorem modImg_qp : (modImg s f).qp = s.qp := rfl
@[simp] theorem modImg_ang : (modImg s f).ang = s.ang := rfl
@[simp] theorem modImg_fld : (modImg s f).fld = s.fld := rfl
@[simp] theorem modImg_saf : (modImg s f).saf = s.saf := rfl
@[simp] theorem modImg_pair : (modImg s f).pair = s.pair := rfl
@[simp] theorem modImg_stk : (modImg s f).stk = s.stk := rfl
@[simp] theorem modImg_can : (modImg s f).can = s.can := rfl
@[simp] theorem modImg_net : (modImg s f).net = s.net := rfl
@[simp] theorem modImg_pwr : (modImg s f).pwr = s.pwr := rfl
@[simp] theorem modImg_latch : (modImg s f).latch = s.latch := rfl
@[simp] theorem modImg_windows : (modImg s f).windows = s.windows := rfl
@[simp] theorem modImg_armed : (modImg s f).armed = s.armed := rfl
@[simp] theorem modImg_sent : (modImg s f).sent = s.sent := rfl
@[simp] theorem modImg_free : (modImg s f).free = s.free := rfl
@[simp] theorem modImg_pending : (modImg s f).pending = s.pending := rfl
end

/-! ### modPair -/

section
variable (s : State) (f : PairBlk → PairBlk)
@[simp] theorem modPair_stn : (modPair s f).stn = s.stn := rfl
@[simp] theorem modPair_vars : (modPair s f).vars = s.vars := rfl
@[simp] theorem modPair_le : (modPair s f).le = s.le := rfl
@[simp] theorem modPair_log : (modPair s f).log = s.log := rfl
@[simp] theorem modPair_evr : (modPair s f).evr = s.evr := rfl
@[simp] theorem modPair_img : (modPair s f).img = s.img := rfl
@[simp] theorem modPair_fab : (modPair s f).fab = s.fab := rfl
@[simp] theorem modPair_lp : (modPair s f).lp = s.lp := rfl
@[simp] theorem modPair_qp : (modPair s f).qp = s.qp := rfl
@[simp] theorem modPair_ang : (modPair s f).ang = s.ang := rfl
@[simp] theorem modPair_fld : (modPair s f).fld = s.fld := rfl
@[simp] theorem modPair_saf : (modPair s f).saf = s.saf := rfl
@[simp] theorem modPair_pair : (modPair s f).pair = f s.pair := rfl
@[simp] theorem modPair_stk : (modPair s f).stk = s.stk := rfl
@[simp] theorem modPair_can : (modPair s f).can = s.can := rfl
@[simp] theorem modPair_net : (modPair s f).net = s.net := rfl
@[simp] theorem modPair_pwr : (modPair s f).pwr = s.pwr := rfl
@[simp] theorem modPair_latch : (modPair s f).latch = s.latch := rfl
@[simp] theorem modPair_windows : (modPair s f).windows = s.windows := rfl
@[simp] theorem modPair_armed : (modPair s f).armed = s.armed := rfl
@[simp] theorem modPair_sent : (modPair s f).sent = s.sent := rfl
@[simp] theorem modPair_free : (modPair s f).free = s.free := rfl
@[simp] theorem modPair_pending : (modPair s f).pending = s.pending := rfl
end

/-! ### modPwr -/

section
variable (s : State) (f : PwrBlk → PwrBlk)
@[simp] theorem modPwr_stn : (modPwr s f).stn = s.stn := rfl
@[simp] theorem modPwr_vars : (modPwr s f).vars = s.vars := rfl
@[simp] theorem modPwr_le : (modPwr s f).le = s.le := rfl
@[simp] theorem modPwr_log : (modPwr s f).log = s.log := rfl
@[simp] theorem modPwr_evr : (modPwr s f).evr = s.evr := rfl
@[simp] theorem modPwr_img : (modPwr s f).img = s.img := rfl
@[simp] theorem modPwr_fab : (modPwr s f).fab = s.fab := rfl
@[simp] theorem modPwr_lp : (modPwr s f).lp = s.lp := rfl
@[simp] theorem modPwr_qp : (modPwr s f).qp = s.qp := rfl
@[simp] theorem modPwr_ang : (modPwr s f).ang = s.ang := rfl
@[simp] theorem modPwr_fld : (modPwr s f).fld = s.fld := rfl
@[simp] theorem modPwr_saf : (modPwr s f).saf = s.saf := rfl
@[simp] theorem modPwr_pair : (modPwr s f).pair = s.pair := rfl
@[simp] theorem modPwr_stk : (modPwr s f).stk = s.stk := rfl
@[simp] theorem modPwr_can : (modPwr s f).can = s.can := rfl
@[simp] theorem modPwr_net : (modPwr s f).net = s.net := rfl
@[simp] theorem modPwr_pwr : (modPwr s f).pwr = f s.pwr := rfl
@[simp] theorem modPwr_latch : (modPwr s f).latch = s.latch := rfl
@[simp] theorem modPwr_windows : (modPwr s f).windows = s.windows := rfl
@[simp] theorem modPwr_armed : (modPwr s f).armed = s.armed := rfl
@[simp] theorem modPwr_sent : (modPwr s f).sent = s.sent := rfl
@[simp] theorem modPwr_free : (modPwr s f).free = s.free := rfl
@[simp] theorem modPwr_pending : (modPwr s f).pending = s.pending := rfl
end

/-! ### modLog -/

section
variable (s : State) (f : LogBlk → LogBlk)
@[simp] theorem modLog_stn : (modLog s f).stn = s.stn := rfl
@[simp] theorem modLog_vars : (modLog s f).vars = s.vars := rfl
@[simp] theorem modLog_le : (modLog s f).le = s.le := rfl
@[simp] theorem modLog_log : (modLog s f).log = f s.log := rfl
@[simp] theorem modLog_evr : (modLog s f).evr = s.evr := rfl
@[simp] theorem modLog_img : (modLog s f).img = s.img := rfl
@[simp] theorem modLog_fab : (modLog s f).fab = s.fab := rfl
@[simp] theorem modLog_lp : (modLog s f).lp = s.lp := rfl
@[simp] theorem modLog_qp : (modLog s f).qp = s.qp := rfl
@[simp] theorem modLog_ang : (modLog s f).ang = s.ang := rfl
@[simp] theorem modLog_fld : (modLog s f).fld = s.fld := rfl
@[simp] theorem modLog_saf : (modLog s f).saf = s.saf := rfl
@[simp] theorem modLog_pair : (modLog s f).pair = s.pair := rfl
@[simp] theorem modLog_stk : (modLog s f).stk = s.stk := rfl
@[simp] theorem modLog_can : (modLog s f).can = s.can := rfl
@[simp] theorem modLog_net : (modLog s f).net = s.net := rfl
@[simp] theorem modLog_pwr : (modLog s f).pwr = s.pwr := rfl
@[simp] theorem modLog_latch : (modLog s f).latch = s.latch := rfl
@[simp] theorem modLog_windows : (modLog s f).windows = s.windows := rfl
@[simp] theorem modLog_armed : (modLog s f).armed = s.armed := rfl
@[simp] theorem modLog_sent : (modLog s f).sent = s.sent := rfl
@[simp] theorem modLog_free : (modLog s f).free = s.free := rfl
@[simp] theorem modLog_pending : (modLog s f).pending = s.pending := rfl
end

/-! ### modStk -/

section
variable (s : State) (f : StkBlk → StkBlk)
@[simp] theorem modStk_stn : (modStk s f).stn = s.stn := rfl
@[simp] theorem modStk_vars : (modStk s f).vars = s.vars := rfl
@[simp] theorem modStk_le : (modStk s f).le = s.le := rfl
@[simp] theorem modStk_log : (modStk s f).log = s.log := rfl
@[simp] theorem modStk_evr : (modStk s f).evr = s.evr := rfl
@[simp] theorem modStk_img : (modStk s f).img = s.img := rfl
@[simp] theorem modStk_fab : (modStk s f).fab = s.fab := rfl
@[simp] theorem modStk_lp : (modStk s f).lp = s.lp := rfl
@[simp] theorem modStk_qp : (modStk s f).qp = s.qp := rfl
@[simp] theorem modStk_ang : (modStk s f).ang = s.ang := rfl
@[simp] theorem modStk_fld : (modStk s f).fld = s.fld := rfl
@[simp] theorem modStk_saf : (modStk s f).saf = s.saf := rfl
@[simp] theorem modStk_pair : (modStk s f).pair = s.pair := rfl
@[simp] theorem modStk_stk : (modStk s f).stk = f s.stk := rfl
@[simp] theorem modStk_can : (modStk s f).can = s.can := rfl
@[simp] theorem modStk_net : (modStk s f).net = s.net := rfl
@[simp] theorem modStk_pwr : (modStk s f).pwr = s.pwr := rfl
@[simp] theorem modStk_latch : (modStk s f).latch = s.latch := rfl
@[simp] theorem modStk_windows : (modStk s f).windows = s.windows := rfl
@[simp] theorem modStk_armed : (modStk s f).armed = s.armed := rfl
@[simp] theorem modStk_sent : (modStk s f).sent = s.sent := rfl
@[simp] theorem modStk_free : (modStk s f).free = s.free := rfl
@[simp] theorem modStk_pending : (modStk s f).pending = s.pending := rfl
end

/-! ### modNet -/

section
variable (s : State) (f : NetBlk → NetBlk)
@[simp] theorem modNet_stn : (modNet s f).stn = s.stn := rfl
@[simp] theorem modNet_vars : (modNet s f).vars = s.vars := rfl
@[simp] theorem modNet_le : (modNet s f).le = s.le := rfl
@[simp] theorem modNet_log : (modNet s f).log = s.log := rfl
@[simp] theorem modNet_evr : (modNet s f).evr = s.evr := rfl
@[simp] theorem modNet_img : (modNet s f).img = s.img := rfl
@[simp] theorem modNet_fab : (modNet s f).fab = s.fab := rfl
@[simp] theorem modNet_lp : (modNet s f).lp = s.lp := rfl
@[simp] theorem modNet_qp : (modNet s f).qp = s.qp := rfl
@[simp] theorem modNet_ang : (modNet s f).ang = s.ang := rfl
@[simp] theorem modNet_fld : (modNet s f).fld = s.fld := rfl
@[simp] theorem modNet_saf : (modNet s f).saf = s.saf := rfl
@[simp] theorem modNet_pair : (modNet s f).pair = s.pair := rfl
@[simp] theorem modNet_stk : (modNet s f).stk = s.stk := rfl
@[simp] theorem modNet_can : (modNet s f).can = s.can := rfl
@[simp] theorem modNet_net : (modNet s f).net = f s.net := rfl
@[simp] theorem modNet_pwr : (modNet s f).pwr = s.pwr := rfl
@[simp] theorem modNet_latch : (modNet s f).latch = s.latch := rfl
@[simp] theorem modNet_windows : (modNet s f).windows = s.windows := rfl
@[simp] theorem modNet_armed : (modNet s f).armed = s.armed := rfl
@[simp] theorem modNet_sent : (modNet s f).sent = s.sent := rfl
@[simp] theorem modNet_free : (modNet s f).free = s.free := rfl
@[simp] theorem modNet_pending : (modNet s f).pending = s.pending := rfl
end

/-! ### modSrc -/

section
variable (s : State) (a : Fin 8) (f : ASrc → ASrc)
@[simp] theorem modSrc_stn : (modSrc s a f).stn = s.stn := rfl
@[simp] theorem modSrc_vars : (modSrc s a f).vars = s.vars := rfl
@[simp] theorem modSrc_le : (modSrc s a f).le = s.le := rfl
@[simp] theorem modSrc_log : (modSrc s a f).log = s.log := rfl
@[simp] theorem modSrc_evr : (modSrc s a f).evr = s.evr := rfl
@[simp] theorem modSrc_img : (modSrc s a f).img = s.img := rfl
@[simp] theorem modSrc_fab : (modSrc s a f).fab = s.fab := rfl
@[simp] theorem modSrc_lp : (modSrc s a f).lp = s.lp := rfl
@[simp] theorem modSrc_qp : (modSrc s a f).qp = s.qp := rfl
@[simp] theorem modSrc_fld : (modSrc s a f).fld = s.fld := rfl
@[simp] theorem modSrc_saf : (modSrc s a f).saf = s.saf := rfl
@[simp] theorem modSrc_pair : (modSrc s a f).pair = s.pair := rfl
@[simp] theorem modSrc_stk : (modSrc s a f).stk = s.stk := rfl
@[simp] theorem modSrc_can : (modSrc s a f).can = s.can := rfl
@[simp] theorem modSrc_net : (modSrc s a f).net = s.net := rfl
@[simp] theorem modSrc_pwr : (modSrc s a f).pwr = s.pwr := rfl
@[simp] theorem modSrc_latch : (modSrc s a f).latch = s.latch := rfl
@[simp] theorem modSrc_windows : (modSrc s a f).windows = s.windows := rfl
@[simp] theorem modSrc_armed : (modSrc s a f).armed = s.armed := rfl
@[simp] theorem modSrc_sent : (modSrc s a f).sent = s.sent := rfl
@[simp] theorem modSrc_free : (modSrc s a f).free = s.free := rfl
@[simp] theorem modSrc_pending : (modSrc s a f).pending = s.pending := rfl
end

/-! ### modEvt -/

section
variable (s : State) (n : Fin 128) (f : AEvt → AEvt)
@[simp] theorem modEvt_stn : (modEvt s n f).stn = s.stn := rfl
@[simp] theorem modEvt_vars : (modEvt s n f).vars = s.vars := rfl
@[simp] theorem modEvt_le : (modEvt s n f).le = s.le := rfl
@[simp] theorem modEvt_log : (modEvt s n f).log = s.log := rfl
@[simp] theorem modEvt_evr : (modEvt s n f).evr = s.evr := rfl
@[simp] theorem modEvt_img : (modEvt s n f).img = s.img := rfl
@[simp] theorem modEvt_fab : (modEvt s n f).fab = s.fab := rfl
@[simp] theorem modEvt_lp : (modEvt s n f).lp = s.lp := rfl
@[simp] theorem modEvt_qp : (modEvt s n f).qp = s.qp := rfl
@[simp] theorem modEvt_fld : (modEvt s n f).fld = s.fld := rfl
@[simp] theorem modEvt_saf : (modEvt s n f).saf = s.saf := rfl
@[simp] theorem modEvt_pair : (modEvt s n f).pair = s.pair := rfl
@[simp] theorem modEvt_stk : (modEvt s n f).stk = s.stk := rfl
@[simp] theorem modEvt_can : (modEvt s n f).can = s.can := rfl
@[simp] theorem modEvt_net : (modEvt s n f).net = s.net := rfl
@[simp] theorem modEvt_pwr : (modEvt s n f).pwr = s.pwr := rfl
@[simp] theorem modEvt_latch : (modEvt s n f).latch = s.latch := rfl
@[simp] theorem modEvt_windows : (modEvt s n f).windows = s.windows := rfl
@[simp] theorem modEvt_armed : (modEvt s n f).armed = s.armed := rfl
@[simp] theorem modEvt_sent : (modEvt s n f).sent = s.sent := rfl
@[simp] theorem modEvt_free : (modEvt s n f).free = s.free := rfl
@[simp] theorem modEvt_pending : (modEvt s n f).pending = s.pending := rfl
end

/-! ### modPt -/

section
variable (s : State) (n : Fin 96) (f : Pt → Pt)
@[simp] theorem modPt_stn : (modPt s n f).stn = s.stn := rfl
@[simp] theorem modPt_vars : (modPt s n f).vars = s.vars := rfl
@[simp] theorem modPt_le : (modPt s n f).le = s.le := rfl
@[simp] theorem modPt_log : (modPt s n f).log = s.log := rfl
@[simp] theorem modPt_evr : (modPt s n f).evr = s.evr := rfl
@[simp] theorem modPt_img : (modPt s n f).img = s.img := rfl
@[simp] theorem modPt_fab : (modPt s n f).fab = s.fab := rfl
@[simp] theorem modPt_lp : (modPt s n f).lp = s.lp := rfl
@[simp] theorem modPt_qp : (modPt s n f).qp = s.qp := rfl
@[simp] theorem modPt_ang : (modPt s n f).ang = s.ang := rfl
@[simp] theorem modPt_saf : (modPt s n f).saf = s.saf := rfl
@[simp] theorem modPt_pair : (modPt s n f).pair = s.pair := rfl
@[simp] theorem modPt_stk : (modPt s n f).stk = s.stk := rfl
@[simp] theorem modPt_can : (modPt s n f).can = s.can := rfl
@[simp] theorem modPt_net : (modPt s n f).net = s.net := rfl
@[simp] theorem modPt_pwr : (modPt s n f).pwr = s.pwr := rfl
@[simp] theorem modPt_latch : (modPt s n f).latch = s.latch := rfl
@[simp] theorem modPt_windows : (modPt s n f).windows = s.windows := rfl
@[simp] theorem modPt_armed : (modPt s n f).armed = s.armed := rfl
@[simp] theorem modPt_sent : (modPt s n f).sent = s.sent := rfl
@[simp] theorem modPt_free : (modPt s n f).free = s.free := rfl
@[simp] theorem modPt_pending : (modPt s n f).pending = s.pending := rfl
end

/-! ### modBank -/

section
variable (s : State) (b : Fin 8) (f : Bank → Bank)
@[simp] theorem modBank_stn : (modBank s b f).stn = s.stn := rfl
@[simp] theorem modBank_vars : (modBank s b f).vars = s.vars := rfl
@[simp] theorem modBank_le : (modBank s b f).le = s.le := rfl
@[simp] theorem modBank_log : (modBank s b f).log = s.log := rfl
@[simp] theorem modBank_evr : (modBank s b f).evr = s.evr := rfl
@[simp] theorem modBank_img : (modBank s b f).img = s.img := rfl
@[simp] theorem modBank_fab : (modBank s b f).fab = s.fab := rfl
@[simp] theorem modBank_lp : (modBank s b f).lp = s.lp := rfl
@[simp] theorem modBank_qp : (modBank s b f).qp = s.qp := rfl
@[simp] theorem modBank_ang : (modBank s b f).ang = s.ang := rfl
@[simp] theorem modBank_saf : (modBank s b f).saf = s.saf := rfl
@[simp] theorem modBank_pair : (modBank s b f).pair = s.pair := rfl
@[simp] theorem modBank_stk : (modBank s b f).stk = s.stk := rfl
@[simp] theorem modBank_can : (modBank s b f).can = s.can := rfl
@[simp] theorem modBank_net : (modBank s b f).net = s.net := rfl
@[simp] theorem modBank_pwr : (modBank s b f).pwr = s.pwr := rfl
@[simp] theorem modBank_latch : (modBank s b f).latch = s.latch := rfl
@[simp] theorem modBank_windows : (modBank s b f).windows = s.windows := rfl
@[simp] theorem modBank_armed : (modBank s b f).armed = s.armed := rfl
@[simp] theorem modBank_sent : (modBank s b f).sent = s.sent := rfl
@[simp] theorem modBank_free : (modBank s b f).free = s.free := rfl
@[simp] theorem modBank_pending : (modBank s b f).pending = s.pending := rfl
end

/-! ### modLoop -/

section
variable (s : State) (n : Fin 192) (f : Loop → Loop)
@[simp] theorem modLoop_stn : (modLoop s n f).stn = s.stn := rfl
@[simp] theorem modLoop_vars : (modLoop s n f).vars = s.vars := rfl
@[simp] theorem modLoop_le : (modLoop s n f).le = s.le := rfl
@[simp] theorem modLoop_log : (modLoop s n f).log = s.log := rfl
@[simp] theorem modLoop_evr : (modLoop s n f).evr = s.evr := rfl
@[simp] theorem modLoop_img : (modLoop s n f).img = s.img := rfl
@[simp] theorem modLoop_fab : (modLoop s n f).fab = s.fab := rfl
@[simp] theorem modLoop_qp : (modLoop s n f).qp = s.qp := rfl
@[simp] theorem modLoop_ang : (modLoop s n f).ang = s.ang := rfl
@[simp] theorem modLoop_fld : (modLoop s n f).fld = s.fld := rfl
@[simp] theorem modLoop_saf : (modLoop s n f).saf = s.saf := rfl
@[simp] theorem modLoop_pair : (modLoop s n f).pair = s.pair := rfl
@[simp] theorem modLoop_stk : (modLoop s n f).stk = s.stk := rfl
@[simp] theorem modLoop_can : (modLoop s n f).can = s.can := rfl
@[simp] theorem modLoop_net : (modLoop s n f).net = s.net := rfl
@[simp] theorem modLoop_pwr : (modLoop s n f).pwr = s.pwr := rfl
@[simp] theorem modLoop_latch : (modLoop s n f).latch = s.latch := rfl
@[simp] theorem modLoop_windows : (modLoop s n f).windows = s.windows := rfl
@[simp] theorem modLoop_armed : (modLoop s n f).armed = s.armed := rfl
@[simp] theorem modLoop_sent : (modLoop s n f).sent = s.sent := rfl
@[simp] theorem modLoop_free : (modLoop s n f).free = s.free := rfl
@[simp] theorem modLoop_pending : (modLoop s n f).pending = s.pending := rfl
end

/-! ### modLEng -/

section
variable (s : State) (e : Fin 24) (f : LoopEng → LoopEng)
@[simp] theorem modLEng_stn : (modLEng s e f).stn = s.stn := rfl
@[simp] theorem modLEng_vars : (modLEng s e f).vars = s.vars := rfl
@[simp] theorem modLEng_le : (modLEng s e f).le = s.le := rfl
@[simp] theorem modLEng_log : (modLEng s e f).log = s.log := rfl
@[simp] theorem modLEng_evr : (modLEng s e f).evr = s.evr := rfl
@[simp] theorem modLEng_img : (modLEng s e f).img = s.img := rfl
@[simp] theorem modLEng_fab : (modLEng s e f).fab = s.fab := rfl
@[simp] theorem modLEng_qp : (modLEng s e f).qp = s.qp := rfl
@[simp] theorem modLEng_ang : (modLEng s e f).ang = s.ang := rfl
@[simp] theorem modLEng_fld : (modLEng s e f).fld = s.fld := rfl
@[simp] theorem modLEng_saf : (modLEng s e f).saf = s.saf := rfl
@[simp] theorem modLEng_pair : (modLEng s e f).pair = s.pair := rfl
@[simp] theorem modLEng_stk : (modLEng s e f).stk = s.stk := rfl
@[simp] theorem modLEng_can : (modLEng s e f).can = s.can := rfl
@[simp] theorem modLEng_net : (modLEng s e f).net = s.net := rfl
@[simp] theorem modLEng_pwr : (modLEng s e f).pwr = s.pwr := rfl
@[simp] theorem modLEng_latch : (modLEng s e f).latch = s.latch := rfl
@[simp] theorem modLEng_windows : (modLEng s e f).windows = s.windows := rfl
@[simp] theorem modLEng_armed : (modLEng s e f).armed = s.armed := rfl
@[simp] theorem modLEng_sent : (modLEng s e f).sent = s.sent := rfl
@[simp] theorem modLEng_free : (modLEng s e f).free = s.free := rfl
@[simp] theorem modLEng_pending : (modLEng s e f).pending = s.pending := rfl
end

/-! ### modSlot -/

section
variable (s : State) (p : Fin 64) (f : QSlot → QSlot)
@[simp] theorem modSlot_stn : (modSlot s p f).stn = s.stn := rfl
@[simp] theorem modSlot_vars : (modSlot s p f).vars = s.vars := rfl
@[simp] theorem modSlot_le : (modSlot s p f).le = s.le := rfl
@[simp] theorem modSlot_log : (modSlot s p f).log = s.log := rfl
@[simp] theorem modSlot_evr : (modSlot s p f).evr = s.evr := rfl
@[simp] theorem modSlot_img : (modSlot s p f).img = s.img := rfl
@[simp] theorem modSlot_fab : (modSlot s p f).fab = s.fab := rfl
@[simp] theorem modSlot_lp : (modSlot s p f).lp = s.lp := rfl
@[simp] theorem modSlot_ang : (modSlot s p f).ang = s.ang := rfl
@[simp] theorem modSlot_fld : (modSlot s p f).fld = s.fld := rfl
@[simp] theorem modSlot_saf : (modSlot s p f).saf = s.saf := rfl
@[simp] theorem modSlot_pair : (modSlot s p f).pair = s.pair := rfl
@[simp] theorem modSlot_stk : (modSlot s p f).stk = s.stk := rfl
@[simp] theorem modSlot_can : (modSlot s p f).can = s.can := rfl
@[simp] theorem modSlot_net : (modSlot s p f).net = s.net := rfl
@[simp] theorem modSlot_pwr : (modSlot s p f).pwr = s.pwr := rfl
@[simp] theorem modSlot_latch : (modSlot s p f).latch = s.latch := rfl
@[simp] theorem modSlot_windows : (modSlot s p f).windows = s.windows := rfl
@[simp] theorem modSlot_armed : (modSlot s p f).armed = s.armed := rfl
@[simp] theorem modSlot_sent : (modSlot s p f).sent = s.sent := rfl
@[simp] theorem modSlot_free : (modSlot s p f).free = s.free := rfl
@[simp] theorem modSlot_pending : (modSlot s p f).pending = s.pending := rfl
end

/-! ### modClus -/

section
variable (s : State) (c : Fin 8) (f : QClus → QClus)
@[simp] theorem modClus_stn : (modClus s c f).stn = s.stn := rfl
@[simp] theorem modClus_vars : (modClus s c f).vars = s.vars := rfl
@[simp] theorem modClus_le : (modClus s c f).le = s.le := rfl
@[simp] theorem modClus_log : (modClus s c f).log = s.log := rfl
@[simp] theorem modClus_evr : (modClus s c f).evr = s.evr := rfl
@[simp] theorem modClus_img : (modClus s c f).img = s.img := rfl
@[simp] theorem modClus_fab : (modClus s c f).fab = s.fab := rfl
@[simp] theorem modClus_lp : (modClus s c f).lp = s.lp := rfl
@[simp] theorem modClus_ang : (modClus s c f).ang = s.ang := rfl
@[simp] theorem modClus_fld : (modClus s c f).fld = s.fld := rfl
@[simp] theorem modClus_saf : (modClus s c f).saf = s.saf := rfl
@[simp] theorem modClus_pair : (modClus s c f).pair = s.pair := rfl
@[simp] theorem modClus_stk : (modClus s c f).stk = s.stk := rfl
@[simp] theorem modClus_can : (modClus s c f).can = s.can := rfl
@[simp] theorem modClus_net : (modClus s c f).net = s.net := rfl
@[simp] theorem modClus_pwr : (modClus s c f).pwr = s.pwr := rfl
@[simp] theorem modClus_latch : (modClus s c f).latch = s.latch := rfl
@[simp] theorem modClus_windows : (modClus s c f).windows = s.windows := rfl
@[simp] theorem modClus_armed : (modClus s c f).armed = s.armed := rfl
@[simp] theorem modClus_sent : (modClus s c f).sent = s.sent := rfl
@[simp] theorem modClus_free : (modClus s c f).free = s.free := rfl
@[simp] theorem modClus_pending : (modClus s c f).pending = s.pending := rfl
end

/-! ### modTmpl -/

section
variable (s : State) (t : Fin 64) (f : QTmpl → QTmpl)
@[simp] theorem modTmpl_stn : (modTmpl s t f).stn = s.stn := rfl
@[simp] theorem modTmpl_vars : (modTmpl s t f).vars = s.vars := rfl
@[simp] theorem modTmpl_le : (modTmpl s t f).le = s.le := rfl
@[simp] theorem modTmpl_log : (modTmpl s t f).log = s.log := rfl
@[simp] theorem modTmpl_evr : (modTmpl s t f).evr = s.evr := rfl
@[simp] theorem modTmpl_img : (modTmpl s t f).img = s.img := rfl
@[simp] theorem modTmpl_fab : (modTmpl s t f).fab = s.fab := rfl
@[simp] theorem modTmpl_lp : (modTmpl s t f).lp = s.lp := rfl
@[simp] theorem modTmpl_ang : (modTmpl s t f).ang = s.ang := rfl
@[simp] theorem modTmpl_fld : (modTmpl s t f).fld = s.fld := rfl
@[simp] theorem modTmpl_saf : (modTmpl s t f).saf = s.saf := rfl
@[simp] theorem modTmpl_pair : (modTmpl s t f).pair = s.pair := rfl
@[simp] theorem modTmpl_stk : (modTmpl s t f).stk = s.stk := rfl
@[simp] theorem modTmpl_can : (modTmpl s t f).can = s.can := rfl
@[simp] theorem modTmpl_net : (modTmpl s t f).net = s.net := rfl
@[simp] theorem modTmpl_pwr : (modTmpl s t f).pwr = s.pwr := rfl
@[simp] theorem modTmpl_latch : (modTmpl s t f).latch = s.latch := rfl
@[simp] theorem modTmpl_windows : (modTmpl s t f).windows = s.windows := rfl
@[simp] theorem modTmpl_armed : (modTmpl s t f).armed = s.armed := rfl
@[simp] theorem modTmpl_sent : (modTmpl s t f).sent = s.sent := rfl
@[simp] theorem modTmpl_free : (modTmpl s t f).free = s.free := rfl
@[simp] theorem modTmpl_pending : (modTmpl s t f).pending = s.pending := rfl
end

/-! ### modLatch -/

section
variable (s : State) (r : Fin 21) (f : Latch → Latch)
@[simp] theorem modLatch_stn : (modLatch s r f).stn = s.stn := rfl
@[simp] theorem modLatch_vars : (modLatch s r f).vars = s.vars := rfl
@[simp] theorem modLatch_le : (modLatch s r f).le = s.le := rfl
@[simp] theorem modLatch_log : (modLatch s r f).log = s.log := rfl
@[simp] theorem modLatch_evr : (modLatch s r f).evr = s.evr := rfl
@[simp] theorem modLatch_img : (modLatch s r f).img = s.img := rfl
@[simp] theorem modLatch_fab : (modLatch s r f).fab = s.fab := rfl
@[simp] theorem modLatch_lp : (modLatch s r f).lp = s.lp := rfl
@[simp] theorem modLatch_qp : (modLatch s r f).qp = s.qp := rfl
@[simp] theorem modLatch_ang : (modLatch s r f).ang = s.ang := rfl
@[simp] theorem modLatch_fld : (modLatch s r f).fld = s.fld := rfl
@[simp] theorem modLatch_saf : (modLatch s r f).saf = s.saf := rfl
@[simp] theorem modLatch_pair : (modLatch s r f).pair = s.pair := rfl
@[simp] theorem modLatch_stk : (modLatch s r f).stk = s.stk := rfl
@[simp] theorem modLatch_can : (modLatch s r f).can = s.can := rfl
@[simp] theorem modLatch_net : (modLatch s r f).net = s.net := rfl
@[simp] theorem modLatch_pwr : (modLatch s r f).pwr = s.pwr := rfl
@[simp] theorem modLatch_latch : (modLatch s r f).latch = vmod s.latch r f := rfl
@[simp] theorem modLatch_windows : (modLatch s r f).windows = s.windows := rfl
@[simp] theorem modLatch_armed : (modLatch s r f).armed = s.armed := rfl
@[simp] theorem modLatch_sent : (modLatch s r f).sent = s.sent := rfl
@[simp] theorem modLatch_free : (modLatch s r f).free = s.free := rfl
@[simp] theorem modLatch_pending : (modLatch s r f).pending = s.pending := rfl
end

/-! ### modSi -/

section
variable (s : State) (n : Fin 16) (f : SiCh → SiCh)
@[simp] theorem modSi_stn : (modSi s n f).stn = s.stn := rfl
@[simp] theorem modSi_vars : (modSi s n f).vars = s.vars := rfl
@[simp] theorem modSi_le : (modSi s n f).le = s.le := rfl
@[simp] theorem modSi_log : (modSi s n f).log = s.log := rfl
@[simp] theorem modSi_evr : (modSi s n f).evr = s.evr := rfl
@[simp] theorem modSi_img : (modSi s n f).img = s.img := rfl
@[simp] theorem modSi_fab : (modSi s n f).fab = s.fab := rfl
@[simp] theorem modSi_lp : (modSi s n f).lp = s.lp := rfl
@[simp] theorem modSi_qp : (modSi s n f).qp = s.qp := rfl
@[simp] theorem modSi_ang : (modSi s n f).ang = s.ang := rfl
@[simp] theorem modSi_fld : (modSi s n f).fld = s.fld := rfl
@[simp] theorem modSi_pair : (modSi s n f).pair = s.pair := rfl
@[simp] theorem modSi_stk : (modSi s n f).stk = s.stk := rfl
@[simp] theorem modSi_can : (modSi s n f).can = s.can := rfl
@[simp] theorem modSi_net : (modSi s n f).net = s.net := rfl
@[simp] theorem modSi_pwr : (modSi s n f).pwr = s.pwr := rfl
@[simp] theorem modSi_latch : (modSi s n f).latch = s.latch := rfl
@[simp] theorem modSi_windows : (modSi s n f).windows = s.windows := rfl
@[simp] theorem modSi_armed : (modSi s n f).armed = s.armed := rfl
@[simp] theorem modSi_sent : (modSi s n f).sent = s.sent := rfl
@[simp] theorem modSi_free : (modSi s n f).free = s.free := rfl
@[simp] theorem modSi_pending : (modSi s n f).pending = s.pending := rfl
end

/-! ### modTp -/

section
variable (s : State) (k : Fin 4) (f : TpSrc → TpSrc)
@[simp] theorem modTp_stn : (modTp s k f).stn = s.stn := rfl
@[simp] theorem modTp_vars : (modTp s k f).vars = s.vars := rfl
@[simp] theorem modTp_le : (modTp s k f).le = s.le := rfl
@[simp] theorem modTp_log : (modTp s k f).log = s.log := rfl
@[simp] theorem modTp_evr : (modTp s k f).evr = s.evr := rfl
@[simp] theorem modTp_img : (modTp s k f).img = s.img := rfl
@[simp] theorem modTp_fab : (modTp s k f).fab = s.fab := rfl
@[simp] theorem modTp_lp : (modTp s k f).lp = s.lp := rfl
@[simp] theorem modTp_qp : (modTp s k f).qp = s.qp := rfl
@[simp] theorem modTp_ang : (modTp s k f).ang = s.ang := rfl
@[simp] theorem modTp_fld : (modTp s k f).fld = s.fld := rfl
@[simp] theorem modTp_pair : (modTp s k f).pair = s.pair := rfl
@[simp] theorem modTp_stk : (modTp s k f).stk = s.stk := rfl
@[simp] theorem modTp_can : (modTp s k f).can = s.can := rfl
@[simp] theorem modTp_net : (modTp s k f).net = s.net := rfl
@[simp] theorem modTp_pwr : (modTp s k f).pwr = s.pwr := rfl
@[simp] theorem modTp_latch : (modTp s k f).latch = s.latch := rfl
@[simp] theorem modTp_windows : (modTp s k f).windows = s.windows := rfl
@[simp] theorem modTp_armed : (modTp s k f).armed = s.armed := rfl
@[simp] theorem modTp_sent : (modTp s k f).sent = s.sent := rfl
@[simp] theorem modTp_free : (modTp s k f).free = s.free := rfl
@[simp] theorem modTp_pending : (modTp s k f).pending = s.pending := rfl
end

/-! ### modSo -/

section
variable (s : State) (k : Fin 8) (f : SoOut → SoOut)
@[simp] theorem modSo_stn : (modSo s k f).stn = s.stn := rfl
@[simp] theorem modSo_vars : (modSo s k f).vars = s.vars := rfl
@[simp] theorem modSo_le : (modSo s k f).le = s.le := rfl
@[simp] theorem modSo_log : (modSo s k f).log = s.log := rfl
@[simp] theorem modSo_evr : (modSo s k f).evr = s.evr := rfl
@[simp] theorem modSo_img : (modSo s k f).img = s.img := rfl
@[simp] theorem modSo_fab : (modSo s k f).fab = s.fab := rfl
@[simp] theorem modSo_lp : (modSo s k f).lp = s.lp := rfl
@[simp] theorem modSo_qp : (modSo s k f).qp = s.qp := rfl
@[simp] theorem modSo_ang : (modSo s k f).ang = s.ang := rfl
@[simp] theorem modSo_fld : (modSo s k f).fld = s.fld := rfl
@[simp] theorem modSo_pair : (modSo s k f).pair = s.pair := rfl
@[simp] theorem modSo_stk : (modSo s k f).stk = s.stk := rfl
@[simp] theorem modSo_can : (modSo s k f).can = s.can := rfl
@[simp] theorem modSo_net : (modSo s k f).net = s.net := rfl
@[simp] theorem modSo_pwr : (modSo s k f).pwr = s.pwr := rfl
@[simp] theorem modSo_latch : (modSo s k f).latch = s.latch := rfl
@[simp] theorem modSo_windows : (modSo s k f).windows = s.windows := rfl
@[simp] theorem modSo_armed : (modSo s k f).armed = s.armed := rfl
@[simp] theorem modSo_sent : (modSo s k f).sent = s.sent := rfl
@[simp] theorem modSo_free : (modSo s k f).free = s.free := rfl
@[simp] theorem modSo_pending : (modSo s k f).pending = s.pending := rfl
end

/-! ### modCan -/

section
variable (s : State) (k : Fin 8) (f : CanCtl → CanCtl)
@[simp] theorem modCan_stn : (modCan s k f).stn = s.stn := rfl
@[simp] theorem modCan_vars : (modCan s k f).vars = s.vars := rfl
@[simp] theorem modCan_le : (modCan s k f).le = s.le := rfl
@[simp] theorem modCan_log : (modCan s k f).log = s.log := rfl
@[simp] theorem modCan_evr : (modCan s k f).evr = s.evr := rfl
@[simp] theorem modCan_img : (modCan s k f).img = s.img := rfl
@[simp] theorem modCan_fab : (modCan s k f).fab = s.fab := rfl
@[simp] theorem modCan_lp : (modCan s k f).lp = s.lp := rfl
@[simp] theorem modCan_qp : (modCan s k f).qp = s.qp := rfl
@[simp] theorem modCan_ang : (modCan s k f).ang = s.ang := rfl
@[simp] theorem modCan_fld : (modCan s k f).fld = s.fld := rfl
@[simp] theorem modCan_saf : (modCan s k f).saf = s.saf := rfl
@[simp] theorem modCan_pair : (modCan s k f).pair = s.pair := rfl
@[simp] theorem modCan_stk : (modCan s k f).stk = s.stk := rfl
@[simp] theorem modCan_net : (modCan s k f).net = s.net := rfl
@[simp] theorem modCan_pwr : (modCan s k f).pwr = s.pwr := rfl
@[simp] theorem modCan_latch : (modCan s k f).latch = s.latch := rfl
@[simp] theorem modCan_windows : (modCan s k f).windows = s.windows := rfl
@[simp] theorem modCan_armed : (modCan s k f).armed = s.armed := rfl
@[simp] theorem modCan_sent : (modCan s k f).sent = s.sent := rfl
@[simp] theorem modCan_free : (modCan s k f).free = s.free := rfl
@[simp] theorem modCan_pending : (modCan s k f).pending = s.pending := rfl
end

/-! ### modSess -/

section
variable (s : State) (i : Fin 4) (f : Sess → Sess)
@[simp] theorem modSess_stn : (modSess s i f).stn = s.stn := rfl
@[simp] theorem modSess_vars : (modSess s i f).vars = s.vars := rfl
@[simp] theorem modSess_le : (modSess s i f).le = s.le := rfl
@[simp] theorem modSess_log : (modSess s i f).log = s.log := rfl
@[simp] theorem modSess_evr : (modSess s i f).evr = s.evr := rfl
@[simp] theorem modSess_img : (modSess s i f).img = s.img := rfl
@[simp] theorem modSess_fab : (modSess s i f).fab = s.fab := rfl
@[simp] theorem modSess_lp : (modSess s i f).lp = s.lp := rfl
@[simp] theorem modSess_qp : (modSess s i f).qp = s.qp := rfl
@[simp] theorem modSess_ang : (modSess s i f).ang = s.ang := rfl
@[simp] theorem modSess_fld : (modSess s i f).fld = s.fld := rfl
@[simp] theorem modSess_saf : (modSess s i f).saf = s.saf := rfl
@[simp] theorem modSess_pair : (modSess s i f).pair = s.pair := rfl
@[simp] theorem modSess_stk : (modSess s i f).stk = s.stk := rfl
@[simp] theorem modSess_can : (modSess s i f).can = s.can := rfl
@[simp] theorem modSess_pwr : (modSess s i f).pwr = s.pwr := rfl
@[simp] theorem modSess_latch : (modSess s i f).latch = s.latch := rfl
@[simp] theorem modSess_windows : (modSess s i f).windows = s.windows := rfl
@[simp] theorem modSess_armed : (modSess s i f).armed = s.armed := rfl
@[simp] theorem modSess_sent : (modSess s i f).sent = s.sent := rfl
@[simp] theorem modSess_free : (modSess s i f).free = s.free := rfl
@[simp] theorem modSess_pending : (modSess s i f).pending = s.pending := rfl
end

/-! ### modRx -/

section
variable (s : State) (r : Fin 128) (f : RxTel → RxTel)
@[simp] theorem modRx_stn : (modRx s r f).stn = s.stn := rfl
@[simp] theorem modRx_vars : (modRx s r f).vars = s.vars := rfl
@[simp] theorem modRx_le : (modRx s r f).le = s.le := rfl
@[simp] theorem modRx_log : (modRx s r f).log = s.log := rfl
@[simp] theorem modRx_evr : (modRx s r f).evr = s.evr := rfl
@[simp] theorem modRx_img : (modRx s r f).img = s.img := rfl
@[simp] theorem modRx_fab : (modRx s r f).fab = s.fab := rfl
@[simp] theorem modRx_lp : (modRx s r f).lp = s.lp := rfl
@[simp] theorem modRx_qp : (modRx s r f).qp = s.qp := rfl
@[simp] theorem modRx_ang : (modRx s r f).ang = s.ang := rfl
@[simp] theorem modRx_fld : (modRx s r f).fld = s.fld := rfl
@[simp] theorem modRx_saf : (modRx s r f).saf = s.saf := rfl
@[simp] theorem modRx_pair : (modRx s r f).pair = s.pair := rfl
@[simp] theorem modRx_stk : (modRx s r f).stk = s.stk := rfl
@[simp] theorem modRx_can : (modRx s r f).can = s.can := rfl
@[simp] theorem modRx_pwr : (modRx s r f).pwr = s.pwr := rfl
@[simp] theorem modRx_latch : (modRx s r f).latch = s.latch := rfl
@[simp] theorem modRx_windows : (modRx s r f).windows = s.windows := rfl
@[simp] theorem modRx_armed : (modRx s r f).armed = s.armed := rfl
@[simp] theorem modRx_sent : (modRx s r f).sent = s.sent := rfl
@[simp] theorem modRx_free : (modRx s r f).free = s.free := rfl
@[simp] theorem modRx_pending : (modRx s r f).pending = s.pending := rfl
end

/-! ### modTx -/

section
variable (s : State) (t : Fin 64) (f : TxTel → TxTel)
@[simp] theorem modTx_stn : (modTx s t f).stn = s.stn := rfl
@[simp] theorem modTx_vars : (modTx s t f).vars = s.vars := rfl
@[simp] theorem modTx_le : (modTx s t f).le = s.le := rfl
@[simp] theorem modTx_log : (modTx s t f).log = s.log := rfl
@[simp] theorem modTx_evr : (modTx s t f).evr = s.evr := rfl
@[simp] theorem modTx_img : (modTx s t f).img = s.img := rfl
@[simp] theorem modTx_fab : (modTx s t f).fab = s.fab := rfl
@[simp] theorem modTx_lp : (modTx s t f).lp = s.lp := rfl
@[simp] theorem modTx_qp : (modTx s t f).qp = s.qp := rfl
@[simp] theorem modTx_ang : (modTx s t f).ang = s.ang := rfl
@[simp] theorem modTx_fld : (modTx s t f).fld = s.fld := rfl
@[simp] theorem modTx_saf : (modTx s t f).saf = s.saf := rfl
@[simp] theorem modTx_pair : (modTx s t f).pair = s.pair := rfl
@[simp] theorem modTx_stk : (modTx s t f).stk = s.stk := rfl
@[simp] theorem modTx_can : (modTx s t f).can = s.can := rfl
@[simp] theorem modTx_pwr : (modTx s t f).pwr = s.pwr := rfl
@[simp] theorem modTx_latch : (modTx s t f).latch = s.latch := rfl
@[simp] theorem modTx_windows : (modTx s t f).windows = s.windows := rfl
@[simp] theorem modTx_armed : (modTx s t f).armed = s.armed := rfl
@[simp] theorem modTx_sent : (modTx s t f).sent = s.sent := rfl
@[simp] theorem modTx_free : (modTx s t f).free = s.free := rfl
@[simp] theorem modTx_pending : (modTx s t f).pending = s.pending := rfl
end

/-! ### modPort -/

section
variable (s : State) (p : Fin 3) (f : NetPort → NetPort)
@[simp] theorem modPort_stn : (modPort s p f).stn = s.stn := rfl
@[simp] theorem modPort_vars : (modPort s p f).vars = s.vars := rfl
@[simp] theorem modPort_le : (modPort s p f).le = s.le := rfl
@[simp] theorem modPort_log : (modPort s p f).log = s.log := rfl
@[simp] theorem modPort_evr : (modPort s p f).evr = s.evr := rfl
@[simp] theorem modPort_img : (modPort s p f).img = s.img := rfl
@[simp] theorem modPort_fab : (modPort s p f).fab = s.fab := rfl
@[simp] theorem modPort_lp : (modPort s p f).lp = s.lp := rfl
@[simp] theorem modPort_qp : (modPort s p f).qp = s.qp := rfl
@[simp] theorem modPort_ang : (modPort s p f).ang = s.ang := rfl
@[simp] theorem modPort_fld : (modPort s p f).fld = s.fld := rfl
@[simp] theorem modPort_saf : (modPort s p f).saf = s.saf := rfl
@[simp] theorem modPort_pair : (modPort s p f).pair = s.pair := rfl
@[simp] theorem modPort_stk : (modPort s p f).stk = s.stk := rfl
@[simp] theorem modPort_can : (modPort s p f).can = s.can := rfl
@[simp] theorem modPort_pwr : (modPort s p f).pwr = s.pwr := rfl
@[simp] theorem modPort_latch : (modPort s p f).latch = s.latch := rfl
@[simp] theorem modPort_windows : (modPort s p f).windows = s.windows := rfl
@[simp] theorem modPort_armed : (modPort s p f).armed = s.armed := rfl
@[simp] theorem modPort_sent : (modPort s p f).sent = s.sent := rfl
@[simp] theorem modPort_free : (modPort s p f).free = s.free := rfl
@[simp] theorem modPort_pending : (modPort s p f).pending = s.pending := rfl
end

/-! ### modVar -/

section
variable (s : State) (n : Nat) (f : Var → Var)
@[simp] theorem modVar_stn : (modVar s n f).stn = s.stn := rfl
@[simp] theorem modVar_le : (modVar s n f).le = s.le := rfl
@[simp] theorem modVar_log : (modVar s n f).log = s.log := rfl
@[simp] theorem modVar_evr : (modVar s n f).evr = s.evr := rfl
@[simp] theorem modVar_img : (modVar s n f).img = s.img := rfl
@[simp] theorem modVar_fab : (modVar s n f).fab = s.fab := rfl
@[simp] theorem modVar_lp : (modVar s n f).lp = s.lp := rfl
@[simp] theorem modVar_qp : (modVar s n f).qp = s.qp := rfl
@[simp] theorem modVar_ang : (modVar s n f).ang = s.ang := rfl
@[simp] theorem modVar_fld : (modVar s n f).fld = s.fld := rfl
@[simp] theorem modVar_saf : (modVar s n f).saf = s.saf := rfl
@[simp] theorem modVar_pair : (modVar s n f).pair = s.pair := rfl
@[simp] theorem modVar_stk : (modVar s n f).stk = s.stk := rfl
@[simp] theorem modVar_can : (modVar s n f).can = s.can := rfl
@[simp] theorem modVar_net : (modVar s n f).net = s.net := rfl
@[simp] theorem modVar_pwr : (modVar s n f).pwr = s.pwr := rfl
@[simp] theorem modVar_latch : (modVar s n f).latch = s.latch := rfl
@[simp] theorem modVar_windows : (modVar s n f).windows = s.windows := rfl
@[simp] theorem modVar_armed : (modVar s n f).armed = s.armed := rfl
@[simp] theorem modVar_sent : (modVar s n f).sent = s.sent := rfl
@[simp] theorem modVar_free : (modVar s n f).free = s.free := rfl
@[simp] theorem modVar_pending : (modVar s n f).pending = s.pending := rfl
end

/-! ### accept -/

section
variable (s : State) (c : DistCmd)
@[simp] theorem accept_vars : (accept s c).vars = s.vars := rfl
@[simp] theorem accept_le : (accept s c).le = s.le := rfl
@[simp] theorem accept_log : (accept s c).log = s.log := rfl
@[simp] theorem accept_evr : (accept s c).evr = s.evr := rfl
@[simp] theorem accept_img : (accept s c).img = s.img := rfl
@[simp] theorem accept_fab : (accept s c).fab = s.fab := rfl
@[simp] theorem accept_lp : (accept s c).lp = s.lp := rfl
@[simp] theorem accept_qp : (accept s c).qp = s.qp := rfl
@[simp] theorem accept_ang : (accept s c).ang = s.ang := rfl
@[simp] theorem accept_fld : (accept s c).fld = s.fld := rfl
@[simp] theorem accept_saf : (accept s c).saf = s.saf := rfl
@[simp] theorem accept_pair : (accept s c).pair = s.pair := rfl
@[simp] theorem accept_stk : (accept s c).stk = s.stk := rfl
@[simp] theorem accept_can : (accept s c).can = s.can := rfl
@[simp] theorem accept_net : (accept s c).net = s.net := rfl
@[simp] theorem accept_pwr : (accept s c).pwr = s.pwr := rfl
@[simp] theorem accept_latch : (accept s c).latch = s.latch := rfl
@[simp] theorem accept_windows : (accept s c).windows = s.windows := rfl
@[simp] theorem accept_armed : (accept s c).armed = s.armed := rfl
@[simp] theorem accept_sent : (accept s c).sent = s.sent := rfl
@[simp] theorem accept_free : (accept s c).free = s.free := rfl
@[simp] theorem accept_pending : (accept s c).pending = s.pending := rfl
end

/-! ### send -/

section
variable (s : State) (x : Sent)
@[simp] theorem send_stn : (send s x).stn = s.stn := rfl
@[simp] theorem send_vars : (send s x).vars = s.vars := rfl
@[simp] theorem send_le : (send s x).le = s.le := rfl
@[simp] theorem send_log : (send s x).log = s.log := rfl
@[simp] theorem send_evr : (send s x).evr = s.evr := rfl
@[simp] theorem send_img : (send s x).img = s.img := rfl
@[simp] theorem send_fab : (send s x).fab = s.fab := rfl
@[simp] theorem send_lp : (send s x).lp = s.lp := rfl
@[simp] theorem send_qp : (send s x).qp = s.qp := rfl
@[simp] theorem send_ang : (send s x).ang = s.ang := rfl
@[simp] theorem send_fld : (send s x).fld = s.fld := rfl
@[simp] theorem send_saf : (send s x).saf = s.saf := rfl
@[simp] theorem send_pair : (send s x).pair = s.pair := rfl
@[simp] theorem send_stk : (send s x).stk = s.stk := rfl
@[simp] theorem send_can : (send s x).can = s.can := rfl
@[simp] theorem send_net : (send s x).net = s.net := rfl
@[simp] theorem send_pwr : (send s x).pwr = s.pwr := rfl
@[simp] theorem send_latch : (send s x).latch = s.latch := rfl
@[simp] theorem send_windows : (send s x).windows = s.windows := rfl
@[simp] theorem send_armed : (send s x).armed = s.armed := rfl
@[simp] theorem send_sent : (send s x).sent = x :: s.sent := rfl
@[simp] theorem send_free : (send s x).free = s.free := rfl
@[simp] theorem send_pending : (send s x).pending = s.pending := rfl
end

end Sys2Proof.Machine
end

