-- ==== Sys2Proof/Laws/Vec.lean ====
section
/-! SUPPORT. Reading what the vector and list updates of `Bits` wrote. -/

namespace Sys2Proof.Machine
open Sys2Proof

theorem vmod_get {α : Type} {n : Nat} (v : Vector α n) (i j : Fin n) (f : α → α) :
    (vmod v i f)[j] = if i = j then f v[i] else v[j] := by
  simp only [vmod, Fin.getElem_fin, Vector.getElem_set, Fin.ext_iff]

@[simp] theorem vmod_get_self {α : Type} {n : Nat} (v : Vector α n) (i : Fin n) (f : α → α) :
    (vmod v i f)[i] = f v[i] := by simp [vmod]

theorem vmod_get_ne {α : Type} {n : Nat} (v : Vector α n) {i j : Fin n} (h : i ≠ j) (f : α → α) :
    (vmod v i f)[j] = v[j] := by rw [vmod_get, if_neg h]

theorem vmodN_get {α : Type} {n : Nat} (v : Vector α n) (i : Nat) (j : Fin n) (f : α → α) :
    (vmodN v i f)[j] = if i = j.val then f v[j] else v[j] := by
  unfold vmodN
  split
  · simp only [Fin.getElem_fin, Vector.getElem_set]
    split
    · next h => subst h; rfl
    · rfl
  · next h =>
    have : i ≠ j.val := fun e => h (e ▸ j.isLt)
    simp [this]

theorem vmodN_fin {α : Type} {n : Nat} (v : Vector α n) (i : Fin n) (f : α → α) : vmodN v i.val f = vmod v i f := by
  simp [vmodN, vmod]

theorem vget_fin {α : Type} {n : Nat} (v : Vector α n) (i : Fin n) (d : α) : vget v i.val d = v[i] := by
  simp [vget]

theorem aget_aset_self {α : Type} (l : List (Nat × α)) (i : Nat) (x : α) : aget (aset l i x) i = some x := by
  induction l with
  | nil => simp [aset, aget]
  | cons p r ih =>
    obtain ⟨k, w⟩ := p
    unfold aset
    split
    · simp [aget]
    · split
      · simp [aget]
      · next h _ => simp [aget, h, ih]

theorem aget_aset_ne {α : Type} (l : List (Nat × α)) {i j : Nat} (x : α) (h : i ≠ j) : aget (aset l i x) j = aget l j := by
  induction l with
  | nil => simp [aset, aget, h]
  | cons p r ih =>
    obtain ⟨k, w⟩ := p
    unfold aset
    split
    · next hk => subst hk; simp [aget, h]
    · split
      · simp [aget, h]
      · simp [aget, ih]

theorem mem_allFin {n : Nat} (i : Fin n) : i ∈ allFin n := by simp [allFin]

end Sys2Proof.Machine
end

