-- ==== Sys2Proof/Laws/Settle.lean ====
section
/-! SUPPORT. What handing an entry to LOG, raising an event source and ending a command leave alone: everything but LOG,
EVR, the event tasks' triggers and what the station sends. -/

namespace Sys2Proof.Machine
open Sys2Proof

/-! ### Entries and raises -/

section
variable (s : State) (ledger own : Bool) (code source sev : Nat) (payload : List Byte)
@[simp] theorem logItem_stn : (logItem s ledger own code source sev payload).stn = s.stn := rfl
@[simp] theorem logItem_vars : (logItem s ledger own code source sev payload).vars = s.vars := rfl
@[simp] theorem logItem_img : (logItem s ledger own code source sev payload).img = s.img := rfl
@[simp] theorem logItem_fab : (logItem s ledger own code source sev payload).fab = s.fab := rfl
@[simp] theorem logItem_lp : (logItem s ledger own code source sev payload).lp = s.lp := rfl
@[simp] theorem logItem_qp : (logItem s ledger own code source sev payload).qp = s.qp := rfl
@[simp] theorem logItem_ang : (logItem s ledger own code source sev payload).ang = s.ang := rfl
@[simp] theorem logItem_fld : (logItem s ledger own code source sev payload).fld = s.fld := rfl
@[simp] theorem logItem_saf : (logItem s ledger own code source sev payload).saf = s.saf := rfl
@[simp] theorem logItem_pair : (logItem s ledger own code source sev payload).pair = s.pair := rfl
@[simp] theorem logItem_stk : (logItem s ledger own code source sev payload).stk = s.stk := rfl
@[simp] theorem logItem_can : (logItem s ledger own code source sev payload).can = s.can := rfl
@[simp] theorem logItem_net : (logItem s ledger own code source sev payload).net = s.net := rfl
@[simp] theorem logItem_pwr : (logItem s ledger own code source sev payload).pwr = s.pwr := rfl
@[simp] theorem logItem_latch : (logItem s ledger own code source sev payload).latch = s.latch := rfl
@[simp] theorem logItem_windows : (logItem s ledger own code source sev payload).windows = s.windows := rfl
@[simp] theorem logItem_armed : (logItem s ledger own code source sev payload).armed = s.armed := rfl
@[simp] theorem logItem_free : (logItem s ledger own code source sev payload).free = s.free := rfl
@[simp] theorem logItem_pending : (logItem s ledger own code source sev payload).pending = s.pending := rfl
@[simp] theorem logItem_evr : (logItem s ledger own code source sev payload).evr = s.evr := rfl
@[simp] theorem logItem_le : (logItem s ledger own code source sev payload).le = s.le := rfl
@[simp] theorem logItem_sent : (logItem s ledger own code source sev payload).sent = s.sent := rfl
end

section
variable (s : State) (code source sev : Nat) (payload : List Byte)
@[simp] theorem logEntry_stn : (logEntry s code source sev payload).stn = s.stn := rfl
@[simp] theorem logEntry_vars : (logEntry s code source sev payload).vars = s.vars := rfl
@[simp] theorem logEntry_img : (logEntry s code source sev payload).img = s.img := rfl
@[simp] theorem logEntry_fab : (logEntry s code source sev payload).fab = s.fab := rfl
@[simp] theorem logEntry_lp : (logEntry s code source sev payload).lp = s.lp := rfl
@[simp] theorem logEntry_qp : (logEntry s code source sev payload).qp = s.qp := rfl
@[simp] theorem logEntry_ang : (logEntry s code source sev payload).ang = s.ang := rfl
@[simp] theorem logEntry_fld : (logEntry s code source sev payload).fld = s.fld := rfl
@[simp] theorem logEntry_saf : (logEntry s code source sev payload).saf = s.saf := rfl
@[simp] theorem logEntry_pair : (logEntry s code source sev payload).pair = s.pair := rfl
@[simp] theorem logEntry_stk : (logEntry s code source sev payload).stk = s.stk := rfl
@[simp] theorem logEntry_can : (logEntry s code source sev payload).can = s.can := rfl
@[simp] theorem logEntry_net : (logEntry s code source sev payload).net = s.net := rfl
@[simp] theorem logEntry_pwr : (logEntry s code source sev payload).pwr = s.pwr := rfl
@[simp] theorem logEntry_latch : (logEntry s code source sev payload).latch = s.latch := rfl
@[simp] theorem logEntry_windows : (logEntry s code source sev payload).windows = s.windows := rfl
@[simp] theorem logEntry_armed : (logEntry s code source sev payload).armed = s.armed := rfl
@[simp] theorem logEntry_free : (logEntry s code source sev payload).free = s.free := rfl
@[simp] theorem logEntry_pending : (logEntry s code source sev payload).pending = s.pending := rfl
@[simp] theorem logEntry_evr : (logEntry s code source sev payload).evr = s.evr := rfl
@[simp] theorem logEntry_le : (logEntry s code source sev payload).le = s.le := rfl
@[simp] theorem logEntry_sent : (logEntry s code source sev payload).sent = s.sent := rfl
end

section
variable (s : State) (code source sev : Nat) (payload : List Byte)
@[simp] theorem logLedger_stn : (logLedger s code source sev payload).stn = s.stn := rfl
@[simp] theorem logLedger_vars : (logLedger s code source sev payload).vars = s.vars := rfl
@[simp] theorem logLedger_img : (logLedger s code source sev payload).img = s.img := rfl
@[simp] theorem logLedger_fab : (logLedger s code source sev payload).fab = s.fab := rfl
@[simp] theorem logLedger_lp : (logLedger s code source sev payload).lp = s.lp := rfl
@[simp] theorem logLedger_qp : (logLedger s code source sev payload).qp = s.qp := rfl
@[simp] theorem logLedger_ang : (logLedger s code source sev payload).ang = s.ang := rfl
@[simp] theorem logLedger_fld : (logLedger s code source sev payload).fld = s.fld := rfl
@[simp] theorem logLedger_saf : (logLedger s code source sev payload).saf = s.saf := rfl
@[simp] theorem logLedger_pair : (logLedger s code source sev payload).pair = s.pair := rfl
@[simp] theorem logLedger_stk : (logLedger s code source sev payload).stk = s.stk := rfl
@[simp] theorem logLedger_can : (logLedger s code source sev payload).can = s.can := rfl
@[simp] theorem logLedger_net : (logLedger s code source sev payload).net = s.net := rfl
@[simp] theorem logLedger_pwr : (logLedger s code source sev payload).pwr = s.pwr := rfl
@[simp] theorem logLedger_latch : (logLedger s code source sev payload).latch = s.latch := rfl
@[simp] theorem logLedger_windows : (logLedger s code source sev payload).windows = s.windows := rfl
@[simp] theorem logLedger_armed : (logLedger s code source sev payload).armed = s.armed := rfl
@[simp] theorem logLedger_free : (logLedger s code source sev payload).free = s.free := rfl
@[simp] theorem logLedger_pending : (logLedger s code source sev payload).pending = s.pending := rfl
@[simp] theorem logLedger_evr : (logLedger s code source sev payload).evr = s.evr := rfl
@[simp] theorem logLedger_le : (logLedger s code source sev payload).le = s.le := rfl
@[simp] theorem logLedger_sent : (logLedger s code source sev payload).sent = s.sent := rfl
end

theorem Engine.SameBut.refl (g : Engine) : g.SameBut g := rfl

theorem Engine.SameBut.trans {a b c : Engine} (h : a.SameBut b) (k : b.SameBut c) : a.SameBut c := by
  unfold Engine.SameBut at *; rw [k, h]

theorem trigger_eq (s : State) (e i : Nat) :
    ∃ l, trigger s e i = { s with le := l } ∧ ∀ j : Fin 17, s.le[j].SameBut l[j] := by
  unfold trigger
  dsimp only
  split
  · exact ⟨s.le, rfl, fun _ => rfl⟩
  · split
    · refine ⟨_, rfl, fun j => ?_⟩
      rw [vmodN_get]; split <;> rfl
    · refine ⟨_, rfl, fun j => ?_⟩
      rw [vmodN_get]; split <;> rfl

/-- A raise writes EVR, LOG and event-task triggers only, and EVR's routes not at all. -/
theorem raise_eq (s : State) (n : Nat) :
    ∃ v g l, raise s n = { s with evr := v, log := g, le := l } ∧ v.routes = s.evr.routes ∧
      (∀ j : Fin 17, s.le[j].SameBut l[j]) ∧ (v.now = s.evr.now ∨ v.now = s.evr.now ++ [n]) := by
  unfold raise
  split
  · exact ⟨_, _, _, rfl, rfl, fun _ => rfl, .inl rfl⟩
  · dsimp only
    generalize (if s.pwr.quiet.getLsbD 10 = true then 0#32 else vget s.evr.routes n 0#32) = w
    generalize hs : (if bit w 9 = true then logLedger _ _ _ _ _ else if bit w 8 = true then logEntry _ _ _ _ _ else _) = s2
    have h2 : ∃ g, s2 = { s with evr := { s.evr with
        now := s.evr.now ++ [n]
        raised := vmodN s.evr.raised (n / 32) (fun r => r ||| (1#32 <<< (n % 32)))
        raiseCnt := vmodN s.evr.raiseCnt n (· + 1) }, log := g } := by
      subst hs
      split
      · exact ⟨_, rfl⟩
      · split <;> exact ⟨_, rfl⟩
    obtain ⟨g, rfl⟩ := h2
    split
    · obtain ⟨l, h, hl⟩ := trigger_eq { s with evr := { s.evr with
        now := s.evr.now ++ [n]
        raised := vmodN s.evr.raised (n / 32) (fun r => r ||| (1#32 <<< (n % 32)))
        raiseCnt := vmodN s.evr.raiseCnt n (· + 1) }, log := g } (fld w 2 4) (fld w 6 2)
      rw [h]
      exact ⟨_, _, _, rfl, rfl, hl, .inr rfl⟩
    · exact ⟨_, _, _, rfl, rfl, fun _ => rfl, .inr rfl⟩

section
variable (s : State) (n : Nat)
@[simp] theorem raise_stn : (raise s n).stn = s.stn := by obtain ⟨v, g, l, h, -⟩ := raise_eq s n; rw [h]
@[simp] theorem raise_vars : (raise s n).vars = s.vars := by obtain ⟨v, g, l, h, -⟩ := raise_eq s n; rw [h]
@[simp] theorem raise_img : (raise s n).img = s.img := by obtain ⟨v, g, l, h, -⟩ := raise_eq s n; rw [h]
@[simp] theorem raise_fab : (raise s n).fab = s.fab := by obtain ⟨v, g, l, h, -⟩ := raise_eq s n; rw [h]
@[simp] theorem raise_lp : (raise s n).lp = s.lp := by obtain ⟨v, g, l, h, -⟩ := raise_eq s n; rw [h]
@[simp] theorem raise_qp : (raise s n).qp = s.qp := by obtain ⟨v, g, l, h, -⟩ := raise_eq s n; rw [h]
@[simp] theorem raise_ang : (raise s n).ang = s.ang := by obtain ⟨v, g, l, h, -⟩ := raise_eq s n; rw [h]
@[simp] theorem raise_fld : (raise s n).fld = s.fld := by obtain ⟨v, g, l, h, -⟩ := raise_eq s n; rw [h]
@[simp] theorem raise_saf : (raise s n).saf = s.saf := by obtain ⟨v, g, l, h, -⟩ := raise_eq s n; rw [h]
@[simp] theorem raise_pair : (raise s n).pair = s.pair := by obtain ⟨v, g, l, h, -⟩ := raise_eq s n; rw [h]
@[simp] theorem raise_stk : (raise s n).stk = s.stk := by obtain ⟨v, g, l, h, -⟩ := raise_eq s n; rw [h]
@[simp] theorem raise_can : (raise s n).can = s.can := by obtain ⟨v, g, l, h, -⟩ := raise_eq s n; rw [h]
@[simp] theorem raise_net : (raise s n).net = s.net := by obtain ⟨v, g, l, h, -⟩ := raise_eq s n; rw [h]
@[simp] theorem raise_pwr : (raise s n).pwr = s.pwr := by obtain ⟨v, g, l, h, -⟩ := raise_eq s n; rw [h]
@[simp] theorem raise_latch : (raise s n).latch = s.latch := by obtain ⟨v, g, l, h, -⟩ := raise_eq s n; rw [h]
@[simp] theorem raise_windows : (raise s n).windows = s.windows := by obtain ⟨v, g, l, h, -⟩ := raise_eq s n; rw [h]
@[simp] theorem raise_armed : (raise s n).armed = s.armed := by obtain ⟨v, g, l, h, -⟩ := raise_eq s n; rw [h]
@[simp] theorem raise_free : (raise s n).free = s.free := by obtain ⟨v, g, l, h, -⟩ := raise_eq s n; rw [h]
@[simp] theorem raise_pending : (raise s n).pending = s.pending := by obtain ⟨v, g, l, h, -⟩ := raise_eq s n; rw [h]
@[simp] theorem raise_sent : (raise s n).sent = s.sent := by obtain ⟨v, g, l, h, -⟩ := raise_eq s n; rw [h]
end

theorem raise_le (s : State) (n : Nat) (e : Fin 17) : s.le[e].SameBut (raise s n).le[e] := by
  obtain ⟨v, g, l, h, -, hl, -⟩ := raise_eq s n; rw [h]; exact hl e

@[simp] theorem raise_routes (s : State) (n : Nat) : (raise s n).evr.routes = s.evr.routes := by
  obtain ⟨v, g, l, h, hv, -⟩ := raise_eq s n; rw [h]; exact hv

/-! ### The end of a command -/

theorem logPass_eq (s : State) :
    ∃ v g l, logPass s = { s with evr := v, log := g, le := l } ∧ v.routes = s.evr.routes ∧ ∀ j : Fin 17, s.le[j].SameBut l[j] := by
  unfold logPass
  dsimp only
  generalize List.foldl _ _ _ = r
  split
  · obtain ⟨v, g, l, h, hv, hl, -⟩ := raise_eq { s with log := r.1 } 488
    rw [h]; exact ⟨_, _, _, rfl, hv, hl⟩
  · exact ⟨_, _, _, rfl, rfl, fun _ => rfl⟩

theorem freshCycle_eq (s : State) :
    ∃ v g l, freshCycle s = { s with evr := v, log := g, le := l } ∧ v.routes = s.evr.routes ∧ ∀ j : Fin 17, s.le[j].SameBut l[j] := by
  unfold freshCycle
  dsimp only
  split
  · obtain ⟨v, g, l, h, hv, hl, -⟩ := raise_eq { s with log := (logDrain 4 (lgStandby s) s.log).1 } 488
    rw [h]; exact ⟨_, _, _, rfl, hv, hl⟩
  · exact ⟨_, _, _, rfl, rfl, fun _ => rfl⟩

theorem foldl_send {α : Type} (l : List α) (f : α → Sent) (s : State) :
    l.foldl (fun s n => send s (f n)) s = { s with sent := (l.map f).reverse ++ s.sent } := by
  induction l generalizing s with
  | nil => rfl
  | cons a r ih => rw [List.foldl_cons, ih]; simp [send]

theorem foldl_supEnqueue (l : List (Nat × Nat)) (v : Evr) :
    (l.foldl supEnqueue v).routes = v.routes := by
  induction l generalizing v with
  | nil => rfl
  | cons a r ih =>
    rw [List.foldl_cons, ih]
    unfold supEnqueue
    split
    · rfl
    · dsimp only; split <;> rfl

theorem deliverRaises_eq (s : State) :
    ∃ v x, deliverRaises s = { s with evr := v, sent := x } ∧ v.routes = s.evr.routes ∧ v.now = [] := by
  unfold deliverRaises
  dsimp only
  rw [foldl_send]
  exact ⟨_, _, rfl, foldl_supEnqueue _ _, rfl⟩

/-- What ends a command writes EVR, LOG, event-task triggers and what the station sends, and nothing else. -/
theorem settle_eq (s : State) :
    ∃ v g l x, settle s = { s with evr := v, log := g, le := l, sent := x } ∧ v.routes = s.evr.routes ∧ v.now = [] ∧
      ∀ j : Fin 17, s.le[j].SameBut l[j] := by
  unfold settle
  obtain ⟨v1, g1, l1, h1, r1, k1⟩ := logPass_eq s
  rw [h1]
  obtain ⟨v2, g2, l2, h2, r2, k2⟩ := logPass_eq { s with evr := v1, log := g1, le := l1 }
  rw [h2]
  obtain ⟨v3, g3, l3, h3, r3, k3⟩ := logPass_eq { s with evr := v2, log := g2, le := l2 }
  rw [h3]
  obtain ⟨v4, x, h4, r4, n4⟩ := deliverRaises_eq { s with evr := v3, log := g3, le := l3 }
  rw [h4]
  exact ⟨v4, g3, l3, x, rfl, by rw [r4]; exact r3.trans (r2.trans r1), n4,
    fun j => ((k1 j).trans (k2 j)).trans (k3 j)⟩

section
variable (s : State)
@[simp] theorem freshCycle_stn : (freshCycle s).stn = s.stn := by obtain ⟨v, g, l, h, -⟩ := freshCycle_eq s; rw [h]
@[simp] theorem freshCycle_vars : (freshCycle s).vars = s.vars := by obtain ⟨v, g, l, h, -⟩ := freshCycle_eq s; rw [h]
@[simp] theorem freshCycle_img : (freshCycle s).img = s.img := by obtain ⟨v, g, l, h, -⟩ := freshCycle_eq s; rw [h]
@[simp] theorem freshCycle_fab : (freshCycle s).fab = s.fab := by obtain ⟨v, g, l, h, -⟩ := freshCycle_eq s; rw [h]
@[simp] theorem freshCycle_lp : (freshCycle s).lp = s.lp := by obtain ⟨v, g, l, h, -⟩ := freshCycle_eq s; rw [h]
@[simp] theorem freshCycle_qp : (freshCycle s).qp = s.qp := by obtain ⟨v, g, l, h, -⟩ := freshCycle_eq s; rw [h]
@[simp] theorem freshCycle_ang : (freshCycle s).ang = s.ang := by obtain ⟨v, g, l, h, -⟩ := freshCycle_eq s; rw [h]
@[simp] theorem freshCycle_fld : (freshCycle s).fld = s.fld := by obtain ⟨v, g, l, h, -⟩ := freshCycle_eq s; rw [h]
@[simp] theorem freshCycle_saf : (freshCycle s).saf = s.saf := by obtain ⟨v, g, l, h, -⟩ := freshCycle_eq s; rw [h]
@[simp] theorem freshCycle_pair : (freshCycle s).pair = s.pair := by obtain ⟨v, g, l, h, -⟩ := freshCycle_eq s; rw [h]
@[simp] theorem freshCycle_stk : (freshCycle s).stk = s.stk := by obtain ⟨v, g, l, h, -⟩ := freshCycle_eq s; rw [h]
@[simp] theorem freshCycle_can : (freshCycle s).can = s.can := by obtain ⟨v, g, l, h, -⟩ := freshCycle_eq s; rw [h]
@[simp] theorem freshCycle_net : (freshCycle s).net = s.net := by obtain ⟨v, g, l, h, -⟩ := freshCycle_eq s; rw [h]
@[simp] theorem freshCycle_pwr : (freshCycle s).pwr = s.pwr := by obtain ⟨v, g, l, h, -⟩ := freshCycle_eq s; rw [h]
@[simp] theorem freshCycle_latch : (freshCycle s).latch = s.latch := by obtain ⟨v, g, l, h, -⟩ := freshCycle_eq s; rw [h]
@[simp] theorem freshCycle_windows : (freshCycle s).windows = s.windows := by obtain ⟨v, g, l, h, -⟩ := freshCycle_eq s; rw [h]
@[simp] theorem freshCycle_armed : (freshCycle s).armed = s.armed := by obtain ⟨v, g, l, h, -⟩ := freshCycle_eq s; rw [h]
@[simp] theorem freshCycle_free : (freshCycle s).free = s.free := by obtain ⟨v, g, l, h, -⟩ := freshCycle_eq s; rw [h]
@[simp] theorem freshCycle_pending : (freshCycle s).pending = s.pending := by obtain ⟨v, g, l, h, -⟩ := freshCycle_eq s; rw [h]
@[simp] theorem freshCycle_sent : (freshCycle s).sent = s.sent := by obtain ⟨v, g, l, h, -⟩ := freshCycle_eq s; rw [h]
@[simp] theorem settle_stn : (settle s).stn = s.stn := by obtain ⟨v, g, l, x, h, -⟩ := settle_eq s; rw [h]
@[simp] theorem settle_vars : (settle s).vars = s.vars := by obtain ⟨v, g, l, x, h, -⟩ := settle_eq s; rw [h]
@[simp] theorem settle_img : (settle s).img = s.img := by obtain ⟨v, g, l, x, h, -⟩ := settle_eq s; rw [h]
@[simp] theorem settle_fab : (settle s).fab = s.fab := by obtain ⟨v, g, l, x, h, -⟩ := settle_eq s; rw [h]
@[simp] theorem settle_lp : (settle s).lp = s.lp := by obtain ⟨v, g, l, x, h, -⟩ := settle_eq s; rw [h]
@[simp] theorem settle_qp : (settle s).qp = s.qp := by obtain ⟨v, g, l, x, h, -⟩ := settle_eq s; rw [h]
@[simp] theorem settle_ang : (settle s).ang = s.ang := by obtain ⟨v, g, l, x, h, -⟩ := settle_eq s; rw [h]
@[simp] theorem settle_fld : (settle s).fld = s.fld := by obtain ⟨v, g, l, x, h, -⟩ := settle_eq s; rw [h]
@[simp] theorem settle_saf : (settle s).saf = s.saf := by obtain ⟨v, g, l, x, h, -⟩ := settle_eq s; rw [h]
@[simp] theorem settle_pair : (settle s).pair = s.pair := by obtain ⟨v, g, l, x, h, -⟩ := settle_eq s; rw [h]
@[simp] theorem settle_stk : (settle s).stk = s.stk := by obtain ⟨v, g, l, x, h, -⟩ := settle_eq s; rw [h]
@[simp] theorem settle_can : (settle s).can = s.can := by obtain ⟨v, g, l, x, h, -⟩ := settle_eq s; rw [h]
@[simp] theorem settle_net : (settle s).net = s.net := by obtain ⟨v, g, l, x, h, -⟩ := settle_eq s; rw [h]
@[simp] theorem settle_pwr : (settle s).pwr = s.pwr := by obtain ⟨v, g, l, x, h, -⟩ := settle_eq s; rw [h]
@[simp] theorem settle_latch : (settle s).latch = s.latch := by obtain ⟨v, g, l, x, h, -⟩ := settle_eq s; rw [h]
@[simp] theorem settle_windows : (settle s).windows = s.windows := by obtain ⟨v, g, l, x, h, -⟩ := settle_eq s; rw [h]
@[simp] theorem settle_armed : (settle s).armed = s.armed := by obtain ⟨v, g, l, x, h, -⟩ := settle_eq s; rw [h]
@[simp] theorem settle_free : (settle s).free = s.free := by obtain ⟨v, g, l, x, h, -⟩ := settle_eq s; rw [h]
@[simp] theorem settle_pending : (settle s).pending = s.pending := by obtain ⟨v, g, l, x, h, -⟩ := settle_eq s; rw [h]
@[simp] theorem settle_now : (settle s).evr.now = [] := by obtain ⟨v, g, l, x, h, -, k, -⟩ := settle_eq s; rw [h]; exact k
@[simp] theorem settle_routes : (settle s).evr.routes = s.evr.routes := by obtain ⟨v, g, l, x, h, k, -⟩ := settle_eq s; rw [h]; exact k
@[simp] theorem freshCycle_routes : (freshCycle s).evr.routes = s.evr.routes := by obtain ⟨v, g, l, h, k, -⟩ := freshCycle_eq s; rw [h]; exact k
end

theorem settle_le (s : State) (e : Fin 17) : s.le[e].SameBut (settle s).le[e] := by
  obtain ⟨v, g, l, x, h, -, -, k⟩ := settle_eq s; rw [h]; exact k e

theorem freshCycle_le (s : State) (e : Fin 17) : s.le[e].SameBut (freshCycle s).le[e] := by
  obtain ⟨v, g, l, h, -, k⟩ := freshCycle_eq s; rw [h]; exact k e

/-! ### Outcomes -/

/-- A command that comes about: its effect on the state as its fabric cycle finds it, settled, with the queue as it was. -/
theorem guarded_true {s : State} {b : Bool} (h : b = true) (f : State → State) :
    guarded s b f = .next { settle (f (freshCycle s)) with pending := s.pending } := by
  simp [guarded, h, finish]

/-- A command that does not come about changes nothing. -/
theorem guarded_false {s : State} {b : Bool} (h : b = false) (f : State → State) : guarded s b f = .next s := by
  simp [guarded, h]

/-- Every command of this form answers a next state, with the queue as it was. -/
theorem guarded_next (s : State) (b : Bool) (f : State → State) : ∃ t, guarded s b f = .next t ∧ t.pending = s.pending := by
  unfold guarded; split
  · exact ⟨_, rfl, rfl⟩
  · exact ⟨_, rfl, rfl⟩

end Sys2Proof.Machine
end

