-- ==== Sys2Proof/Laws/Frames.lean ====
section
/-! SUPPORT. What the statements' frames rest on: a command that hands nothing to LOG or EVR is silent, a raise is seen in
RAISED after the command, and a noted entry is in the Daybook. -/

namespace Sys2Proof.Machine
open Sys2Proof

/-! ### Frames -/

theorem Block.Same.refl (s : State) (b : Block) : b.Same s s := by
  cases b <;> first | rfl | exact fun e => Engine.SameBut.refl _

theorem Block.Same.trans {s t u : State} {b : Block} (h : b.Same s t) (k : b.Same t u) : b.Same s u := by
  cases b <;> first | exact Eq.trans k h | exact fun e => (h e).trans (k e)

/-- The next fabric cycle's intake touches no block. -/
theorem same_freshCycle (s : State) (b : Block) : b.Same s (freshCycle s) := by
  cases b <;> first | exact freshCycle_le s | simp [Block.Same]

/-- The end of a command touches no block. -/
theorem same_settle (s : State) (b : Block) : b.Same s (settle s) := by
  cases b <;> first | exact settle_le s | simp [Block.Same]

/-- A raise touches no block. -/
theorem same_raise (s : State) (n : Nat) (b : Block) : b.Same s (raise s n) := by
  cases b <;> first | exact raise_le s n | simp [Block.Same]

/-- An entry touches no block. -/
theorem same_logEntry (s : State) (code source sev : Nat) (payload : List Byte) (b : Block) :
    b.Same s (logEntry s code source sev payload) := by
  cases b <;> first | exact fun e => Engine.SameBut.refl _ | rfl

/-- The frame of a command from the frame of its effect. -/
theorem keepsBut_settle {l : List Block} {s u : State} (h : ∀ b : Block, b ∉ l → b.Same (freshCycle s) u) :
    KeepsBut l s { settle u with pending := s.pending } := by
  refine ⟨rfl, fun b hb => ?_⟩
  have k := (same_freshCycle s b).trans ((h b hb).trans (same_settle u b))
  cases b <;> exact k

/-! ### Silence -/

/-- The next fabric cycle changes nothing where LOG's intake queue is empty. -/
theorem freshCycle_of_intake {s : State} (h : s.log.intake = []) : freshCycle s = s := by
  unfold freshCycle
  simp [logDrain, h]

/-- LOG has nothing to do when a command handed it nothing. -/
theorem logPass_of_fresh {s : State} (h : s.log.fresh = []) : logPass s = s := by
  unfold logPass
  simp only [h, List.mergeSort_nil, List.foldl_nil, Bool.false_eq_true, if_false]
  rw [← h]

/-- The end of a command changes nothing where nothing was raised or entered. -/
theorem settle_of_settled {s : State} (h : Settled s) : settle s = s := by
  unfold settle
  rw [logPass_of_fresh h.2, logPass_of_fresh h.2, logPass_of_fresh h.2]
  unfold deliverRaises
  simp only [h.1, List.filter_nil, List.map_nil, List.mergeSort_nil, List.foldl_nil, ite_self, List.append_nil]
  rw [← h.1]

/-- A command that leaves LOG and EVR as it found them ends as it leaves the state. -/
theorem silent_of {s : State} {f : State → State}
    (h : Quiet s → (f s).log = s.log ∧ (f s).evr = s.evr ∧ (f s).sent = s.sent ∧ ∀ e : Fin 17, (f s).le[e].pending = s.le[e].pending) :
    Silent s { settle (f (freshCycle s)) with pending := s.pending } := by
  intro q
  obtain ⟨hl, hv, hs, hp⟩ := h q
  rw [freshCycle_of_intake q.2, settle_of_settled (s := f s) ⟨by rw [hv]; exact q.1.1, by rw [hl]; exact q.1.2⟩]
  exact ⟨hl, hv, hs, hp⟩

/-! ### Nothing is left over -/

@[simp] theorem dbStore_fresh (g : LogBlk) (it : LogItem) : (dbStore g it).fresh = g.fresh := rfl
@[simp] theorem startFlush_fresh (g : LogBlk) (k : FlushKind) (n : Nat) : (startFlush g k n).fresh = g.fresh := by
  unfold startFlush; split <;> rfl
@[simp] theorem lgDropped_fresh (g : LogBlk) : (lgDropped g).fresh = g.fresh := rfl

@[simp] theorem lgMake_fresh (g : LogBlk) (b : Bool) (it : LogItem) (d : Bool) (p : List Byte) :
    (lgMake g b it d p).1.fresh = g.fresh := by
  unfold lgMake
  dsimp only
  split
  · split <;> split <;> simp
  · split
    · simp
    · split
      · simp
      · simp

@[simp] theorem logPut_fresh (g : LogBlk) (b : Bool) (n : Nat) (it : LogItem) : (logPut g b n it).1.fresh = g.fresh := by
  unfold logPut
  have h0 : (if it.ledger = true then lgMake g b it false it.payload else (g, false)).1.fresh = g.fresh := by
    split <;> simp
  generalize (if it.ledger = true then lgMake g b it false it.payload else (g, false)) = r at h0 ⊢
  obtain ⟨g0, d0⟩ := r
  dsimp only at h0 ⊢
  repeat' split
  all_goals simp [h0]

/-- One item after the other goes through LOG (R370). -/
def logStep (b : Bool) (a : LogBlk × Nat × Bool) (it : LogItem) : LogBlk × Nat × Bool :=
  let (g1, n1, d1) := logPut a.1 b a.2.1 it
  (g1, n1, a.2.2 || d1)

@[simp] theorem logStep_fresh (b : Bool) (a : LogBlk × Nat × Bool) (it : LogItem) : (logStep b a it).1.fresh = a.1.fresh :=
  logPut_fresh _ _ _ _

theorem foldl_logStep_fresh (b : Bool) (l : List LogItem) (a : LogBlk × Nat × Bool) : (l.foldl (logStep b) a).1.fresh = a.1.fresh := by
  induction l generalizing a with
  | nil => rfl
  | cons it l ih => rw [List.foldl_cons, ih, logStep_fresh]

/-- A pass of LOG in one equation. -/
theorem logPass_def (s : State) : logPass s =
    (let r := (s.log.fresh.mergeSort itemLe).foldl (logStep (lgStandby s)) ({ s.log with fresh := [] }, 4, false)
     if r.2.2 then raise { s with log := r.1 } 488 else { s with log := r.1 }) := rfl

@[simp] theorem trigger_evr (s : State) (e i : Nat) : (trigger s e i).evr = s.evr := by
  obtain ⟨l, h, -⟩ := trigger_eq s e i; rw [h]

/-- What a raise does to EVR: nothing for a source already raised in this command (R409), else RAISED and RAISE_CNT. -/
theorem raise_evr (s : State) (n : Nat) : (raise s n).evr =
    if n ∈ s.evr.now ∨ 512 ≤ n then s.evr
    else { s.evr with
      now := s.evr.now ++ [n]
      raised := vmodN s.evr.raised (n / 32) (fun r => r ||| (1#32 <<< (n % 32)))
      raiseCnt := vmodN s.evr.raiseCnt n (· + 1) } := by
  unfold raise
  split
  · rename_i h
    have hc : n ∈ s.evr.now ∨ 512 ≤ n := by simpa using h
    rw [if_pos hc]
  · rename_i h
    have hc : ¬ (n ∈ s.evr.now ∨ 512 ≤ n) := by simpa using h
    rw [if_neg hc]
    dsimp only
    rw [apply_ite State.evr, trigger_evr, ite_self]
    simp only [apply_ite State.evr, logLedger_evr, logEntry_evr, ite_self]

theorem raise_now (s : State) (n : Nat) (h : n < 512) : n ∈ (raise s n).evr.now := by
  rw [raise_evr]
  split
  · rename_i hc; rcases hc with hc | hc
    · exact hc
    · omega
  · simp

theorem logPass_fresh_or (s : State) :
    (logPass s).log.fresh = [] ∨ 488 ∈ (logPass s).evr.now := by
  rw [logPass_def]
  dsimp only
  split
  · exact .inr (raise_now _ _ (by decide))
  · exact .inl (foldl_logStep_fresh _ _ _)

theorem logPass_now (s : State) (n : Nat) (h : n ∈ s.evr.now) : n ∈ (logPass s).evr.now := by
  unfold logPass
  dsimp only
  generalize List.foldl _ _ _ = r
  split
  · obtain ⟨v, g, l, h', -, -, hn⟩ := raise_eq { s with log := r.1 } 488
    rw [h']
    rcases hn with hn | hn
    · rw [show v.now = s.evr.now from hn]; exact h
    · rw [show v.now = s.evr.now ++ [488] from hn]; simp [h]
  · exact h

theorem raise_of_now {s : State} {n : Nat} (h : n ∈ s.evr.now) : raise s n = s := by
  unfold raise; simp [h]

/-- After a command no entry waits. -/
theorem settle_fresh (s : State) : (settle s).log.fresh = [] := by
  have step : ∀ u : State, 488 ∈ u.evr.now → (logPass u).log.fresh = [] := by
    intro u hu
    rw [logPass_def]
    dsimp only
    split
    · rw [raise_of_now (by exact hu)]; exact foldl_logStep_fresh _ _ _
    · exact foldl_logStep_fresh _ _ _
  have h2 : (logPass (logPass s)).log.fresh = [] := by
    rcases logPass_fresh_or s with h | h
    · rw [logPass_of_fresh h]; exact h
    · exact step _ h
  have h3 : (logPass (logPass (logPass s))).log.fresh = [] := by rw [logPass_of_fresh h2]; exact h2
  unfold settle
  have hd : ∀ u : State, (deliverRaises u).log = u.log := by
    intro u
    obtain ⟨v, x, h, -, -⟩ := deliverRaises_eq u
    rw [h]
  rw [hd]; exact h3

/-- After a command nothing is left over. -/
theorem settle_settled (s : State) : Settled (settle s) := ⟨settle_now s, settle_fresh s⟩

/-! ### Raises -/

/-- Whatever a command has raised so far reads 1. -/
def NowRaised (s : State) : Prop := ∀ n ∈ s.evr.now, Raised s n

theorem NowRaised.of_settled {s : State} (h : Settled s) : NowRaised s := by
  intro n hn; rw [h.1] at hn; cases hn

theorem vget_vmodN {α : Type} {n : Nat} (v : Vector α n) (i j : Nat) (f : α → α) (d : α) :
    vget (vmodN v i f) j d = if i = j ∧ j < n then f (vget v j d) else vget v j d := by
  by_cases hj : j < n
  · rw [vget_fin (vmodN v i f) ⟨j, hj⟩, vget_fin v ⟨j, hj⟩, vmodN_get]
    simp [hj]
  · have h : ∀ w : Vector α n, vget w j d = d := fun w => by unfold vget; simp [hj]
    rw [h, h]; simp [hj]

/-- A raise keeps what reads 1. -/
theorem Raised.raise {s : State} {m : Nat} (h : Raised s m) (n : Nat) : Raised (raise s n) m := by
  unfold Raised at *
  rw [raise_evr]
  split
  · exact h
  · dsimp only
    rw [vget_vmodN]
    split
    · rw [BitVec.getLsbD_or, h]; rfl
    · exact h

/-- A source just raised reads 1. -/
theorem raised_raise {s : State} (h : NowRaised s) {n : Nat} (hn : n < 512) : Raised (Machine.raise s n) n := by
  by_cases hc : n ∈ s.evr.now
  · rw [raise_of_now hc]; exact h n hc
  · unfold Raised
    rw [raise_evr, if_neg (by rintro (h | h) <;> [exact hc h; omega])]
    dsimp only
    rw [vget_vmodN, if_pos ⟨rfl, by omega⟩, BitVec.getLsbD_or]
    have : n % 32 < 32 := by omega
    simp [this]

theorem NowRaised.raise {s : State} (h : NowRaised s) (n : Nat) : NowRaised (Machine.raise s n) := by
  by_cases hc : n < 512
  · intro m hm
    rw [raise_evr] at hm
    split at hm
    · exact (h m hm).raise n
    · simp only [List.mem_append, List.mem_singleton] at hm
      rcases hm with hm | rfl
      · exact (h m hm).raise n
      · exact raised_raise h hc
  · have : Machine.raise s n = s := by unfold Machine.raise; simp [show 512 ≤ n by omega]
    rw [this]; exact h

theorem Raised.congr {s t : State} {n : Nat} (h : Raised s n) (e : t.evr.raised = s.evr.raised) : Raised t n := by
  unfold Raised at *; rw [e]; exact h

theorem NowRaised.congr {s t : State} (h : NowRaised s) (e : t.evr = s.evr) : NowRaised t := by
  intro n hn; rw [e] at hn; exact (h n hn).congr (by rw [e])

theorem NowRaised.freshCycle {s : State} (h : NowRaised s) : NowRaised (freshCycle s) := by
  unfold Machine.freshCycle
  dsimp only
  split
  · refine NowRaised.raise ?_ 488; exact NowRaised.congr h rfl
  · exact NowRaised.congr h rfl

theorem Raised.freshCycle {s : State} {n : Nat} (h : Raised s n) : Raised (freshCycle s) n := by
  unfold Machine.freshCycle
  dsimp only
  split
  · refine Raised.raise ?_ 488; exact Raised.congr h rfl
  · exact Raised.congr h rfl

theorem Raised.logPass {s : State} {n : Nat} (h : Raised s n) : Raised (logPass s) n := by
  rw [logPass_def]
  dsimp only
  split
  · refine Raised.raise ?_ 488; exact Raised.congr h rfl
  · exact Raised.congr h rfl

theorem supEnqueue_raised (v : Evr) (q : Nat × Nat) : (supEnqueue v q).raised = v.raised := by
  unfold supEnqueue; dsimp only; split
  · rfl
  · split <;> rfl

theorem foldl_supEnqueue_raised (l : List (Nat × Nat)) (v : Evr) : (l.foldl supEnqueue v).raised = v.raised := by
  induction l generalizing v with
  | nil => rfl
  | cons q l ih => rw [List.foldl_cons, ih, supEnqueue_raised]

theorem deliverRaises_raised (s : State) : (deliverRaises s).evr.raised = s.evr.raised := by
  unfold deliverRaises
  dsimp only
  rw [foldl_send]
  exact foldl_supEnqueue_raised _ _

/-- What a command has raised reads 1 after it. -/
theorem Raised.settle {s : State} {n : Nat} (h : Raised s n) : Raised (settle s) n := by
  unfold Machine.settle
  exact (h.logPass.logPass.logPass).congr (deliverRaises_raised _)

/-! ### The Daybook -/

/-- What a raise hands LOG: at most one entry. -/
theorem raise_log (s : State) (n : Nat) :
    ∃ f : List LogItem, f.length ≤ 1 ∧ (raise s n).log = { s.log with fresh := s.log.fresh ++ f } := by
  have ht : ∀ (x : State) (e i : Nat), (trigger x e i).log = x.log := by
    intro x e i; obtain ⟨l, h, -⟩ := trigger_eq x e i; rw [h]
  unfold raise
  split
  · exact ⟨[], by simp, by simp⟩
  · dsimp only
    generalize (if s.pwr.quiet.getLsbD 10 = true then 0#32 else vget s.evr.routes n 0#32) = w
    rw [apply_ite State.log, ht, ite_self]
    split
    · exact ⟨[_], by simp, rfl⟩
    · split
      · exact ⟨[_], by simp, rfl⟩
      · exact ⟨[], by simp, by simp⟩

/-- The Daybook's entry of an item (R369). -/
def dbEntryOf (g : LogBlk) (it : LogItem) : DbEntry :=
  { stamp := it.stamp, num := g.dbNext, code := it.code, source := it.source, sev := it.sev,
    ledger := it.ledger || it.sev.toNat ≥ 3, lostBefore := g.dbLost, payload := fit 12 it.payload }

@[simp] theorem startFlush_ring (g : LogBlk) (k : FlushKind) (n : Nat) : (startFlush g k n).ring = g.ring := by
  unfold startFlush; split <;> rfl
@[simp] theorem startFlush_dbNext (g : LogBlk) (k : FlushKind) (n : Nat) : (startFlush g k n).dbNext = g.dbNext := by
  unfold startFlush; split <;> rfl
@[simp] theorem startFlush_dbSevMin (g : LogBlk) (k : FlushKind) (n : Nat) : (startFlush g k n).dbSevMin = g.dbSevMin := by
  unfold startFlush; split <;> rfl
@[simp] theorem startFlush_intake (g : LogBlk) (k : FlushKind) (n : Nat) : (startFlush g k n).intake = g.intake := by
  unfold startFlush; split <;> rfl

/-- A Ledger record does not touch the Daybook. -/
theorem lgMake_db (g : LogBlk) (b : Bool) (it : LogItem) (d : Bool) (p : List Byte) :
    (lgMake g b it d p).1.ring = g.ring ∧ (lgMake g b it d p).1.dbNext = g.dbNext ∧
    (lgMake g b it d p).1.dbSevMin = g.dbSevMin ∧ (lgMake g b it d p).1.intake = g.intake := by
  unfold lgMake
  dsimp only
  split
  · split <;> split <;> simp
  · split
    · simp [lgDropped]
    · split <;> simp [lgDropped]

/-- One item at LOG with its intake queue empty and room left in the cycle: the Daybook stores it at the front when its severity
reaches the threshold, and takes nothing otherwise. -/
theorem logPut_db (g : LogBlk) (b : Bool) (n : Nat) (it : LogItem) (hi : g.intake = []) (hn : 0 < n) :
    (logPut g b n it).1.intake = [] ∧ (logPut g b n it).1.dbSevMin = g.dbSevMin ∧
    (if it.sev.toNat < g.dbSevMin.toNat then
      (logPut g b n it).1.ring = g.ring ∧ (logPut g b n it).1.dbNext = g.dbNext ∧ (logPut g b n it).2.1 = n
     else
      (∃ e, (logPut g b n it).1.ring = (e :: g.ring).take 16384 ∧ e.stamp = it.stamp ∧ e.num = g.dbNext ∧ e.code = it.code ∧
        e.source = it.source ∧ e.sev = it.sev ∧ e.payload = fit 12 it.payload) ∧
      (logPut g b n it).1.dbNext = g.dbNext + 1 ∧ (logPut g b n it).2.1 = n - 1) := by
  unfold logPut
  have h0 : ∃ g0 d0, (if it.ledger = true then lgMake g b it false it.payload else (g, false)) = (g0, d0) ∧
      g0.ring = g.ring ∧ g0.dbNext = g.dbNext ∧ g0.dbSevMin = g.dbSevMin ∧ g0.intake = g.intake := by
    split
    · exact ⟨_, _, rfl, lgMake_db ..⟩
    · exact ⟨_, _, rfl, rfl, rfl, rfl, rfl⟩
  obtain ⟨g0, d0, h, hr, hx, hm, hq⟩ := h0
  rw [h]
  dsimp only
  rw [hm, hq, hi]
  split
  · split
    · obtain ⟨a1, a2, a3, a4⟩ := lgMake_db g0 b it true (fromDbPayload it 0xFFFFFFFF)
      exact ⟨a4.trans (hq.trans hi), a3.trans hm, a1.trans hr, a2.trans hx, rfl⟩
    · simp [hr, hx, hm, hq, hi]
  · simp only [hn, List.isEmpty_nil, decide_true, Bool.and_self, if_true]
    have hd : (dbStore g0 it).ring = (dbEntryOf g0 it :: g.ring).take 16384 ∧ (dbStore g0 it).dbNext = g.dbNext + 1 ∧
        (dbStore g0 it).dbSevMin = g.dbSevMin ∧ (dbStore g0 it).intake = [] := by
      refine ⟨?_, ?_, hm, hq.trans hi⟩
      · rw [← hr]; rfl
      · rw [← hx]; rfl
    split
    · obtain ⟨a1, a2, a3, a4⟩ := lgMake_db (dbStore g0 it) b it true (fromDbPayload it g0.dbNext)
      rw [a1, a2, a3, a4, hd.1, hd.2.1, hd.2.2.1, hd.2.2.2]
      exact ⟨rfl, rfl, ⟨dbEntryOf g0 it, rfl, rfl, hx, rfl, rfl, rfl, rfl⟩, rfl, rfl⟩
    · rw [hd.1, hd.2.1, hd.2.2.1, hd.2.2.2]
      exact ⟨rfl, rfl, ⟨dbEntryOf g0 it, rfl, rfl, hx, rfl, rfl, rfl, rfl⟩, rfl, rfl⟩

/-- What a Daybook entry shows of an item. -/
def Shows (e : DbEntry) (it : LogItem) : Prop :=
  e.stamp = it.stamp ∧ e.code = it.code ∧ e.source = it.source ∧ e.sev = it.sev ∧ e.payload = fit 12 it.payload

/-- The ring keeps an entry that few later ones follow. -/
theorem foldl_logStep_keeps (b : Bool) (l : List LogItem) (a : LogBlk × Nat × Bool) (i : Nat) (e : DbEntry)
    (hi : a.1.intake = []) (hn : l.length ≤ a.2.1) (he : a.1.ring[i]? = some e) (hb : i + l.length < 16384) :
    ∃ j ≤ i + l.length, (l.foldl (logStep b) a).1.ring[j]? = some e := by
  induction l generalizing a i with
  | nil => exact ⟨i, by simp, he⟩
  | cons it l ih =>
    simp only [List.length_cons] at hn hb
    obtain ⟨h1, -, h3⟩ := logPut_db a.1 b a.2.1 it hi (by omega)
    rw [List.foldl_cons]
    split at h3
    · obtain ⟨hr, -, hk⟩ := h3
      obtain ⟨j, hj, hf⟩ := ih (logStep b a it) i h1 (by show l.length ≤ (logPut a.1 b a.2.1 it).2.1; omega)
        (by show (logPut a.1 b a.2.1 it).1.ring[i]? = _; rw [hr]; exact he) (by omega)
      exact ⟨j, by simp only [List.length_cons]; omega, hf⟩
    · obtain ⟨⟨x, hr, -⟩, -, hk⟩ := h3
      obtain ⟨j, hj, hf⟩ := ih (logStep b a it) (i + 1) h1 (by show l.length ≤ (logPut a.1 b a.2.1 it).2.1; omega)
        (by
          show (logPut a.1 b a.2.1 it).1.ring[i + 1]? = _
          rw [hr, List.getElem?_take, if_pos (by omega), List.getElem?_cons_succ]; exact he) (by omega)
      exact ⟨j, by simp only [List.length_cons]; omega, hf⟩

/-- An item of a command with few entries reaches the Daybook, numbered among this command's. -/
theorem foldl_logStep_stores (b : Bool) (l : List LogItem) (a : LogBlk × Nat × Bool) (it : LogItem) (hm : it ∈ l)
    (hi : a.1.intake = []) (hn : l.length ≤ a.2.1) (hl : l.length ≤ 4) (hs : a.1.dbSevMin.toNat ≤ it.sev.toNat) :
    ∃ j ≤ l.length, ∃ e, (l.foldl (logStep b) a).1.ring[j]? = some e ∧ Shows e it ∧
      ∃ k < l.length, e.num = a.1.dbNext + BitVec.ofNat 32 k := by
  induction l generalizing a with
  | nil => cases hm
  | cons x l ih =>
    simp only [List.length_cons] at hn hl
    obtain ⟨h1, h2, h3⟩ := logPut_db a.1 b a.2.1 x hi (by omega)
    rw [List.foldl_cons]
    rcases List.mem_cons.mp hm with rfl | hm
    · rw [if_neg (by omega)] at h3
      obtain ⟨⟨e, hr, e1, e2, e3, e4, e5, e6⟩, -, hk⟩ := h3
      obtain ⟨j, hj, hf⟩ := foldl_logStep_keeps b l (logStep b a it) 0 e h1
        (by show l.length ≤ (logPut a.1 b a.2.1 it).2.1; omega)
        (by show (logPut a.1 b a.2.1 it).1.ring[0]? = _; rw [hr]; rfl) (by omega)
      exact ⟨j, by simp only [List.length_cons]; omega, e, hf, ⟨e1, e3, e4, e5, e6⟩, 0, by simp, by rw [e2]; simp⟩
    · have hd : ∃ d ≤ 1, (logPut a.1 b a.2.1 x).1.dbNext = a.1.dbNext + BitVec.ofNat 32 d ∧
          a.2.1 - 1 ≤ (logPut a.1 b a.2.1 x).2.1 := by
        split at h3
        · exact ⟨0, by omega, by rw [h3.2.1]; simp, by omega⟩
        · exact ⟨1, by omega, h3.2.1, by omega⟩
      obtain ⟨d, hd1, hd2, hd3⟩ := hd
      obtain ⟨j, hj, e, hf, hsh, k, hk, hnum⟩ := ih (logStep b a x) hm h1
        (by show l.length ≤ (logPut a.1 b a.2.1 x).2.1; omega) (by omega)
        (by show (logPut a.1 b a.2.1 x).1.dbSevMin.toNat ≤ _; rw [h2]; exact hs)
      refine ⟨j, by simp only [List.length_cons]; omega, e, hf, hsh, d + k, by simp only [List.length_cons]; omega, ?_⟩
      rw [hnum]
      show (logPut a.1 b a.2.1 x).1.dbNext + _ = _
      rw [hd2, BitVec.ofNat_add, BitVec.add_assoc]

/-- A later pass of LOG keeps a fresh entry. -/
theorem logPass_keeps (s : State) (i : Nat) (e : DbEntry) (hi : s.log.intake = []) (hf : s.log.fresh.length ≤ 4)
    (he : s.log.ring[i]? = some e) (hb : i ≤ 100) :
    ∃ j ≤ i + s.log.fresh.length, (logPass s).log.ring[j]? = some e := by
  obtain ⟨j, hj, h⟩ := foldl_logStep_keeps (lgStandby s) (s.log.fresh.mergeSort itemLe) ({ s.log with fresh := [] }, 4, false) i e
    hi (by simpa using hf) he (by rw [List.length_mergeSort]; omega)
  rw [List.length_mergeSort] at hj
  refine ⟨j, hj, ?_⟩
  rw [logPass_def]
  dsimp only
  split
  · obtain ⟨f, -, hr⟩ := raise_log { s with log := ((s.log.fresh.mergeSort itemLe).foldl (logStep (lgStandby s)) ({ s.log with fresh := [] }, 4, false)).1 } 488
    rw [hr]; exact h
  · exact h

theorem foldl_logStep_intake (b : Bool) (l : List LogItem) (a : LogBlk × Nat × Bool) (hi : a.1.intake = [])
    (hn : l.length ≤ a.2.1) : (l.foldl (logStep b) a).1.intake = [] := by
  induction l generalizing a with
  | nil => exact hi
  | cons it l ih =>
    simp only [List.length_cons] at hn
    obtain ⟨h1, -, h3⟩ := logPut_db a.1 b a.2.1 it hi (by omega)
    rw [List.foldl_cons]
    apply ih
    · exact h1
    · show l.length ≤ (logPut a.1 b a.2.1 it).2.1
      split at h3
      · omega
      · omega

/-- After a pass LOG's intake queue is empty again and at most one entry, its own, is new. -/
theorem logPass_after (s : State) (hi : s.log.intake = []) (hf : s.log.fresh.length ≤ 4) :
    (logPass s).log.intake = [] ∧ (logPass s).log.fresh.length ≤ 1 := by
  have h1 := foldl_logStep_intake (lgStandby s) (s.log.fresh.mergeSort itemLe) ({ s.log with fresh := [] }, 4, false) hi
    (by simpa using hf)
  have h2 := foldl_logStep_fresh (lgStandby s) (s.log.fresh.mergeSort itemLe) ({ s.log with fresh := [] }, 4, false)
  rw [logPass_def]
  dsimp only at h2 ⊢
  split
  · obtain ⟨f, hl, hr⟩ := raise_log { s with log := ((s.log.fresh.mergeSort itemLe).foldl (logStep (lgStandby s)) ({ s.log with fresh := [] }, 4, false)).1 } 488
    rw [hr]
    exact ⟨h1, by simp only [h2, List.nil_append]; exact hl⟩
  · exact ⟨h1, by simp [h2]⟩

/-- An entry of a command with at most four is in the Daybook when the command has ended. -/
theorem settle_shows (s : State) (it : LogItem) (hm : it ∈ s.log.fresh) (hi : s.log.intake = []) (hf : s.log.fresh.length ≤ 4)
    (hs : s.log.dbSevMin.toNat ≤ it.sev.toNat) :
    ∃ e ∈ (settle s).log.ring, Shows e it ∧ ∃ k < 4, e.num = s.log.dbNext + BitVec.ofNat 32 k := by
  have h1 : ∃ j ≤ 4, ∃ e, (logPass s).log.ring[j]? = some e ∧ Shows e it ∧ ∃ k < 4, e.num = s.log.dbNext + BitVec.ofNat 32 k := by
    obtain ⟨j, hj, e, he, hsh, k, hk, hnum⟩ := foldl_logStep_stores (lgStandby s) (s.log.fresh.mergeSort itemLe)
      ({ s.log with fresh := [] }, 4, false) it (by simpa using hm) hi (by simpa using hf) (by simpa using hf) hs
    rw [List.length_mergeSort] at hj hk
    refine ⟨j, by omega, e, ?_, hsh, k, by omega, hnum⟩
    rw [logPass_def]
    dsimp only
    split
    · obtain ⟨f, -, hr⟩ := raise_log { s with log := ((s.log.fresh.mergeSort itemLe).foldl (logStep (lgStandby s)) ({ s.log with fresh := [] }, 4, false)).1 } 488
      rw [hr]; exact he
    · exact he
  obtain ⟨j, hj, e, he, hsh, hnum⟩ := h1
  obtain ⟨i1, f1⟩ := logPass_after s hi hf
  obtain ⟨i2, f2⟩ := logPass_after (logPass s) i1 (by omega)
  obtain ⟨j2, hj2, he2⟩ := logPass_keeps (logPass s) j e i1 (by omega) he (by omega)
  obtain ⟨j3, hj3, he3⟩ := logPass_keeps (logPass (logPass s)) j2 e i2 (by omega) he2 (by omega)
  refine ⟨e, ?_, hsh, hnum⟩
  obtain ⟨v, x, h, -, -⟩ := deliverRaises_eq (logPass (logPass (logPass s)))
  unfold settle
  rw [h]
  exact List.mem_of_getElem? he3

/-- A command whose effect ends in LOG's hands with a few entries notes each of them. -/
theorem noted_of {s : State} {f : State → State} {code source sev : Nat} {payload : List Byte}
    (h : Quiet s → ∃ it ∈ (f s).log.fresh, it.code.toNat = code ∧ it.source.toNat = source ∧ it.sev.toNat = sev ∧
      fit 12 it.payload = fit 12 payload ∧ it.stamp = (f s).stn.time ∧ (f s).log.fresh.length ≤ 4 ∧
      (f s).log.intake = s.log.intake ∧ (f s).log.dbSevMin = s.log.dbSevMin ∧ (f s).log.dbNext = s.log.dbNext) :
    Noted s { settle (f (freshCycle s)) with pending := s.pending } code source sev payload := by
  intro q hs
  obtain ⟨it, hm, h1, h2, h3, h4, h5, h6, h7, h8, h9⟩ := h q
  rw [freshCycle_of_intake q.2]
  obtain ⟨e, he, ⟨e1, e2, e3, e4, e5⟩, j, hj, hn⟩ := settle_shows (f s) it hm (by rw [h7, q.2]) h6 (by rw [h8, h3]; exact hs)
  exact ⟨e, he, by rw [e2, h1], by rw [e3, h2], by rw [e4, h3], by rw [e5, h4], by rw [e1, h5, settle_stn],
    j, hj, by rw [hn, h9]⟩

/-- The item of an entry. -/
def entryItem (u : State) (code source sev : Nat) (payload : List Byte) : LogItem :=
  { code := BitVec.ofNat 16 code, source := BitVec.ofNat 16 source, sev := BitVec.ofNat 3 sev, ledger := false,
    payload := payload, stamp := u.stn.time, own := false }

/-- One entry and one raise. -/
theorem noted_raise {s : State} {f : State → State} {code source sev n : Nat} {payload : List Byte}
    (hc : code < 65536) (hsr : source < 65536) (hv : sev < 8)
    (h : Quiet s → ∃ u : State, f s = raise (logEntry u code source sev payload) n ∧ u.log = s.log) :
    Noted s { settle (f (freshCycle s)) with pending := s.pending } code source sev payload := by
  refine noted_of fun q => ?_
  obtain ⟨u, hu, hl⟩ := h q
  rw [hu]
  obtain ⟨l, hlen, hr⟩ := raise_log (logEntry u code source sev payload) n
  have hf : (logEntry u code source sev payload).log.fresh = [entryItem u code source sev payload] := by
    show u.log.fresh ++ [entryItem u code source sev payload] = _
    rw [hl, q.1.2]; rfl
  rw [hr]
  refine ⟨entryItem u code source sev payload, List.mem_append_left _ (by rw [hf]; exact List.mem_singleton_self _), ?_, ?_, ?_, rfl, ?_, ?_, ?_, ?_, ?_⟩
  · simp [entryItem]; omega
  · simp [entryItem]; omega
  · simp [entryItem]; omega
  · simp [entryItem]
  · simp only [hf, List.length_append, List.length_singleton]; omega
  · show u.log.intake = _; rw [hl]
  · show u.log.dbSevMin = _; rw [hl]
  · show u.log.dbNext = _; rw [hl]

/-- One entry. -/
theorem noted_entry {s : State} {f : State → State} {code source sev : Nat} {payload : List Byte}
    (hc : code < 65536) (hsr : source < 65536) (hv : sev < 8)
    (h : Quiet s → ∃ u : State, f s = logEntry u code source sev payload ∧ u.log = s.log) :
    Noted s { settle (f (freshCycle s)) with pending := s.pending } code source sev payload := by
  refine noted_of fun q => ?_
  obtain ⟨u, hu, hl⟩ := h q
  rw [hu]
  have hf : (logEntry u code source sev payload).log.fresh = [entryItem u code source sev payload] := by
    show u.log.fresh ++ [entryItem u code source sev payload] = _
    rw [hl, q.1.2]; rfl
  refine ⟨entryItem u code source sev payload, by rw [hf]; exact List.mem_singleton_self _, ?_, ?_, ?_, rfl, rfl, ?_, ?_, ?_, ?_⟩
  · simp [entryItem]; omega
  · simp [entryItem]; omega
  · simp [entryItem]; omega
  · simp [hf]
  · show u.log.intake = _; rw [hl]
  · show u.log.dbSevMin = _; rw [hl]
  · show u.log.dbNext = _; rw [hl]

/-! ### Commands -/

/-- A keyed command with its window open. -/
theorem keyedCmd_of {s : State} {sess : Fin 4} {a k : Nat} {f : State → State} (h : Windowed s sess k) (hk : blockKey a = some k) :
    keyedCmd s sess a f = .next { settle (f (freshCycle s)) with pending := s.pending } := by
  obtain ⟨h1, h2, h3⟩ := h
  have hw : windowOpen (freshCycle s) sess.val a = true := by
    unfold windowOpen
    rw [hk]
    simpa using h3
  unfold keyedCmd
  rw [guarded_true (by simp [h1, h2])]
  simp [keyed, hw]

/-- A command of an open session. -/
theorem openCmd_of {s : State} {sess : Fin 4} (h : Opened s sess) (f : State → State) :
    openCmd s sess f = .next { settle (f (freshCycle s)) with pending := s.pending } := by
  unfold openCmd
  rw [guarded_true (by simp [h.1, h.2])]

/-- A command that comes about, its frame and what it leaves. -/
theorem does_of {c : Instr} {s : State} {f : State → State} {l : List Block} {P : State → Prop}
    (hx : exec c s = .next { settle (f (freshCycle s)) with pending := s.pending })
    (hk : ∀ b : Block, b ∉ l → b.Same (freshCycle s) (f (freshCycle s)))
    (hp : P { settle (f (freshCycle s)) with pending := s.pending }) : Does c s l P :=
  ⟨_, hx, keepsBut_settle hk, hp⟩

/-- Likewise where it is silent. -/
theorem doesSilently_of {c : Instr} {s : State} {f : State → State} {l : List Block} {P : State → Prop}
    (hx : exec c s = .next { settle (f (freshCycle s)) with pending := s.pending })
    (hk : ∀ b : Block, b ∉ l → b.Same (freshCycle s) (f (freshCycle s)))
    (hs : Quiet s → (f s).log = s.log ∧ (f s).evr = s.evr ∧ (f s).sent = s.sent ∧ ∀ e : Fin 17, (f s).le[e].pending = s.le[e].pending)
    (hp : P { settle (f (freshCycle s)) with pending := s.pending }) : DoesSilently c s l P :=
  ⟨_, hx, keepsBut_settle hk, silent_of hs, hp⟩

/-- What a command raises last reads 1 after it. -/
theorem raised_of {s u : State} {n : Nat} (hn : n < 512) (h : Settled s → NowRaised u) :
    Settled s → Raised { settle (raise u n) with pending := s.pending } n :=
  fun hs => (raised_raise (h hs) hn).settle.congr rfl

end Sys2Proof.Machine
end

