-- ==== Sys2Proof/Laws/Logic.lean ====
section
/-! SUPPORT. What running one logic instruction can do: the shared step once, for every instruction. -/

namespace Sys2Proof.Machine
open Sys2Proof

/-- The two engines agree in every task's registers, output buffer and stores, and in their words and instances. -/
def Engine.SameRuns (g h : Engine) : Prop :=
  (∀ k : Fin 5, (h.task k).regs = (g.task k).regs ∧ (h.task k).out = (g.task k).out ∧ (h.task k).mStored = (g.task k).mStored) ∧
    g.SameWords h

theorem Engine.SameRuns.refl (g : Engine) : g.SameRuns g := ⟨fun _ => ⟨rfl, rfl, rfl⟩, rfl, rfl, rfl⟩

theorem Engine.SameRuns.trans {a b c : Engine} (h : a.SameRuns b) (k : b.SameRuns c) : a.SameRuns c := by
  obtain ⟨h1, h2, h3, h4⟩ := h
  obtain ⟨k1, k2, k3, k4⟩ := k
  exact ⟨fun i => ⟨(k1 i).1.trans (h1 i).1, (k1 i).2.1.trans (h1 i).2.1, (k1 i).2.2.trans (h1 i).2.2⟩,
    k2.trans h2, k3.trans h3, k4.trans h4⟩

/-- Triggers touch no task. -/
theorem Engine.SameBut.task {g h : Engine} (x : g.SameBut h) (k : Fin 5) : h.task k = g.task k := by
  unfold Engine.SameBut at x; rw [x]; rfl

theorem Engine.SameBut.words {g h : Engine} (x : g.SameBut h) : g.SameWords h := by
  unfold Engine.SameBut at x; rw [x]; exact ⟨rfl, rfl, rfl⟩

theorem Engine.SameBut.code_eq {g h : Engine} (x : g.SameBut h) : h.code = g.code := by unfold Engine.SameBut at x; rw [x]

theorem Engine.SameBut.frozen_eq {g h : Engine} (x : g.SameBut h) : h.frozen = g.frozen := by unfold Engine.SameBut at x; rw [x]

theorem Engine.SameBut.runs {g h : Engine} (x : g.SameBut h) : g.SameRuns h :=
  ⟨fun k => by rw [x.task k]; exact ⟨rfl, rfl, rfl⟩, x.words⟩

/-- The run of task `k` as it stands when a command's cycle begins. -/
theorem freshCycle_task (s : State) (e : Fin 17) (k : Fin 5) : (freshCycle s).le[e].task k = s.le[e].task k :=
  (freshCycle_le s e).task k

theorem setMode_eq (s : State) (m : Mode) :
    ∃ n v g l, setMode s m = { s with stn := n, evr := v, log := g, le := l } ∧ ∀ j : Fin 17, s.le[j].SameBut l[j] := by
  unfold setMode
  split
  · exact ⟨_, _, _, _, rfl, fun _ => rfl⟩
  · obtain ⟨v, g, l, h, -, k, -⟩ := raise_eq { s with stn := { s.stn with mode := m, permitCount := if m = .hold then s.stn.permitCount else false } } 503
    rw [h]; exact ⟨_, _, _, _, rfl, k⟩

theorem refreshHold_eq (s : State) :
    ∃ n v g l, refreshHold s = { s with stn := n, evr := v, log := g, le := l } ∧ ∀ j : Fin 17, s.le[j].SameBut l[j] := by
  unfold refreshHold
  split
  · exact setMode_eq s _
  · exact ⟨_, _, _, _, rfl, fun _ => rfl⟩

/-- Freezing an engine changes no task's registers (R76). -/
theorem freezeEngine_eq (s : State) (e : Fin 17) (b : Nat) :
    ∃ n v g l, freezeEngine s e b = { s with stn := n, evr := v, log := g, le := l } ∧ l[e].frozen = true ∧
      ∀ j : Fin 17, s.le[j].SameRuns l[j] := by
  unfold freezeEngine
  dsimp only
  generalize ht : (if anyFrozen s = true then s.stn.holdT0 else s.stn.time) = t0
  obtain ⟨n, v, g, l, h, k⟩ := refreshHold_eq { s with le := vmod s.le e (fun g =>
    { g with frozen := true, frozenBy := BitVec.ofNat 2 b, released := false, freezeReq := false, stepOne := false,
             cyc := { g.cyc with phase := if b = 1 then .held else .idle },
             pcHold := if b = 1 then BitVec.ofNat 16 g.cyc.pc else 0 }), stn := { s.stn with holdT0 := t0 } }
  rw [h]
  obtain ⟨v', g', l', h', -, k', -⟩ := raise_eq { s with stn := n, evr := v, log := g, le := l } (304 + 4 * e.val + 2)
  dsimp only at h' k' ⊢
  rw [h']
  refine ⟨_, _, _, _, rfl, ?_, fun j => ?_⟩
  · have h1 := (k e).frozen_eq
    have h2 := (k' e).frozen_eq
    dsimp only at h1
    rw [vmod_get_self] at h1
    exact h2.trans h1
  · refine Engine.SameRuns.trans ?_ ((k j).trans (k' j)).runs
    dsimp only
    rw [vmod_get]
    split
    · next hj =>
      subst hj
      refine ⟨fun i => ?_, rfl, rfl, rfl⟩
      by_cases hi : i = 0
      · subst hi; exact ⟨rfl, rfl, rfl⟩
      · simp [Engine.task, hi]
    · exact .refl _

/-- Storing a run back and reading the runs of the engine. -/
theorem Engine.setTask_task (g : Engine) (k : Fin 5) (t : TaskRun) : (g.setTask k t).task k = t := by
  unfold Engine.setTask Engine.task
  split
  · rfl
  · next h =>
    have hk : k.val ≠ 0 := fun h0 => h (Fin.ext h0)
    have h1 : k.val - 1 < 4 := by omega
    simp [vget, vmodN, h1]

theorem Engine.setTask_other (g : Engine) {k j : Fin 5} (t : TaskRun) (h : j ≠ k) : (g.setTask k t).task j = g.task j := by
  have hv : j.val ≠ k.val := fun h0 => h (Fin.ext h0)
  unfold Engine.setTask Engine.task
  by_cases hk : k = 0
  · have hj : j ≠ 0 := fun h0 => h (h0.trans hk.symm)
    simp [hk, hj]
  · by_cases hj : j = 0
    · simp [hk, hj]
    · have hk0 : k.val ≠ 0 := fun h0 => hk (Fin.ext h0)
      have hj0 : j.val ≠ 0 := fun h0 => hj (Fin.ext h0)
      have h1 : j.val - 1 < 4 := by omega
      have h2 : k.val - 1 < 4 := by omega
      have h3 : k.val - 1 ≠ j.val - 1 := by omega
      simp [hk, hj, vget, vmodN, h1, h2, Vector.getElem_set_ne _ _ h3]

theorem Engine.setTask_words (g : Engine) (k : Fin 5) (t : TaskRun) : g.SameWords (g.setTask k t) := by
  unfold Engine.setTask Engine.SameWords; split <;> exact ⟨rfl, rfl, rfl⟩

/-- What putting an instruction's context back does. -/
theorem logicLeave_eq (s : State) (e : Fin 17) (k : Fin 5) (instr : Nat) (c : LCtx)
    (hc : ∀ k', k' ≠ k → ((c.eng.task k').regs = (s.le[e].task k').regs ∧ (c.eng.task k').out = (s.le[e].task k').out)) :
    ∃ n v g l, logicLeave s e k instr c = { s with stn := n, evr := v, log := g, le := l } ∧
      (n = s.stn ∨ l[e].frozen = true) ∧ (l[e].task k).regs = c.t.regs ∧ (l[e].task k).out = c.t.out ∧
      (l[e].task k).mStored = c.t.mStored ∧ c.eng.SameWords l[e] ∧
      (∀ k', k' ≠ k → (l[e].task k').regs = (s.le[e].task k').regs ∧ (l[e].task k').out = (s.le[e].task k').out) ∧
      ∀ j : Fin 17, j ≠ e → s.le[j].SameRuns l[j] := by
  unfold logicLeave
  dsimp only
  generalize hg1 : c.eng.setTask k _ = g1
  have hg1t : (g1.task k).regs = c.t.regs ∧ (g1.task k).out = c.t.out ∧ (g1.task k).mStored = c.t.mStored := by
    subst hg1; rw [Engine.setTask_task]; split <;> exact ⟨rfl, rfl, rfl⟩
  have hg1o : ∀ k', k' ≠ k → g1.task k' = c.eng.task k' := by
    intro k' hk; subst hg1; exact Engine.setTask_other _ _ hk
  have hg1w : c.eng.SameWords g1 := by subst hg1; exact Engine.setTask_words _ _ _
  clear hg1
  generalize hg2 : (if k = 0 then if (c.t.phase == Phase.done) = true then g1.scanEnded c.t.cost else g1 else _) = g2
  have hg2r : g1.SameRuns g2 := by
    subst hg2
    split
    · split
      · refine ⟨fun i => ?_, rfl, rfl, rfl⟩; unfold Engine.task; exact ⟨rfl, rfl, rfl⟩
      · exact .refl _
    · refine ⟨fun i => ?_, rfl, rfl, rfl⟩; unfold Engine.task; exact ⟨rfl, rfl, rfl⟩
  clear hg2
  generalize hs2 : (if c.idxLog = true then _ else _ : State) = s2
  have hs2' : ∃ g, s2 = { s with le := vmod s.le e (fun _ => g2), log := g } := by
    subst hs2; split
    · exact ⟨_, rfl⟩
    · exact ⟨_, rfl⟩
  obtain ⟨lg, rfl⟩ := hs2'
  clear hs2
  generalize hs3 : (if c.raiseEvt = true then _ else _ : State) = s3
  have hs3' : ∃ v g l, s3 = { s with evr := v, log := g, le := l } ∧ ∀ j : Fin 17, (vmod s.le e (fun _ => g2))[j].SameBut l[j] := by
    subst hs3; split
    · obtain ⟨v, g, l, h, -, hl, -⟩ := raise_eq { s with le := vmod s.le e (fun _ => g2), log := lg } (304 + 4 * e.val + 3)
      rw [h]; exact ⟨_, _, _, rfl, hl⟩
    · exact ⟨_, _, _, rfl, fun _ => rfl⟩
  obtain ⟨v3, l3g, l3, rfl, hl3⟩ := hs3'
  clear hs3
  have main : ∀ (n : Stn) (v : Evr) (g : LogBlk) (l : Vector Engine 17), (n = s.stn ∨ l[e].frozen = true) →
      (∀ j : Fin 17, l3[j].SameRuns l[j]) →
      ∃ n' v' g' l', ({ s with stn := n, evr := v, log := g, le := l } : State) = { s with stn := n', evr := v', log := g', le := l' } ∧
      (n' = s.stn ∨ l'[e].frozen = true) ∧ (l'[e].task k).regs = c.t.regs ∧ (l'[e].task k).out = c.t.out ∧
      (l'[e].task k).mStored = c.t.mStored ∧ c.eng.SameWords l'[e] ∧
      (∀ k', k' ≠ k → (l'[e].task k').regs = (s.le[e].task k').regs ∧ (l'[e].task k').out = (s.le[e].task k').out) ∧
      ∀ j : Fin 17, j ≠ e → s.le[j].SameRuns l'[j] := by
    intro n v g l hn hl
    have he : g1.SameRuns l[e] := by
      have := (hl3 e).runs
      rw [vmod_get_self] at this
      exact hg2r.trans (this.trans (hl e))
    obtain ⟨a1, a2, a3⟩ := he.1 k
    refine ⟨n, v, g, l, rfl, hn, a1.trans hg1t.1, a2.trans hg1t.2.1, a3.trans hg1t.2.2, ?_, fun k' hk' => ?_, fun j hj => ?_⟩
    · obtain ⟨-, b1, b2, b3⟩ := he
      exact ⟨b1.trans hg1w.1, b2.trans hg1w.2.1, b3.trans hg1w.2.2⟩
    · obtain ⟨b1, b2, -⟩ := he.1 k'
      rw [b1, b2, hg1o k' hk']
      exact hc k' hk'
    · have := (hl3 j).runs
      rw [vmod_get_ne _ (Ne.symm hj)] at this
      exact this.trans (hl j)
  split
  · obtain ⟨n, v, g, l, h, hf, hl⟩ := freezeEngine_eq { s with evr := v3, log := l3g, le := l3 } e 1
    rw [h]
    exact main n v g l (.inr hf) hl
  · exact main s.stn v3 l3g l3 (.inl rfl) fun _ => .refl _

/-- To the window of an event task time alone passes (R26, R60). -/
theorem evtOpens_eq (s : State) (k : Fin 5) :
    ∃ n g, evtOpens s k = { s with stn := n, log := g } ∧ (n = s.stn ∨ k ≠ 0 ∧ ∃ d, n = s.stn.pass d) := by
  unfold evtOpens
  split
  · exact ⟨_, _, rfl, .inl rfl⟩
  · next h =>
    unfold passTo
    split
    · exact ⟨_, _, rfl, .inl rfl⟩
    · exact ⟨_, _, rfl, .inr ⟨h, _, rfl⟩⟩

/-- An instruction that does not fault completes as its effect `f` says (R85, R86, R112): the law behind every statement about a
logic instruction's result. -/
theorem leavesCtx {i : Instr} {s : State} {e : Fin 17} {k : Fin 5} {n : Nat} {sle : Bool} {f : LCtx → LCtx}
    (hx : Executing s e k sle) (hi : exec i s = logicCmd i s e k n sle f) (hf : (f (ctxOf s e k n)).fault = none)
    (hc : (f (ctxOf s e k n)).eng.cyc = (ctxOf s e k n).eng.cyc ∧ (f (ctxOf s e k n)).eng.evt = (ctxOf s e k n).eng.evt) :
    LeavesCtx i s e k (f (ctxOf s e k n)) := by
  rintro ⟨w, hw, hiw⟩
  obtain ⟨ha, hm, hpc, hs⟩ := hx
  have hfr := freshCycle_le s e
  have hg : (alive s && s.le[e].mayRun k && fetched s e k i) = true := by
    have : fetched s e k i = true := by unfold fetched; rw [hw, hiw]; simp
    rw [ha, hm, this]; rfl
  obtain ⟨n0, g0, ho, hn0⟩ := evtOpens_eq (freshCycle s) k
  have hex : exec i s = .next { settle (logicStep { freshCycle s with stn := n0, log := g0 } e k n sle f) with pending := s.pending } := by
    rw [hi, ← ho]; exact guarded_true hg _
  have hstep : logicStep { freshCycle s with stn := n0, log := g0 } e k n sle f =
      logicLeave { freshCycle s with stn := n0, log := g0 } e k ((freshCycle s).le[e].task k).pc (f (ctxOf s e k n)) := by
    unfold logicStep
    have h1 : ¬ (decide (((freshCycle s).le[e].task k).pc ≥ (freshCycle s).le[e].code.length) || (e.val == 16 && !sle)) = true := by
      rw [hfr.task k, hfr.code_eq]
      simp only [Bool.or_eq_true, decide_eq_true_eq, Bool.and_eq_true, beq_iff_eq, Bool.not_eq_true', not_or, not_and]
      exact ⟨by omega, fun h => by simp [hs h]⟩
    dsimp only
    rw [if_neg h1]
    show (match (f (ctxOf s e k n)).fault with | some kind => _ | none => _) = _
    rw [hf]
    rfl
  have hc' : ∀ k', k' ≠ k → (((f (ctxOf s e k n)).eng.task k').regs = ((freshCycle s).le[e].task k').regs ∧
      ((f (ctxOf s e k n)).eng.task k').out = ((freshCycle s).le[e].task k').out) := by
    intro k' _
    have : (f (ctxOf s e k n)).eng.task k' = (freshCycle s).le[e].task k' := by
      unfold Engine.task; rw [hc.1, hc.2]; rfl
    rw [this]; exact ⟨rfl, rfl⟩
  obtain ⟨st, v, g, l, h, hst, r1, r2, r3, r4, r5, r6⟩ := logicLeave_eq { freshCycle s with stn := n0, log := g0 } e k ((freshCycle s).le[e].task k).pc _ hc'
  have hle : ∀ j : Fin 17, l[j].SameBut (settle { freshCycle s with stn := st, evr := v, log := g, le := l }).le[j] :=
    fun j => settle_le _ j
  rw [hstep, h] at hex
  refine ⟨_, hex, ?_, ?_, ?_, ?_, ?_⟩
  · exact ((hle e).runs.1 k).1.trans r1
  · exact ((hle e).runs.1 k).2.1.trans r2
  · exact ((hle e).runs.1 k).2.2.trans r3
  · obtain ⟨-, b1, b2, b3⟩ := (hle e).runs
    exact ⟨b1.trans r4.1, b2.trans r4.2.1, b3.trans r4.2.2⟩
  · refine ⟨fun b => ?_, by simp, rfl, ?_, ?_, ?_⟩
    · by_cases hb : b = .stn ∨ b = .le
      · exact hb.elim Or.inl (fun h => .inr (.inl h))
      · refine .inr (.inr ?_)
        cases b <;> first | exact absurd (Or.inl rfl) hb | exact absurd (Or.inr rfl) hb | simp [Block.Same]
    · rcases hst with hst | hst
      · rcases hn0 with h0 | ⟨h0, d, h1⟩
        · left; simpa [h0] using hst
        · right; right; exact ⟨h0, d, by simpa [h1] using hst⟩
      · right; left; exact (hle e).frozen_eq.trans hst
    · intro e' k' hne
      by_cases he : e' = e
      · subst he
        have hk : k' ≠ k := by rcases hne with h | h; exact absurd rfl h; exact h
        obtain ⟨b1, b2⟩ := r5 k' hk
        have := (hle e').runs.1 k'
        rw [freshCycle_task] at b1 b2
        exact ⟨this.1.trans b1, this.2.1.trans b2⟩
      · have := ((freshCycle_le s e').runs.trans (r6 e' he)).trans (hle e').runs
        exact ⟨(this.1 k').1, (this.1 k').2.1⟩
    · intro e' he
      exact (((freshCycle_le s e').runs.trans (r6 e' he)).trans (hle e').runs).2

/-- The same for an instruction that leaves every word, instance and buffered output. -/
theorem leavesRegs {i : Instr} {s : State} {e : Fin 17} {k : Fin 5} {n : Nat} {sle : Bool} {f : LCtx → LCtx} {r : Regs}
    (hx : Executing s e k sle) (hi : exec i s = logicCmd i s e k n sle f) (hf : (f (ctxOf s e k n)).fault = none)
    (he : (f (ctxOf s e k n)).eng = (ctxOf s e k n).eng) (ho : (f (ctxOf s e k n)).t.out = (ctxOf s e k n).t.out)
    (hr : (f (ctxOf s e k n)).t.regs = r) : LeavesRegs i s e k r := by
  intro hw
  obtain ⟨t, h1, h2, h3, -, h4, h5⟩ := leavesCtx hx hi hf ⟨by rw [he], by rw [he]⟩ hw
  have hfr := freshCycle_le s e
  refine ⟨t, h1, h2.trans hr, ?_, ?_, h5⟩
  · rw [h3, ho]; show ((freshCycle s).le[e].task k).out = _; rw [freshCycle_task]
  · rw [he] at h4
    obtain ⟨a, b, c⟩ := h4
    exact ⟨a.trans hfr.words.1, b.trans hfr.words.2.1, c.trans hfr.words.2.2⟩

/-- The registers of the context before an instruction acts. -/
theorem ctxOf_regs (s : State) (e : Fin 17) (k : Fin 5) (n : Nat) : (ctxOf s e k n).t.regs = regsAfter s e k n := by
  unfold ctxOf logicCtx regsAfter
  dsimp only
  rw [freshCycle_task]
  rfl

/-! ### The shared computations in the words of the statements -/

theorem comb_eq (e : Fin 17) (a b : MTag) (c : LCtx) (h : c.sle = (e.val == 16)) : c.comb a b = tagOfBoth e a b := by
  unfold LCtx.comb tagOfBoth LCtx.origin logicOrigin combine bmax
  rw [h]
  by_cases h16 : e.val = 16 <;> cases a <;> cases b <;> simp [h16]

theorem raiseQ_eq (e : Fin 17) (m : MTag) (c : LCtx) (h : c.sle = (e.val == 16)) : c.raiseQ m = tagExc e m := by
  unfold LCtx.raiseQ tagExc LCtx.origin logicOrigin tagAtLeast bmax mkTag
  rw [h]
  by_cases h16 : e.val = 16 <;> simp [h16]

theorem ctx_sle (s : State) (e : Fin 17) (k : Fin 5) (n : Nat) : (ctxOf s e k n).sle = (e.val == 16) := rfl

theorem ctx_t (s : State) (e : Fin 17) (k : Fin 5) (n : Nat) :
    (ctxOf s e k n).t = { s.le[e].task k with pc := (s.le[e].task k).pc + 1, cost := (s.le[e].task k).cost + n + sleCost e } := by
  unfold ctxOf logicCtx; dsimp only; rw [freshCycle_task]


theorem setInt_regs (s : State) (e : Fin 17) (k : Fin 5) (n : Nat) (x : Int) (m : MTag) :
    ((ctxOf s e k n).setInt x m).t.regs = (regsAfter s e k n).int e x m := by
  unfold LCtx.setInt LCtx.setWA Regs.int Regs.exc satI32 outI32
  have hr := raiseQ_eq e m (ctxOf s e k n) rfl
  by_cases h1 : x > 2147483647
  · simp [h1, hr, TaskRun.regs, ctx_t, regsAfter]
  · by_cases h2 : x < -2147483648
    · simp [h1, h2, hr, TaskRun.regs, ctx_t, regsAfter]
    · simp [h1, h2, TaskRun.regs, ctx_t, regsAfter]

theorem setF_regs (s : State) (e : Fin 17) (k : Fin 5) (n x : Nat) (m : MTag) :
    ((ctxOf s e k n).setF x m).t.regs = (regsAfter s e k n).flt e x m := by
  unfold LCtx.setF LCtx.setWA Regs.flt Regs.exc
  have hr := raiseQ_eq e m (ctxOf s e k n) rfl
  cases h : f32.nonFinite x <;> simp [hr, TaskRun.regs, ctx_t, regsAfter]

theorem read_keep (c : LCtx) (o : Opnd) : (c.read o).1.fault = c.fault ∧ (c.read o).1.eng = c.eng ∧ (c.read o).1.sle = c.sle
   ∧ (c.read o).1.t.la = c.t.la ∧ (c.read o).1.t.lt = c.t.lt := by
  unfold LCtx.read LCtx.outOfRange
  split
  · exact ⟨rfl, rfl, rfl, rfl, rfl⟩
  · split <;> (try split)  <;> exact ⟨rfl, rfl, rfl, rfl, rfl⟩

theorem readBit_keep (c : LCtx) (o : Opnd) : (c.readBit o).1.fault = c.fault ∧ (c.readBit o).1.eng = c.eng ∧ (c.readBit o).1.sle = c.sle
   ∧ (c.readBit o).1.t.la = c.t.la ∧ (c.readBit o).1.t.lt = c.t.lt:= by
  unfold LCtx.readBit
  split
  · split <;> exact ⟨rfl, rfl, rfl, rfl, rfl⟩
  · exact read_keep c o

theorem put_keep (c : LCtx) (sp i v tag) : (c.put sp i v tag).fault = c.fault ∧ (c.put sp i v tag).eng.cyc = c.eng.cyc ∧ (c.put sp i v tag).eng.evt = c.eng.evt := by
  unfold LCtx.put; dsimp only; split
  · exact ⟨rfl, rfl, rfl⟩
  · split <;> exact ⟨rfl, rfl, rfl⟩

theorem storeBit_keep (c : LCtx) (o b) : (c.storeBit o b).fault = c.fault ∧ (c.storeBit o b).eng.cyc = c.eng.cyc ∧ (c.storeBit o b).eng.evt = c.eng.evt := by
  unfold LCtx.storeBit; split
  · exact ⟨rfl, rfl, rfl⟩
  · exact put_keep _ _ _ _ _

/-- A well-formed operand that lies in its space: the instruction's effect is `f` (R65, R91). -/
theorem withOpnd_eq {o : Opnd} {sp : List Nat} {w : Bool} {c : LCtx} (h1 : o.wf sp w = true) (h2 : c.inSpace o = true)
    (f : LCtx → LCtx) : withOpnd o sp w f c = f c := by unfold withOpnd; rw [h1, h2]; rfl

end Sys2Proof.Machine
end

