-- ==== Sys2Proof/Laws/Memory.lean ====
section
/-! SUPPORT. The canonical form of a solver slot's memory is kept by every write, and a write is read back. -/

namespace Sys2Proof.Machine
open Sys2Proof

/-- The canonical form as a proposition. -/
theorem Mem.wf_iff (m : Mem) : m.wf = true ↔ m.Pairwise (fun a b => a.1 < b.1) ∧ ∀ c ∈ m, c.2 ≠ 0#8 := by
  simp [Mem.wf]

theorem Mem.wf_nil : Mem.wf [] = true := by decide

/-- A cell of `Mem.cells a l` lies in the span of the list and is not zero. -/
theorem Mem.mem_cells {a : Nat} {l : List Byte} {c : Host.Cell} (h : c ∈ Mem.cells a l) :
    a ≤ c.1 ∧ c.1 < a + l.length ∧ c.2 ≠ 0#8 := by
  induction l generalizing a with
  | nil => simp [Mem.cells] at h
  | cons b r ih =>
    unfold Mem.cells at h
    split at h
    · obtain ⟨h1, h2, h3⟩ := ih h
      simp only [List.length_cons]; exact ⟨by omega, by omega, h3⟩
    · next hb =>
      rcases List.mem_cons.1 h with rfl | h
      · simp only [List.length_cons]; exact ⟨by omega, by omega, hb⟩
      · obtain ⟨h1, h2, h3⟩ := ih h
        simp only [List.length_cons]; exact ⟨by omega, by omega, h3⟩

theorem Mem.cells_pairwise (a : Nat) (l : List Byte) : (Mem.cells a l).Pairwise (fun x y => x.1 < y.1) := by
  induction l generalizing a with
  | nil => exact List.Pairwise.nil
  | cons b r ih =>
    unfold Mem.cells
    split
    · exact ih _
    · exact List.pairwise_cons.2 ⟨fun c hc => by have := Mem.mem_cells hc; show a < c.1; omega, ih _⟩

/-- Writing bytes keeps the canonical form. -/
theorem Mem.put_wf (m : Mem) (a : Nat) (l : List Byte) (h : m.wf = true) : (m.put a l).wf = true := by
  rw [Mem.wf_iff] at h ⊢
  obtain ⟨hp, hz⟩ := h
  unfold Mem.put
  constructor
  · rw [List.pairwise_append, List.pairwise_append]
    refine ⟨⟨hp.filter _, Mem.cells_pairwise _ _, ?_⟩, hp.filter _, ?_⟩
    · intro x hx y hy
      have h1 := (List.mem_filter.1 hx).2
      have h2 := Mem.mem_cells hy
      simp only [decide_eq_true_eq] at h1
      omega
    · intro x hx y hy
      have h2 := (List.mem_filter.1 hy).2
      simp only [decide_eq_true_eq] at h2
      rcases List.mem_append.1 hx with hx | hx
      · have h1 := (List.mem_filter.1 hx).2
        simp only [decide_eq_true_eq] at h1
        omega
      · have h1 := Mem.mem_cells hx
        omega
  · intro c hc
    rcases List.mem_append.1 hc with hc | hc
    · rcases List.mem_append.1 hc with hc | hc
      · exact hz _ (List.mem_filter.1 hc).1
      · exact (Mem.mem_cells hc).2.2
    · exact hz _ (List.mem_filter.1 hc).1

/-- Writing a word keeps the canonical form. -/
theorem Mem.putWord_wf (m : Mem) (a : Nat) (w : Word) (h : m.wf = true) : (m.putWord a w).wf = true := Mem.put_wf m a _ h

end Sys2Proof.Machine
end

