-- ==== Sys2Proof/WellFormed.lean ====
section
/-! DEFINITION. Which commands can come about at all: what the formats of the spec say of a command's operands beyond their
types. The state is no part of it; a command that the state does not admit changes nothing (assumption log 7). -/

namespace Sys2Proof.Machine
open Sys2Proof

/-- No index comes twice. -/
def distinctN (l : List Nat) : Bool := l.eraseDups.length == l.length

/-- The readings of one boundary name each input at most once (R25, R214, R244). -/
def BoundaryIn.wf (x : BoundaryIn) : Bool :=
  distinctN (x.fieldIn.map (fun y => y.1.val)) && distinctN (x.siIn.map (fun y => y.1.val)) &&
    distinctN (x.soIn.map (fun y => y.1.val)) && distinctN (x.tpMa.map (fun y => y.1.val))

/-- Supply voltages in mV fit their registers (R386, R390). -/
def PowerIn.wf (x : PowerIn) : Bool :=
  x.feedA ≤ 65535 && x.feedB ≤ 65535 && x.sl ≤ 65535 && x.lp.toList.all (· ≤ 65535)

/-- Data bytes that a DLC code stands for (R295, R303). -/
def dlcBytes (fdf : Bool) (dlc : Nat) : Nat :=
  if dlc ≤ 8 then dlc else if !fdf then 8
  else if dlc = 9 then 12 else if dlc = 10 then 16 else if dlc = 11 then 20 else if dlc = 12 then 24
  else if dlc = 13 then 32 else if dlc = 14 then 48 else 64

/-- A frame's data have the length its DLC gives; only a classical frame is remote, and it has no data; only an FD frame
switches the bit rate; a base identifier has 11 bits (R295). -/
def CanFrame.wf (f : CanFrame) : Bool :=
  f.data.length == (if f.rtr then 0 else dlcBytes f.fdf f.dlc.toNat) && !(f.fdf && f.rtr) && (f.fdf || !f.brs) &&
    (f.fdf || !f.esi) && (f.ide || f.id.toNat < 2048)

/-- A telegram carries as many tagged words as its LEN says, one to 128 of them (R316). -/
def TelCopy.wf (c : TelCopy) : Bool := 1 ≤ c.len.toNat && c.len.toNat ≤ 128 && c.words.length == c.len.toNat

/-- A request datagram has a MAC of 16 bytes and at most 1,436 payload bytes, so that it fits 1,472 (R327). -/
def Dgram.wf (d : Dgram) : Bool := d.mac.length == 16 && d.payload.length ≤ 1436

/-- The operations of R331–R334 and R382. -/
def knownOp (op : Byte) : Bool := 
  [0x01, 0x03, 0x05, 0x10, 0x11, 0x12, 0x20, 0x21, 0x22, 0x30, 0x40, 0x42, 0x43, 0x44, 0x50].contains op.toNat

end Sys2Proof.Machine

namespace Sys2Proof
open Sys2Proof.Machine

/-- The SLE (16) runs a cyclic task only (R239). -/
def taskWf (e : Fin 17) (k : Fin 5) : Bool := e.val != 16 || k.val == 0

/-- Register addresses are word addresses (R5). -/
def aligned (a : Word) : Bool := a.toNat % 4 == 0

/-- A bit error in the data phase is possible with FD frames for every kind but a missing acknowledgement (R305). -/
def canErrWf (kind : Fin 6) (dataPhase : Bool) : Bool := !(dataPhase && kind.val == 3)

/-- What the formats ask of a command's operands. -/
def Instr.wf : Instr → Bool
  | .nop e k | .ld e k _ _ _ | .ldn e k _ _ _ | .and e k _ _ _ | .andn e k _ _ _ | .or e k _ _ _ | .orn e k _ _ _
  | .xor e k _ _ _ | .xorn e k _ _ _ | .not e k | .st e k _ _ _ | .stn e k _ _ _ | .set e k _ _ _ | .rst e k _ _ _
  | .andOpen e k | .orOpen e k | .xorOpen e k | .branchClose e k | .lw e k _ _ _ | .sw e k _ _ _ | .swap e k | .lxr e k
  | .add e k | .sub e k | .mul e k | .div e k | .mod e k | .neg e k | .abs e k | .addf e k | .subf e k | .mulf e k
  | .divf e k | .negf e k | .absf e k | .sqrtf e k | .itof e k | .ftoi e k | .andw e k | .orw e k | .xorw e k | .notw e k
  | .shl e k _ | .shr e k _ | .sar e k _ | .eq e k | .ne e k | .gt e k | .ge e k | .lt e k | .le e k | .eqf e k | .nef e k
  | .gtf e k | .gef e k | .ltf e k | .lef e k | .min e k | .max e k | .sel e k | .ltag e k _ _ _ | .qchk e k _ _ _
  | .setq e k _ | .jmp e k _ | .jc e k _ | .jcn e k _ | .loop e k _ | .call e k _ | .ret e k | .end_ e k | .evt e k
  | .ton e k _ | .tof e k _ | .tp e k _ | .ctu e k _ | .ctd e k _ | .crst e k _ | .cld e k _ | .redge e k _ | .fedge e k _ => taskWf e k
  | .hello d | .proof d | .close d | .read d | .write d | .kwrite d | .imgOpen d | .imgData d | .imgEnd d | .modeOp d
  | .logRead d | .logClearChal d | .logClear d | .canCapture d | .keySet d => d.wf
  | .tierBoundary inp => inp.wf
  | .taskOverrun l => !l.isEmpty
  | .angleEdge _ _ t => t % 2 == 0
  | .vsCrossing _ _ t _ _ => t % 2 == 0
  | .lplusChange _ mv _ => mv ≤ 65535
  | .digestReceive l => l.body.length == 10
  | .canFrameReceive _ f _ => f.wf
  | .canError _ kind dataPhase _ _ => canErrWf kind dataPhase
  | .canWake _ f => match f with | some x => x.wf | none => true
  | .telegramReceive _ f => f.tel.wf
  | .powerOn x => x.wf
  | .feedChange _ mv => mv ≤ 65535
  | .wakeSource _ _ _ _ _ x => x.wf
  | .keyWrite _ a _ => aligned a
  | .keyedWindowClose _ a => aligned a
  | .registerWrite _ a _ => aligned a
  | .slPlusChange mv => mv ≤ 65535
  | .unknownOperation op d => d.wf && !knownOp op
  | .remoteOutputLoss _ | .scanStart _ | .engineFault _ _ | .holdTimeout | .holdPermitChange _ | .holdPermitWithdrawn
  | .loopSampleRelease _ | .loopSampleComplete _ _ | .loopSampleMiss _ | .loopOutput _ | .loopStall _ | .loopMemErr _
  | .loopReloadDone _ | .solveRelease _ | .solveComplete _ | .placedProblemStart _ | .placedResult _ _ | .slotMemErr _ _
  | .slotReloadDone _ | .lineFault _ | .standstill _ | .lossRecovery _ | .angleWindow | .angleEventFire _ _
  | .diagDetect _ _ | .shortCircuitShutoff _ | .bankOverload _ | .fieldSideFail _ | .fieldSideRecover _ | .shutterExpire _
  | .aoWaitExpire _ | .pwmPeriodStart _ | .fieldDisagree _ | .tpPulseStart _ _ | .tpPulseEnd _ _ | .tpMaskEnd _ _
  | .tpFault _ _ | .discrepancy _ | .sleWatchdogExpire | .sleFault _ | .slplusLoss | .darkTest _ _ | .darkTestEnd _ _ _
  | .soShutoff _ | .heartbeatSend | .heartbeatReceive _ _ _ _ _ | .inputSetReceive _ _ | .dueMiss _ | .ownFaultReport
  | .seekingTimeout | .laneDown _ | .laneUp _ | .presenceSend | .presenceReceive _ _ _ | .presenceLapse | .digestComputed
  | .mismatchMaskReceive _ | .selfCheckOutcome _ _ | .resyncMarkReceive _ | .tierAligned | .transomPacketReceive _ _ _
  | .portDown _ _ _ _ | .portUp _ _ _ _ | .barrierTimeout | .snapshotLatch | .stackResetSymbol _
  | .timedDeadlineMiss _ _ _ _ _ _ | .placedPacketGrant _ _ | .placedPacketComplete _ _ | .canFrameSent _ _ _
  | .boffRecovered _ | .canReferenceSend _ _ _ | .canWindowOpen _ _ | .canWindowClose _ _ | .ttSyncLoss _ | .txdTimeout _
  | .telegramSend _ | .telegramWatchdog _ | .arpRequest _ | .icmpEcho _ | .netLinkChange _ _ | .placedFrameSend _
  | .sessionTimeout _ | .challengeLapse _ | .helloLockoutEnd _ | .transferAbandon | .clearChallengeLapse | .clearLockoutEnd
  | .imageWriteDone _ | .partnerWriteDone _ | .imageLoad | .profSelChange _ | .switchPrepared | .prepareDone _
  | .olcPersisted _ | .supQueueTake | .flushRecordDone _ | .clearDone | .powerFail | .powerFailFlushDone
  | .powerFailRecovery | .holdupEnd | .nreset | .supWatchdog | .lockstepMismatch | .warmResetEnd | .clockFault
  | .clockRecovered | .sleepVoteDone | .sleepQuiesceSlot | .sleepRestore | .timeLoRead _ | .stkTimeLoRead _ | .opmsLoRead _
  | .sleepCntLoRead _ | .dataValueRead _ _ | .memDataRead _ | .dataWrite _ _ _ _ | .stop _ | .runCold _ | .runWarm _
  | .runHot _ | .release _ | .breakpointSet _ _ _ _ | .step _ _ | .resume _ _ | .freeze _ _ | .leClrStat _ _
  | .engineRestart _ _ | .prepare _ | .commit _ | .discard _ | .forceSet _ _ | .forceRemove _ _ | .forceRemoveAll _
  | .fabClrCnt _ | .loopEngClrStat _ _ | .loopRestart _ _ | .loopClrCnt _ _ | .qpClClrStat _ _ | .coldReq _ _
  | .slotClrCnt _ _ | .angClrStat _ | .resync _ _ | .evtCtrlWrite _ _ _ _ | .clrDiag _ _ | .fldClrCnt _ _ | .safClrCnt _
  | .clrSoFault _ | .switch _ | .rejoin _ | .pairClrCnt _ | .stackReset _ | .snapReq _ | .stkClrCnt _ | .barrierArrive _ _
  | .boffRec _ _ | .canSleepReq _ _ | .wakeReq _ _ | .canClrCnt _ _ | .netClrCnt _ | .swCmdReq _ _ | .logFlush _
  | .logClrCnt _ | .warmReset _ | .sleepReq _ | .pwrClrCnt _ | .evrClrCnt _ | .ageSaturation _ | .noVoltage _ _
  | .arbitrationLoss _ _ | .canIntegrated _ | .digestTransferMissed | .tpRetryEnd _ _ _ | .droppedFrame _ => true

end Sys2Proof
end

