-- ==== Sys2Proof/Tests/Slice0.lean ====
section
/-! SUPPORT. The author's tests: ill-formed commands are refused, small steps give the values the spec prints, and for every
statement with hypotheses a state and operands that meet them. -/

namespace Sys2Proof.Tests
open Sys2Proof Sys2Proof.Machine

/-! ### Well-formed commands -/

/-- A request with an empty payload and a MAC of `n` bytes. -/
def dgram (payload : List Byte) (n : Nat) : Dgram := { port := 0, ip := 1, sess := 7, seq := 9, payload := payload, mac := List.replicate n 0 }
/-- A boundary with nothing read. -/
def noIn : BoundaryIn := { lapsed := [], fieldIn := [], siIn := [], soIn := [], tpMa := [] }
/-- A classical data frame. -/
def frame (n : Nat) : CanFrame :=
  { id := 0x123, ide := false, fdf := false, rtr := false, brs := false, esi := false, dlc := 2, data := List.replicate n 0 }
/-- A copy of a telegram whose LEN is `n`, with these words. -/
def copy0 (n : Byte) (ws : List TWord) : TelFrame :=
  { (default : TelFrame) with tel := { ver := 1, kind := 0, telId := 5, src := 2, dst := 0, seq := 1, len := n, rsv := 0, words := ws } }
/-- What the connectors show at power-on: feed A at `mv`. -/
def power (mv : Nat) : PowerIn :=
  { feedA := mv, feedB := 0, lp := Vector.replicate 8 24000, sl := 24000, stackRoot := false, pairId := false, prof := 0, wake := 0, permit := false }

/-- The SLE has no event task (R239). -/
theorem test_wf_sle_event_task : (Instr.nop 16 1).wf = false ∧ (Instr.nop 16 0).wf = true := by decide
set_option maxRecDepth 20000 in
/-- A MAC of 15 bytes, and a payload beyond 1,436 bytes (R327). -/
theorem test_wf_datagram : (Instr.read (dgram [] 15)).wf = false ∧ (Instr.read (dgram (List.replicate 1437 0) 16)).wf = false ∧
    (Instr.read (dgram [] 16)).wf = true := by decide
/-- An input read twice at one boundary. -/
theorem test_wf_boundary : (Instr.tierBoundary { noIn with tpMa := [(0, 1), (0, 2)] }).wf = false ∧
    (Instr.tierBoundary { noIn with fieldIn := [(3, .edges []), (3, .edges [])] }).wf = false ∧
    (Instr.tierBoundary { noIn with siIn := [(3, []), (3, [])] }).wf = false ∧
    (Instr.tierBoundary { noIn with soIn := [(3, { plusHigh := true, railsOk := true, ma := 0 }), (3, { plusHigh := true, railsOk := true, ma := 0 })] }).wf = false ∧
    (Instr.tierBoundary noIn).wf = true := by decide
/-- An overrun of no task, a digest set that is not ten, a voltage beyond its register. -/
theorem test_wf_lists : (Instr.taskOverrun []).wf = false ∧ (Instr.digestReceive ⟨.ok, .ok, []⟩).wf = false ∧
    (Instr.feedChange false 65536).wf = false ∧ (Instr.slPlusChange 65536).wf = false ∧ (Instr.lplusChange 0 65536 0).wf = false := by decide
/-- Data that the DLC does not give, a remote FD frame, a bit-rate switch in a classical frame, an identifier of 12 bits (R295). -/
theorem test_wf_can_frame : (Instr.canFrameReceive 0 (frame 3) false).wf = false ∧
    (Instr.canFrameReceive 0 { frame 0 with fdf := true, rtr := true } false).wf = false ∧
    (Instr.canFrameReceive 0 { frame 2 with brs := true } false).wf = false ∧
    (Instr.canFrameReceive 0 { frame 2 with esi := true } false).wf = false ∧
    (Instr.canFrameReceive 0 { frame 2 with id := 0x800 } false).wf = false ∧ (Instr.canFrameReceive 0 (frame 2) false).wf = true ∧
    (Instr.canWake 0 (some (frame 3))).wf = false := by decide
/-- An instant off the 2 ns grid (R191). -/
theorem test_wf_instant : (Instr.angleEdge 0 .tooth 1).wf = false ∧ (Instr.angleEdge 0 .tooth 2).wf = true ∧
    (Instr.vsCrossing 0 0 3 (Vector.replicate 3 0) 0).wf = false := by decide
/-- A missing acknowledgement is no error of the data phase (R305). -/
theorem test_wf_can_error : (Instr.canError 0 3 true .tx8 none).wf = false ∧ (Instr.canError 0 3 false .tx8 none).wf = true := by decide
/-- A telegram of no word, and one of fewer words than its LEN says (R316). -/
theorem test_wf_telegram : (Instr.telegramReceive false (copy0 0 [])).wf = false ∧ (Instr.telegramReceive false (copy0 1 [])).wf = false ∧
    (Instr.telegramReceive false (copy0 1 [{ val := 1, tag := tagOf 0 }])).wf = true := by decide
/-- A supply beyond its register (R386). -/
theorem test_wf_power : (Instr.powerOn (power 65536)).wf = false ∧ (Instr.powerOn (power 24000)).wf = true ∧
    (Instr.wakeSource 1 0 false 0 true (power 65536)).wf = false := by decide
/-- A register address that is no word address (R5). -/
theorem test_wf_address : (Instr.registerWrite 0 0x101 0).wf = false ∧ (Instr.keyWrite 0 0x30A 0).wf = false ∧
    (Instr.keyedWindowClose 0 0x309).wf = false ∧ (Instr.registerWrite 0 0x100 0).wf = true := by decide
/-- An operation that the table of operations lists is not unknown (R335). -/
theorem test_wf_unknown : (Instr.unknownOperation 0x10 (dgram [] 16)).wf = false ∧ (Instr.unknownOperation 0x02 (dgram [] 16)).wf = true := by decide

/-! ### Values the spec prints -/

/-- No word of the table spells a command. -/
theorem test_no_word : decodeTableWord 32 0 = none := rfl
/-- The tag layout of R12: Q = 5, AGE = 3, ORIGIN = 10. -/
theorem test_tag_layout : tagBits { q := 5, c := false, f := false, h := false, age := 3, s := false, origin := 10 } = 0xA0CA#16 := by decide
/-- A soon packet of 16 words from LOG to MRAM on this station, at its issue: C, URG, SRC_BLK 11, DST_BLK 15, both stations 127; LEN 15, TIER 7,
AGE 125,000; the deadline of 10 ms in units of 2 ns (R45, R46, R54). -/
theorem test_header_layout :
    (Hdr.bits { placed := true, soon := true, srcBlk := 11, dstBlk := 15, srcStn := 127, dstStn := 127
                words := 16, tier := 7, age := 125000, deadline := 10000000 }).toList = [0x7FFEF5B, 0x3D091CF, 5000000] := by decide
set_option maxRecDepth 20000 in
/-- CRC-32C of the nine digits, the check value of the polynomial that R340 names. -/
theorem test_crc32c : crc32c ([0x31, 0x32, 0x33, 0x34, 0x35, 0x36, 0x37, 0x38, 0x39] : List Byte) = 0xE3069283#32 := by decide
/-- Hysteresis of the feeds (R384): absent below 16.0 V, back at 16.5 V, good at 18.5 V, low below 18.0 V. -/
theorem test_supply_class : supplyClass 16000 18000 15999 2 = 0 ∧ supplyClass 16000 18000 16499 0 = 0 ∧
    supplyClass 16000 18000 16500 0 = 1 ∧ supplyClass 16000 18000 18499 1 = 1 ∧ supplyClass 16000 18000 18500 1 = 2 ∧
    supplyClass 16000 18000 18000 2 = 2 ∧ supplyClass 16000 18000 17999 2 = 1 := by decide
/-- A Daybook entry has 32 bytes and a Ledger record 64 (R368, R371). -/
theorem test_record_sizes :
    ({ stamp := 0, num := 0, code := 0, source := 0, sev := 0, ledger := false, lostBefore := false, payload := [] } : DbEntry).bytes.length = 32 := by decide

/-! ### States that meet the statements' hypotheses -/

/-- An open session of role ADMIN. -/
def sess0 : Sess := { id := 7, keyId := 1, role := 3, key := [], last := some 5, resp := some (4, 0, []) }
/-- A running station with session 0 open and the keyed windows of the blocks open. -/
def up : State :=
  { State.reset with
    stn := { Stn.reset with refOk := true, pllLock := true }
    pwr := { PwrBlk.reset with power := .run, feedA := 2, feedB := 2, aV := 2400, bV := 2400 }
    net := { NetBlk.reset factoryKeys with
      sess := (Vector.replicate 4 none).set 0 (some sess0), ports := Vector.replicate 3 { NetPort.reset with link := true, ip := 0xC0A80001 } }
    windows := [(0, 0x308), (0, 0x1001C), (0, 0x3000C), (0, 0x4001C), (0, 0x50010), (0, 0xA001C), (0, 0xB0004), (0, 0xC0010),
                (0, 0xD0014), (0, 0xE001C), (0, 0x10002C)] }
/-- A task in its run. -/
def running : TaskRun := { TaskRun.fresh with phase := .run }
/-- A used engine of tier T1 in the run of its cyclic task, with one TON, one C and one E instance. -/
def eng : Engine :=
  { Engine.unused with
    used := true, tier := 1, running := true, code := [0, 0], cyc := running, sizes := Vector.replicate 8 4
    insts := [Inst.initial 1 0 1 false, Inst.initial 2 1 2 false, Inst.initial 3 2 3 false, Inst.initial 4 0 4 false, Inst.initial 5 0 5 false] }
/-- The station with engine 0 as `g`. -/
def withEng (g : Engine) : State := { up with le := up.le.set 0 g }
/-- The station as a member of a pair in `state`. -/
def member (state : BitVec 3) : State := { up with pair := { PairBlk.reset with member := true, state := state } }

theorem up_alive : alive up = true := by decide
theorem up_opened : Opened up 0 := ⟨by decide, by decide⟩
theorem up_quiet : Quiet up := ⟨⟨rfl, rfl⟩, rfl⟩
theorem up_windowed : ∀ k ∈ [0x308, 0x1001C, 0x3000C, 0x4001C, 0x50010, 0xA001C, 0xB0004, 0xC0010, 0xD0014, 0xE001C, 0x10002C],
    Windowed up 0 k := by
  intro k hk
  refine ⟨by decide, by decide, ?_⟩
  revert k
  decide
/-- A station that differs from `up` in blocks that sessions and windows do not read. -/
theorem windowed_of {s : State} {k : Nat} (h : Windowed up 0 k) (hp : s.pwr.power = .run) (hn : s.net.sess = up.net.sess)
    (hw : s.windows = up.windows) : Windowed s 0 k :=
  ⟨by simp [alive, hp], by simp only [sessOpen, hn]; exact h.2.1, by rw [hw]; exact h.2.2⟩

theorem executing (g : Engine) (k : Fin 5) (b : Bool) (h : g.mayRun k = true) (hp : (g.task k).pc < g.code.length) :
    Executing (withEng g) 0 k b := ⟨rfl, h, hp, fun h => absurd h (by decide)⟩

/-! ### A witness for each statement -/

/-- The word of every logic instruction can stand at the index of a task that may execute. -/
theorem witness_Fetched (i : Instr) (w : Word) (h : logicWord i = some w) :
    Executing (withEng { eng with code := [w, w] }) 0 0 true ∧ Fetched i (withEng { eng with code := [w, w] }) 0 0 :=
  ⟨⟨rfl, rfl, Nat.zero_lt_two, fun h => absurd h (by decide)⟩, w, rfl, h⟩
/-- The words of the worked example of chapter 4 (04_logic_instruction_set.md, after R111), and an indexed store (R101). -/
theorem test_logicWord : logicWord (.ld 0 0 false 2 0x40) = some 0x01200040 ∧ logicWord (.jc 0 0 206) = some 0x710000CE ∧
    logicWord (.lw 0 0 false 9 35) = some 0x20900023 ∧ logicWord (.ld 0 0 false 0 0x500) = some 0x01000500 ∧
    logicWord (.ton 0 0 0x180) = some 0x18400180 ∧ logicWord (.st 0 0 false 1 0xE0) = some 0x101000E0 ∧
    logicWord (.st 0 0 true 1 0xE0) = some 0x901000E0 := by decide

/-- BitInstructions, WordMoves, SelectionAndQuality: a task that runs, and operands in each kind of space. -/
theorem witness_BitInstructions : Executing (withEng eng) 0 0 true ∧ Executing (withEng eng) 0 0 false ∧
    (let o : Opnd := { ix := false, sp := 2, ad := 0x65 }
     let c := ctxOf (withEng eng) 0 0 2
     o.wf spBitRead false = true ∧ o.wf spBitStore false = true ∧ c.inSpace o = true) ∧
    (let o : Opnd := { ix := true, sp := 2, ad := 0x60 }
     let c := ctxOf (withEng eng) 0 0 3
     o.wf spBitRead false = true ∧ o.wf spWordRead true = true ∧ o.wf spWordStore true = true ∧ o.wf spTagRead true = true ∧ c.inSpace o = true) :=
  ⟨executing _ _ _ (by decide) (by decide), executing _ _ _ (by decide) (by decide), by decide, by decide⟩
/-- BitStores: a store to M word 3 is in reach, on the first store of a run and on a later one. -/
theorem witness_BitStores : (ctxOf (withEng eng) 0 0 2).reach { ix := false, sp := 2, ad := 0x65 } = some 3 ∧
    (3 ∉ (ctxOf (withEng eng) 0 0 2).t.mStored) ∧
    (3 ∈ (ctxOf (withEng { eng with cyc := { running with mStored := [3] } }) 0 0 2).t.mStored) := by decide
/-- BranchInstructions: room on the stack, and a branch on it. -/
theorem witness_BranchInstructions : Executing (withEng eng) 0 0 true ∧ (regsAfter (withEng eng) 0 0 2).stack.length < 16 ∧
    (let g := { eng with cyc := { running with stack := [.branch true none .or] } }
     Executing (withEng g) 0 0 true ∧ (regsAfter (withEng g) 0 0 2).stack = .branch true none .or :: []) :=
  ⟨executing _ _ _ (by decide) (by decide), by decide, executing _ _ _ (by decide) (by decide), by decide⟩
/-- WordMoves, IntegerInstructions, FloatInstructions, BitwiseInstructions, Comparisons: an event task runs too. -/
theorem witness_WordMoves :
    (let g := { eng with evt := eng.evt.set 0 running, cyc := { running with phase := .ready }, evtBegun := true }
     Executing (withEng g) 0 1 true ∧ Executing (withEng g) 0 1 false) :=
  ⟨executing _ _ _ (by decide) (by decide), executing _ _ _ (by decide) (by decide)⟩
/-- IntegerInstructions. -/
theorem witness_IntegerInstructions : Executing (withEng eng) 0 0 true := executing _ _ _ (by decide) (by decide)
/-- FloatInstructions. -/
theorem witness_FloatInstructions : Executing (withEng eng) 0 0 false := executing _ _ _ (by decide) (by decide)
/-- BitwiseInstructions: the last instruction of a program. -/
theorem witness_BitwiseInstructions : Executing (withEng { eng with cyc := { running with pc := 1 } }) 0 0 true :=
  executing _ _ _ (by decide) (by decide)
/-- Comparisons, in the SLE and in an engine. -/
theorem witness_Comparisons : Executing { up with le := up.le.set 16 eng } 16 0 true ∧ Executing (withEng eng) 0 0 false :=
  ⟨⟨by decide, by decide, by decide, by decide⟩, executing _ _ _ (by decide) (by decide)⟩
/-- SelectionAndQuality: a tag that LTAG and QCHK can read. -/
theorem witness_SelectionAndQuality :
    (let o : Opnd := { ix := false, sp := 2, ad := 0x60 }
     let c := ctxOf (withEng { eng with m := [(3, { val := 1, tag := tagOf 0x2000 })] }) 0 0 2
     o.wf spTagRead true = true ∧ c.inSpace o = true ∧ (c.read o).2.2 = some (tagOf 0x2000)) := by decide
/-- FlowInstructions: room for CALL, an entry for RET, an empty stack for END, and LA = 1 for EVT. -/
theorem witness_FlowInstructions : (regsAfter (withEng eng) 0 0 0).stack.length < 16 ∧ ((withEng eng).le[(0 : Fin 17)].task 0).stack = [] ∧
    (let g := { eng with cyc := { running with stack := [.ret 1], la := true } }
     Executing (withEng g) 0 0 true ∧ (regsAfter (withEng g) 0 0 0).stack = .ret 1 :: [] ∧
       ((withEng g).le[(0 : Fin 17)].task 0).la = true ∧ Settled (withEng g)) :=
  ⟨by decide, by decide, executing _ _ _ (by decide) (by decide), by decide, by decide, ⟨rfl, rfl⟩⟩
/-- TimerInstructions: one instance of each kind. -/
theorem witness_TimerInstructions : Executing (withEng eng) 0 0 true ∧ (0x20 : BitVec 20).toNat % 32 = 0 ∧
    (withEng eng).le[(0 : Fin 17)].inst? 4 0 = some (Inst.initial 1 0 1 false) ∧
    (withEng eng).le[(0 : Fin 17)].inst? 4 ((0x20 : BitVec 20).toNat / 32) = some (Inst.initial 2 1 2 false) ∧
    (withEng eng).le[(0 : Fin 17)].inst? 4 2 = some (Inst.initial 3 2 3 false) :=
  ⟨executing _ _ _ (by decide) (by decide), by decide, by decide, by decide, by decide⟩
/-- InstanceInstructions. -/
theorem witness_InstanceInstructions : Executing (withEng eng) 0 0 true ∧ (0 : BitVec 20).toNat % 32 = 0 ∧
    (withEng eng).le[(0 : Fin 17)].inst? 5 0 = some (Inst.initial 4 0 4 false) ∧
    (withEng eng).le[(0 : Fin 17)].inst? 6 0 = some (Inst.initial 5 0 5 false) :=
  ⟨executing _ _ _ (by decide) (by decide), by decide, by decide, by decide⟩

/-- FrontCommandRuns: an empty queue. -/
theorem witness_FrontCommandRuns : up.pending = [] := rfl
/-- StepKeepsSettled: a settled state whose step answers a next state. -/
theorem witness_StepKeepsSettled : Settled { State.reset with pending := [.holdupEnd] } ∧
    step { State.reset with pending := [.holdupEnd] } = .next State.reset := ⟨⟨rfl, rfl⟩, rfl⟩
/-- KeyedRefusal: session 1 has no window. -/
theorem witness_KeyedRefusal :
    let s := { up with net := { up.net with sess := up.net.sess.set 1 (some { sess0 with id := 8 }) } }
    KeyedWrite 1 (.stop 1) 0x304 ∧ Opened s 1 ∧ (∀ w ∈ s.windows, w.1 = (1 : Fin 4).val → blockKey 0x304 ≠ some w.2) :=
  ⟨.stop, ⟨by decide, by decide⟩, by decide⟩
/-- KeyedWindow: a KEY register, and an open window. -/
theorem witness_KeyedWindow : Opened up 0 ∧ isKey (0x308 : Word).toNat = true ∧ isKey (0x10002C : Word).toNat = true ∧
    ((0 : Fin 4).val, (0x308 : Word).toNat) ∈ up.windows := ⟨up_opened, by decide, by decide, by decide⟩
/-- A variable of DATA index `n`, written by block `w` of tier T1. -/
def aVar (n w : Nat) (op : Bool) : Var :=
  { idx := n, id := BitVec.ofNat 32 n, ty := 2, retain := false, opw := op, stale := 0, wblk := w, winst := 0, tier := 1, init := 0
    cur := { val := 0, tag := tagOf 0 }, unf := { val := 0, tag := tagOf 0 }, forced := false, wrote := false, placed := false }
/-- The station in RUN with an image and two variables: 4 written by operators, 9 by a logic engine. -/
def run : State :=
  { up with
    stn := { up.stn with mode := .run, stopCause := 0, commissioning := true, holdPermit := true }
    img := { Img.reset with running := some [] }, vars := [aVar 4 0 true, aVar 9 3 false] }
theorem run_windowed : ∀ k ∈ [0x308, 0x1001C, 0x3000C, 0x4001C, 0x50010, 0xA001C, 0xB0004, 0xC0010, 0xD0014, 0xE001C, 0x10002C],
    Windowed run 0 k := fun k h => windowed_of (up_windowed k h) rfl rfl rfl

/-- DataWrites: a write that is taken, and each reason of R43 at a boundary of its range. -/
theorem witness_DataWrites : Opened run 0 ∧ run.pair.state ≠ 4 ∧ run.img.running.isSome = true ∧ run.stn.mode ≠ .stop ∧
    run.pwr.quiet.getLsbD 13 = false ∧ run.vars.getLast?.map (fun x => x.idx) = some 9 ∧
    (∃ x, run.vars.find? (fun x => x.idx == 4) = some x ∧ x.opw = true) ∧ (∀ x, run.vars.find? (fun x => x.idx == 5) = some x → x.opw = false) ∧
    (∀ x, run.vars.find? (fun x => x.idx == 9) = some x → x.opw = false) ∧ up.img.running.isSome = false ∧ (member 4).pair.state = 4 :=
  ⟨⟨by decide, by decide⟩, by decide, rfl, by decide, by decide, by decide, ⟨_, rfl, rfl⟩, by simp [run, aVar],
    by simp [run, aVar], rfl, rfl⟩
/-- ModeCommands: a command that RUN allows and one that it does not. -/
theorem witness_ModeCommands : Windowed run 0 0x308 ∧ run.stn.mode ≠ .stop ∧ run.img.running.isSome = true ∧ run.pair.state ≠ 4 ∧
    run.pwr.quiet.getLsbD 13 = false ∧ up.stn.mode = .stop ∧ run.stn.mode ≠ .hold :=
  ⟨run_windowed _ (by decide), by decide, rfl, by decide, by decide, rfl, by decide⟩
/-- The station in RUN with engine 0 as `g`. -/
def runEng (g : Engine) : State := { run with le := run.le.set 0 g }
/-- A task whose window opens. -/
def ready : Engine := { eng with window := true, cyc := { running with phase := .ready } }
/-- EngineScans: a new scan without and with its breakpoint, a scan that goes on, and an engine in RUN and in STOP. -/
theorem witness_EngineScans : Windowed run 0 0x10002C ∧ run.stn.mode = .run ∧ Windowed up 0 0x10002C ∧ up.stn.mode ≠ .run ∧
    (let g := (runEng ready).le[(0 : Fin 17)]
     alive (runEng ready) = true ∧ g.running = true ∧ g.window = true ∧ g.evtActive = false ∧ g.cyc.phase = .ready ∧ g.bkptEn = false) ∧
    (let g := (runEng { ready with bkptEn := true }).le[(0 : Fin 17)]
     g.cyc.phase = .ready ∧ g.bkptEn = true ∧ g.cyc.pc = g.bkptAddr.toNat) ∧
    (runEng { ready with cyc := { running with phase := .resume } }).le[(0 : Fin 17)].cyc.phase = .resume ∧ Settled (runEng ready) :=
  ⟨run_windowed _ (by decide), rfl, up_windowed _ (by decide), by decide, by decide, by decide, by decide, ⟨rfl, rfl⟩⟩
/-- FaultStops: a task that has not finished, an engine that runs, a frozen engine. -/
theorem witness_FaultStops : alive (runEng eng) = true ∧ Unfinished (runEng eng) 0 0 ∧ (runEng eng).le[(0 : Fin 17)].running = true ∧
    (runEng { eng with frozen := true }).le[(0 : Fin 17)].frozen = true := by
  refine ⟨by decide, fun x hx => ?_, by decide, by decide⟩
  obtain rfl : x = 0 := Fin.ext hx
  decide
/-- InstructionFaults: the end of the program, a full stack and an empty one. -/
theorem witness_InstructionFaults :
    (let s := runEng { eng with cyc := { running with pc := 2 } }
     alive s = true ∧ s.le[(0 : Fin 17)].mayRun 0 = true ∧ s.le[(0 : Fin 17)].code.length ≤ (s.le[(0 : Fin 17)].task 0).pc) ∧
    (let s := runEng { eng with cyc := { running with stack := List.replicate 16 (.ret 0) } }
     s.le[(0 : Fin 17)].mayRun 0 = true ∧ 16 ≤ (s.le[(0 : Fin 17)].task 0).stack.length ∧ (s.le[(0 : Fin 17)].task 0).stack ≠ []) ∧
    (∀ la lt op r, ((runEng eng).le[(0 : Fin 17)].task 0).stack ≠ .branch la lt op :: r) ∧
    (∀ n r, ((runEng eng).le[(0 : Fin 17)].task 0).stack ≠ .ret n :: r) :=
  ⟨by decide, by decide, fun _ _ _ _ => nofun, fun _ _ => nofun⟩
/-- HoldInstant: hold commands allowed and not, and the end of the 10 ms. -/
theorem witness_HoldInstant : alive run = true ∧ Windowed run 0 0x10002C ∧
    (run.stn.mode ≠ .stop ∧ run.stn.commissioning = true ∧ run.stn.holdPermit = true) ∧ up.stn.commissioning = false ∧
    (let s := { run with stn := { run.stn with mode := .hold, permitCount := true, holdPermit := false } }
     s.stn.permitCount = true ∧ s.stn.mode = .hold ∧ s.stn.holdPermit = false) :=
  ⟨by decide, run_windowed _ (by decide), by decide, by decide, by decide⟩

/-! Safety function -/

/-- A T1 safety output in `state`. -/
def anSo (state : BitVec 2) : SoOut := { SoOut.unused with cfg := 1, state := state, hs := state == 1, ls := state == 1 }
theorem anSo_used : (anSo 1).used = true := by decide
/-- SLE and outputs at work, test-pulse source 0 with input 0, inputs 2 and 3 a pair with one ON. -/
def saf0 : SafBlk :=
  { SafBlk.reset with
    wdOn := true, tp := SafBlk.reset.tp.set 0 { TpSrc.idle with high := true, pulsing := true }
    si := (((SafBlk.reset.si.set 0 { SiCh.unused with cfg := 1, masked := true, before := 1 }).set 2 { SiCh.unused with cfg := 0x12, level := true }).set
      3 { SiCh.unused with cfg := 0x12 }).set 4 { SiCh.unused with cfg := 5, offAt := 1 }
    so := (SafBlk.reset.so.set 0 (anSo 1)).set 1 { anSo 2 with pend := [4, 5], foreign := true } }
/-- The station with that safety function. -/
def safe_ (b : SafBlk) : State := { up with saf := b, le := up.le.set 16 { eng with used := true } }
/-- SleFaults: a code that is none of its word and one that is; the watchdog runs, and the SLE is in its run at an overrun. -/
theorem witness_SleFaults : ((0 : Word) ≠ ~~~((0 : Word).rotateRight (40 % 32)) ∧ (0xFFFFFFFE : Word) = ~~~((0x100 : Word).rotateRight (40 % 32))) ∧
    alive (safe_ saf0) = true ∧ (safe_ saf0).saf.sleFault = false ∧ (safe_ saf0).pwr.quiet.getLsbD 7 = false ∧
    (safe_ saf0).saf.wdOn = true ∧ (safe_ saf0).saf.wdExpired = false ∧ (safe_ saf0).le[(16 : Fin 17)].running = true ∧
    (safe_ saf0).le[(16 : Fin 17)].cyc.phase = .run := by decide
/-- PulseJudgements: a used source in its pulse and with a fault, own and foreign inputs, a retry, and a pair that disagrees. -/
theorem witness_PulseJudgements :
    (let s := safe_ saf0
     tpUsed s 0 = true ∧ s.saf.tp[(0 : Fin 4)].fault = false ∧ s.saf.tp[(0 : Fin 4)].pulsing = true ∧ s.saf.si[(0 : Fin 16)].on 0 = true ∧
       s.saf.si[(0 : Fin 16)].before.getLsbD 0 = true ∧ s.saf.si[(0 : Fin 16)].masked = true ∧ s.saf.si[(4 : Fin 16)].on 0 = false ∧
       s.saf.si[(4 : Fin 16)].mode = 1 ∧ s.saf.si[(4 : Fin 16)].offAt.getLsbD 0 = true ∧
       s.saf.si[(2 : Fin 16)].mode ≠ 0 ∧ s.saf.si[(2 : Fin 16)].paired = true ∧ s.saf.si[(2 : Fin 16)].pend = [] ∧
       s.saf.si[(3 : Fin 16)].pend = [] ∧ onLevel s 2 ≠ onLevel s 3) ∧
    (let s := safe_ { saf0 with tp := SafBlk.reset.tp.set 0 { TpSrc.idle with fault := true, retry := true } }
     tpUsed s 0 = true ∧ s.saf.wdExpired = false ∧ s.saf.tp[(0 : Fin 4)].fault = true ∧ s.saf.tp[(0 : Fin 4)].retry = true) := by decide
/-- SafetyOutputs: an output in ON without and with a dark test, and one in FAULT with causes 4 and 5. -/
theorem witness_SafetyOutputs :
    (let s := safe_ saf0
     alive s = true ∧ s.saf.lp = 0 ∧ s.saf.so[(0 : Fin 8)].state = 1 ∧ s.saf.so[(0 : Fin 8)].used = true ∧ s.saf.so[(0 : Fin 8)].dark = none ∧
       usesLs s = true ∧ usesHs s = true ∧ s.saf.so[(1 : Fin 8)].state = 2 ∧ Windowed s 0 0xA001C) ∧
    (safe_ { saf0 with so := SafBlk.reset.so.set 0 { anSo 1 with dark := some true } }).saf.so[(0 : Fin 8)].dark = some true :=
  ⟨⟨by decide, by decide, by decide, by decide, by decide, by decide, by decide, by decide,
    windowed_of (up_windowed _ (by decide)) rfl rfl rfl⟩, by decide⟩

/-! Field points and banks -/

/-- Bank 0 up and driving with 24 V at L+. -/
def aBank : Bank := { Bank.reset with fsOk := true, fsPow := true, drive := true, open_ := true, lp := 2, aoWait := true }
/-- Points of bank 0: 0 a digital output that drives, 1 a PWM output, 2 an analog input of 4 to 20 mA. -/
def fldSt : State :=
  { up with fld := { FldBlk.reset with
      banks := FldBlk.reset.banks.set 0 aBank
      pts := ((FldBlk.reset.pts.set 0 { Pt.unused with cfg := 2, eff := some 1 }).set 1
        { Pt.unused with cfg := 7, pwmRun := true, pwmPeriod := 1000, eff := some 32768 }).set 2 { Pt.unused with cfg := 3 } } }
/-- PointEvents: a diagnostic that applies, a switch that drives, a PWM output in its run. -/
theorem witness_PointEvents : alive fldSt = true ∧ fieldPowered fldSt 0 = true ∧ diagApplies fldSt.fld.pts[(2 : Fin 96)] .short = true ∧
    fldSt.fld.pts[(0 : Fin 96)].isSwitch = true ∧ fldSt.fld.pts[(0 : Fin 96)].prot = 0 ∧ driven fldSt 0 = some 1 ∧
    fldSt.fld.pts[(1 : Fin 96)].mode = 7 ∧ fldSt.fld.pts[(1 : Fin 96)].pwmRun = true := by decide
/-- BankControl: an open bank that waits for commands, a failed field side, an open session. -/
theorem witness_BankControl : fieldPowered fldSt 0 = true ∧ (0 : Fin 96).val / 12 = (0 : Fin 8).val ∧ fldSt.fld.pts[(0 : Fin 96)].isSwitch = true ∧
    fldSt.fld.banks[(0 : Fin 8)].open_ = true ∧ fldSt.fld.banks[(0 : Fin 8)].aoWait = true ∧
    fldSt.fld.banks[(0 : Fin 8)].fsPow = true ∧
    fldSt.fld.banks[(1 : Fin 8)].fsOk = false ∧ Opened fldSt 0 := ⟨by decide, by decide, by decide, by decide, by decide, by decide, by decide, by decide, by decide⟩

/-! Loops -/

/-- A sample in phase `ph`. -/
def smp0 (ph : SPhase) : LSample :=
  let z : TWord := { val := 0, tag := tagOf 0 }
  { phase := ph, t0 := 20000, late := 0, stop := 0, init := false, stale := false, pv := z, sp := z, ext := z, ff := z, sched := z, ctl := z, man := z
    rb := z, tabs := [], res := { val := 5, tag := tagOf 0 } }
/-- A loop with those samples. -/
def loop0 (l : List LSample) : Loop := { Loop.unused with used := true, started := true, samples := l }
/-- The station with loop 0 as `l`. -/
def withLoop (l : Loop) : State := { fldSt with lp := { LoopBlk.reset with loops := LoopBlk.reset.loops.set 0 l } }
theorem withLoop_loop (l : Loop) (j : Fin 192) : (withLoop l).lp.loops[j] = if j = 0 then l else Loop.unused := by
  have h : (withLoop l).lp.loops[j] = (LoopBlk.reset.loops.set 0 l)[j.val] := rfl
  rw [h, Vector.getElem_set]
  have h2 : LoopBlk.reset.loops[j.val] = Loop.unused := by simp [LoopBlk.reset]
  by_cases hj : j = 0
  · simp [hj]
  · rw [if_neg (by omega), if_neg hj, h2]
/-- LoopSamples: a sample taken with its engine idle, one that runs, and one not done. -/
theorem witness_LoopSamples :
    (let s := withLoop (loop0 [smp0 .taken])
     alive s = true ∧ s.lp.loops[(0 : Fin 192)].samples = [] ++ smp0 .taken :: [] ∧
       (smp0 .taken).t0 + s.lp.loops[(0 : Fin 192)].c.relNs < 2 ^ 64 ∧
       ∀ j : Fin 192, j.val / 8 = (0 : Fin 192).val / 8 → ∀ y ∈ s.lp.loops[j].samples, y.phase ≠ .running ∧ y.phase ≠ .released) ∧
    (let s := withLoop (loop0 [smp0 .running, smp0 .taken])
     s.lp.loops[(0 : Fin 192)].samples = [smp0 .running] ++ smp0 .taken :: [] ∧ s.lp.loops[(0 : Fin 192)].samples = [] ++ smp0 .running :: [smp0 .taken] ∧
     (∃ y ∈ s.lp.loops[(0 : Fin 192)].samples, y.phase = .running) ∧ (∃ y ∈ s.lp.loops[(0 : Fin 192)].samples, y.phase ≠ .done) ∧
       ∀ j : Fin 192, j.val / 8 = (0 : Fin 192).val / 8 → ∀ y ∈ s.lp.loops[j].samples, y.phase ≠ .released) := by
  refine ⟨⟨by decide, by decide, by decide, fun j _ => ?_⟩, by decide, by decide, by decide, by decide, fun j _ => ?_⟩ <;>
    simp only [withLoop_loop] <;> split <;> simp [loop0, smp0, Loop.unused]
/-- LoopOutput: a completed sample whose output is no variable, and one whose output is point 0. -/
theorem witness_LoopOutput :
    (withLoop (loop0 [smp0 .done])).lp.loops[(0 : Fin 192)].samples = smp0 .done :: [] ∧
    (smp0 .done).t0 + (smp0 .done).late + 100 * (loop0 []).c.outDly < (20000 : Nat) + 20000 ∧
    outputWaits (withLoop (loop0 [smp0 .done])) 0 20000 = false ∧
    bindPoint (withLoop (loop0 [smp0 .done])).lp.loops[(0 : Fin 192)].c.out = none ∧
    (let l := { loop0 [smp0 .done] with c := { LoopCfg.none with out := 0x80000000 } }
     bindPoint (withLoop l).lp.loops[(0 : Fin 192)].c.out = some (0 : Fin 96).val ∧ (withLoop l).fld.pts[(0 : Fin 96)].isOut = true) := by decide
/-- LoopCommands: an angle loop at its stall limit, a reload, and a session with the engine's window. -/
theorem witness_LoopCommands :
    (let s := withLoop { loop0 [] with c := { LoopCfg.none with cfg := 16, cfg2 := 0xFFFFFFFF }, noSample := 0xFFFFFFFF, reload := true }
     alive s = true ∧ s.lp.loops[(0 : Fin 192)].used = true ∧ s.lp.loops[(0 : Fin 192)].started = true ∧
       s.lp.loops[(0 : Fin 192)].c.src = 4 ∧ s.lp.loops[(0 : Fin 192)].c.stallT2 ≠ 0 ∧
       s.lp.loops[(0 : Fin 192)].c.stallT2 ≤ s.lp.loops[(0 : Fin 192)].noSample ∧ s.lp.loops[(0 : Fin 192)].reload = true ∧
       s.lp.loops[(0 : Fin 192)].restart = false ∧ s.pair.state ≠ 4) ∧
    Windowed (withLoop (loop0 [])) 0 (0xC0010 + 0x800 * ((0 : Fin 192).val / 8)) :=
  ⟨by decide, windowed_of (up_windowed _ (by decide)) rfl rfl rfl⟩

/-! Solver -/

/-- A template, and a request of it. -/
def tmpl0 : QTmpl :=
  { soon := false, tier := 2, req := 0, content := [], bind := .none, prev := none, wait := [], run := none, res := none, deliver := [], issue := 0 }
/-- A request with nothing captured. -/
def preq0 : PReq := { val := 1, t0 := 0, ins := [], params := [], sat := false }
/-- The station with slot 0 as `q` and template 0 as `m`. -/
def withQp (q : QSlot) (m : Option QTmpl) : State :=
  { up with qp := { QpBlk.reset with slots := QpBlk.reset.slots.set 0 q, tmpls := QpBlk.reset.tmpls.set 0 m } }
/-- Solves: a slot whose solve is taken, and one that solves. -/
theorem witness_Solves : alive (withQp { QSlot.unused with tier := 2, phase := .taken } none) = true ∧
    (withQp { QSlot.unused with tier := 2, phase := .taken } none).qp.slots[(0 : Fin 64)].phase = .taken ∧
    (withQp { QSlot.unused with tier := 2, phase := .solving } none).qp.slots[(0 : Fin 64)].phase = .solving := by decide
/-- SolverCommands: a request that waits with slot 0 free, results from the slot and from a peer, a slot in its reload, and a session. -/
theorem witness_SolverCommands :
    (let s := withQp { QSlot.unused with tier := 7 } (some { tmpl0 with wait := [preq0] })
     alive s = true ∧ s.pair.state ≠ 4 ∧ s.qp.tmpls[(0 : Fin 64)] = some { tmpl0 with wait := [preq0] } ∧ freeSlot s = some 0 ∧ nextTmpl s = some 0 ∧
       ownFirst s 0 = true) ∧
    (let w : PeerWait := { prob := { station := 4, template := 0, issue := 1, content := [], req := preq0, age := 9 }, t0 := 0, sat := false }
     let q := withQp { QSlot.unused with tier := 7 } (some { tmpl0 with wait := [preq0] })
     let s := { q with qp := { q.qp with peers := [w] } }
     alive s = true ∧ s.pair.state ≠ 4 ∧ nextPeer s = some w ∧ freeSlot s = some 0 ∧ nextTmpl s = some 0 ∧ ownFirst s 0 = false) ∧
    (let s := { withQp .unused (some { tmpl0 with wait := [preq0] }) with stk := { StkBlk.reset with member := true, pairNum := 1, role := 1 } }
     nextTmpl s = some 0 ∧ freeSlot s = none ∧ s.stk.inStack = true ∧ nearestPeer s [4, 6] = some 6) ∧
    (withQp .unused (some { tmpl0 with run := some (preq0, .slot 0), res := some [] })).qp.tmpls[(0 : Fin 64)] =
      some { tmpl0 with run := some (preq0, .slot 0), res := some [] } ∧
    (withQp .unused (some { tmpl0 with run := some (preq0, .peer 3) })).qp.tmpls[(0 : Fin 64)] =
      some { tmpl0 with run := some (preq0, .peer (3 : Fin 8).val) } ∧
    (let s := withQp { QSlot.unused with tier := 2, reload := true } none
     s.qp.slots[(0 : Fin 64)].tier ≠ 0 ∧ s.qp.slots[(0 : Fin 64)].reload = true ∧ s.qp.slots[(0 : Fin 64)].coldReq = false ∧
       Windowed s 0 (0xD0014 + 0x2000 * ((0 : Fin 64).val / 8)) ∧ Opened s 0) :=
  ⟨by decide, by decide, by decide, by decide, by decide, by decide, by decide, by decide, windowed_of (up_windowed _ (by decide)) rfl rfl rfl,
    by decide, by decide⟩

/-! Angle -/

/-- The station with source 0 as `r`, event 0 as `e` and VS set 0 in use. -/
def withAng (r : ASrc) (e : AEvt) : State :=
  { fldSt with ang := { AngBlk.reset with
      src := AngBlk.reset.src.set 0 r, evt := AngBlk.reset.evt.set 0 e
      vs := AngBlk.reset.vs.set 0 { vnom := 230, used := true, rms := Vector.replicate 3 0, freq := 0, present := 0, seqErr := false, last := none } } }
/-- An encoder of 512 lines with an index, synchronised at `pos`. -/
def enc (pos : Int) : ASrc := { ASrc.unused with cfg := 1 + 8 * 511 + 0x200000, sync := 2, pos := pos, span := 0x2004, topSpeed := 1 }
/-- A wheel of 60 positions with a gap of 2, its last period 1000 ns. -/
def wheel (pos : Int) : ASrc := { ASrc.unused with cfg := 2 + 8 * 59 + 0x100000, sync := 2, pos := pos, span := 4, lastT := some 100, refN := 1000 }
/-- The source of the station. -/
def src0 (r : ASrc) : ASrc := (withAng r .unused).ang.src[(0 : Fin 8)]
/-- AngleEdges: an encoder with and without its index, going each way and not synchronised, at each place that an index can find it; a
wheel at its gap and off it, with a period below 1/2, 3/2, and from 5/2 to 7/2 of the reference. -/
theorem witness_AngleEdges :
    (alive (withAng (enc 0) .unused) = true ∧ 100 + 3499 < (withAng (enc 0) .unused).stn.lastB + 20000 ∧ (src0 (enc 0)).type = 1 ∧ (src0 (enc 0)).loss = false ∧ (src0 (enc 0)).sync = 2 ∧
      (src0 (enc 0)).zmode = true ∧ (src0 (enc 0)).rev = !true ∧ (src0 { enc 0 with rev := true }).rev = true ∧
      (src0 (enc 0)).against + 1 < (src0 (enc 0)).revEdges ∧ (src0 { enc 0 with against := 1 }).revEdges ≤ (src0 { enc 0 with against := 1 }).against + 1 ∧
      (src0 { enc 0 with sync := 1, cfg := 1 }).zmode = false ∧ (src0 { enc 0 with sync := 1 }).sync ≠ 2 ∧ (4 : Int) * (src0 (enc 0)).lines = 2048 ∧
      (2048 : Int) % 2048 = 0 ∧ (2049 : Int) % 2048 = 1 ∧ (-1 : Int) % 2048 = 2048 - 1) ∧
    (let r := src0 (wheel 3)
     r.type = 2 ∧ r.loss = false ∧ r.sync = 2 ∧ r.lastT = some 100 ∧ r.refN ≠ 0 ∧ r.stillF = false ∧
       (r.pos % (r.lines : Int)).toNat + 1 ≠ r.lines - r.gap ∧ 2 * 499 * r.refD < 1 * r.refN ∧ ¬ 2 * 500 * r.refD < 1 * r.refN ∧
       2 * 1499 * r.refD < 3 * r.refN) ∧
    (let r := src0 (wheel 57)
     (r.pos % (r.lines : Int)).toNat + 1 = r.lines - r.gap ∧ ¬ 2 * 2500 * r.refD < (2 * r.gap + 1) * r.refN ∧
       2 * 3499 * r.refD < (2 * r.gap + 3) * r.refN) := by decide
/-- SourceStates: an encoder that stands still or loses its line, a lasting loss, and an electrical source with a crossing behind it. -/
theorem witness_SourceStates :
    ((src0 (enc 0)).type = 1 ∧ (src0 (enc 0)).sync = 2 ∧ (src0 (enc 0)).stillF = false ∧ (src0 (enc 0)).loss = false ∧
      (src0 { enc 0 with loss := true }).loss = true ∧ (withAng (enc 0) .unused).ang.vs[(0 : Fin 2)].used = true) ∧
    (let r := src0 { ASrc.unused with cfg := 3, sync := 2, lastX := some 5 }
     r.type = 3 + (0 : Fin 2).val ∧ r.loss = false ∧ r.sync = 2 ∧ r.lastX = some 5 ∧ (0 : Fin 6).val = ((5 : Fin 6).val + 1) % 6) := by decide
/-- AngleEvents: an armed event of a source that predicts, with an instant, on point 0; and what RESYNC and a control word ask. -/
theorem witness_AngleEvents :
    (let s := withAng { enc 0 with pst := 0x400 } { AEvt.unused with cfg := 1, armed := true, armMode := 1, due := some 4000 }
     alive s = true ∧ s.ang.evt[(0 : Fin 128)].armed = true ∧ s.ang.evt[(0 : Fin 128)].due = some 4000 ∧
       s.ang.src[srcOfEvt 0].pubPredicting = true ∧ s.ang.evt[(0 : Fin 128)].kind = 1 ∧ s.ang.evt[(0 : Fin 128)].point = (0 : Fin 96).val ∧
       s.fld.pts[(0 : Fin 96)].isOut = true ∧ 4000 < s.stn.lastB + 20000 ∧ firesBefore s 0 4000 = false) ∧
    (let s := withAng (enc 0) .unused
     Windowed s 0 0xB0004 ∧ s.pair.state ≠ 4 ∧ s.ang.src[(0 : Fin 8)].type ≠ 0 ∧ s.ang.src[(0 : Fin 8)].resync = false ∧
       bit s.ang.evt[(0 : Fin 128)].cfg 7 = false ∧ Opened s 0) :=
  ⟨by decide, windowed_of (up_windowed _ (by decide)) rfl rfl rfl, by decide, by decide, by decide, by decide, by decide, by decide⟩

/-! On-line change, forces, images -/

/-- The station in RUN with a committed image in force and STN as `n`. -/
def olc (n : Stn) : State :=
  { run with
    stn := n
    img := { run.img with
      commits := run.img.commits.set 0 (some { seq := 0, bank := false, totalLen := 0, imageId := imageId [], digest := [], commissioning := false
                                               used := 1, half := false })
      marker := some { profile := 0, bank := false, imageId := 0, olc := true } } }
/-- OnlineChange: PREPARE and COMMIT where each case begins, checks that fail, and the write that persists a change. Which images pass the
checks turns on `Config`'s loads of the links, so no closed state is known to. -/
theorem witness_OnlineChange :
    (Windowed (olc run.stn) 0 0x308 ∧ (olc run.stn).pair.state ≠ 4 ∧ (olc run.stn).img.running ≠ none ∧ notPersisted (olc run.stn) = false ∧
      notPersisted run = true ∧ up.img.running = none ∧ (member 4).pair.state = 4) ∧
    (let s := olc { run.stn with olcState := 3 }
     s.stn.olcState = 3 ∧ s.stn.olcCmd ≠ 2 ∧ commitCode s = 0) ∧ commitCode { run with stn := { run.stn with olcState := 3 } } ≠ 0 ∧
    (let s := olc { run.stn with olcState := 2, staged := List.replicate 16 1 }
     alive s = true ∧ s.stn.olcState = 2 ∧ (prepareCode s).1 ≠ 0) ∧
    (let s := { olc { run.stn with olcState := 5 } with img := { (olc run.stn).img with wOlc := true, wState := 2 }, pair := (member 2).pair }
     s.img.wOlc = true ∧ s.img.wState = 2 ∧ s.pair.state = 2 ∧ s.img.wOwnDone = false ∧ s.pair.member = true) :=
  ⟨⟨windowed_of (run_windowed _ (by decide)) rfl rfl rfl, by decide, by decide, by decide, by decide, by decide, by decide⟩,
    by decide, by decide, by decide, by decide⟩
/-- Forces: a force set that is taken, and one for each refusal but the pending change. -/
theorem witness_Forces : Windowed run 0 0x308 ∧ run.pair.state ≠ 4 ∧ run.stn.commissioning = true ∧
    (∃ x, run.vars.find? (fun x => x.idx == 4) = some x ∧ x.wblk ∈ [0, 1, 2, 3, 10]) ∧ run.vars.find? (fun x => x.idx == 5) = none ∧
    (up.stn.commissioning = false ∧ up.stn.forcePermit = false) ∧ Windowed up 0 0x308 :=
  ⟨run_windowed _ (by decide), by decide, rfl, ⟨_, rfl, by decide⟩, by simp [run, aVar], by decide, up_windowed _ (by decide)⟩
/-- ImageWrites: a write in progress, alone and in a pair, a load with and without a committed image, a request for a profile, a
preparation. -/
theorem witness_ImageWrites :
    (let s := { member 2 with img := { Img.reset with wState := 2 } }
     alive s = true ∧ s.img.wState = 2 ∧ s.img.wOlc = false ∧ s.img.marker = none ∧ s.pair.state = 2 ∧ s.img.wOwnDone = false ∧ s.pair.member = true) ∧
    (member 2 |>.img.running) = none ∧ up.stn.stopCause ≠ 7 ∧ up.img.marker = none ∧ up.img.wWait = [] ∧ committed up (selectProfile up) = none ∧
    (let s := { up with img := { (olc run.stn).img with running := none, marker := none } }
     committed s 0 = some [] ∧ (checkImage s 0 []).1.1 ≠ 0) ∧
    (run.img.running ≠ none ∧ run.pair.state ∈ [0, 2, 3] ∧ run.pwr.quiet.getLsbD 11 = false ∧ run.img.pinProf ≠ 3 ∧ Windowed run 0 0x1001C) ∧
    (let s := { run with img := { run.img with swState := 1 } }
     s.img.swState = 1 ∧ s.img.prepared = none ∧ (prepareSwitch s).1 ≠ 0) :=
  ⟨by decide, by decide, by decide, by decide, by decide, by decide, by decide,
    ⟨by decide, by decide, by decide, by decide, run_windowed _ (by decide)⟩, by decide, by decide, by decide⟩

/-! Engineering protocol -/

/-- A request of session 7 with operation `op`, SEQ 6 and this payload. -/
def req (op : Byte) (pl : List Byte) : Dgram :=
  { port := 2, ip := 1, sess := 7, seq := 6, payload := pl, mac := kepMac sess0.key op false 0 7 6 pl }
theorem requested (op : Byte) (pl : List Byte) (h : pl.length ≤ 1436) : Requested run op (req op pl) 0 sess0 := by
  refine ⟨?_, rfl, rfl, ?_, rfl, rfl⟩
  · have : (alive run && portUp run 2) = true := by decide
    simp only [dgramHere, req, this, Bool.true_and, decide_eq_true_eq, h]
  · intro l hl
    obtain rfl : l = 5 := by simpa [sess0] using hl.symm
    exact ⟨(by decide : (5 : Word) ≠ 6), (by decide : seqAfter 6 5 = true)⟩
/-- The same request where the session's role is READ. -/
theorem requested_read (op : Byte) (pl : List Byte) (h : pl.length ≤ 1436) :
    Requested { run with net := { run.net with sess := run.net.sess.set 0 (some { sess0 with role := 0 }) } } op (req op pl) 0
      { sess0 with role := 0 } := by
  refine ⟨?_, rfl, rfl, (requested op pl h).2.2.2.1, (requested op pl h).2.2.2.2⟩
  exact (requested op pl h).1
/-- A challenge for session 9 under key 0 of the key table. -/
def chal0 : Chal := { id := 9, ip := 1, keyId := Config.keyId, nc := [], ns := [] }
/-- The station with that challenge, and with every session open or not. -/
def challenged (full : Bool) : State :=
  { run with net := { run.net with
      chals := [chal0], lockouts := [2], keys := Vector.replicate 16 (some { keyId := Config.keyId, role := 3, secret := [] })
      sess := if full then Vector.replicate 4 (some sess0) else run.net.sess } }
/-- A PROOF for session 9. -/
def prf (mac payload : List Byte) : Dgram := { port := 2, ip := 1, sess := 9, seq := 1, payload := payload, mac := mac }
theorem take_ne {l : List Byte} : List.replicate 17 0 ≠ l.take 16 := fun h => by
  have := congrArg List.length h
  simp only [List.length_replicate, List.length_take] at this
  omega
theorem keyOf (b : Bool) : keyEnt (challenged b) Config.keyId = some { keyId := Config.keyId, role := 3, secret := [] } := by
  have h : (challenged b).net.keys = Vector.replicate 16 (some { keyId := Config.keyId, role := 3, secret := [] }) := rfl
  simp [keyEnt, h, List.replicate]
/-- Sessions: addresses that are and are not locked out, payloads of 17 bytes and not, sessions full and not, a challenge with its key; a
PROOF whose MAC fails, and one whose MAC and proof hold; requests, and what lapses. -/
theorem witness_Sessions :
    (∀ b pl mac, pl.length ≤ 1436 → dgramHere (challenged b) (prf mac pl) = true) ∧ (prf [] []).ip ∉ (challenged false).net.lockouts ∧
    { prf [] [] with ip := 2 }.ip ∈ (challenged false).net.lockouts ∧ (challenged false).pwr.quiet.getLsbD 0 = false ∧
    (List.replicate 17 (0 : Byte)).length = 17 ∧ (∀ i : Fin 4, (challenged true).net.sess[i] ≠ none) ∧ (challenged false).net.sess[(1 : Fin 4)] = none ∧
    (∀ j : Fin 4, j < 1 → (challenged false).net.sess[j] ≠ none) ∧
    (∀ b pl mac, sessOf (challenged b) (prf mac pl) = none ∧
      (challenged b).net.chals.find? (fun c => c.id == (prf mac pl).sess) = some chal0) ∧
    (∀ b, keyEnt (challenged b) chal0.keyId = some { keyId := Config.keyId, role := 3, secret := [] }) ∧
    (∀ key pl, (prf (List.replicate 17 0) pl).mac ≠ kepMac key 3 false 0 9 1 pl) ∧
    (∀ key pl, (prf (kepMac key 3 false 0 9 1 pl) pl).mac = kepMac key 3 false 0 9 1 pl) ∧
    (∀ key, List.replicate 65 (0 : Byte) ≠ (hmac key []).take 64) ∧
    Requested run 5 (req 5 []) 0 sess0 ∧ Requested run 0xFF (req 0xFF []) 0 sess0 ∧ opUnknown 0xFF = true ∧ run.net.sess[(0 : Fin 4)] ≠ none ∧
    chal0 ∈ (challenged false).net.chals ∧ 2 ∈ (challenged false).net.lockouts := by
  refine ⟨fun b pl mac h => ?_, by decide, by decide, by decide, by decide, by decide, by decide, by decide, fun b pl mac => ?_, keyOf,
    fun _ _ => take_ne, fun _ _ => rfl, fun key h => ?_, requested _ _ (by decide), requested _ _ (by decide), by decide, by decide,
    List.mem_singleton_self _, by decide⟩
  · have : (alive (challenged b) && portUp (challenged b) 2) = true := by cases b <;> decide
    simp only [dgramHere, prf, this, Bool.true_and, decide_eq_true_eq, h]
  · cases b <;> exact ⟨rfl, rfl⟩
  · have := congrArg List.length h
    simp only [List.length_replicate, List.length_take] at this
    omega
/-- A request whose response still waits at the port executes. -/
theorem witness_executing : Machine.executing { run with net := { run.net with
    ports := run.net.ports.set 2 { NetPort.reset with queue := [.resp 1 0 0 7 5 [] []] } } } sess0 = true := by decide
/-- RegisterRequests: requests of each operation at the least and the largest count, and ones with a wrong MAC, an older SEQ and the last SEQ. -/
theorem witness_RegisterRequests :
    Requested run 0x10 (req 0x10 [0, 0, 0, 0, 1, 0]) 0 sess0 ∧ Requested run 0x10 (req 0x10 [0, 0, 0, 0, 0, 1]) 0 sess0 ∧
    Requested run 0x11 (req 0x11 ([0, 0, 0, 0, 1, 0, 0, 0] ++ List.replicate 4 0)) 0 sess0 ∧
    Requested run 0x12 (req 0x12 ([0x2C, 0, 0x10, 0, 1, 0, 0, 0, 0x1C, 0, 0x10, 0, 1, 0, 0, 0])) 0 sess0 ∧
    (rd [0x2C, 0, 0x10, 0] 0 4 = 0x10002C ∧ isKey 0x10002C = true ∧ blockKey 0x10001C = some 0x10002C) ∧
    Requested run 0x30 (req 0x30 [1, 0, 0, 0]) 0 sess0 ∧ modeOk run 1 = true ∧ modeOk run 7 = false ∧
    (∀ op pl, { req op pl with mac := List.replicate 17 0 }.mac ≠ kepMac sess0.key op false 0 7 6 pl) ∧
    Requested { run with net := { run.net with sess := run.net.sess.set 0 (some { sess0 with role := 0 }) } } 0x12
      (req 0x12 ([0x2C, 0, 0x10, 0, 1, 0, 0, 0, 0x1C, 0, 0x10, 0, 1, 0, 0, 0])) 0 { sess0 with role := 0 } ∧
    (seqAfter { req 0x10 [] with seq := 4 }.seq 5 = false ∧ (4 : Word) ≠ 5) ∧ sess0.last = some 5 ∧ sess0.resp = some (4, 0, []) :=
  ⟨requested _ _ (by decide), requested _ _ (by decide), requested _ _ (by decide), requested _ _ (by decide), by decide, requested _ _ (by decide),
    by decide, by decide, fun _ _ => take_ne, requested_read _ _ (by decide), by decide, rfl, rfl⟩
/-- Transfers: an opening, a chunk at the end of its transfer, an end with and without a gap. -/
theorem witness_Transfers :
    Requested run 0x20 (req 0x20 [4, 0, 0, 0, 1, 0, 0, 0]) 0 sess0 ∧ run.net.transfer = none ∧
    Requested run 0x21 (req 0x21 [0, 0, 0, 0, 1, 0, 0, 0, 9]) 0 sess0 ∧ Requested run 0x22 (req 0x22 []) 0 sess0 ∧
    (({ target := 4, total := 1, chunks := [] } : Transfer).missing = 0 :: []) ∧
    (({ target := 4, total := 1, chunks := [(0, [9])] } : Transfer).missing = []) ∧ packageOk [9] = false ∧
    (checkImage run 0 [9]).1.1 ≠ 0 ∧
    (let s := { run with net := { run.net with transfer := some { target := 0, total := 1, chunks := [] } } }
     alive s = true ∧ s.net.transfer ≠ none) :=
  ⟨requested _ _ (by decide), by decide, requested _ _ (by decide), requested _ _ (by decide), by decide, by decide, by decide, by decide,
    by decide, by decide⟩
/-- A Ledger record. -/
def rec0 : LgRec := { (default : LgRec) with seq := 7 }
/-- LedgerCommands: a flush of one record, a clear in its last step, a lock-out, a queue of the supervisor, and requests at the ends of
their areas. -/
theorem witness_LedgerCommands :
    (let s := { run with log := { run.log with flush := .command, flushLeft := 1, buf := [(rec0, false)] } }
     Quiet s ∧ alive s = true ∧ s.log.flush ≠ .idle ∧ 0 < s.log.flushLeft ∧ s.log.buf = (rec0, false) :: []) ∧
    (let s := { run with log := { run.log with clearStep := 3, lockout := true }, evr := { run.evr with queue := [(5, 1), (4, 1)] }
                         net := { run.net with clearNonce := some { sess := 0, nl := [], next := 0 } } }
     alive s = true ∧ s.log.clearStep = 3 ∧ s.log.lockout = true ∧ s.net.clearNonce ≠ none ∧ Quiet s ∧ s.evr.queue ≠ []) ∧
    Opened run 0 ∧ Requested run 0x40 (req 0x40 [1, 0, 1, 0, 0xFF, 0x0F, 0, 0]) 0 sess0 ∧ rd [0xFF, 0x0F, 0, 0] 0 4 = 4095 ∧
    Requested run 0x42 (req 0x42 []) 0 sess0 ∧ (seenBy run (req 0x42 []) 0).log.lockout = false ∧
    Requested run 0x43 (req 0x43 (List.replicate 36 0)) 0 sess0 ∧ clearReason (seenBy run (req 0x43 []) 0) 0 0 [] ≠ 0 ∧
    (seenBy run (req 0x43 []) 0).log.buf.length < 256 ∧
    Requested run 0x44 (req 0x44 [7, 16, 0, 0]) 0 sess0 ∧ Requested run 0x50 (req 0x50 ([0, 15, 0, 3] ++ List.replicate 32 0)) 0 sess0 ∧ 3 ≤ sess0.role :=
  ⟨⟨⟨⟨rfl, rfl⟩, rfl⟩, by decide, by decide, by decide, rfl⟩, ⟨by decide, by decide, by decide, by decide, ⟨⟨rfl, rfl⟩, rfl⟩, by decide⟩,
    ⟨by decide, by decide⟩, requested _ _ (by decide), by decide, requested _ _ (by decide), by rfl, requested _ _ (by decide), by decide, by decide,
    requested _ _ (by decide), requested _ _ (by decide), by decide⟩

/-! Boundaries, the pair, the stack -/

/-- A pair member in `state` with PAIR as `f` leaves it. -/
def pairSt (state : BitVec 3) (f : PairBlk → PairBlk) : State := { member state with pair := f (member state).pair }
/-- A held boundary whose slowest tier is `slow`. -/
def held0 (slow : Nat) (t0 : Option (List SetItem)) : Await := { slow := slow, own := default, starts := [], t0 := t0 }
/-- TierLadder: a station at work, one in a warm reset with its clock, a standby, a boundary of every tier, and a pair below a stack's master. -/
theorem witness_TierLadder : (alive up = true ∧ up.stn.refOk = true ∧ up.stn.pllLock = true) ∧
    (let s := { up with pwr := { up.pwr with power := .warm } }
     s.pwr.power = .warm ∧ s.stn.refOk = true ∧ s.stn.pllLock = true ∧ alive s = false) ∧
    (alive (member 4) = true ∧ (member 4).pair.state = 4 ∧ ∀ e : Fin 17, (member 4).le[e].running = false) ∧ (99980000 + 20000) % 100000000 = 0 ∧
    (let s := { member 4 with stn := { up.stn with lastB := 80000 }, le := up.le.set 0 { eng with cyc := { running with phase := .done } } }
     s.stn.lastB + 20000 = 100000 ∧ s.le[(0 : Fin 17)].running = true ∧ s.le[(0 : Fin 17)].frozen = false ∧
       s.le[(0 : Fin 17)].cyc.phase = .done ∧ s.le[(0 : Fin 17)].tier.toNat = 1 ∧ s.pwr.pf = false ∧ s.pwr.quiet = 0) ∧
    ((member 2).pair.state = 2 ∧ (0 + 20000) % 100000 ≠ 0 ∧ (member 2).stn.lastB = 0 ∧ (member 2).pwr.quiet = 0 ∧ (member 2).sent = []) ∧
    (let k := { (member 4).stk with role := 1, up := (member 4).stk.up.set 0 true }
     k.role = 1 ∧ k.up[(0 : Fin 3)] = true ∧ (80000 + 20000) % 100000 = 0) := by decide
/-- Heartbeats: a member, what it hears in each state, and a part of the set missed. -/
theorem witness_Heartbeats : (alive (member 1) = true ∧ (member 1).pair.member = true) ∧
    (pairSt 4 (fun p => { p with setMiss := some true })).pair.setMiss = some true ∧ (member 1).pair.setMiss = none ∧ (member 1).pair.state = 1 ∧
    (member 1).stn.pairIdPin = false ∧ (member 1).stn.refLoss = false ∧
    (BitVec.ofNat 3 ((0x7100 : Word).toNat / 256 % 8) : BitVec 3) = 1 ∧ (0x7100 : Word).getLsbD 12 = true ∧ (0x7100 : Word).getLsbD 13 = true ∧
    (BitVec.ofNat 3 ((0x400 : Word).toNat / 256 % 8) : BitVec 3) = 4 ∧ (0x400 : Word).getLsbD 12 = false ∧ (member 2).pair.state = 2 ∧
    (member 3).pair.state = 3 ∧ ((member 4).pair.state = 4 ∧ (member 4).pair.await = none) ∧ (member 5).pair.state = 5 ∧
    (member 6).pair.state ∈ [0, 6, 7] ∧ (pairSt 4 (fun p => { p with setMiss := some true })).pair.await = none := by decide
/-- InputSets: first and second misses in each role, each part of the set, and a held boundary that waits for one part or for two. -/
theorem witness_InputSets :
    (let s := pairSt 4 (fun p => { p with misses := 1, await := some (held0 1 none) })
     alive s = true ∧ s.pair.member = true ∧ s.pair.state = 4 ∧ s.pair.await = some (held0 1 none) ∧ (held0 1 none).t0 = none ∧
       1 ≤ (held0 1 none).slow ∧ s.pair.setMiss = none) ∧
    ((member 4).pair.misses = 0 ∧ (member 4).pair.await = none) ∧ 1 ≤ (pairSt 2 (fun p => { p with misses := 1 })).pair.misses ∧
    (held0 0 none).slow = 0 ∧ (held0 1 (some [])).t0 ≠ none ∧ (1 : BitVec 3) ∉ ([2, 4, 5] : List (BitVec 3)) := by decide
/-- PairRoles: lanes up and down, presence, an alignment, and the commands of PAIR.CTRL where each is taken. -/
theorem witness_PairRoles :
    (let s := pairSt 2 (fun p => { p with partner := 4, laneUp := p.laneUp.set 0 true, presence := true })
     alive s = true ∧ s.pair.member = true ∧ s.pair.laneUp[(0 : Fin 2)] = true ∧ s.pair.laneUp[(1 : Fin 2)] = false ∧ s.pair.presence = true ∧
       s.pair.state = 2 ∧ s.pair.partner = 4 ∧ s.pair.switchReq = false ∧ s.pwr.quiet.getLsbD 0 = false ∧ true ≠ s.stn.pairIdPin) ∧
    Windowed (pairSt 2 id) 0 0x3000C ∧ ((member 1).pair.heard = false ∧ (member 1).stn.refLoss = false) ∧
    ({ member 2 with img := run.img }).img.running ≠ none ∧
    ((pairSt 3 (fun p => { p with tookSilent := true })).pair.tookSilent = true) ∧ ({ up.stn with slewing := true, slewLeft := -50 }.slewing = true ∧ { up.stn with slewing := true, slewLeft := -50 }.slewLeft.natAbs ≤ 50) ∧
    (let s := { pairSt 4 (fun p => { p with cmpRun := [(97, 1, false)] }) with saf := { saf0 with si := saf0.si.set 1 { SiCh.unused with cfg := 1 } } }
     compared s (97 : Fin 112).val = true ∧ s.pair.state = 4 ∧ cmpDue s (97 : Fin 112).val = true) ∧
    (pairSt 2 (fun p => { p with switchReq := true })).pair.switchReq = true ∧ (member 6).pair.state = 6 :=
  ⟨by decide, windowed_of (up_windowed _ (by decide)) rfl rfl rfl, by decide, by decide, by decide, by decide, by decide, by decide, by decide⟩
/-- What a resynchronisation hands over, for the running image. -/
def sync0 : SyncSet :=
  { stn := Stn.reset, vars := [], le := State.reset.le, lp := LoopBlk.reset, qp := QpBlk.reset, ang := AngBlk.reset, fld := FldBlk.reset
    saf := SafBlk.reset, can := CanBlk.reset, tx := Vector.replicate 64 none, rx := Vector.replicate 128 none, evr := Evr.reset, image := [], sw := none, passes := 1 }
/-- DigestsAndSync: both roles, two missed transfers, a check, and a stream for the running image and for another. -/
theorem witness_DigestsAndSync :
    (alive (member 4) = true ∧ (member 4).pair.member = true ∧ (member 4).pair.state = 4 ∧ (member 4).pair.missedDig < 2) ∧
    2 ≤ (pairSt 4 (fun p => { p with missedDig := 2 })).pair.missedDig ∧
    (let s := pairSt 2 (fun p => { p with missedDig := 2 }); s.pair.state = 2 ∧ 2 ≤ s.pair.missedDig) ∧
    (pairSt 2 (fun p => { p with check := some (.digest 1) })).pair.check = some (.digest 1) ∧
    (let s := { member 5 with img := run.img }
     s.pair.state = 5 ∧ s.stn.aligned = true ∧ s.stn.lastB % 100000000 = 0 ∧ sync0.stn.lastB % 100000000 = 0 ∧ s.img.running.map imageId = some (imageId sync0.image)) ∧
    (member 5).img.running.map imageId ≠ some (imageId sync0.image) := by decide

/-- A member of a stack with this role, ports UP and DOWN_A up. -/
def stacked (role : BitVec 3) (f : StkBlk → StkBlk) : State :=
  { up with stk := f { StkBlk.reset with
      member := true, pairNum := 1, role := role, up := (Vector.replicate 3 true).set 2 false, members := 3
      xfers := [{ kind := 1, tier := 1, src := 0, dst := 1, bank := 0, loss := 2, words := [(0, 0x80000000)] }] } }
/-- StackPackets: a transfer for this pair, not taken before and taken; a port before its third bad packet; each role a packet tells apart;
barriers that are full and not; a snapshot past and to come; a station in a warm reset. -/
theorem witness_StackPackets :
    (let s := stacked 1 (fun k => { k with asked := true })
     transomUp s = true ∧ s.stk.up[(0 : Fin 3)] = true ∧ s.stk.up[(2 : Fin 3)] = false ∧ alive s = true ∧ s.pair.state ≠ 4 ∧ s.stk.role = 1 ∧
       s.stk.member = true ∧ (∃ x, s.stk.xfers[0]? = some x ∧ x.dst = s.stk.pairNum.toNat ∧ s.stk.inStack = true ∧ s.stk.mismatch = false) ∧
       (∀ r ∈ s.stk.rx, r.1 ≠ 0) ∧ (s.stn.time + s.stk.ofs).toNat ≤ (1 : BitVec 64).toNat ∧ s.stk.asked = true ∧ s.stk.ports[(0 : Fin 3)].run < 2) ∧
    (∃ r ∈ (stacked 1 (fun k => { k with rx := [(0, 0, [])] })).stk.rx, r.1 = 0 ∧ r.2.1 = 0) ∧
    2 ≤ (stacked 1 (fun k => { k with ports := k.ports.set 0 { PortCnt.zero with run := 2 } })).stk.ports[(0 : Fin 3)].run ∧
    (let s := stacked 2 (fun k => { k with ofs := 5 })
     let full := fun (c : Collect) => c.bits &&& s.stk.members = s.stk.members
     s.stk.role = 2 ∧ (1 : BitVec 64).toNat < (s.stn.time + s.stk.ofs).toNat ∧
       (∀ c ∈ arrive [{ id := 4, bits := 2, t0 := 0 }] 4 (1#32 <<< 0) 0, full c ↔ c.id = 4) ∧ (∀ c ∈ arrive [] 4 (1#32 <<< 0) 0, ¬ full c) ∧
       s.evr.queue.length < 128) ∧ ((member 2).pair.member = true ∧ (member 2).pair.lanes[0].bad = 0 ∧ (member 2).pair.lanes[1].bad = 0) ∧
    (let s := { stacked 1 id with pwr := { (stacked 1 id).pwr with power := .warm } }
     transomUp s = true ∧ alive s = false) :=
  ⟨⟨by decide, by decide, by decide, by decide, by decide, by decide, by decide, ⟨_, rfl, by decide, by decide, by decide⟩, by decide, by decide,
    by decide, by decide⟩, by decide, by decide, by decide, by decide, by decide⟩
/-- StackCommands: ports up and down, a remote output without its commands, a barrier that collects, a snapshot that waits, and what a session
may ask as a master and not. -/
theorem witness_StackCommands :
    (let s := stacked 1 (fun k => { k with miss := [(0, 2)], snapState := 1 })
     alive s = true ∧ transomUp s = true ∧ s.stk.up[(0 : Fin 3)] = true ∧ s.stk.up[(2 : Fin 3)] = false ∧ remLoss s (0 : Fin 96).val = some 2 ∧
       2 ≤ (aget s.stk.miss (0 : Fin 96).val).getD 0 ∧ (0 : Fin 96).val ∉ s.stk.remSafe ∧ s.stk.snapState = 1 ∧ s.pair.await = none ∧
       (s.stk.snapT.toNat : Int) ≤ ((s.stn.time + s.stk.ofs).toNat : Int) - s.stn.tierRef.toNat + s.stn.lastB + 50 ∧
       s.stk.role = 1 ∧ s.stk.pairNum ≠ 0 ∧ s.pair.state ∈ ([0, 2, 3] : List (BitVec 3)) ∧ s.stk.barState ≠ 1) ∧
    Windowed (stacked 2 id) 0 0x4001C ∧ (stacked 2 (fun k => { k with cols := [{ id := 4, bits := 2, t0 := 0 }] })).stk.cols.head?.isSome = true ∧
    (stacked 2 id).stk.role = 2 ∧ (stacked 1 (fun k => { k with barState := 1 })).stk.barState = 1 ∧ (stacked 0 id).stk.role = 0 ∧
    (let s := stacked 1 (fun k => { k with up := Vector.replicate 3 false })
     (reachable s).getLsbD ((s.stk.pairNum.toNat - 1) / 2) = false ∧ upPorts (stacked 1 id) [0] ++ sashOut (stacked 1 id) ≠ []) :=
  ⟨by decide, windowed_of (up_windowed _ (by decide)) rfl rfl rfl, by decide, by decide, by decide, by decide, by decide⟩
/-- The pairs 0 and 1 hang together, pair 5 does not without pair 2 (R277). -/
theorem test_treeReach : treeReach 1 0x21 = 0x3 ∧ treeReach 5 0x27 = 0x27 ∧ stackDepth 0x27 = 2 ∧ routePort 0 5 = 2 ∧ routePort 1 0 = 0 := by decide

/-! The fabric, CAN, the plant network -/

/-- A placed packet from LOG to MRAM. -/
def pkt0 : PlPkt :=
  { port := 1, via := [], tgt := .mram, soon := false, srcBlk := 11, srcStn := 127, dstBlk := 15, dst := 127, words := 16, age0 := 0, issued := 0
    deadline := 1000000000, kib := 0, release := none, sat := false }
/-- A packet from LOG that has its crossbar-to-fabric port before it and wants a buffer, and one that frees it. -/
def pkt1 : PlPkt := { pkt0 with via := [.xport 1], soon := true, kib := 64 }
/-- The packet that frees it. -/
def pkt2 : PlPkt := { pkt0 with release := some 0 }
/-- Fabric: packets ready for their grant at their target and before it, none, ones outstanding with and without a buffer to free, one
that its port keeps back, one whose AGE is at its limit, a request that waits at the solver intake with such an AGE. -/
theorem witness_Fabric :
    (let s := { up with fab := { FabBlk.reset with
       wait := [pkt0, pkt1], out := [pkt0], queue := [pkt0], bufs := [{ num := 0, kib := 64, inSram := true }] } }
     alive s = true ∧ plOldest (plBegin s []) .mram = some pkt0 ∧ plReady s pkt0 = true ∧ pkt0.via = [] ∧
       plOldest (plBegin s []) (.xport 1) = some pkt1 ∧ plReady s pkt1 = true ∧ pkt1.via ≠ [] ∧
       s.fab.out.find? (fun p => p.port == 1 && p.tgt == .mram) = some pkt0 ∧
       s.fab.bufs.find? (fun b => b.num == 0) = some { num := 0, kib := 64, inSram := true } ∧ pkt2.release = some 0 ∧
       s.fab.queue = pkt0 :: [] ∧ plOutstanding s 1 .mram ≤ 16) ∧
    plOldest (plBegin up []) .mram = none ∧ plAge (8 * 0x7FFFFF) pkt0 = 0x7FFFFF ∧ pkt0.sat = false ∧
    reqAge { up with stn := { up.stn with tierRef := 8 * 0x7FFFFF } } tmpl0 preq0 = 0x7FFFFF ∧ preq0.sat = false ∧ Opened up 0 :=
  ⟨by decide, by decide, by decide, by decide, by decide, by decide, by decide, by decide⟩
/-- A receive object for identifiers 0x100 with 2 bytes, and a transmit object. -/
def rxObj : CanObj := { (default : CanObj) with idx := 3, id := 0x100, mask := 0x7FF, len := 2 }
/-- The transmit object. -/
def txObj : CanObj := { (default : CanObj) with idx := 128, id := 0x200, kind := 2, oneShot := true }
/-- A frame with identifier 0x100 and these bytes. -/
def frame0 (l : List Byte) : CanFrame := { (default : CanFrame) with id := 0x100, dlc := BitVec.ofNat 4 l.length, data := l }
/-- The station with controller 0 as `c`. -/
def withCan (c : CanCtl) : State := { up with stn := { up.stn with tierRef := 2000 }, can := { ctl := CanBlk.reset.ctl.set 0 c } }
/-- A controller that is active, with those objects and a request. -/
def can0 : CanCtl := { CanCtl.reset with cfg := 1, state := 2, objs := [rxObj, txObj], reqs := [{ obj := 128, data := [], since := 0 }] }
/-- A controller bound to T1 with a matrix of one exclusive window. -/
def canTt : CanCtl :=
  { can0 with
    cfg := 0x15, ttSync := true, refId := 0x100, wins := [{ cycle := 0, kind := 1, start := 0, len := 1, obj := 3 }, { cycle := 0, kind := 1, start := 1, len := 1, obj := 128 }]
    win := some 0 }
/-- CanTraffic: frames that an object takes at its length and just below, frames that none takes, the FIFO full and not, a frame that may be
sent, the time master's part, and windows. -/
theorem witness_CanTraffic :
    (let c := (withCan can0).can.ctl[(0 : Fin 8)]
     alive (withCan can0) = true ∧ (withCan can0).pwr.quiet.getLsbD 1 = false ∧ c.state = 2 ∧ (frame0 [1, 2]).data.length ≤ 8 ∧ (frame0 [1]).data.length < rxObj.len ∧
       c.objs.find? (fun o => o.selects (frame0 [1, 2])) = some rxObj ∧ rxObj.len ≤ (frame0 [1, 2]).data.length ∧
       c.objs.find? (fun o => o.selects { frame0 [1] with id := 0x101 }) = none ∧ c.cfg.getLsbD 10 = false ∧
       c.maySend (128 + (0 : Fin 64).val) (withCan can0).stn.tierRef.toNat = true ∧ c.obj? (128 + (0 : Fin 64).val) = some txObj ∧ c.once txObj = true) ∧
    ((withCan { can0 with cfg := 0x403, state := 3 }).can.ctl[(0 : Fin 8)].cfg.getLsbD 10 = true ∧ (0x403 : Word).getLsbD 1 = true) ∧
    (let c := (withCan canTt).can.ctl[(0 : Fin 8)]
     c.tt = 1 ∧ c.bound = true ∧ c.demoted = false ∧ (0 : Fin 64).val < c.nbc ∧ c.ttMaster = false ∧ c.isRef (frame0 [0x3F]) = true ∧
       ((frame0 [0x3F]).data.getD 0 0).getLsbD 7 = false ∧ c.ttSync = true ∧ 1 < c.wins.length ∧ c.win = some 0 ∧
       c.wins[0]? = some { cycle := 0, kind := 1, start := 0, len := 1, obj := 3 } ∧ c.winHit = false ∧
       c.wins[1]? = some { cycle := 0, kind := 1, start := 1, len := 1, obj := 128 }) := by decide
/-- CanControl: errors at the limits of the counters, bus-off, recovery, SLEEP and what wakes it, and requests taken and refused. -/
theorem witness_CanControl :
    (let c := (withCan { can0 with tec := 127, recv := 127 }).can.ctl[(0 : Fin 8)]
     c.state = 2 ∧ c.tec.toNat ≤ 127 ∧ c.recv.toNat ≤ 127 ∧ 127 < c.tec.toNat + 8 ∧ 127 < c.recv.toNat + 1) ∧
    255 < (withCan { can0 with tec := 248 }).can.ctl[(0 : Fin 8)].tec.toNat + 8 ∧ (withCan { can0 with state := 6 }).can.ctl[(0 : Fin 8)].state = 6 ∧
    ((withCan canTt).can.ctl[(0 : Fin 8)].ttSync = true ∧ (withCan canTt).can.ctl[(0 : Fin 8)].ttMaster = false) ∧
    (let c := (withCan { can0 with state := 4, wakeCfg := 2, wakeId := 0x100, wakeIdm := 0x7FF, wakeDm := 1 }).can.ctl[(0 : Fin 8)]
     c.state = 4 ∧ c.wakeKind = 2 ∧ c.wakes (frame0 [1]) = true) ∧ { can0 with wakeCfg := 1 }.wakeKind = 1 ∧
    Windowed (withCan can0) 0 (0xE001C + 0x1000 * (0 : Fin 8).val) ∧ (withCan can0).pair.state ≠ 4 ∧ can0.bound = false ∧ canTt.bound = true :=
  ⟨by decide, by decide, by decide, by decide, by decide, by decide, windowed_of (up_windowed _ (by decide)) rfl rfl rfl, by decide, by decide,
    by decide⟩
/-- A receive telegram of one word, with SEQ 5 decided. -/
def rx0 (last : Option Word) (held : List HeldSeq) : RxTel :=
  { telId := 1, kind := 0, tier := 1, src := 2, len := 1, cmpNs := 0, wdg := 1, binds := [], held := held, degraded := false, diff := false
    wdgExp := false, discarded := false, left := 1, fresh := false, last := last, ones := [(4, false, default)], lateDiff := false, enter := none
    missA := 0, missB := 0, errA := 0, errB := 0, late := 0, gap := 0, diffCnt := 0, expCnt := 0 }
/-- A transmit telegram with a value to send. -/
def tx0 : TxTel := { (default : TxTel) with telId := 1, due := some [] }
/-- The station with those telegrams. -/
def withNet (x : RxTel) : State :=
  { run with net := { run.net with
      tx := run.net.tx.set 0 (some tx0), rx := run.net.rx.set 0 (some x), ports := Vector.replicate 3 { NetPort.reset with link := true } } }
/-- A copy of it with this SEQ. -/
def copyOf (seq : Word) : TelCopy :=
  { ver := 1, kind := 0, telId := 1, src := 2, dst := 4095, seq := seq, len := 1, rsv := 0, words := [{ val := 0, tag := tagOf 0 }] }
/-- The same copy on leaf A, broadcast, its CRC off by `x`. -/
def frameOf (seq x : Word) : TelFrame :=
  { (default : TelFrame) with mac := BitVec.allOnes 48, etype := 0x88B5, tel := copyOf seq, crc := telCrc (copyOf seq) 0 ^^^ x }
/-- A CRC may be right or wrong. -/
theorem frameOf_crc : (frameOf 6 0).crc = telCrc (frameOf 6 0).tel (frameOf 6 0).leaf ∧ (frameOf 6 1).crc ≠ telCrc (frameOf 6 1).tel (frameOf 6 1).leaf := by
  constructor
  · exact BitVec.xor_zero
  · intro h
    have h' : telCrc (copyOf 6) 0 ^^^ 1#32 = telCrc (copyOf 6) 0 := h
    have : (1#32 : Word) = 0 := by
      have := congrArg (telCrc (copyOf 6) 0 ^^^ ·) h'
      simpa [← BitVec.xor_assoc] using this
    exact absurd this (by decide)
/-- A held SEQ. -/
def held1 (seq : Word) : HeldSeq := { seq := seq, a := none, b := none, at_ := 0 }
/-- Telegrams: one that is due, copies that fit and not, of an SEQ before, of a held one, of the next one and of one past a gap, and a
watchdog at its last tick. -/
theorem witness_Telegrams :
    (let s := withNet (rx0 (some 5) [])
     alive s = true ∧ s.pwr.quiet.getLsbD 0 = false ∧ s.net.tx[(0 : Fin 64)] = some tx0 ∧ tx0.due = some [] ∧ s.pwr.pf = false ∧
       portUp s 0 = true ∧ portUp s 1 = true ∧ telFor s (copyOf 6) = some 0 ∧ telFor s { copyOf 6 with telId := 2 } = none ∧
       s.net.rx[(0 : Fin 128)] = some (rx0 (some 5) []) ∧ (copyOf 6).len.toNat = (rx0 (some 5) []).len ∧ (frameOf 6 0).mac = BitVec.allOnes 48 ∧ (frameOf 6 0).etype = s.net.etype ∧ (copyOf 6).dst.toNat = 4095 ∧
       (rx0 (some 5) []).ones.find? (fun o => o.1 == (copyOf 4).seq && o.2.1 != true) = some (4, false, default) ∧
       (rx0 (some 5) []).ones.find? (fun o => o.1 == (copyOf 6).seq && o.2.1 != true) = none ∧
       ((copyOf 6).seq - 5).toNat = 1 ∧ ((copyOf 0x80000004).seq - 5).toNat = 2 ^ 31 - 1 ∧ ¬ 1 ≤ ((copyOf 5).seq - 5).toNat ∧
       (rx0 (some 5) []).left = 1 ∧ telWillAccept (rx0 (some 5) []) s.stn.time.toNat = false) ∧
    (∃ h ∈ (rx0 none [held1 6]).held, h.seq = (copyOf 6).seq) ∧ (rx0 (some 5) [held1 6]).held = [] ++ [held1 6] ∧
    (∀ y ∈ (rx0 (some 5) [held1 6]).held, y.seq ≠ (copyOf 7).seq) ∧ 1 ≤ ((copyOf 7).seq - 6).toNat := by decide
/-- NetPorts: a port with and without room, with nine and with ten echoes in the second, a link that changes. -/
theorem witness_NetPorts :
    (alive run = true ∧ run.pwr.quiet.getLsbD 0 = false ∧ portUp run 2 = true ∧ run.net.ports[(2 : Fin 3)].queue.length < 64 ∧
      run.net.ports[(2 : Fin 3)].link ≠ false ∧ frameFits run 2 .arp = true ∧ 1522 < 1523 ∧ Opened run 0) ∧
    (let n := { NetPort.reset with queue := List.replicate 64 .arp, echoes := List.replicate 10 1 }
     ¬ n.queue.length < 64 ∧ n.queue = .arp :: List.replicate 63 .arp ∧ 10 ≤ (n.echoes.filter (fun t => 0 < t.toNat + 1000000000)).length) :=
  ⟨⟨by decide, by decide, by decide, by decide, by decide, by decide, by decide, by decide, by decide⟩, by decide⟩

/-! Power, resets, registers -/

/-- What a start finds with feed A at `mv`. -/
def power0 (mv : Nat) : PowerIn :=
  { feedA := mv, feedB := 0, lp := Vector.replicate 8 24000, sl := 24000, stackRoot := false, pairId := false, prof := 0, wake := 0, permit := false }
/-- The station with PWR as `f` leaves it. -/
def pwrSt (f : PwrBlk → PwrBlk) : State := { run with pwr := f run.pwr }
/-- PowerStates: a start at the least feed, a power fail, its flush and the recovery at the least feed. -/
theorem witness_PowerStates :
    (State.reset.pwr.power = .held ∧ 17000 ≤ (power0 17000).feedA ∧ SlotsGood State.reset) ∧
    (let s := pwrSt (fun p => { p with feedA := 0, feedB := 0 })
     s.pwr.power = .run ∧ s.pwr.feedA = 0 ∧ s.pwr.feedB = 0 ∧ s.pwr.pf = false) ∧ (pwrSt (fun p => { p with power := .sleep })).pwr.power = .sleep ∧
    ((pwrSt (fun p => { p with pf := true })).pwr.pf = true ∧ (pwrSt (fun p => { p with pf := true })).pwr.pfDone = false) ∧
    (let s := pwrSt (fun p => { p with power := .warm, pf := true, pfDone := true, aV := 1700 })
     s.pwr.power = .warm ∧ s.pwr.pf = true ∧ s.pwr.pfDone = true ∧ s.stn.refOk = true ∧ s.stn.pllLock = true ∧ 1700 ≤ s.pwr.aV.toNat) :=
  ⟨⟨rfl, by decide, fun x h => absurd h List.not_mem_nil⟩, by decide, by decide, by decide, by decide⟩
/-- Resets: a station at work, in a warm reset with its clock and without it. -/
theorem witness_Resets : alive run = true ∧ run.pwr.pf = false ∧ (pwrSt (fun p => { p with pf := true })).pwr.pf = true ∧ Windowed run 0 0x50010 ∧ (member 2).pair.member = true ∧
    (let s := { pwrSt (fun p => { p with power := .warm }) with stn := { run.stn with refOk := true, pllLock := true } }
     s.pwr.power = .warm ∧ s.pwr.pf = false ∧ s.stn.refOk = true ∧ s.stn.pllLock = true) ∧ ({ run with stn := { run.stn with refOk := false } } : State).stn.refOk = false :=
  ⟨by decide, rfl, rfl, run_windowed _ (by decide), rfl, by decide, by decide⟩
/-- Sleep: votes that end in a refusal and in agreement, slots 7 and 14, restoring, and waking by a pin and by NRESET. -/
theorem witness_Sleep :
    (let s := pwrSt (fun p => { p with entry := .voting })
     alive s = true ∧ s.pwr.entry = .voting ∧ sleepRefusal s 10 = some 1 ∧ ∀ a < 10, sleepRefusal s a = none) ∧
    (let s := { up with pwr := { up.pwr with entry := .voting } }
     s.pwr.entry = .voting ∧ ∀ b < 17, sleepRefusal s b = none) ∧
    (let slot := fun (i : Nat) => { up with pwr := { up.pwr with entry := .slots i } }
     let refusal := fun (s : State) (i : Nat) => sleepRefusal (passTo s (s.pwr.bs + 50000 * i)) (slotBlock i)
     (slot 7).pwr.entry = .slots 7 ∧ refusal (slot 7) 7 = none ∧ refusal (slot 14) 14 = none ∧
     refusal { run with pwr := { run.pwr with entry := .slots 13 } } 13 = some 1) ∧
    (pwrSt (fun p => { p with entry := .restore 8 })).pwr.entry = .restore 8 ∧
    wakeValid (pwrSt (fun p => { p with power := .sleep })) 0 0 true = true := by decide
/-- RegisterAccess: every requester may read, and addresses at the ends of the variable area and of each register named. -/
theorem witness_RegisterAccess : (∀ r : Fin 21, r.val = 0 ∨ r.val = 1 → canRead up r = true) ∧ Opened up 0 ∧
    (0x17FFFF8 : Word).toNat % 8 = 0 ∧ 0x1000000 ≤ (0x17FFFF8 : Word).toNat ∧ (0x17FFFF8 : Word).toNat < 0x1800000 ∧
    isKey (0x308 : Word).toNat = true ∧ isRwk (0x304 : Word).toNat = true ∧ Windowed up 0 0x308 ∧
    (∀ q ∈ ({ up with windows := [(1, 0x308)] } : State).windows, q.1 = (0 : Fin 4).val → blockKey 0x304 ≠ some q.2) ∧
    (0x10001C + 0x10000 * (15 : Fin 16).val) = (0x1F001C : Word).toNat :=
  ⟨by decide, ⟨by decide, by decide⟩, by decide, by decide, by decide, by decide, by decide, up_windowed _ (by decide), by decide, by decide⟩
/-- CommandsComplete: its conditions, but for those that the witnesses of the families show: a DATA write that is taken, requests of each kind
by a session of role ADMIN, a reading that is compared, a station of a stack that is not its master. Which images pass the checks turns on
`Config`'s loads of the links, so no closed state is known to. -/
theorem witness_CommandsComplete :
    (dataReason run (4 : BitVec 20).toNat false = 0 ∧ sess0.role = 3 ∧ opUnknown 0xFF = true) ∧
    (∀ op pl, (op, pl) ∈ [((0x10 : Byte), ([0, 1, 0, 0, 1, 0] : List Byte)), (0x11, [0x10, 2, 0, 0, 1, 0, 0, 0, 1, 0, 0, 0]),
      (0x12, [8, 3, 0, 0, 1, 0, 0, 0, 0x0C, 3, 0, 0, 1, 0, 0, 0]), (0x30, [0, 0, 0, 0]), (0x20, [4, 0, 0, 0, 0, 0, 0, 1]), (0x21, [0, 0, 0, 0, 1, 0, 0, 0, 9]),
      (0x22, []), (0x40, [2, 0, 1, 0, 0xFF, 0xFF, 0, 0]), (0x42, []), (0x44, [7, 16, 0, 0]), (0x50, [1, 3, 0, 0] ++ List.replicate 32 0)] →
      Requested run op (req op pl) 0 sess0) ∧
    (rd [0x10, 2, 0, 0] 0 4 = 0x210 ∧ rd [0x0C, 3, 0, 0] 0 4 = 0x30C ∧ rd [0, 0, 0, 1] 0 4 = 0x1000000 ∧ rd [0xFF, 0xFF, 0, 0] 0 4 = 65535) ∧
    (let s := { pairSt 2 id with saf := { saf0 with si := saf0.si.set 15 { SiCh.unused with cfg := 1 } } }
     compared s (111 : Fin 112).val = true ∧ s.pair.state = 2 ∧ s.pair.member = true) ∧
    ((stacked 1 id).stk.role = 1 ∧ (stacked 1 id).stk.barState ≠ 1 ∧ (stacked 1 id).pair.state = 0) ∧
    ((member 3).pair.misses = 0 ∧ (member 3).pair.state = 3 ∧ (2 : BitVec 10) ≠ 0) := by
  refine ⟨by decide, fun op pl h => requested _ _ ?_, by decide, by decide, by decide, by decide⟩
  simp only [List.mem_cons, Prod.mk.injEq, List.not_mem_nil, or_false] at h
  iterate 10
    obtain ⟨-, rfl⟩ | h := h
    · decide
  obtain ⟨-, rfl⟩ := h
  decide

end Sys2Proof.Tests
end

section
/-! Keyed windows: what a refused write leaves, and what the key sequence does (R9, R10). -/

namespace Sys2Proof.Machine
open Sys2Proof

theorem windowOpen_freshCycle (s : State) (sess a : Nat) : windowOpen (freshCycle s) sess a = windowOpen s sess a := by
  simp [windowOpen]

theorem windowOpen_eq_false {s : State} {sess a : Nat} (h : ∀ w ∈ s.windows, w.1 = sess → blockKey a ≠ some w.2) :
    windowOpen s sess a = false := by
  unfold windowOpen
  cases hk : blockKey a with
  | none => rfl
  | some k =>
    have hn : (sess, k) ∉ s.windows := fun hm => h _ hm rfl hk
    simpa using hn

theorem windowOpen_of_mem {s : State} {sess a k : Nat} (h : (sess, k) ∈ s.windows) (hk : blockKey a = some k) :
    windowOpen s sess a = true := by
  simp [windowOpen, hk, h]

theorem keyed_of_closed {s : State} {sess a : Nat} (h : windowOpen s sess a = false) (f : State → State) :
    keyed s sess a f = keyRefused s sess a := by
  simp [keyed, h]

/-- The refusal of R10 as a command: nothing changes, the event is raised and the entry names the address. -/
theorem does_keyRefused {c : Instr} {s : State} {sess : Fin 4} {a : Nat}
    (hx : exec c s = .next { settle (keyRefused (freshCycle s) sess.val a) with pending := s.pending }) :
    Does c s [] (fun t => (Settled s → Raised t 509) ∧ Noted s t 0x5000 sess.val 1 (leN 4 a)) := by
  refine does_of (f := fun u => keyRefused u sess.val a) hx (fun b _ => ?_) ⟨?_, ?_⟩
  · exact (same_logEntry ..).trans (same_raise ..)
  · exact raised_of (by decide) fun hs => (NowRaised.of_settled hs).freshCycle.congr rfl
  · exact noted_raise (f := fun u => keyRefused u sess.val a) (by decide) (by omega) (by decide) fun _ => ⟨s, rfl, rfl⟩

/-- Each command that writes a register with RWK fields is a keyed command at the register's address. -/
theorem exec_keyedWrite {q : Fin 4} {c : Instr} {a : Nat} (h : KeyedWrite q c a) (s : State) :
    ∃ f, exec c s = keyedCmd s q a f := by
  have at_ : ∀ {b : Nat} {f : State → State}, exec c s = keyedCmd s q b f → b = a → ∃ f, exec c s = keyedCmd s q a f :=
    fun hx hb => ⟨_, hb ▸ hx⟩
  cases h
  case breakpointSet | step | resume | freeze | leClrStat | engineRestart => exact at_ rfl (by unfold leAddr; omega)
  case loopRestart | loopClrCnt => exact at_ rfl (by unfold loopCtrlAddr lpAddr; omega)
  case coldReq | slotClrCnt => exact at_ rfl (by unfold slotAddr; omega)
  case boffRec | canSleepReq | wakeReq | canClrCnt => exact at_ rfl (by unfold canCtrlAddr; omega)
  case resync | evtCtrlWrite => exact at_ rfl (by omega)
  all_goals exact ⟨_, rfl⟩

/-- A keyed command outside its window is refused. -/
theorem keyedCmd_of_closed {s : State} {sess : Fin 4} {a : Nat} (ho : Opened s sess)
    (h : ∀ w ∈ s.windows, w.1 = sess.val → blockKey a ≠ some w.2) (f : State → State) :
    keyedCmd s sess a f = .next { settle (keyRefused (freshCycle s) sess.val a) with pending := s.pending } := by
  have hw : windowOpen (freshCycle s) sess.val a = false := by rw [windowOpen_freshCycle]; exact windowOpen_eq_false h
  unfold keyedCmd
  rw [guarded_true (by simp [ho.1, ho.2]), keyed_of_closed hw]

theorem fld_zero_eq_iff (v : Word) (n : Nat) (c : Nat) (hc : c < 2 ^ n) : fld v 0 n = c ↔ v.truncate n = BitVec.ofNat n c := by
  rw [← BitVec.toNat_inj]
  simp [fld, Nat.mod_eq_of_lt hc]

theorem Block.same_windows (s : State) (w : List (Nat × Nat)) {b : Block} (h : b ≠ .windows) : b.Same s { s with windows := w } := by
  cases b <;> first | rfl | exact fun _ => rfl | exact absurd rfl h

/-- A write of a KEY register touches the windows and the armed sequences alone. -/
theorem keyWrite_eq (s : State) (sess a : Nat) (v : Word) :
    keyWrite s sess a v = { s with windows := (keyWrite s sess a v).windows, armed := (keyWrite s sess a v).armed } := by
  unfold keyWrite; dsimp only; split
  · rfl
  · split <;> rfl

theorem same_keyWrite (s : State) (sess a : Nat) (v : Word) {b : Block} (h : b ∉ [Block.windows, .armed]) :
    b.Same s (keyWrite s sess a v) := by
  rw [keyWrite_eq]
  cases b <;> first | rfl | exact fun _ => rfl | exact absurd (by decide) h

/-- The windows after a write of the KEY register at `a`: that of the writer stays open under the first value of the sequence, opens
with the second where the first armed it, and is closed otherwise; no other changes (R9). -/
theorem mem_keyWrite_windows (s : State) (sess a : Nat) (v : Word) (w : Nat × Nat) :
    w ∈ (keyWrite s sess a v).windows ↔
      if w = (sess, a) then (v.truncate 16 = 0x4B52#16 ∧ w ∈ s.windows) ∨ (v.truncate 16 = 0xB4AD#16 ∧ w ∈ s.armed)
      else w ∈ s.windows := by
  unfold keyWrite
  simp only [fld_zero_eq_iff v 16 _ (show 0x4B52 < 2 ^ 16 by decide), fld_zero_eq_iff v 16 _ (show 0xB4AD < 2 ^ 16 by decide)]
  by_cases h1 : v.truncate 16 = 0x4B52#16
  · simp [h1]
  · by_cases h2 : v.truncate 16 = 0xB4AD#16 ∧ (sess, a) ∈ s.armed
    · obtain ⟨hv, ha⟩ := h2
      by_cases hw : w = (sess, a)
      · subst hw; by_cases hs : (sess, a) ∈ s.windows <;> simp [hv, ha, hs]
      · by_cases hs : (sess, a) ∈ s.windows <;> simp [hv, ha, hs, hw]
    · by_cases hw : w = (sess, a)
      · subst hw; simp [h1, h2]
      · simp [h1, h2, hw]

/-- The armed sequences after a write of the KEY register at `a` (R9). -/
theorem mem_keyWrite_armed (s : State) (sess a : Nat) (v : Word) (w : Nat × Nat) :
    w ∈ (keyWrite s sess a v).armed ↔ if w = (sess, a) then v.truncate 16 = 0x4B52#16 else w ∈ s.armed := by
  unfold keyWrite
  simp only [fld_zero_eq_iff v 16 _ (show 0x4B52 < 2 ^ 16 by decide), fld_zero_eq_iff v 16 _ (show 0xB4AD < 2 ^ 16 by decide)]
  by_cases h1 : v.truncate 16 = 0x4B52#16
  · by_cases hw : w = (sess, a)
    · subst hw; by_cases hs : (sess, a) ∈ s.armed <;> simp [h1, hs]
    · by_cases hs : (sess, a) ∈ s.armed <;> simp [h1, hs, hw]
  · by_cases h2 : v.truncate 16 = 0xB4AD#16 ∧ (sess, a) ∈ s.armed <;> by_cases hw : w = (sess, a) <;> simp [h1, h2, hw]

/-- A write of a KEY register as a command. -/
theorem exec_keyWrite {s : State} {sess : Fin 4} {a : Word} (ho : Opened s sess) (hk : isKey a.toNat = true) (v : Word) :
    exec (.keyWrite sess a v) s =
      .next { settle (keyWrite (freshCycle s) sess.val a.toNat v) with pending := s.pending } :=
  guarded_true (by simp [ho.1, ho.2, hk]) (fun s => keyWrite s sess.val a.toNat v)

/-- The end of a window as a command. -/
theorem exec_keyedWindowClose {s : State} {sess : Fin 4} {a : Word} (ha : alive s = true) (hw : (sess.val, a.toNat) ∈ s.windows) :
    exec (.keyedWindowClose sess a) s = .next { settle { freshCycle s with
      windows := (freshCycle s).windows.filter (· ≠ (sess.val, a.toNat)) } with pending := s.pending } :=
  guarded_true (by simp [ha, hw]) (fun s => { s with windows := s.windows.filter (· ≠ (sess.val, a.toNat)) })

end Sys2Proof.Machine

open Sys2Proof Sys2Proof.Machine

/-- Settles O16: each such command is a keyed command at the register's address, and outside the window it is refused. -/
theorem keyedRefusal : Obligations.KeyedRefusal := by
  intro c s sess a hc ho hw
  obtain ⟨f, hx⟩ := exec_keyedWrite hc s
  exact does_keyRefused (hx.trans (keyedCmd_of_closed ho hw f))

/-- Settles O17: the membership of every window and armed sequence after a KEY write, and after the end of a window. -/
theorem keyedWindow : Obligations.KeyedWindow := by
  intro s sess a v ho hk k
  refine ⟨doesSilently_of (f := fun u => keyWrite u sess.val a.toNat v) (exec_keyWrite ho hk v) ?_ ?_ ⟨?_, ?_, ?_⟩, fun hw =>
    doesSilently_of (f := fun u => { u with windows := u.windows.filter (· ≠ (sess.val, a.toNat)) })
      (exec_keyedWindowClose ho.1 hw) ?_ ?_ ⟨?_, ?_⟩⟩
  · exact fun b hb => same_keyWrite _ _ _ _ hb
  · intro _
    rw [keyWrite_eq]
    exact ⟨rfl, rfl, rfl, fun _ => rfl⟩
  · intro w hw
    simp [mem_keyWrite_windows, mem_keyWrite_armed, show w ≠ (sess.val, a.toNat) from hw]
  · simp [mem_keyWrite_armed, k]
  · simp [mem_keyWrite_windows, k]
  · exact fun b hb => Block.same_windows _ _ (by simpa using hb)
  · exact fun _ => ⟨rfl, rfl, rfl, fun _ => rfl⟩
  · simp [k]
  · intro w hw
    simp [show w ≠ (sess.val, a.toNat) from hw]
end

section
/-! Reads that latch, and what a session's write of an aligned word is (R5–R10, R18, R41, R42). -/

namespace Sys2Proof.Machine
open Sys2Proof

/-! ### OP_MS over the next fabric cycle -/

@[simp] theorem startFlush_opms (g : LogBlk) (k : FlushKind) (n : Nat) : (startFlush g k n).opms = g.opms := by
  unfold startFlush; split <;> rfl

@[simp] theorem lgMake_opms (g : LogBlk) (b : Bool) (it : LogItem) (d : Bool) (p : List Byte) : (lgMake g b it d p).1.opms = g.opms := by
  unfold lgMake
  dsimp only
  split
  · split <;> split <;> simp
  · split
    · rfl
    · split <;> simp [lgDropped]

@[simp] theorem logDrain_opms (n : Nat) (b : Bool) (g : LogBlk) : (logDrain n b g).1.opms = g.opms := by
  induction n generalizing g with
  | zero => rfl
  | succ n ih =>
    unfold logDrain
    split
    · rfl
    · dsimp only
      rw [ih]
      split
      · rw [lgMake_opms]; rfl
      · rfl

@[simp] theorem freshCycle_opms (s : State) : (freshCycle s).log.opms = s.log.opms := by
  unfold freshCycle
  dsimp only
  split
  · obtain ⟨f, -, h⟩ := raise_log { s with log := (logDrain 4 (lgStandby s) s.log).1 } 488
    rw [h]; exact logDrain_opms 4 _ _
  · exact logDrain_opms 4 _ _

/-! ### Frames of one block -/

theorem Block.same_latch (s : State) (l : Vector Latch 21) {b : Block} (h : b ≠ .latch) : b.Same s { s with latch := l } := by
  cases b <;> first | rfl | exact fun _ => rfl | exact absurd rfl h

theorem Block.same_modStn (s : State) (f : Stn → Stn) {b : Block} (h : b ≠ .stn) : b.Same s (modStn s f) := by
  cases b <;> first | rfl | exact fun _ => rfl | exact absurd rfl h

theorem Block.same_le (s : State) (l : Vector Engine 17) {b : Block} (h : b ≠ .le) : b.Same s { s with le := l } := by
  cases b <;> first | rfl | exact absurd rfl h

theorem Block.same_evr (s : State) (v : Evr) (b : Block) : b.Same s { s with evr := v } := by
  cases b <;> first | rfl | exact fun _ => rfl

/-! ### Latched reads -/

theorem wN_high_half (n w : Nat) (x : BitVec w) (h : n = 32) : wN (x.toNat / 2 ^ n) = ((x >>> 32).toNat : Word) := by
  subst h
  simp [wN, BitVec.toNat_ushiftRight, Nat.shiftRight_eq_div_pow]

theorem regWord_timeHi (s : State) : regWord s 0x104 = ((s.stn.time >>> 32).toNat : Word) := wN_high_half 32 _ _ rfl
theorem regWord_stkHi (s : State) : regWord s 0x40018 = (((s.stn.time + s.stk.ofs) >>> 32).toNat : Word) := wN_high_half 32 _ _ rfl
theorem regWord_opmsHi (s : State) : regWord s 0x60020 = ((s.log.opms >>> 32).toNat : Word) := wN_high_half 32 _ _ rfl
theorem regWord_sleepHi (s : State) : regWord s 0x50024 = ((s.pwr.sleepCnt >>> 32).toNat : Word) := wN_high_half 32 _ _ rfl

/-- A read that latches for its requester `r` alone, as a command. -/
theorem doesSilently_latch {c : Instr} {s : State} {r : Fin 21} {f : State → Latch → Latch} {l : Latch}
    (hr : canRead s r = true) (hx : exec c s = guarded s (canRead s r) (fun u => modLatch u r (f u)))
    (hl : f (freshCycle s) s.latch[r] = l) : DoesSilently c s [.latch] (fun t => t.latch = s.latch.set r l) := by
  refine doesSilently_of (f := fun u => modLatch u r (f u)) (hx.trans (guarded_true hr _))
    (fun b hb => Block.same_latch _ _ (by simpa using hb)) (fun _ => ⟨rfl, rfl, rfl, fun _ => rfl⟩) ?_
  simp [modLatch, vmod, ← hl]

/-! ### Writes -/

/-- Where the KEY registers lie (R4). -/
theorem key_place {o : Nat} (h : isKey o = true) :
    o ∈ [0x308, 0x1001C, 0x20008, 0x3000C, 0x4001C, 0x50010, 0x60028, 0xA001C, 0xB0004, 0xF002C] ∨
    (o / 0x10000 = 8 ∧ o % 0x2000 = 0x1C) ∨ (o / 0x10000 = 0xC ∧ o % 0x800 = 0x10) ∨ (o / 0x10000 = 0xD ∧ o % 0x2000 = 0x14) ∨
    (o / 0x10000 = 0xE ∧ o % 0x1000 = 0x1C) ∨ (0x10 ≤ o / 0x10000 ∧ o / 0x10000 < 0x20 ∧ o % 0x10000 = 0x2C) := by
  rw [isKey, beq_iff_eq] at h
  simp only [List.mem_cons, List.not_mem_nil, or_false]
  unfold blockKey at h
  iterate 19
    rw [ite_eq_iff] at h
    obtain ⟨hb, h⟩ | ⟨hb, h⟩ := h
    · simp only [Option.some.injEq, reduceCtorEq] at h <;> omega
  cases h

theorem isRwk_le_block {o k : Nat} (hk : o / 0x10000 = k) (h1 : 0x10 ≤ k) :
    isRwk o = (decide (k < 0x20) && (o % 0x10000 == 0x18 || o % 0x10000 == 0x1C || o % 0x10000 == 0x28)) := by
  unfold isRwk
  dsimp only
  rw [hk]
  split <;> first | omega | simp [h1]

/-- No register with RWK fields is a KEY register. -/
theorem isRwk_of_isKey {o : Nat} (h : isKey o = true) : isRwk o = false := by
  rcases key_place h with h | ⟨hb, ho⟩ | ⟨hb, ho⟩ | ⟨hb, ho⟩ | ⟨hb, ho⟩ | ⟨hb, -, ho⟩
  · exact (by decide : ∀ o ∈ [0x308, 0x1001C, 0x20008, 0x3000C, 0x4001C, 0x50010, 0x60028, 0xA001C, 0xB0004, 0xF002C], isRwk o = false) o h
  · simp [isRwk, hb]
  · simp [isRwk, hb, show o % 0x10000 % 0x800 = 0x10 by omega]
  · simp [isRwk, hb, show o % 0x10000 % 0x2000 = 0x14 by omega]
  · simp [isRwk, hb, show o % 0x10000 % 0x1000 = 0x1C by omega]
  · simp [isRwk_le_block rfl hb, ho]

/-- Registers with RWK fields lie below the DATA area. -/
theorem dataIdx_of_isRwk {o : Nat} (h : isRwk o = true) : dataIdx o = none := by
  have hd : ¬ (0x1000000 ≤ o ∧ o < 0x1800000) := fun hd => by
    rw [isRwk_le_block rfl (by omega)] at h
    simp at h
    omega
  simp [dataIdx, hd]

theorem isKey_of_isRwk {o : Nat} (h : isRwk o = true) : isKey o = false := by
  cases hk : isKey o
  · rfl
  · rw [isRwk_of_isKey hk] at h; cases h

theorem dataIdx_of_isKey {o : Nat} (h : isKey o = true) : dataIdx o = none := by
  have := key_place h
  simp only [List.mem_cons, List.not_mem_nil, or_false] at this
  have hd : ¬ (0x1000000 ≤ o ∧ o < 0x1800000) := by omega
  simp [dataIdx, hd]

theorem word_of_toNat {v : Word} {n : Nat} (h : v.toNat = n) : v = BitVec.ofNat 32 n := by
  rw [← h]; simp

/-- A write of an aligned word as a command. -/
theorem exec_registerWrite {sess : Fin 4} {a : Word} (h : a.toNat % 4 = 0) (v : Word) (s : State) :
    exec (.registerWrite sess a v) s = openCmd s sess (fun u => regWrite u sess.val a.toNat v) := by
  show openCmd s sess (fun u => if a.toNat % 4 ≠ 0 then u else regWrite u sess.val a.toNat v) = _
  simp [h]

/-- A command that changes STN alone. -/
theorem doesSilently_modStn {c : Instr} {s : State} {f : Stn → Stn}
    (hx : exec c s = .next { settle (modStn (freshCycle s) f) with pending := s.pending }) :
    DoesSilently c s [.stn] (fun t => t.stn = f s.stn) := by
  refine doesSilently_of (f := fun u => modStn u f) hx (fun b hb => Block.same_modStn _ _ (by simpa using hb))
    (fun _ => ⟨rfl, rfl, rfl, fun _ => rfl⟩) ?_
  show (settle (modStn (freshCycle s) f)).stn = f s.stn
  rw [settle_stn, modStn_stn, freshCycle_stn]

section
variable {s : State} {sess : Fin 4} {a v : Word} {o : Nat} (ha : a.toNat = o) (h4 : o % 4 = 0)
include ha h4

/-- A write to a register with RWK fields is a keyed write of its fields. -/
theorem exec_registerWrite_keyed (hr : isRwk o = true) :
    exec (.registerWrite sess a v) s = keyedCmd s sess o (fun u => fieldWrite u sess.val o v) := by
  subst ha
  rw [exec_registerWrite h4]
  simp [regWrite, dataIdx_of_isRwk hr, isKey_of_isRwk hr, hr, openCmd, keyedCmd]

/-- A write of `n` to a register with RWK fields is the keyed command that gives the fields of `n`. -/
theorem exec_registerWrite_as {n : Nat} {c : Instr} (hr : isRwk o = true) (hv : v.toNat = n)
    (hc : exec c s = keyedCmd s sess o (fun u => fieldWrite u sess.val o (BitVec.ofNat 32 n))) :
    exec (.registerWrite sess a v) s = exec c s := by
  rw [exec_registerWrite_keyed ha h4 hr, word_of_toNat hv, hc]

/-- A write to a register without RWK fields writes its fields. -/
theorem exec_registerWrite_plain (hp : dataIdx o = none ∧ isKey o = false ∧ isRwk o = false) :
    exec (.registerWrite sess a v) s = openCmd s sess (fun u => fieldWrite u sess.val o v) := by
  subst ha
  obtain ⟨hd, hk, hr⟩ := hp
  rw [exec_registerWrite h4]
  simp [regWrite, hd, hk, hr, openCmd]

/-- A write of `n` to a register without RWK fields is the open command that gives the fields of `n`. -/
theorem exec_registerWrite_open {n : Nat} {c : Instr} (hp : dataIdx o = none ∧ isKey o = false ∧ isRwk o = false) (hv : v.toNat = n)
    (hc : exec c s = openCmd s sess (fun u => fieldWrite u sess.val o (BitVec.ofNat 32 n))) :
    exec (.registerWrite sess a v) s = exec c s := by
  rw [exec_registerWrite_plain ha h4 hp, word_of_toNat hv, hc]

/-- A write to a register without RWK fields that does `f`, as the end of the command leaves it. -/
theorem exec_registerWrite_next (hs : Opened s sess) (hp : dataIdx o = none ∧ isKey o = false ∧ isRwk o = false)
    {f : State → State} (hf : ∀ u, fieldWrite u sess.val o v = f u) :
    exec (.registerWrite sess a v) s = .next { settle (f (freshCycle s)) with pending := s.pending } := by
  rw [exec_registerWrite_plain ha h4 hp, openCmd_of hs, hf]

/-- A write to a register without a writable field does nothing. -/
theorem doesSilently_nothing (hs : Opened s sess) (hp : dataIdx o = none ∧ isKey o = false ∧ isRwk o = false)
    (hf : ∀ u, fieldWrite u sess.val o v = u) : DoesSilently (.registerWrite sess a v) s [] (fun _ => True) :=
  doesSilently_of (f := fun u => u) (exec_registerWrite_next ha h4 hs hp (f := fun u => u) hf) (fun b _ => Block.Same.refl _ b)
    (fun _ => ⟨rfl, rfl, rfl, fun _ => rfl⟩) trivial

/-- A write to a register without RWK fields that changes STN alone. -/
theorem doesSilently_stnWrite (hs : Opened s sess) (hp : dataIdx o = none ∧ isKey o = false ∧ isRwk o = false)
    (f : Stn → Stn) (hf : ∀ u, fieldWrite u sess.val o v = modStn u f) :
    DoesSilently (.registerWrite sess a v) s [.stn] (fun t => t.stn = f s.stn) :=
  doesSilently_modStn (exec_registerWrite_next ha h4 hs hp (f := fun u => modStn u f) hf)

/-- A write to a register with RWK fields, within its window, that changes STN alone. -/
theorem doesSilently_stnWrite_keyed {k : Nat} (hw : Windowed s sess k) (hb : blockKey o = some k) (hr : isRwk o = true)
    (f : Stn → Stn) (hf : ∀ u, fieldWrite u sess.val o v = modStn u f) :
    DoesSilently (.registerWrite sess a v) s [.stn] (fun t => t.stn = f s.stn) := by
  refine doesSilently_modStn ?_
  rw [exec_registerWrite_keyed ha h4 hr, keyedCmd_of hw hb, hf]

/-- A write to a register of EVR without RWK fields: EVR as the write leaves it, where nothing waited. -/
theorem does_evrWrite (hs : Opened s sess) (hp : dataIdx o = none ∧ isKey o = false ∧ isRwk o = false)
    {f : Evr → Evr} (hf : ∀ u, fieldWrite u sess.val o v = { u with evr := f u.evr }) (hn : ∀ e, (f e).now = e.now) :
    Does (.registerWrite sess a v) s [] (fun t => Quiet s → t.evr = f s.evr) := by
  refine does_of (f := fun u => { u with evr := f u.evr }) (exec_registerWrite_next ha h4 hs hp
    (f := fun u => { u with evr := f u.evr }) hf)
    (fun b _ => Block.same_evr _ _ b) fun q => ?_
  show (settle { freshCycle s with evr := f (freshCycle s).evr }).evr = f s.evr
  rw [freshCycle_of_intake q.2, settle_of_settled (s := { s with evr := f s.evr }) ⟨(hn _).trans q.1.1, q.1.2⟩]

end

/-- The registers of the logic engines, by engine and offset. -/
theorem fieldWrite_le (u : State) (sess : Nat) (e : Fin 16) (o : Nat) (ho : o < 0x10000) (v : Word) :
    fieldWrite u sess (leAddr e o) v = leWrite u e o v := by
  have h1 : 0x100000 ≤ leAddr e o := by unfold leAddr; omega
  have h2 : leAddr e o < 0x200000 := by unfold leAddr; omega
  have h3 : (leAddr e o - 0x100000) / 0x10000 = e.val := by unfold leAddr; omega
  have h4 : leAddr e o % 0x10000 = o := by unfold leAddr; omega
  simp [fieldWrite, h1, h2, h3, h4]

theorem leAddr_registers (e : Fin 16) : isRwk (leAddr e 0x1C) = true ∧
    dataIdx (leAddr e 4) = none ∧ isKey (leAddr e 4) = false ∧ isRwk (leAddr e 4) = false := by
  revert e; decide

theorem Engine.sameBut_iff {g h : Engine} :
    g.SameBut h ↔ ∃ p m c, h = { g with pending := p, merged := m, mergeCnt := c } := by
  refine ⟨fun k => ⟨_, _, _, k⟩, ?_⟩
  rintro ⟨p, m, c, rfl⟩
  rfl

/-- The write of LE_e's status: the W1C bits OVERRUN and FAULT, and EVT_MERGED among the triggers (R7). -/
theorem doesSilently_leStatus {s : State} {sess : Fin 4} {a v : Word} (e : Fin 16) (ha : a.toNat = leAddr e 4) (hs : Opened s sess) :
    DoesSilently (.registerWrite sess a v) s [.le] (fun t => ∀ e' : Fin 17,
      Engine.SameBut (if e'.val = e.val then { s.le[e'] with
        overrun := s.le[e'].overrun && !v.getLsbD 3, fault := s.le[e'].fault && !v.getLsbD 4 } else s.le[e']) t.le[e']) := by
  refine doesSilently_of (f := fun u => leWrite u e 4 v) ?_ (fun b hb => Block.same_le _ _ (by simpa using hb)) (fun _ =>
    ⟨rfl, rfl, rfl, fun e' => ?_⟩) fun e' => ?_
  · exact exec_registerWrite_next ha (by unfold leAddr; omega) hs (leAddr_registers e).2 (f := fun u => leWrite u e 4 v)
      fun u => fieldWrite_le u _ e 4 (by decide) v
  · show (vmodN s.le e.val _)[e'].pending = _
    rw [vmodN_get]; split <;> rfl
  · refine Engine.SameBut.trans ?_ (settle_le (leWrite (freshCycle s) e 4 v) e')
    have hf : s.le[e'].SameBut (freshCycle s).le[e'] := freshCycle_le s e'
    show Engine.SameBut _ (vmodN (freshCycle s).le e.val _)[e']
    obtain ⟨p, m, c, hf⟩ := Engine.sameBut_iff.mp hf
    rw [vmodN_get, hf]
    by_cases h : e.val = e'.val
    · rw [if_pos h.symm, if_pos h]; exact Engine.sameBut_iff.mpr ⟨_, _, _, rfl⟩
    · rw [if_neg (Ne.symm h), if_neg h]; exact Engine.sameBut_iff.mpr ⟨_, _, _, rfl⟩

/-- The place of source word `i` in the map of EVR. -/
theorem fieldWrite_raised (u : State) (sess : Nat) (i : Fin 16) (v : Word) : fieldWrite u sess (0x20100 + 4 * i.val) v =
    { u with evr := { u.evr with raised := u.evr.raised.set i (u.evr.raised[i] &&& ~~~v) } } := by
  have h1 : (0x20100 + 4 * i.val) / 0x10000 = 2 := by omega
  have h2 : (0x20100 + 4 * i.val) % 0x10000 = 0x100 + 4 * i.val := by omega
  have h3 : ¬ 0x100000 ≤ 0x20100 + 4 * i.val := by omega
  have h4 : 0x100 + 4 * i.val ≠ 0xC ∧ 0x100 + 4 * i.val ≠ 0x10 ∧ 0x100 + 4 * i.val < 0x140 := by omega
  simp [fieldWrite, h1, h2, h3, h4, evrWrite, vmodN]

theorem raised_registers (i : Fin 16) :
    dataIdx (0x20100 + 4 * i.val) = none ∧ isKey (0x20100 + 4 * i.val) = false ∧ isRwk (0x20100 + 4 * i.val) = false := by
  revert i; decide

theorem fld_low (v : Word) (n : Nat) : fld v 0 n = (v.truncate n).toNat := by simp [fld]

/-- FORCE_CTRL: VAR in the low 20 bits, ACTION in the two above them (R123). -/
theorem exec_registerWrite_force {s : State} {sess : Fin 4} {a v : Word} {n : Nat} {c : Instr} (ha : a.toNat = 0x420)
    (hv : v.toNat / 0x100000 = n) (hn : n < 4)
    (hc : exec c s = keyedCmd s sess 0x420 (fun u => forceCtrl u (v.truncate 20).toNat n)) :
    exec (.registerWrite sess a v) s = exec c s := by
  have hact : fld v 20 2 = n := by
    simp only [fld, Nat.shiftRight_eq_div_pow]; omega
  rw [exec_registerWrite_keyed ha (by decide) (by decide), hc, ← hact, ← fld_low]
  rfl

/-- Addresses of the map that hold RO registers or none. -/
def idleAddrs : List Nat := [0x100, 0x104, 0x300, 0x30000, 0x40000, 0x50000, 0x70000, 0x90000, 0x200000]

theorem idleAddrs_plain : ∀ o ∈ idleAddrs, o % 4 = 0 ∧ dataIdx o = none ∧ isKey o = false ∧ isRwk o = false := by decide

theorem fieldWrite_idle {o : Nat} (h : o ∈ idleAddrs) (u : State) (sess : Nat) (v : Word) : fieldWrite u sess o v = u := by
  simp only [idleAddrs, List.mem_cons, List.not_mem_nil, or_false] at h
  rcases h with rfl | rfl | rfl | rfl | rfl | rfl | rfl | rfl | rfl <;> rfl

/-! ### The whole map -/

/-- R18, R41: each read that latches, for its requester alone. -/
theorem reads_latch (s : State) (r : Fin 21) (hr : canRead s r = true) :
    let latches := fun (c : Instr) (l : Latch) => DoesSilently c s [.latch] (fun t => t.latch = s.latch.set r l)
    let was := s.latch[r]
    latches (.timeLoRead r) { was with timeHi := some (s.stn.time >>> 32).toNat } ∧
    latches (.stkTimeLoRead r) { was with stkHi := some ((s.stn.time + s.stk.ofs) >>> 32).toNat } ∧
    latches (.opmsLoRead r) { was with opmsHi := some (s.log.opms >>> 32).toNat } ∧
    latches (.sleepCntLoRead r) { was with sleepHi := some (s.pwr.sleepCnt >>> 32).toNat } ∧
    ∀ n : BitVec 20, latches (.dataValueRead r n) { was with data := some (n.toNat, (dataRead s n.toNat).tag) } := by
  refine ⟨doesSilently_latch (f := fun u l => { l with timeHi := some (regWord u 0x104) }) hr rfl ?_,
    doesSilently_latch (f := fun u l => { l with stkHi := some (regWord u 0x40018) }) hr rfl ?_,
    doesSilently_latch (f := fun u l => { l with opmsHi := some (regWord u 0x60020) }) hr rfl ?_,
    doesSilently_latch (f := fun u l => { l with sleepHi := some (regWord u 0x50024) }) hr rfl ?_, fun n =>
    doesSilently_latch (f := fun u l => { l with data := some (n.toNat, (dataRead u n.toNat).tag) }) hr rfl ?_⟩
  · simp [regWord_timeHi]
  · simp [regWord_stkHi]
  · simp [regWord_opmsHi]
  · simp [regWord_sleepHi]
  · simp [dataRead, var?]

/-- R5–R7, R9, R10, R42: what a session's write of an aligned word is. -/
theorem writes_by_address (s : State) (sess : Fin 4) (a v : Word) (hs : Opened s sess) :
    let w := Instr.registerWrite sess a v
    let same := fun (c : Instr) => exec w s = exec c s
    let o := a.toNat
    let nothing := DoesSilently w s [] (fun _ => True)
    (o % 4 ≠ 0 → nothing) ∧
    (o % 8 = 0 → 0x1000000 ≤ o → o < 0x1800000 → same (.dataWrite sess (BitVec.ofNat 20 ((o - 0x1000000) / 8)) false v)) ∧
    (o % 8 = 4 → 0x1000000 ≤ o → o < 0x1800000 → same (.dataWrite sess (BitVec.ofNat 20 ((o - 0x1000000) / 8)) true v)) ∧
    (o % 4 = 0 → isKey o = true → same (.keyWrite sess a v)) ∧
    (o % 4 = 0 → isRwk o = true → (∀ q ∈ s.windows, q.1 = sess.val → blockKey o ≠ some q.2) →
      Does w s [] (fun t => (Settled s → Raised t 509) ∧ Noted s t 0x5000 sess.val 1 (leN 4 o))) := by
  have data : ∀ (n : Nat), dataIdx a.toNat = some n → a.toNat % 4 = 0 → n < 2 ^ 20 →
      exec (.registerWrite sess a v) s = exec (.dataWrite sess (BitVec.ofNat 20 n) (decide (a.toNat % 8 ≠ 0)) v) s := by
    intro n hd h4 hn
    have hx : exec (.dataWrite sess (BitVec.ofNat 20 n) (decide (a.toNat % 8 ≠ 0)) v) s =
        openCmd s sess (fun u => dataWrite u sess.val (BitVec.ofNat 20 n).toNat (decide (a.toNat % 8 ≠ 0)) v) := rfl
    rw [exec_registerWrite h4, hx, BitVec.toNat_ofNat, Nat.mod_eq_of_lt hn]
    simp only [regWrite, hd]
  refine ⟨fun h => ?_, fun h0 h1 h2 => ?_, fun h0 h1 h2 => ?_, fun h4 hk => ?_, fun h4 hr hw => ?_⟩
  · refine doesSilently_of (f := id) ?_ (fun b _ => Block.Same.refl _ b) (fun _ => ⟨rfl, rfl, rfl, fun _ => rfl⟩) trivial
    have hx : exec (.registerWrite sess a v) s =
      openCmd s sess (fun u => if a.toNat % 4 ≠ 0 then u else regWrite u sess.val a.toNat v) := rfl
    rw [hx, openCmd_of hs, if_pos h]; rfl
  · rw [data _ (if_pos ⟨h1, h2⟩) (by omega) (by omega)]; simp [h0]
  · rw [data _ (if_pos ⟨h1, h2⟩) (by omega) (by omega)]; simp [h0]
  · show exec _ s = exec (.keyWrite sess a v) s
    rw [exec_registerWrite h4, openCmd_of hs, exec_keyWrite hs hk]
    simp [regWrite, dataIdx_of_isKey hk, hk]
  · exact does_keyRefused ((exec_registerWrite_keyed rfl h4 hr).trans (keyedCmd_of_closed hs hw _))

end Sys2Proof.Machine

open Sys2Proof Sys2Proof.Machine

/-- Settles O59: the reads that latch, and the writes register by register. -/
theorem registerAccess : Obligations.RegisterAccess := by
  refine ⟨reads_latch, fun s sess a v hs => ?_⟩
  have spelled (o : Nat) (hp : o % 4 = 0 ∧ isRwk o = true) (h : a.toNat = o) {n : Nat} {c : Instr} (x : v.toNat = n)
      (hc : exec c s = keyedCmd s sess o (fun u => fieldWrite u sess.val o (BitVec.ofNat 32 n))) :
      exec (.registerWrite sess a v) s = exec c s := exec_registerWrite_as h hp.1 hp.2 x hc
  obtain ⟨hal, hd0, hd4, hkey, hrwk⟩ := writes_by_address s sess a v hs
  refine ⟨hal, hd0, hd4, hkey, hrwk, ?_, ?_, ?_, ?_, ?_, ?_, ?_, ?_, ?_, ?_, ?_, ?_, ?_, ?_, ?_, ?_, ?_, ?_, ?_⟩
  -- STN: MODE_CMD, OLC_CMD, FORCE_CTRL and the counters of the fabric
  · exact fun h => have as {n c} := spelled (n := n) (c := c) 0x304 (by decide) h
      ⟨(as · rfl), (as · rfl), (as · rfl), (as · rfl), (as · rfl)⟩
  · exact fun h => have as {n c} := spelled (n := n) (c := c) 0x400 (by decide) h
      ⟨(as · rfl), (as · rfl), (as · rfl)⟩
  · exact fun h => ⟨(exec_registerWrite_force h · (by decide) rfl), (exec_registerWrite_force h · (by decide) rfl)⟩
  · exact fun h x => exec_registerWrite_open h (by decide) (by decide) x rfl
  -- EVR.CTRL, PAIR.CTRL, STK.CTRL, the barrier, LOG.CTRL and NET.CTRL
  · exact fun h x => exec_registerWrite_open h (by decide) (by decide) x rfl
  · exact fun h => have as {n c} := spelled (n := n) (c := c) 0x30008 (by decide) h
      ⟨(as · rfl), (as · rfl), (as · rfl)⟩
  · exact fun h => have as {n c} := spelled (n := n) (c := c) 0x40020 (by decide) h
      ⟨(as · rfl), (as · rfl), (as · rfl)⟩
  · exact fun h => exec_registerWrite_keyed h (by decide) (by decide)
  · exact fun h => have as {n c} := exec_registerWrite_open (s := s) (sess := sess) (v := v) (n := n) (c := c) h (by decide) (by decide)
      ⟨(as · rfl), (as · rfl)⟩
  · exact fun h x => exec_registerWrite_open h (by decide) (by decide) x rfl
  -- HOLD_CMD of a logic engine
  · intro e h
    have ha : a.toNat = leAddr e 0x1C := by unfold leAddr; omega
    have hp : leAddr e 0x1C % 4 = 0 ∧ isRwk (leAddr e 0x1C) = true := ⟨by unfold leAddr; omega, (leAddr_registers e).1⟩
    have as {n : Nat} {c : Instr} (x : v.toNat = n)
        (hc : exec c s = keyedCmd s sess (leAddr e 0x1C) (fun u => leWrite u e 0x1C (BitVec.ofNat 32 n))) :
        exec (.registerWrite sess a v) s = exec c s :=
      spelled _ hp ha x (by simp only [fieldWrite_le _ _ e 0x1C (by decide), hc])
    exact ⟨(as · rfl), (as · rfl), (as · rfl)⟩
  -- fields of STN and of a logic engine that are no command
  · exact fun h => doesSilently_stnWrite h (by decide) hs (by decide) (fun n => { n with forceIdx := v.truncate 10 }) fun _ => rfl
  · exact fun h => doesSilently_stnWrite h (by decide) hs (by decide) (fun n => { n with refLoss := n.refLoss && !v.getLsbD 8 }) fun _ => rfl
  · exact fun h => doesSilently_stnWrite h (by decide) hs (by decide)
      (fun n => { n with restoreFail := n.restoreFail && !v.getLsbD 18 }) fun _ => rfl
  · exact fun e h => doesSilently_leStatus e (by unfold leAddr; omega) hs
  · exact fun hw =>
      ⟨fun h => doesSilently_stnWrite_keyed h (by decide) hw (by decide) (by decide) (fun n => { n with holdTmo := v.truncate 6 }) fun _ => rfl,
       fun h => doesSilently_stnWrite_keyed h (by decide) hw (by decide) (by decide) (fun n => { n with forceVal := v }) fun _ => rfl⟩
  -- EVR.RAISED and EVR.SEL
  · exact fun i h => does_evrWrite h (by omega) hs (raised_registers i) (fun u => fieldWrite_raised u _ i v)
      (f := fun e => { e with raised := e.raised.set i (e.raised[i] &&& ~~~v) }) fun _ => rfl
  · exact fun h => does_evrWrite (f := fun e => { e with sel := v.truncate 9 }) h (by decide) hs (by decide) (fun _ => rfl) fun _ => rfl
  -- RO registers and addresses without a register
  · exact fun h => have hp := idleAddrs_plain _ h
      doesSilently_nothing rfl hp.1 hs hp.2 fun u => fieldWrite_idle h u _ v
end

section
/-! Time passing to an instant where the state carries a slew remainder of more than one slewed nanosecond (R17, R23). -/

namespace Sys2Proof.Machine
open Sys2Proof

/-- An event's evaluation leaves STN alone. -/
@[simp] theorem evalEvent_stn (s : State) (n : Fin 128) : (evalEvent s n).stn = s.stn := by
  unfold evalEvent
  dsimp only
  repeat' split
  all_goals simp

theorem foldl_evalEvent_stn (l : List (Fin 128)) (s : State) : (l.foldl evalEvent s).stn = s.stn := by
  induction l generalizing s with
  | nil => rfl
  | cons n l ih => rw [List.foldl_cons, ih, evalEvent_stn]

/-- STN after ANGLE_WINDOW is that of the station once time has passed to the window (R206). -/
theorem exec_angleWindow_stn {s t : State} (ha : alive s = true) (hx : exec .angleWindow s = .next t) :
    t.stn = (passTo (freshCycle s) (s.ang.winB + 4000)).stn := by
  have h : exec .angleWindow s = .next { settle ((allFin 128).foldl evalEvent (passTo (freshCycle s) ((freshCycle s).ang.winB + 4000))) with
      pending := s.pending } := guarded_true ha (fun s => (allFin 128).foldl evalEvent (passTo s (s.ang.winB + 4000)))
  rw [h] at hx
  cases hx
  rw [settle_stn, foldl_evalEvent_stn, freshCycle_ang]

/-- A running station in the middle of a slew, with a remainder that stands for 1000 slewed nanoseconds at once. -/
def staleSlew : State :=
  { State.reset with
    pwr := { PwrBlk.reset with power := .run }
    stn := { Stn.reset with slewing := true, slewLeft := -1000, slewRem := 2000000 } }

/-- From it, 5000 ns of station time pass to the instant 4000 ns ahead on the tier reference. -/
theorem passTo_staleSlew_time : (passTo staleSlew 4000).stn.time = 5000#64 := by decide

/-- 5000 ns is further than the slew of R23 lets station time run while the tier reference runs 4000 ns. -/
theorem not_passedTo_of_time {s t : State} {ref : Nat} (h0 : s.stn.time = 0#64) (hr : ref = s.stn.tierRef.toNat + 4000)
    (ht : t.stn.time = 5000#64) : ¬ PassedTo s t ref := by
  rintro ⟨d, -, hd, -, -, hfast⟩
  rw [h0, ht] at hd
  have := congrArg BitVec.toNat hd
  simp at this
  omega

end Sys2Proof.Machine

open Sys2Proof Sys2Proof.Machine

/-- Refutes O14: ANGLE_WINDOW does not meet `PassedTo` in every running state. The statement bounds no slew remainder, and in `staleSlew`
the remainder lets the tier reference fall 1000 ns behind station time within 5000 ns, where R23 allows it 500 ppm. No run reaches
such a remainder (`Stn.pass` leaves one below 2000): what fails is the claim over every state, for want of that bound. -/
theorem not_commandsComplete : ¬ Obligations.CommandsComplete := by
  rintro ⟨-, h, -⟩
  obtain ⟨⟨t, hx, hp, -⟩, -⟩ := h staleSlew (by decide)
  refine not_passedTo_of_time (by rfl) (by decide) ?_ hp
  rw [exec_angleWindow_stn (by decide) hx, freshCycle_of_intake rfl]
  exact passTo_staleSlew_time
end

section
/-! What a standby holds at a boundary (R60, R262): the event tasks that wait once the next fabric cycle has passed, in which a record that
the Ledger drops can trigger one (R375, R409). -/

namespace Sys2Proof.Machine
open Sys2Proof

/-! ### A boundary without overruns -/

/-- No task of any engine has a run open or about to open. -/
def TasksIdle (s : State) : Prop := ∀ (e : Fin 17) (k : Fin 5), (s.le[e].task k).phase = .idle

@[simp] theorem passTo_le (s : State) (ref : Nat) : (passTo s ref).le = s.le := by
  unfold passTo; split <;> rfl

theorem TasksIdle.freshCycle {s : State} (h : TasksIdle s) : TasksIdle (freshCycle s) := fun e k => by
  rw [(freshCycle_le s e).task k]; exact h e k

theorem TasksIdle.not_unfinished {s : State} (h : TasksIdle s) (e : Fin 16) (k : Fin 5) : ¬ Unfinished s e k := by
  intro hu
  obtain ⟨-, -, hp⟩ := hu ⟨e.val, by omega⟩ rfl
  rw [h] at hp
  simp at hp

theorem TasksIdle.lateTasks {s : State} (h : TasksIdle s) (b : Nat) : lateTasks s b = [] := by
  refine List.filter_eq_nil_iff.2 fun x _ => ?_
  have hp : ((vget s.le x.1.val Engine.unused).task x.2).phase = .idle :=
    (congrArg (fun g => (Engine.task g x.2).phase) (vget_fin s.le ⟨x.1.val, by omega⟩ _)).trans (h _ _)
  simp [unfinished, hp]

/-- Where no task is in a run a boundary finds nothing late (R64, R242). -/
theorem TasksIdle.lateWork {s : State} (h : TasksIdle s) (b : Nat) : lateWork s b = s := by
  have hc : s.le[(16 : Fin 17)].cyc.phase = .idle := h 16 0
  simp only [Machine.lateWork, h.lateTasks, firstEnd, lateSle, hc]
  simp

/-! ### What the boundary holds -/

theorem waitingEvents_congr {s u : State} (h : u.le = s.le) (slow : Nat) : waitingEvents u slow = waitingEvents s slow := by
  simp only [waitingEvents, h]

/-- The event tasks that wait at a boundary of T1 or slower (R60, R76). -/
theorem evtTask_mem_waitingEvents {s : State} {slow : Nat} (h : 1 ≤ slow) {e : Fin 16} {i : Fin 4} {f : Fin 17} (hf : f.val = e.val) :
    DistCmd.evtTask e i ∈ waitingEvents s slow ↔ s.le[f].running = true ∧ s.le[f].frozen = false ∧ s.le[f].pending[i] = true := by
  have hv : vget s.le e.val Engine.unused = s.le[f] := hf ▸ vget_fin s.le f _
  have hn : slow ≠ 0 := by omega
  unfold waitingEvents
  rw [if_neg hn, List.mem_filterMap]
  constructor
  · rintro ⟨⟨e', i'⟩, -, hx⟩
    dsimp only at hx
    split at hx
    · next hg =>
      cases hx
      simpa [hv, and_assoc] using hg
    · cases hx
  · rintro ⟨hr, hz, hp⟩
    exact ⟨(e, i), by simp [mem_allFin], by simp only [hv, hr, hz, hp]; rfl⟩

/-- A standby with no task in a run holds the boundary with the event tasks that wait after the next fabric cycle (R60, R262). -/
theorem exec_tierBoundary_await {s t : State} {x : BoundaryIn} (ha : alive s = true) (hr : s.stn.refOk = true)
    (hp : s.stn.pllLock = true) (hs : isStandby s = true) (hi : TasksIdle s) (hx : exec (.tierBoundary x) s = .next t) :
    t.pair.await = some { slow := slowTier (s.stn.lastB + 20000), own := x
                          starts := waitingEvents (freshCycle s) (slowTier (s.stn.lastB + 20000)), t0 := none } := by
  have hg : guarded s ((alive s || s.pwr.power == .warm) && s.stn.refOk && s.stn.pllLock) (fun s => tierBoundary s x) = .next t := hx
  rw [guarded_true (by simp [ha, hr, hp])] at hg
  cases hg
  have hal : alive (freshCycle s) = true := by simpa [alive] using ha
  have hst : isStandby (freshCycle s) = true := by simpa [isStandby] using hs
  have hw (b slow : Nat) : waitingEvents (countTiers (passTo (freshCycle s) b) b slow) slow = waitingEvents (freshCycle s) slow :=
    waitingEvents_congr (by simp [countTiers]) _
  simp only [settle_pair, tierBoundary, hal, hst, hi.freshCycle.lateWork, hw, Bool.not_true, Bool.false_eq_true, if_true, if_false,
    modPair_pair, freshCycle_stn]

/-! ### A dropped record that triggers an event task (R375, R409) -/

/-- Source `n` is routed to event task `i` of engine `e`, which takes triggers (R60, R409). -/
def RoutesTo (s : State) (n : Nat) (e : Fin 17) (i : Fin 4) : Prop :=
  let w := vget s.evr.routes n 0
  n < 512 ∧ s.pwr.quiet.getLsbD 10 = false ∧ bit w 1 = true ∧ fld w 2 4 = e.val ∧ fld w 6 2 = i.val ∧
    inRunHold s = true ∧ s.le[e].evtEntry[i].isSome = true

theorem trigger_pending {s : State} {e : Fin 17} {i : Fin 4} (hm : inRunHold s = true) (he : s.le[e].evtEntry[i].isSome = true) :
    (trigger s e i).le[e].pending[i] = true := by
  have hn : s.le[e].evtEntry[i].isNone = false := by simpa using he
  cases hp : s.le[e].pending[i] with
  | true =>
    have ht : trigger s e i = { s with le := vmod s.le e (fun g => { g with mergeCnt := satInc g.mergeCnt, merged := true }) } := by
      simp only [trigger, vget_fin, vmodN_fin, hm, hn, hp, Bool.not_true, Bool.or_self, Bool.false_eq_true, if_false, if_true]
    rw [ht, vmod_get_self]
    exact hp
  | false =>
    have ht : trigger s e i = { s with le := vmod s.le e (fun g => { g with pending := vmod g.pending i (fun _ => true) }) } := by
      simp only [trigger, vget_fin, vmodN_fin, hm, hn, hp, Bool.not_true, Bool.or_self, Bool.false_eq_true, if_false]
    rw [ht, vmod_get_self]
    exact vmod_get_self ..

/-- A raise triggers the event task that its source is routed to. -/
theorem RoutesTo.pending_raise {s : State} {n : Nat} {e : Fin 17} {i : Fin 4} (h : RoutesTo s n e i) (hn : n ∉ s.evr.now) :
    (raise s n).le[e].pending[i] = true := by
  obtain ⟨h512, hq, hb, he, hi, hm, hs⟩ := h
  unfold raise
  simp only [List.contains_eq_mem, hn, decide_false, Bool.false_or, ge_iff_le, Nat.not_le.2 h512, if_false,
    hq, Bool.false_eq_true, hb, if_true, he, hi]
  refine trigger_pending ?_ ?_
  · split <;> [exact hm; split <;> exact hm]
  · split <;> [exact hs; split <;> exact hs]

/-- A record for a full buffer is dropped or takes another's place, which is then dropped (R375). -/
theorem lgMake_of_full {g : LogBlk} (h : 256 ≤ g.buf.length) (b : Bool) (it : LogItem) (d : Bool) (p : List Byte) :
    (lgMake g b it d p).2 = true := by
  unfold lgMake
  simp only [Nat.not_lt.2 h, if_false]
  repeat' split
  all_goals rfl

/-- Storing a waiting MAJOR or CRITICAL entry drops a record where the Ledger's buffer is full (R372, R375). -/
theorem logDrain_of_full {g : LogBlk} {it : LogItem} {r : List LogItem} (hi : g.intake = it :: r) (hl : it.ledger = false)
    (hv : 3 ≤ it.sev.toNat) (hb : 256 ≤ g.buf.length) (n : Nat) (b : Bool) : (logDrain (n + 1) b g).2 = true := by
  unfold logDrain
  have hd := lgMake_of_full (g := dbStore { g with intake := r } it) hb b it true (fromDbPayload it g.dbNext)
  simp [hi, hl, hv, hd]

/-- The record that the next fabric cycle drops triggers the event task to which source 488 is routed. -/
theorem RoutesTo.pending_freshCycle {s : State} {e : Fin 17} {i : Fin 4} (h : RoutesTo s 488 e i) (hn : 488 ∉ s.evr.now)
    (hd : (logDrain 4 (lgStandby s) s.log).2 = true) : (freshCycle s).le[e].pending[i] = true := by
  unfold freshCycle
  simp only [hd, if_true]
  exact RoutesTo.pending_raise (s := { s with log := (logDrain 4 (lgStandby s) s.log).1 }) h hn

/-! ### A standby with a full Ledger buffer -/

/-- An entry of severity MAJOR that waits in LOG's intake queue. -/
def waitingMajor : LogItem :=
  { code := 0x5003, source := 0, sev := 3, ledger := false, payload := [], stamp := 79990, own := false }

/-- A Ledger buffer without room. -/
def fullBuf : List (LgRec × Bool) := List.replicate 256 (default, false)

theorem fullBuf_length : fullBuf.length = 256 := List.length_replicate

/-- A standby in RUN, 20 µs before a T1 boundary, with source 488 routed to event task 0 of engine 0; 256 records that a flush is writing
fill the Ledger's buffer and a MAJOR entry waits to be stored. -/
def fullLedgerStandby : State :=
  { State.reset with
    pwr := { PwrBlk.reset with power := .run }
    stn := { Stn.reset with refOk := true, pllLock := true, mode := .run, time := 80000, tierRef := 80000, lastB := 80000 }
    pair := { PairBlk.reset with member := true, state := 4, partner := 2 }
    le := State.reset.le.set 0 { Engine.unused with
      used := true, running := true, nEvt := 1, code := [0], evtEntry := (Vector.replicate 4 none).set 0 (some 0) }
    evr := { Evr.reset with routes := Evr.reset.routes.set 488 2 }
    log := { LogBlk.reset with
      buf := fullBuf, lgNext := 256, flush := .fill, flushLeft := 256, intake := [waitingMajor] } }

theorem fullLedgerStandby_tasksIdle : TasksIdle fullLedgerStandby := by unfold TasksIdle; decide

theorem fullLedgerStandby_routesTo : RoutesTo fullLedgerStandby 488 0 0 := by
  have hw : vget fullLedgerStandby.evr.routes 488 0 = 2 := Vector.getElem_set_self ..
  unfold RoutesTo
  rw [hw]
  decide

/-- No event task waits in it, but one does after its next fabric cycle. -/
theorem fullLedgerStandby_pending :
    (∀ f : Fin 17, fullLedgerStandby.le[f].pending = Vector.replicate 4 false) ∧
    (freshCycle fullLedgerStandby).le[(0 : Fin 17)].pending[(0 : Fin 4)] = true :=
  ⟨by decide, fullLedgerStandby_routesTo.pending_freshCycle (by decide) (logDrain_of_full rfl rfl (by decide) fullBuf_length.ge 3 _)⟩

end Sys2Proof.Machine

open Sys2Proof Sys2Proof.Machine

/-- Refutes O44: a standby's held boundary does not start just the event tasks whose triggers wait in the state before the command. In the
fabric cycle before the boundary LOG stores waiting entries (R370), and a record dropped there raises source 488 (R375), whose route may
trigger an event task (R409); 20 µs later the boundary holds its start as R60 says, though no trigger waited in `fullLedgerStandby`. -/
theorem not_tierLadder : ¬ Obligations.TierLadder := by
  unfold Obligations.TierLadder
  intro h
  obtain ⟨t, hx, -, -, -, -, -, -, hstandby, -⟩ := h fullLedgerStandby default (.inl (by decide)) (by decide) (by decide)
  obtain ⟨-, -, -, -, -, -, -, -, ⟨l, hp, hl⟩, -⟩ := hstandby
    (by
      rintro ⟨-, ⟨e, k, hu, -⟩ | ⟨-, -, hc⟩⟩
      · exact fullLedgerStandby_tasksIdle.not_unfinished e k hu
      · revert hc; decide)
    (by decide) (by decide)
  have held := exec_tierBoundary_await (by decide) (by decide) (by decide) (by decide) fullLedgerStandby_tasksIdle hx
  rw [hp, Option.some.injEq, Await.mk.injEq] at held
  obtain ⟨-, -, hstarts, -⟩ := held
  have hm : DistCmd.evtTask 0 0 ∈ l := by
    rw [hstarts, evtTask_mem_waitingEvents (f := 0) (by decide) rfl]
    exact ⟨by rw [freshCycle_le _ 0]; rfl, by rw [freshCycle_le _ 0]; rfl, fullLedgerStandby_pending.2⟩
  obtain ⟨_, _, f, -, -, -, -, -, hw⟩ := (hl _).1 hm
  rw [fullLedgerStandby_pending.1 f] at hw
  simp at hw
end

section
/-! DATA writes: which reason of R43 a refused one has, and when one is taken (R42, R43, R73, R394). -/

namespace Sys2Proof.Machine
open Sys2Proof

/-! ### The reason of a refusal -/

/-- The station has an image, is in RUN, HOLD or commanded STOP, and its supervisor is not quiesced (R43, R73, R394). -/
def TakesWrites (s : State) : Prop :=
  s.img.running.isSome = true ∧ (s.stn.mode ≠ .stop ∨ s.stn.faultStop = false ∧ s.stn.stopCause ≠ 7) ∧ s.pwr.quiet.getLsbD 13 = false

theorem inRunHold_eq_true_iff (s : State) : inRunHold s = true ↔ s.stn.mode ≠ .stop := by
  unfold inRunHold
  cases s.stn.mode <;> decide

theorem runHold_or_cmdStop_iff (s : State) : (inRunHold s || inCmdStop s) = true ↔
    s.stn.mode ≠ .stop ∨ s.stn.faultStop = false ∧ s.stn.stopCause ≠ 7 := by
  rw [Bool.or_eq_true, inRunHold_eq_true_iff]
  by_cases hm : s.stn.mode = .stop <;> simp [inCmdStop, hm]

/-- The test of `dataReason` for reason 3. -/
theorem refusesWrites_eq_true_iff (s : State) :
    (s.img.running.isNone || !(inRunHold s || inCmdStop s) || s.pwr.quiet.getLsbD 13) = true ↔ ¬ TakesWrites s := by
  unfold TakesWrites
  rw [← runHold_or_cmdStop_iff]
  cases s.img.running <;> cases inRunHold s || inCmdStop s <;> cases s.pwr.quiet.getLsbD 13 <;> simp

theorem dataReason_freshCycle (s : State) (n : Nat) (isTag : Bool) : dataReason (freshCycle s) n isTag = dataReason s n isTag := by
  simp [dataReason, isStandby, inRunHold, inCmdStop, lastVar, var?]

theorem dataReason_tag (s : State) (n : Nat) : dataReason s n true = 4 := rfl

theorem dataReason_standby {s : State} (h : s.pair.state = 4) (n : Nat) : dataReason s n false = 5 := by
  simp [dataReason, isStandby, h]

theorem dataReason_refuses {s : State} (hp : s.pair.state ≠ 4) (h : ¬ TakesWrites s) (n : Nat) : dataReason s n false = 3 := by
  have hs : isStandby s = false := by simpa [isStandby] using hp
  simp only [dataReason, hs, (refusesWrites_eq_true_iff s).2 h, Bool.false_eq_true, if_false, if_true]

/-- Where the station takes writes and no variable is defined, none is reached. -/
theorem dataReason_empty {s : State} (hp : s.pair.state ≠ 4) (h : TakesWrites s) (hl : lastVar s = none) (n : Nat) :
    dataReason s n false = 2 := by
  have hs : isStandby s = false := by simpa [isStandby] using hp
  have ht := (refusesWrites_eq_true_iff s).not_left.2 h
  simp only [dataReason, hs, ht, hl, Bool.false_eq_true, if_false]

/-- Where the station takes writes, the index and the variable that it names decide. -/
theorem dataReason_takes {s : State} (hp : s.pair.state ≠ 4) (h : TakesWrites s) {m : Nat} (hm : lastVar s = some m) (n : Nat) :
    dataReason s n false = if m < n then 2 else if (var? s n).any (·.opw) then 0 else 1 := by
  have hs : isStandby s = false := by simpa [isStandby] using hp
  have ht := (refusesWrites_eq_true_iff s).not_left.2 h
  simp only [dataReason, hs, ht, hm, Bool.false_eq_true, if_false]
  cases var? s n <;> rfl

theorem dataReason_beyond {s : State} (hp : s.pair.state ≠ 4) (h : TakesWrites s) {n : Nat} (hn : ∀ m, lastVar s = some m → m < n) :
    dataReason s n false = 2 := by
  cases hm : lastVar s with
  | none => exact dataReason_empty hp h hm n
  | some m => rw [dataReason_takes hp h hm, if_pos (hn m hm)]

theorem dataReason_readOnly {s : State} (hp : s.pair.state ≠ 4) (h : TakesWrites s) {n m : Nat} (hm : lastVar s = some m) (hn : n ≤ m)
    (ho : ∀ x, var? s n = some x → x.opw = false) : dataReason s n false = 1 := by
  rw [dataReason_takes hp h hm, if_neg (by omega), if_neg]
  simpa [Option.any_eq_true] using ho

theorem dataReason_writable {s : State} (hp : s.pair.state ≠ 4) (h : TakesWrites s) {n m : Nat} (hm : lastVar s = some m) (hn : n ≤ m)
    {x : Var} (hx : var? s n = some x) (ho : x.opw = true) : dataReason s n false = 0 := by
  rw [dataReason_takes hp h hm, if_neg (by omega), if_pos]
  simp [hx, ho]

/-! ### The command -/

theorem exec_dataWrite {s : State} {sess : Fin 4} (ho : Opened s sess) (n : BitVec 20) (isTag : Bool) (v : Word) :
    exec (.dataWrite sess n isTag v) s =
      .next { settle (dataWrite (freshCycle s) sess.val n.toNat isTag v) with pending := s.pending } :=
  openCmd_of ho (fun u => dataWrite u sess.val n.toNat isTag v)

theorem doesSilently_dataWrite {s : State} {sess : Fin 4} (ho : Opened s sess) {n : BitVec 20} {isTag : Bool}
    (hr : dataReason s n.toNat isTag = 0) (v : Word) : DoesSilently (.dataWrite sess n isTag v) s [.stn] (fun t =>
      t.stn = { s.stn with accepted := s.stn.accepted ++ [.write n.toNat v] }) := by
  refine doesSilently_of (f := fun u => accept u (.write n.toNat v)) ?_
    (fun b hb => Block.same_modStn _ (fun m => { m with accepted := m.accepted ++ [.write n.toNat v] }) (by simpa using hb))
    (fun _ => ⟨rfl, rfl, rfl, fun _ => rfl⟩) (by simp [accept])
  rw [exec_dataWrite ho, dataWrite, dataReason_freshCycle, hr, if_pos rfl]

theorem does_dataWrite_refused {s : State} {sess : Fin 4} (ho : Opened s sess) {n : BitVec 20} {isTag : Bool} {r : Nat}
    (hr : dataReason s n.toNat isTag = r) (h0 : r ≠ 0) (v : Word) : Does (.dataWrite sess n isTag v) s [.stn] (fun t =>
      t.stn = { s.stn with dwVar := n, dwReason := BitVec.ofNat 4 r } ∧ (Settled s → Raised t 508) ∧
      Noted s t 0x5002 sess.val 1 (leN 4 n.toNat ++ [BitVec.ofNat 8 r])) := by
  refine does_of (f := fun u => dataRefused u sess.val n.toNat r) ?_ (fun b hb => ?_) ⟨?_, ?_, ?_⟩
  · rw [exec_dataWrite ho, dataWrite, dataReason_freshCycle, hr, if_neg h0]
  · have hf := Block.same_modStn (freshCycle s) (fun m => { m with dwVar := BitVec.ofNat 20 n.toNat, dwReason := BitVec.ofNat 4 r })
      (b := b) (by simpa using hb)
    exact hf.trans ((same_logEntry ..).trans (same_raise ..))
  · simp [dataRefused]
  · exact raised_of (by decide) fun hs => (NowRaised.of_settled hs).freshCycle.congr rfl
  · exact noted_raise (f := fun u => dataRefused u sess.val n.toNat r) (by decide) (by omega) (by decide) fun _ => ⟨_, rfl, rfl⟩

end Sys2Proof.Machine

open Sys2Proof Sys2Proof.Machine

/-- Settles O18: the clauses of the statement are the cases of `dataReason`. -/
theorem dataWrites : Obligations.DataWrites := by
  intro s sess n isTag v ho last works reason
  refine ⟨?_, fun r hr => ?_⟩
  · rintro rfl hp hw ⟨m, hm, hn⟩ ⟨x, hx, hox⟩
    exact doesSilently_dataWrite ho (dataReason_writable hp hw hm hn hx hox) v
  · obtain ⟨rfl, rfl⟩ | ⟨rfl, ⟨rfl, hp⟩ | ⟨hp, ⟨rfl, hw⟩ | ⟨hw, ⟨rfl, hn⟩ | ⟨rfl, ⟨m, hm, hn⟩, hox⟩⟩⟩⟩ := hr
    · exact does_dataWrite_refused ho (dataReason_tag s _) (by decide) v
    · exact does_dataWrite_refused ho (dataReason_standby hp _) (by decide) v
    · exact does_dataWrite_refused ho (dataReason_refuses hp hw _) (by decide) v
    · exact does_dataWrite_refused ho (dataReason_beyond hp hw hn) (by decide) v
    · exact does_dataWrite_refused ho (dataReason_readOnly hp hw hm hn hox) (by decide) v
end

section
/-! The placed fabric: what issue, arbitration, buffers and saturated ages change, and what a missed timed transfer leaves
(R45, R46, R49, R51, R53–R55). -/

namespace Sys2Proof.Machine
open Sys2Proof

/-! ### Frames of one block -/

theorem Block.same_fab (s : State) (x : FabBlk) {b : Block} (h : b ≠ .fab) : b.Same s { s with fab := x } := by
  cases b <;> first | rfl | exact fun _ => rfl | exact absurd rfl h

theorem Block.same_stn (s : State) (x : Stn) {b : Block} (h : b ≠ .stn) : b.Same s { s with stn := x } := by
  cases b <;> first | rfl | exact fun _ => rfl | exact absurd rfl h

theorem Block.same_qp (s : State) (x : QpBlk) {b : Block} (h : b ≠ .qp) : b.Same s { s with qp := x } := by
  cases b <;> first | rfl | exact fun _ => rfl | exact absurd rfl h

theorem Block.same_stk (s : State) (x : StkBlk) {b : Block} (h : b ≠ .stk) : b.Same s { s with stk := x } := by
  cases b <;> first | rfl | exact fun _ => rfl | exact absurd rfl h

theorem Block.same_vars (s : State) (x : List Var) {b : Block} (h : b ≠ .vars) : b.Same s { s with vars := x } := by
  cases b <;> first | rfl | exact fun _ => rfl | exact absurd rfl h

theorem Does.imp {c : Instr} {s : State} {l : List Block} {P Q : State → Prop} (h : Does c s l P) (hi : ∀ t, P t → Q t) :
    Does c s l Q := by
  obtain ⟨t, hx, hk, hp⟩ := h
  exact ⟨t, hx, hk, hi t hp⟩

/-- What a command puts out is seen after it, where nothing waited and nothing was raised or entered. -/
theorem sends_of {s : State} {f : State → State} {x : Sent}
    (h : Quiet s → (f s).sent = x :: s.sent ∧ (f s).evr.now = s.evr.now ∧ (f s).log.fresh = s.log.fresh) :
    Sends s { settle (f (freshCycle s)) with pending := s.pending } x := by
  intro q
  obtain ⟨hx, hn, hf⟩ := h q
  have hs : Settled (f s) := ⟨hn.trans q.1.1, hf.trans q.1.2⟩
  show x ∈ (settle (f (freshCycle s))).sent.take 8
  rw [freshCycle_of_intake q.2, settle_of_settled hs, hx]
  simp

@[simp] theorem freshCycle_out (s : State) : (freshCycle s).evr.out = s.evr.out := by
  unfold freshCycle
  dsimp only
  split
  · rw [raise_evr]; split <;> rfl
  · rfl

/-! ### A missed timed transfer (R49) -/

/-- A variable that a missed transfer would have written. -/
def missedVar (v : Var) : Var :=
  let u := { v.unf with tag := tagAtLeast v.unf.tag 5 }
  if v.forced then { v with unf := u } else { v with unf := u, cur := { v.cur with tag := tagAtLeast v.cur.tag 5 } }

theorem le_bmax_right {n : Nat} (a b : BitVec n) : b.toNat ≤ (bmax a b).toNat := by
  unfold bmax; split <;> omega

theorem bmax_bmax_right {n : Nat} (a b : BitVec n) : bmax (bmax a b) b = bmax a b := by
  unfold bmax; split <;> simp_all

@[simp] theorem tagAtLeast_tagAtLeast (t : Tag) (n : BitVec 3) : tagAtLeast (tagAtLeast t n) n = tagAtLeast t n := by
  simp [tagAtLeast, bmax_bmax_right]

@[simp] theorem missedVar_idx (v : Var) : (missedVar v).idx = v.idx := by
  unfold missedVar; dsimp only; split <;> rfl

@[simp] theorem missedVar_val (v : Var) : (missedVar v).cur.val = v.cur.val := by
  unfold missedVar; dsimp only; split <;> rfl

@[simp] theorem missedVar_wrote (v : Var) : (missedVar v).wrote = v.wrote := by
  unfold missedVar; dsimp only; split <;> rfl

@[simp] theorem missedVar_missedVar (v : Var) : missedVar (missedVar v) = missedVar v := by
  cases h : v.forced <;> simp [missedVar, h]

theorem missedVar_unf_quality (v : Var) : 5 ≤ (missedVar v).unf.tag.q.toNat := by
  cases h : v.forced <;> simpa [missedVar, h, tagAtLeast] using le_bmax_right v.unf.tag.q 5

theorem missedVar_cur_quality {v : Var} (h : v.forced = false) : 5 ≤ (missedVar v).cur.tag.q.toNat := by
  simpa [missedVar, h, tagAtLeast] using le_bmax_right v.cur.tag.q 5

/-- Changing the variables of a list one after the other, where a second change of one adds nothing. -/
theorem foldl_modVar {f : Var → Var} (hi : ∀ v, (f v).idx = v.idx) (hf : ∀ v, f (f v) = f v) (l : List Nat) (s : State) :
    l.foldl (fun s n => modVar s n f) s = { s with vars := s.vars.map (fun v => if v.idx ∈ l then f v else v) } := by
  induction l generalizing s with
  | nil => simp
  | cons n l ih =>
    rw [List.foldl_cons, ih]
    simp only [modVar, List.map_map]
    congr 1
    refine List.map_congr_left fun v _ => ?_
    by_cases hn : v.idx = n <;> by_cases hl : v.idx ∈ l <;> simp_all

/-- The miss counted at the Transom port that the transfer came on. -/
def lateAtPort (s : State) (port : Option (Fin 3)) : State :=
  port.elim s fun q => { s with stk := { s.stk with ports := vmod s.stk.ports q (fun c => { c with late := satInc c.late }) } }

@[simp] theorem lateAtPort_stn (s : State) (port : Option (Fin 3)) : (lateAtPort s port).stn = s.stn := by cases port <;> rfl
@[simp] theorem lateAtPort_vars (s : State) (port : Option (Fin 3)) : (lateAtPort s port).vars = s.vars := by cases port <;> rfl
@[simp] theorem lateAtPort_log (s : State) (port : Option (Fin 3)) : (lateAtPort s port).log = s.log := by cases port <;> rfl
@[simp] theorem lateAtPort_evr (s : State) (port : Option (Fin 3)) : (lateAtPort s port).evr = s.evr := by cases port <;> rfl

theorem lateAtPort_stk (s : State) (port : Option (Fin 3)) :
    (lateAtPort s port).stk = { s.stk with ports := (lateAtPort s port).stk.ports } := by cases port <;> rfl

theorem lateAtPort_ports (s : State) (port : Option (Fin 3)) (p : Fin 3) : (lateAtPort s port).stk.ports[p] =
    if port = some p then { s.stk.ports[p] with late := satInc s.stk.ports[p].late } else s.stk.ports[p] := by
  cases port with
  | none => simp [lateAtPort]
  | some q =>
    refine (vmod_get ..).trans ?_
    by_cases h : q = p <;> simp [h]

theorem Block.same_lateAtPort (s : State) (port : Option (Fin 3)) {b : Block} (h : b ≠ .stk) : b.Same s (lateAtPort s port) := by
  cases port with
  | none => exact Block.Same.refl ..
  | some q => exact Block.same_stk _ _ h

/-- The variables aged and the miss counted. -/
def missCounted (s : State) (vars : List Nat) : State :=
  { s with vars := s.vars.map (fun v => if v.idx ∈ vars then missedVar v else v)
           stn := { s.stn with timedLate := satInc s.stn.timedLate } }

theorem Block.same_missCounted (s : State) (vars : List Nat) {b : Block} (hn : b ≠ .stn) (hv : b ≠ .vars) : b.Same s (missCounted s vars) :=
  (Block.same_vars s (s.vars.map fun v => if v.idx ∈ vars then missedVar v else v) hv).trans (Block.same_stn _ _ hn)

/-- A miss in one equation. -/
theorem timedMiss_eq (s : State) (blk inst tier : Nat) (dl : Word) (vars : List Nat) :
    timedMiss s blk inst tier dl vars = raise (logEntry (missCounted s vars)
      0x5003 (256 * (blk % 256) + inst % 256) 3 ([BitVec.ofNat 8 tier, 0, 0, 0] ++ leN 4 dl.toNat)) 496 :=
  congrArg (fun u : State => raise (logEntry { u with stn := { u.stn with timedLate := satInc u.stn.timedLate } }
    0x5003 (256 * (blk % 256) + inst % 256) 3 ([BitVec.ofNat 8 tier, 0, 0, 0] ++ leN 4 dl.toNat)) 496)
    (foldl_modVar missedVar_idx missedVar_missedVar vars s)

theorem exec_timedDeadlineMiss {s : State} (ha : alive s = true) (blk inst : Nat) (tier : Fin 5) (dl : Word) (vars : List Nat)
    (port : Option (Fin 3)) : exec (.timedDeadlineMiss blk inst tier dl vars port) s =
      .next { settle (raise (logEntry (missCounted (lateAtPort (freshCycle s) port) vars) 0x5003 (256 * (blk % 256) + inst % 256) 3
        ([BitVec.ofNat 8 tier.val, 0, 0, 0] ++ leN 4 dl.toNat)) 496) with pending := s.pending } := by
  have hx : exec (.timedDeadlineMiss blk inst tier dl vars port) s =
      guarded s (alive s) (fun u => timedMiss (lateAtPort u port) blk inst tier.val dl vars) := by cases port <;> rfl
  rw [hx, guarded_true ha, timedMiss_eq]

/-- What the miss leaves of each variable, in the words of R49. -/
theorem missed_vars (l : List Var) (vars : List Nat) (i : Nat) (v : Var) (h : l[i]? = some v) :
    ∃ w, (l.map fun v => if v.idx ∈ vars then missedVar v else v)[i]? = some w ∧ w.idx = v.idx ∧ w.cur.val = v.cur.val ∧
      w.wrote = v.wrote ∧ (v.idx ∉ vars → w = v) ∧ (v.idx ∈ vars → v.forced = false → 5 ≤ w.cur.tag.q.toNat) ∧
      (v.idx ∈ vars → 5 ≤ w.unf.tag.q.toNat) := by
  refine ⟨if v.idx ∈ vars then missedVar v else v, by rw [List.getElem?_map, h]; rfl, ?_⟩
  by_cases hm : v.idx ∈ vars
  · simpa [hm, missedVar_unf_quality] using missedVar_cur_quality
  · simp [hm]

theorem does_timedDeadlineMiss {s : State} (ha : alive s = true) (blk inst : Nat) (tier : Fin 5) (dl : Word) (vars : List Nat)
    (port : Option (Fin 3)) : Does (.timedDeadlineMiss blk inst tier dl vars port) s [.stn, .vars, .stk] (fun t =>
      t.stn = { s.stn with timedLate := satInc s.stn.timedLate } ∧ (Settled s → Raised t 496) ∧
      Noted s t 0x5003 (256 * (blk % 256) + inst % 256) 3 ([BitVec.ofNat 8 tier.val, 0, 0, 0] ++ leN 4 dl.toNat) ∧
      t.vars = s.vars.map (fun v => if v.idx ∈ vars then missedVar v else v) ∧
      t.stk = { s.stk with ports := t.stk.ports } ∧
      ∀ p : Fin 3, t.stk.ports[p] = if port = some p then { s.stk.ports[p] with late := satInc s.stk.ports[p].late }
        else s.stk.ports[p]) := by
  refine does_of (f := fun u => raise (logEntry (missCounted (lateAtPort u port) vars) _ _ _ _) _) (exec_timedDeadlineMiss ha ..)
    (fun b hb => ?_) ⟨?_, raised_of (by decide) fun hs => ?_, ?_, ?_, ?_, fun p => ?_⟩
  · simp only [List.mem_cons, List.not_mem_nil, or_false, not_or] at hb
    obtain ⟨hstn, hvars, hstk⟩ := hb
    exact ((Block.same_lateAtPort _ _ hstk).trans (Block.same_missCounted _ _ hstn hvars)).trans
      ((same_logEntry ..).trans (same_raise ..))
  · simp [missCounted]
  · exact (NowRaised.of_settled hs).freshCycle.congr (by simp [missCounted])
  · exact noted_raise (f := fun u => raise (logEntry (missCounted (lateAtPort u port) vars) _ _ _ _) _) (by decide) (by omega) (by decide)
      fun _ => ⟨_, rfl, by simp [missCounted]⟩
  · simp [missCounted]
  · simpa [missCounted] using lateAtPort_stk (freshCycle s) port
  · simpa [missCounted] using lateAtPort_ports (freshCycle s) port p

/-! ### Issue of packets (R45, R55) -/

/-- From `s` to `t` packets have been issued or queued and nothing else has been done; no port stands above its limit that did not (R55). -/
structure Issues (s t : State) : Prop where
  frame : t = { s with fab := { s.fab with wait := t.fab.wait, queue := t.fab.queue } }
  wait : s.fab.wait <+: t.fab.wait
  bounded : ∀ port to_, plOutstanding s port to_ ≤ 16 → plOutstanding t port to_ ≤ 16

namespace Issues
variable {s t u : State}

theorem refl (s : State) : Issues s s := ⟨rfl, List.prefix_rfl, fun _ _ h => h⟩

theorem trans (h : Issues s t) (k : Issues t u) : Issues s u :=
  ⟨k.frame.trans (by rw [h.frame]), h.wait.trans k.wait, fun p q hs => k.bounded p q (h.bounded p q hs)⟩

/-- Queueing packets counts toward no limit. -/
theorem setQueue (s : State) (q : List PlPkt) : Issues s { s with fab := { s.fab with queue := q } } :=
  ⟨rfl, List.prefix_rfl, fun _ _ h => h⟩

theorem stn (h : Issues s t) : t.stn = s.stn := by rw [h.frame]
theorem stk (h : Issues s t) : t.stk = s.stk := by rw [h.frame]
theorem log (h : Issues s t) : t.log = s.log := by rw [h.frame]
theorem evr (h : Issues s t) : t.evr = s.evr := by rw [h.frame]
theorem sent (h : Issues s t) : t.sent = s.sent := by rw [h.frame]
theorem le (h : Issues s t) : t.le = s.le := by rw [h.frame]
theorem img (h : Issues s t) : t.img = s.img := by rw [h.frame]
theorem net (h : Issues s t) : t.net = s.net := by rw [h.frame]
theorem out (h : Issues s t) : t.fab.out = s.fab.out := by rw [h.frame]
theorem bufs (h : Issues s t) : t.fab.bufs = s.fab.bufs := by rw [h.frame]

theorem same (h : Issues s t) {b : Block} (hb : b ≠ .fab) : b.Same s t := by
  rw [h.frame]; exact Block.same_fab _ _ hb

end Issues

theorem plOutstanding_append_wait (s : State) (p : PlPkt) (port : Fin 8) (to_ : PlTarget) :
    plOutstanding { s with fab := { s.fab with wait := s.fab.wait ++ [p] } } port to_ =
      plOutstanding s port to_ + if p.port = port ∧ p.tgt = to_ then 1 else 0 := by
  unfold plOutstanding
  by_cases h : p.port = port ∧ p.tgt = to_
  · simp [h]; omega
  · rw [if_neg h]
    have : (p.port == port && p.tgt == to_) = false := by simpa using h
    simp [this]

/-- A packet is issued where its port stands below its limit. -/
theorem plIssue1_of_lt {s : State} {p : PlPkt} (h : plOutstanding s p.port p.tgt < 16) :
    plIssue1 s p = { s with fab := { s.fab with wait := s.fab.wait ++ [p.issuedAt s.stn.time.toNat] } } := if_pos h

theorem plIssue1_of_not_lt {s : State} {p : PlPkt} (h : ¬ plOutstanding s p.port p.tgt < 16) :
    plIssue1 s p = { s with fab := { s.fab with queue := s.fab.queue ++ [p] } } := if_neg h

theorem issues_plIssue1 (s : State) (p : PlPkt) : Issues s (plIssue1 s p) := by
  by_cases h : plOutstanding s p.port p.tgt < 16
  · rw [plIssue1_of_lt h]
    refine ⟨rfl, List.prefix_append .., fun port to_ hs => ?_⟩
    rw [plOutstanding_append_wait]
    split
    · next hp =>
      obtain ⟨rfl, rfl⟩ := hp
      exact h
    · exact hs
  · rw [plIssue1_of_not_lt h]
    exact Issues.setQueue ..

theorem issues_foldl (l : List PlPkt) (s : State) : Issues s (l.foldl plIssue1 s) := by
  induction l generalizing s with
  | nil => exact Issues.refl s
  | cons p l ih => exact (issues_plIssue1 s p).trans (ih _)

theorem issues_plIssue (s : State) : Issues s (plIssue s) := (Issues.setQueue s []).trans (issues_foldl ..)

theorem issues_plTakeAged (s : State) (l : List (PlReq × Nat)) : Issues s (plTakeAged s l) :=
  (Issues.setQueue ..).trans (issues_plIssue _)

theorem issues_plBegin (s : State) (new : List PlReq) : Issues { s with evr := { s.evr with out := [] } } (plBegin s new) :=
  (issues_plTakeAged ..).trans (issues_plTakeAged ..)

/-- The first packet of a queue is issued where its port stands below its limit. -/
theorem mem_plIssue_of_head {s : State} {q : PlPkt} {rest : List PlPkt} (hq : s.fab.queue = q :: rest)
    (h : plOutstanding s q.port q.tgt < 16) : q.issuedAt s.stn.time.toNat ∈ (plIssue s).fab.wait := by
  unfold plIssue
  rw [hq, List.foldl_cons]
  refine (issues_foldl rest _).wait.subset ?_
  rw [plIssue1_of_lt (by exact h)]
  exact List.mem_append_right _ (List.mem_singleton_self _)

/-! ### Where the packets come from -/

theorem mem_foldl_plIssue1 (l : List PlPkt) (s : State) (p : PlPkt) :
    (p ∈ (l.foldl plIssue1 s).fab.wait → p ∈ s.fab.wait ∨ ∃ q ∈ l, p = q.issuedAt s.stn.time.toNat) ∧
    (p ∈ (l.foldl plIssue1 s).fab.queue → p ∈ s.fab.queue ∨ p ∈ l) := by
  induction l generalizing s with
  | nil => exact ⟨.inl, .inl⟩
  | cons a l ih =>
    obtain ⟨hw, hq⟩ := ih (plIssue1 s a)
    rw [(issues_plIssue1 s a).stn] at hw
    rw [List.foldl_cons]
    by_cases h : plOutstanding s a.port a.tgt < 16
    · rw [plIssue1_of_lt h] at hw hq ⊢
      simp only [List.mem_append, List.mem_cons] at hw hq ⊢
      exact ⟨by grind, by grind⟩
    · rw [plIssue1_of_not_lt h] at hw hq ⊢
      simp only [List.mem_append, List.mem_cons] at hw hq ⊢
      exact ⟨by grind, by grind⟩

theorem mem_plIssue_wait {s : State} {p : PlPkt} (h : p ∈ (plIssue s).fab.wait) :
    p ∈ s.fab.wait ∨ ∃ q ∈ s.fab.queue, p = q.issuedAt s.stn.time.toNat :=
  (mem_foldl_plIssue1 s.fab.queue { s with fab := { s.fab with queue := [] } } p).1 h

theorem mem_plIssue_queue {s : State} {p : PlPkt} (h : p ∈ (plIssue s).fab.queue) : p ∈ s.fab.queue := by
  simpa using (mem_foldl_plIssue1 ..).2 h

theorem words_of_mem_plCut {s : State} {r : PlReq} {age : Nat} {p : PlPkt} (h : p ∈ plCut s r age) : p.words ≤ 64 := by
  unfold plCut at h
  obtain ⟨i, hi, rfl⟩ := List.mem_map.1 h
  dsimp only
  split
  · next he =>
    have : r.words ≤ 64 * max 1 (cdiv r.words 64) := by unfold cdiv; omega
    omega
  · exact le_rfl

/-- Each packet queued after new transfers was queued before or is one of theirs, of at most 64 words (R45). -/
theorem mem_plTakeAged_queue {s : State} {l : List (PlReq × Nat)} {p : PlPkt} (h : p ∈ (plTakeAged s l).fab.queue) :
    p ∈ s.fab.queue ∨ p.words ≤ 64 := by
  refine (List.mem_append.1 (mem_plIssue_queue h)).imp_right fun hc => ?_
  obtain ⟨x, -, hx⟩ := List.mem_flatMap.1 hc
  exact words_of_mem_plCut hx

/-- Each packet before an arbiter after new transfers was there before, is one of theirs, or was queued and has now been issued. -/
theorem mem_plTakeAged_wait {s : State} {l : List (PlReq × Nat)} {p : PlPkt} (h : p ∈ (plTakeAged s l).fab.wait) :
    p ∈ s.fab.wait ∨ p.words ≤ 64 ∨ ∃ q ∈ s.fab.queue, p = q.issuedAt s.stn.time.toNat := by
  obtain h | ⟨q, hq, rfl⟩ := mem_plIssue_wait h
  · exact .inl h
  · refine .inr ((List.mem_append.1 hq).symm.imp (fun hc => ?_) fun hq => ⟨q, hq, rfl⟩)
    obtain ⟨x, -, hx⟩ := List.mem_flatMap.1 hc
    exact (words_of_mem_plCut hx : q.words ≤ 64)

theorem mem_plBegin {s : State} {new : List PlReq} {p : PlPkt} (h : p ∈ (plBegin s new).fab.wait ++ (plBegin s new).fab.queue) :
    p ∈ s.fab.wait ++ s.fab.queue ∨ p.words ≤ 64 ∨ ∃ q ∈ s.fab.queue, p = q.issuedAt s.stn.time.toNat := by
  obtain h | h := List.mem_append.1 h
  · obtain h | h | ⟨q, hq, rfl⟩ := mem_plTakeAged_wait h
    · exact (mem_plTakeAged_wait h).imp_left (List.mem_append_left _)
    · exact .inr (.inl h)
    · rw [(issues_plTakeAged ..).stn]
      exact (mem_plTakeAged_queue hq).elim (fun hq => .inr (.inr ⟨q, hq, rfl⟩)) fun hq => .inr (.inl hq)
  · obtain h | h := mem_plTakeAged_queue h
    · exact (mem_plTakeAged_queue h).imp (List.mem_append_right _) .inl
    · exact .inr (.inl h)

/-! ### What the fabric's work depends on -/

theorem plIssue1_fab_congr {s t : State} (hf : t.fab = s.fab) (hn : t.stn = s.stn) (p : PlPkt) :
    (plIssue1 t p).fab = (plIssue1 s p).fab := by
  have ho : plOutstanding t p.port p.tgt = plOutstanding s p.port p.tgt := by unfold plOutstanding; rw [hf]
  by_cases h : plOutstanding s p.port p.tgt < 16
  · rw [plIssue1_of_lt h, plIssue1_of_lt (by rwa [ho]), hf, hn]
  · rw [plIssue1_of_not_lt h, plIssue1_of_not_lt (by rwa [ho]), hf]

theorem foldl_plIssue1_fab_congr (l : List PlPkt) {s t : State} (hf : t.fab = s.fab) (hn : t.stn = s.stn) :
    (l.foldl plIssue1 t).fab = (l.foldl plIssue1 s).fab := by
  induction l generalizing s t with
  | nil => exact hf
  | cons p l ih => exact ih (plIssue1_fab_congr hf hn p) (by rw [(issues_plIssue1 ..).stn, (issues_plIssue1 ..).stn, hn])

theorem plTakeAged_fab_congr {s t : State} (hf : t.fab = s.fab) (hn : t.stn = s.stn) (hk : t.stk = s.stk) (l : List (PlReq × Nat)) :
    (plTakeAged t l).fab = (plTakeAged s l).fab := by
  have hc (r : PlReq) (age : Nat) : plCut t r age = plCut s r age := by simp only [plCut, ownStation, treeStn, hk, hn]
  unfold plTakeAged plIssue
  simp only [hc, hf]
  exact foldl_plIssue1_fab_congr _ rfl hn

/-- Raises on their way to the stack master as transfers, each with its AGE (R54, R409). -/
def raisesOut (s : State) : List (PlReq × Nat) :=
  s.evr.out.map fun x => (plOver s 0 (2 ≤ x.2.1) 10 (treeStn s (topPair 6 s.stk.members s.stk.pairNum.toNat)) 1,
    min (plAge0 (2 ≤ x.2.1) + (s.stn.time.toNat - x.2.2) / 8) 0x7FFFFF)

theorem plBegin_eq (s : State) (new : List PlReq) : plBegin s new =
    plTakeAged (plTakeAged { s with evr := { s.evr with out := [] } } (raisesOut s)) (new.map fun r => (r, plAge0 r.soon)) := rfl

theorem raisesOut_freshCycle (s : State) : raisesOut (freshCycle s) = raisesOut s := by
  unfold raisesOut plOver plEgress treeStn
  rw [freshCycle_out, freshCycle_stn, freshCycle_stk]

/-- The packets that the grant finds are those of the state before the command. -/
theorem plBegin_freshCycle_fab (s : State) (new : List PlReq) : (plBegin (freshCycle s) new).fab = (plBegin s new).fab := by
  rw [plBegin_eq, plBegin_eq, raisesOut_freshCycle]
  refine plTakeAged_fab_congr (plTakeAged_fab_congr (by simp) (by simp) (by simp) _) ?_ ?_ _
  · rw [(issues_plTakeAged ..).stn, (issues_plTakeAged ..).stn]; simp
  · rw [(issues_plTakeAged ..).stk, (issues_plTakeAged ..).stk]; simp

@[simp] theorem plBegin_stn (s : State) (new : List PlReq) : (plBegin s new).stn = s.stn := (issues_plBegin s new).stn
@[simp] theorem plBegin_stk (s : State) (new : List PlReq) : (plBegin s new).stk = s.stk := (issues_plBegin s new).stk
@[simp] theorem plBegin_img (s : State) (new : List PlReq) : (plBegin s new).img = s.img := (issues_plBegin s new).img
@[simp] theorem plBegin_net (s : State) (new : List PlReq) : (plBegin s new).net = s.net := (issues_plBegin s new).net
@[simp] theorem plBegin_log (s : State) (new : List PlReq) : (plBegin s new).log = s.log := (issues_plBegin s new).log
@[simp] theorem plBegin_sent (s : State) (new : List PlReq) : (plBegin s new).sent = s.sent := (issues_plBegin s new).sent
@[simp] theorem plBegin_le (s : State) (new : List PlReq) : (plBegin s new).le = s.le := (issues_plBegin s new).le
@[simp] theorem plBegin_evr (s : State) (new : List PlReq) : (plBegin s new).evr = { s.evr with out := [] } := (issues_plBegin s new).evr

theorem Block.same_plBegin (s : State) (new : List PlReq) {b : Block} (h : b ≠ .fab) : b.Same s (plBegin s new) :=
  (Block.same_evr s { s.evr with out := [] } b).trans ((issues_plBegin s new).same h)

/-- The room that a packet finds depends on no packet. -/
theorem plRoom_congr {s t : State} (hn : t.stn = s.stn) (hk : t.stk = s.stk) (hi : t.img = s.img) (ht : t.net = s.net) (p : PlPkt) :
    plRoom t p = plRoom s p := by
  have hf : dramFree t = dramFree s := by unfold dramFree stagingKib; rw [hn, hk, hi, ht]
  unfold plRoom
  rw [hf, hn]

theorem plReady_congr {s t : State} (hn : t.stn = s.stn) (hk : t.stk = s.stk) (hi : t.img = s.img) (ht : t.net = s.net) (p : PlPkt) :
    plReady t p = plReady s p := by
  have hg : plGap t p = plGap s p := by unfold plGap refNow; rw [hn, hi]
  unfold plReady
  rw [hg, plRoom_congr hn hk hi ht]

/-! ### The packet that an arbiter grants (R53) -/

/-- At the instant `now`, of two packets before arbiter `a` the second goes no later than the first. -/
def NoLater (now : Nat) (s : State) (a : PlTarget) (q p : PlPkt) : Prop :=
  plAge now q ≤ plAge now p ∧ (plAge now q = plAge now p → plTurn s a p.port ≤ plTurn s a q.port)

theorem NoLater.refl (now : Nat) (s : State) (a : PlTarget) (p : PlPkt) : NoLater now s a p p := ⟨le_rfl, fun _ => le_rfl⟩

theorem NoLater.trans {now : Nat} {s : State} {a : PlTarget} {p q r : PlPkt} (h : NoLater now s a p q) (k : NoLater now s a q r) :
    NoLater now s a p r := by
  obtain ⟨ha, ht⟩ := h
  obtain ⟨ka, kt⟩ := k
  exact ⟨ha.trans ka, fun e => (kt (by omega)).trans (ht (by omega))⟩

/-- One comparison of the arbiter: the packet that it keeps goes no later than either. -/
theorem noLater_of_compare (now : Nat) (s : State) (a : PlTarget) (q p : PlPkt) :
    if plAge now q < plAge now p || (plAge now q = plAge now p && plTurn s a p.port < plTurn s a q.port) then NoLater now s a q p
    else NoLater now s a p q := by
  simp only [Bool.or_eq_true, Bool.and_eq_true, decide_eq_true_eq, NoLater]
  split <;> omega

/-- Among the packets before an arbiter `p` is one that none goes before: its AGE is the largest and among equals it is next in turn. -/
def IsOldest (now : Nat) (s : State) (a : PlTarget) (p : PlPkt) : Prop :=
  p ∈ s.fab.wait ∧ p.at_ = a ∧ ∀ q ∈ s.fab.wait, q.at_ = a → NoLater now s a q p

/-- The arbiter's comparison as a step over the packets. -/
def olderOf (s : State) (a : PlTarget) (q p : PlPkt) : PlPkt :=
  let now := s.stn.time.toNat
  if plAge now q < plAge now p || (plAge now q = plAge now p && plTurn s a p.port < plTurn s a q.port) then p else q

theorem plOldest_eq (s : State) (a : PlTarget) : plOldest s a =
    (s.fab.wait.filter (fun p => p.at_ == a)).foldl (fun x p => some (x.elim p (olderOf s a · p))) none := by
  unfold plOldest
  dsimp only
  congr 1
  funext x p
  cases x with
  | none => rfl
  | some q => exact (apply_ite some _ p q).symm

theorem olderOf_spec (s : State) (a : PlTarget) (q p : PlPkt) :
    (olderOf s a q p = q ∨ olderOf s a q p = p) ∧ NoLater s.stn.time.toNat s a q (olderOf s a q p) ∧
      NoLater s.stn.time.toNat s a p (olderOf s a q p) := by
  have h := noLater_of_compare s.stn.time.toNat s a q p
  unfold olderOf
  dsimp only
  split at h
  · next hc => rw [if_pos hc]; exact ⟨.inr rfl, h, .refl ..⟩
  · next hc => rw [if_neg hc]; exact ⟨.inl rfl, .refl .., h⟩

theorem foldl_olderOf (s : State) (a : PlTarget) (l : List PlPkt) (q : PlPkt) :
    ∃ p ∈ q :: l, l.foldl (fun x p => some (x.elim p (olderOf s a · p))) (some q) = some p ∧
      ∀ r ∈ q :: l, NoLater s.stn.time.toNat s a r p := by
  induction l generalizing q with
  | nil => exact ⟨q, by simp, rfl, by simpa using NoLater.refl ..⟩
  | cons p l ih =>
    obtain ⟨x, hx, hf, ho⟩ := ih (olderOf s a q p)
    obtain ⟨hm, hq, hp⟩ := olderOf_spec s a q p
    refine ⟨x, ?_, hf, ?_⟩
    · obtain rfl | hx := List.mem_cons.1 hx
      · obtain h | h := hm <;> simp [h]
      · simp [hx]
    · have h0 := ho _ (List.mem_cons_self ..)
      simp only [List.mem_cons, forall_eq_or_imp]
      exact ⟨hq.trans h0, hp.trans h0, fun r hr => ho r (List.mem_cons_of_mem _ hr)⟩

theorem mem_before_iff {s : State} {a : PlTarget} {p : PlPkt} :
    p ∈ s.fab.wait.filter (fun p => p.at_ == a) ↔ p ∈ s.fab.wait ∧ p.at_ = a := by simp

/-- Nothing waits before an arbiter, or it has an oldest packet. -/
theorem plOldest_spec (s : State) (a : PlTarget) :
    (plOldest s a = none ∧ ∀ p, ¬ IsOldest s.stn.time.toNat s a p) ∨ ∃ p, plOldest s a = some p ∧ IsOldest s.stn.time.toNat s a p := by
  rw [plOldest_eq]
  cases hl : s.fab.wait.filter (fun p => p.at_ == a) with
  | nil =>
    refine .inl ⟨rfl, fun p hp => ?_⟩
    obtain ⟨hm, ha, -⟩ := hp
    have := mem_before_iff.2 ⟨hm, ha⟩
    simp [hl] at this
  | cons q l =>
    obtain ⟨p, hp, hf, ho⟩ := foldl_olderOf s a l q
    rw [← hl] at hp ho
    obtain ⟨hm, ha⟩ := mem_before_iff.1 hp
    exact .inr ⟨p, hf, hm, ha, fun r hr hra => ho r (mem_before_iff.2 ⟨hr, hra⟩)⟩

/-- Where no oldest packet is ready the arbiter grants none. -/
theorem plPick_eq_none {s : State} {a : PlTarget} (h : ∀ p, IsOldest s.stn.time.toNat s a p → plReady s p = false) : plPick s a = none := by
  unfold plPick
  obtain ⟨hn, -⟩ | ⟨p, hp, ho⟩ := plOldest_spec s a
  · rw [hn]; rfl
  · rw [hp]; simp [h p ho]

/-- Where every oldest packet is ready and there is one, the arbiter grants an oldest one. -/
theorem plPick_eq_some {s : State} {a : PlTarget} (he : ∃ p, IsOldest s.stn.time.toNat s a p)
    (h : ∀ p, IsOldest s.stn.time.toNat s a p → plReady s p = true) : ∃ p, plPick s a = some p ∧ IsOldest s.stn.time.toNat s a p := by
  obtain ⟨-, hn⟩ | ⟨p, hp, ho⟩ := plOldest_spec s a
  · obtain ⟨p, hp⟩ := he
    exact absurd hp (hn p)
  · exact ⟨p, by unfold plPick; rw [hp]; simp [h p ho], ho⟩

/-! ### Buffers (R51) -/

theorem toNat_sub_ofNat_add {n : Nat} (a : BitVec n) {k : Nat} (h : k ≤ a.toNat) : (a - BitVec.ofNat n k).toNat + k = a.toNat := by
  have hk : (BitVec.ofNat n k).toNat = k := by
    rw [BitVec.toNat_ofNat]; exact Nat.mod_eq_of_lt (h.trans_lt a.isLt)
  rw [BitVec.toNat_sub_of_le (by rw [BitVec.le_def, hk]; exact h), hk]
  omega

/-- A buffer goes into on-die SRAM only when soon, of at most 64 KiB and within what is free there. -/
theorem plRoom_eq_sram {s : State} {p : PlPkt} (h : plRoom s p = some true) :
    p.soon = true ∧ p.kib ≤ 64 ∧ p.kib ≤ s.stn.placedFree.toNat := by
  unfold plRoom at h
  split at h
  · simp at h
  · split at h
    · next hc => simpa [and_assoc] using hc
    · split at h <;> simp at h

/-- Any other buffer goes into DRAM within what is free there. -/
theorem plRoom_eq_dram {s : State} {p : PlPkt} (h : plRoom s p = some false) : p.kib ≤ s.stn.dramFree.toNat := by
  unfold plRoom at h
  split at h
  · omega
  · split at h
    · simp at h
    · split at h
      · next hc => exact hc.trans (Nat.sub_le ..)
      · simp at h

theorem plAlloc_of_zero {s : State} {p : PlPkt} (h : p.kib = 0) : plAlloc s p = s := if_pos h

/-- Placing a buffer touches the buffers and the room left, and nothing else. -/
theorem plAlloc_eq (s : State) (p : PlPkt) : ∃ a b c d, plAlloc s p =
    { s with stn := { s.stn with placedFree := a, dramFree := b }, fab := { s.fab with bufs := c, next := d } } := by
  unfold plAlloc
  dsimp only
  split
  · exact ⟨_, _, _, _, rfl⟩
  · split <;> exact ⟨_, _, _, _, rfl⟩

section
variable (s : State) (p : PlPkt)
@[simp] theorem plAlloc_wait : (plAlloc s p).fab.wait = s.fab.wait := by obtain ⟨a, b, c, d, h⟩ := plAlloc_eq s p; rw [h]
@[simp] theorem plAlloc_queue : (plAlloc s p).fab.queue = s.fab.queue := by obtain ⟨a, b, c, d, h⟩ := plAlloc_eq s p; rw [h]
@[simp] theorem plAlloc_out : (plAlloc s p).fab.out = s.fab.out := by obtain ⟨a, b, c, d, h⟩ := plAlloc_eq s p; rw [h]
@[simp] theorem plAlloc_last : (plAlloc s p).fab.last = s.fab.last := by obtain ⟨a, b, c, d, h⟩ := plAlloc_eq s p; rw [h]
@[simp] theorem plAlloc_sent : (plAlloc s p).sent = s.sent := by obtain ⟨a, b, c, d, h⟩ := plAlloc_eq s p; rw [h]
@[simp] theorem plAlloc_evr : (plAlloc s p).evr = s.evr := by obtain ⟨a, b, c, d, h⟩ := plAlloc_eq s p; rw [h]
@[simp] theorem plAlloc_log : (plAlloc s p).log = s.log := by obtain ⟨a, b, c, d, h⟩ := plAlloc_eq s p; rw [h]

theorem plAlloc_stn : (plAlloc s p).stn =
    { s.stn with placedFree := (plAlloc s p).stn.placedFree, dramFree := (plAlloc s p).stn.dramFree } := by
  obtain ⟨a, b, c, d, h⟩ := plAlloc_eq s p; rw [h]

theorem Block.same_plAlloc {b : Block} (hf : b ≠ .fab) (hn : b ≠ .stn) : b.Same s (plAlloc s p) := by
  obtain ⟨x, y, c, d, h⟩ := plAlloc_eq s p
  rw [h]
  exact (Block.same_stn s _ hn).trans (Block.same_fab _ _ hf)
end

/-- A buffer that has room is placed, and what it takes is no longer free. -/
theorem plAlloc_of_room {s : State} {p : PlPkt} (h : p.kib ≠ 0) (hr : (plRoom s p).isSome = true) :
    ∃ sram, (plAlloc s p).fab.bufs = s.fab.bufs ++ [{ num := s.fab.next, kib := p.kib, inSram := sram }] ∧
      (sram = true → p.soon = true ∧ p.kib ≤ 64 ∧ (plAlloc s p).stn.dramFree = s.stn.dramFree ∧
        (plAlloc s p).stn.placedFree.toNat + p.kib = s.stn.placedFree.toNat) ∧
      (sram = false → (plAlloc s p).stn.placedFree = s.stn.placedFree ∧
        (plAlloc s p).stn.dramFree.toNat + p.kib = s.stn.dramFree.toNat) := by
  obtain ⟨sram, hs⟩ := Option.isSome_iff_exists.1 hr
  unfold plAlloc
  rw [if_neg h, hs]
  cases sram with
  | true =>
    obtain ⟨hsoon, hmax, hfree⟩ := plRoom_eq_sram hs
    exact ⟨true, rfl, fun _ => ⟨hsoon, hmax, rfl, toNat_sub_ofNat_add _ hfree⟩, by simp⟩
  | false => exact ⟨false, rfl, by simp, fun _ => ⟨rfl, toNat_sub_ofNat_add _ (plRoom_eq_dram hs)⟩⟩

/-- Freeing a buffer touches the buffers and the room left, and nothing else. -/
theorem plFree_eq (s : State) (n : Nat) : ∃ a b c, plFree s n =
    { s with stn := { s.stn with placedFree := a, dramFree := b }, fab := { s.fab with bufs := c } } := by
  unfold plFree
  split
  · exact ⟨_, _, _, rfl⟩
  · dsimp only
    split <;> exact ⟨_, _, _, rfl⟩

/-- A buffer that stands is freed: it goes, and the room that it took is free again. -/
theorem plFree_of_find {s : State} {n : Nat} {b : PlBuf} (h : s.fab.bufs.find? (fun b => b.num == n) = some b) :
    (plFree s n).fab.bufs = s.fab.bufs.filter (fun b => b.num ≠ n) ∧
    if b.inSram then (plFree s n).stn.placedFree = s.stn.placedFree + BitVec.ofNat 16 b.kib ∧ (plFree s n).stn.dramFree = s.stn.dramFree
    else (plFree s n).stn.placedFree = s.stn.placedFree ∧ (plFree s n).stn.dramFree = s.stn.dramFree + BitVec.ofNat 32 b.kib := by
  unfold plFree
  rw [h]
  cases hb : b.inSram <;> simp [hb]

/-! ### A grant (R45, R51, R53) -/

/-- The packet has left the arbiter `a`, which now has granted its input last. -/
def takenFrom (s : State) (a : PlTarget) (p : PlPkt) : State :=
  send { s with fab := { s.fab with wait := s.fab.wait.erase p, last := (a, p.port) :: s.fab.last.filter (fun x => x.1 ≠ a) } }
    (.packet a (plHdr s p).bits)

/-- The packet goes on to the next arbiter. -/
def passedOn (s : State) (a : PlTarget) (p : PlPkt) : State :=
  let r := takenFrom s a p
  { r with fab := { r.fab with wait := r.fab.wait ++ [{ p with via := p.via.tail }] } }

/-- The packet travels to its target. -/
def underway (s : State) (a : PlTarget) (p : PlPkt) : State :=
  let r := takenFrom s a p
  { r with fab := { r.fab with out := r.fab.out ++ [p] } }

/-- A grant: the packet goes on, or travels to its target with its buffer placed. -/
def grantTo (s : State) (a : PlTarget) (p : PlPkt) : State :=
  if p.via.isEmpty then plAlloc (underway s a p) p else passedOn s a p

theorem grantTo_of_via {s : State} {p : PlPkt} (h : p.via ≠ []) (a : PlTarget) : grantTo s a p = passedOn s a p := if_neg (by simpa using h)

theorem grantTo_of_target {s : State} {p : PlPkt} (h : p.via = []) (a : PlTarget) : grantTo s a p = plAlloc (underway s a p) p :=
  if_pos (by simp [h])

theorem exec_placedPacketGrant {s : State} (ha : alive s = true) (a : PlTarget) (new : List PlReq) :
    exec (.placedPacketGrant a new) s = .next { settle ((plPick (plBegin (freshCycle s) new) a).elim (plBegin (freshCycle s) new)
      (grantTo (plBegin (freshCycle s) new) a)) with pending := s.pending } := by
  rw [show exec (.placedPacketGrant a new) s = execPlacedPacketGrant a new s from rfl, execPlacedPacketGrant, guarded_true ha]
  dsimp only
  cases plPick (plBegin (freshCycle s) new) a <;> rfl

section
variable (s : State) (a : PlTarget) (p : PlPkt)

theorem Block.same_takenFrom {b : Block} (hf : b ≠ .fab) : b.Same s (takenFrom s a p) := by
  refine (Block.same_fab s (takenFrom s a p).fab hf).trans ?_
  cases b <;> first | rfl | exact fun _ => rfl

theorem Block.same_grantTo {b : Block} (hf : b ≠ .fab) (hn : b ≠ .stn) : b.Same s (grantTo s a p) := by
  refine (Block.same_takenFrom s a p hf).trans ?_
  by_cases h : p.via = []
  · rw [grantTo_of_target h]
    exact (Block.same_fab _ _ hf).trans (Block.same_plAlloc _ p hf hn)
  · rw [grantTo_of_via h]
    exact Block.same_fab _ _ hf

@[simp] theorem grantTo_sent : (grantTo s a p).sent = .packet a (plHdr s p).bits :: s.sent := by
  unfold grantTo; split <;> [exact plAlloc_sent ..; rfl]
@[simp] theorem grantTo_evr : (grantTo s a p).evr = s.evr := by unfold grantTo; split <;> [exact plAlloc_evr ..; rfl]
@[simp] theorem grantTo_log : (grantTo s a p).log = s.log := by unfold grantTo; split <;> [exact plAlloc_log ..; rfl]
end

/-- A grant of packet `p` by arbiter `a` takes the fabric from `f` to `f'` and STN from `n` to `n'` (R51, R53). -/
def GrantLeaves (a : PlTarget) (p : PlPkt) (n n' : Stn) (f f' : FabBlk) : Prop :=
  f'.queue = f.queue ∧ f'.last = (a, p.port) :: f.last.filter (fun x => x.1 ≠ a) ∧
  (p.via ≠ [] → n' = n ∧ f'.out = f.out ∧ f'.bufs = f.bufs ∧ f'.wait = f.wait.erase p ++ [{ p with via := p.via.tail }]) ∧
  (p.via = [] → f'.wait = f.wait.erase p ∧ f'.out = f.out ++ [p] ∧
    (p.kib = 0 → n' = n ∧ f'.bufs = f.bufs) ∧
    (p.kib ≠ 0 → ∃ sram, f'.bufs = f.bufs ++ [{ num := f.next, kib := p.kib, inSram := sram }] ∧
      n' = { n with placedFree := n'.placedFree, dramFree := n'.dramFree } ∧
      (sram = true → p.soon = true ∧ p.kib ≤ 64 ∧ n'.dramFree = n.dramFree ∧ n'.placedFree.toNat + p.kib = n.placedFree.toNat) ∧
      (sram = false → n'.placedFree = n.placedFree ∧ n'.dramFree.toNat + p.kib = n.dramFree.toNat)))

theorem passedOn_leaves (s : State) (a : PlTarget) {p : PlPkt} (h : p.via ≠ []) :
    GrantLeaves a p s.stn (passedOn s a p).stn s.fab (passedOn s a p).fab :=
  ⟨rfl, rfl, fun _ => ⟨rfl, rfl, rfl, rfl⟩, fun hn => absurd hn h⟩

theorem underway_leaves {s : State} (a : PlTarget) {p : PlPkt} (h : p.via = []) (hr : (plRoom s p).isSome = true) :
    GrantLeaves a p s.stn (plAlloc (underway s a p) p).stn s.fab (plAlloc (underway s a p) p).fab := by
  refine ⟨plAlloc_queue .., plAlloc_last .., fun hn => absurd h hn, fun _ => ⟨plAlloc_wait .., plAlloc_out .., fun h0 => ?_, fun h0 => ?_⟩⟩
  · rw [plAlloc_of_zero h0]
    exact ⟨rfl, rfl⟩
  · have hroom : plRoom (underway s a p) p = plRoom s p := plRoom_congr rfl rfl rfl rfl p
    obtain ⟨sram, hb, hs, hd⟩ := plAlloc_of_room (s := underway s a p) h0 (by rwa [hroom])
    exact ⟨sram, hb, plAlloc_stn .., hs, hd⟩

theorem grantTo_leaves {s : State} {p : PlPkt} (hr : plReady s p = true) (a : PlTarget) :
    GrantLeaves a p s.stn (grantTo s a p).stn s.fab (grantTo s a p).fab := by
  by_cases h : p.via = []
  · rw [grantTo_of_target h]
    have hroom : (plRoom s p).isSome = true := by simpa [plReady, h] using (Bool.and_eq_true_iff.1 hr).2
    exact underway_leaves a h hroom
  · rw [grantTo_of_via h]
    exact passedOn_leaves s a h

theorem plHdr_congr {s t : State} (h : t.stn = s.stn) (p : PlPkt) : plHdr t p = plHdr s p := by unfold plHdr refNow; rw [h]

theorem isOldest_congr {s t : State} (h : t.fab = s.fab) (now : Nat) (a : PlTarget) (p : PlPkt) :
    IsOldest now t a p ↔ IsOldest now s a p := by
  simp only [IsOldest, NoLater, plTurn, h]

/-- The choice of an arbiter does not depend on what LOG does in the fabric cycle before. -/
theorem isOldest_freshCycle {s : State} {new : List PlReq} {a : PlTarget} {p : PlPkt} :
    IsOldest (plBegin (freshCycle s) new).stn.time.toNat (plBegin (freshCycle s) new) a p ↔
      IsOldest s.stn.time.toNat (plBegin s new) a p := by
  rw [isOldest_congr (plBegin_freshCycle_fab s new), plBegin_stn, freshCycle_stn]

theorem plReady_freshCycle (s : State) (new : List PlReq) (p : PlPkt) :
    plReady (plBegin (freshCycle s) new) p = plReady (plBegin s new) p :=
  plReady_congr (by simp) (by simp) (by simp) (by simp) p

/-- Where no oldest packet is ready, the new transfers are taken and nothing is granted. -/
theorem does_grant_none {s : State} (ha : alive s = true) {a : PlTarget} {new : List PlReq}
    (h : ∀ p, IsOldest s.stn.time.toNat (plBegin s new) a p → plReady (plBegin s new) p = false) :
    Does (.placedPacketGrant a new) s [.fab] (fun t => t.fab = (plBegin s new).fab ∧ (s.evr.out = [] → Silent s t)) := by
  have hp : plPick (plBegin (freshCycle s) new) a = none := plPick_eq_none fun p ho => by
    rw [plReady_freshCycle]
    exact h p (isOldest_freshCycle.1 ho)
  refine does_of (f := fun u => plBegin u new) ?_ (fun b hb => Block.same_plBegin _ _ (by simpa using hb))
    ⟨?_, fun ho => silent_of (f := fun u => plBegin u new) fun _ => ?_⟩
  · rw [exec_placedPacketGrant ha, hp]
    rfl
  · simp [plBegin_freshCycle_fab]
  · simp [← ho]

/-- Where an oldest packet stands before the arbiter and each such is ready, one is granted. -/
theorem does_grant_some {s : State} (ha : alive s = true) {a : PlTarget} {new : List PlReq}
    (he : ∃ p, IsOldest s.stn.time.toNat (plBegin s new) a p)
    (h : ∀ p, IsOldest s.stn.time.toNat (plBegin s new) a p → plReady (plBegin s new) p = true) :
    Does (.placedPacketGrant a new) s [.fab, .stn] (fun t => ∃ p, IsOldest s.stn.time.toNat (plBegin s new) a p ∧
      Sends s t (.packet a (plHdr s p).bits) ∧ GrantLeaves a p s.stn t.stn (plBegin s new).fab t.fab) := by
  obtain ⟨p, hp, ho⟩ := plPick_eq_some (s := plBegin (freshCycle s) new) (a := a) (by simpa only [isOldest_freshCycle] using he)
    fun p ho => (plReady_freshCycle ..).trans (h p (isOldest_freshCycle.1 ho))
  have ho := isOldest_freshCycle.1 ho
  refine does_of (f := fun u => grantTo (plBegin u new) a p) ?_ (fun b hb => ?_)
    ⟨p, ho, sends_of (f := fun u => grantTo (plBegin u new) a p) fun _ => ?_, ?_⟩
  · rw [exec_placedPacketGrant ha, hp]
    rfl
  · simp only [List.mem_cons, List.not_mem_nil, or_false, not_or] at hb
    exact (Block.same_plBegin _ _ hb.1).trans (Block.same_grantTo _ _ _ hb.1 hb.2)
  · simp [plHdr_congr (plBegin_stn s new)]
  · have hl := grantTo_leaves (s := plBegin (freshCycle s) new) ((plReady_freshCycle ..).trans (h p ho)) a
    rw [plBegin_freshCycle_fab, plBegin_stn, freshCycle_stn] at hl
    simpa using hl

/-! ### Completion (R46, R51, R55) -/

/-- The packet `p` is no longer outstanding, and the buffer that it frees is free. -/
def released (s : State) (p : PlPkt) : State :=
  let r := { s with fab := { s.fab with out := s.fab.out.erase p } }
  match p.release with
  | some n => plFree r n
  | none => r

/-- What a completion leaves: its port may issue again, and a late packet is counted. -/
def completed (s : State) (p : PlPkt) : State :=
  let r := plIssue (released s p)
  if s.stn.time.toNat > p.deadline then raise { r with stn := { r.stn with lateCnt := satInc r.stn.lateCnt } } 497 else r

theorem exec_placedPacketComplete {s : State} (ha : alive s = true) {port : Fin 8} {a : PlTarget} {p : PlPkt}
    (h : s.fab.out.find? (fun p => p.port == port && p.tgt == a) = some p) :
    exec (.placedPacketComplete port a) s = .next { settle (completed (freshCycle s) p) with pending := s.pending } := by
  have hany : s.fab.out.any (fun p => p.port == port && p.tgt == a) = true :=
    List.any_eq_true.2 ⟨p, List.mem_of_find?_eq_some h, by simpa using List.find?_some h⟩
  rw [show exec (.placedPacketComplete port a) s = execPlacedPacketComplete port a s from rfl, execPlacedPacketComplete,
    guarded_true (by rw [ha, hany]; rfl)]
  have hf : (freshCycle s).fab.out.find? (fun p => p.port == port && p.tgt == a) = some p := by rw [freshCycle_fab]; exact h
  dsimp only
  rw [hf]
  rfl

/-- Freeing the packet's buffer touches the packets outstanding, the buffers and the room left, and nothing else. -/
theorem released_eq (s : State) (p : PlPkt) : ∃ x y c, released s p =
    { s with stn := { s.stn with placedFree := x, dramFree := y }, fab := { s.fab with out := s.fab.out.erase p, bufs := c } } := by
  unfold released
  cases p.release with
  | none => exact ⟨_, _, _, rfl⟩
  | some n =>
    obtain ⟨x, y, c, h⟩ := plFree_eq { s with fab := { s.fab with out := s.fab.out.erase p } } n
    exact ⟨x, y, c, h⟩

section
variable (s : State) (p : PlPkt)
@[simp] theorem released_wait : (released s p).fab.wait = s.fab.wait := by obtain ⟨x, y, c, h⟩ := released_eq s p; rw [h]
@[simp] theorem released_queue : (released s p).fab.queue = s.fab.queue := by obtain ⟨x, y, c, h⟩ := released_eq s p; rw [h]
@[simp] theorem released_out : (released s p).fab.out = s.fab.out.erase p := by obtain ⟨x, y, c, h⟩ := released_eq s p; rw [h]
@[simp] theorem released_evr : (released s p).evr = s.evr := by obtain ⟨x, y, c, h⟩ := released_eq s p; rw [h]
theorem released_stn : (released s p).stn =
    { s.stn with placedFree := (released s p).stn.placedFree, dramFree := (released s p).stn.dramFree } := by
  obtain ⟨x, y, c, h⟩ := released_eq s p; rw [h]
@[simp] theorem released_time : (released s p).stn.time = s.stn.time := by rw [released_stn]
@[simp] theorem released_lateCnt : (released s p).stn.lateCnt = s.stn.lateCnt := by rw [released_stn]

theorem Block.same_released {b : Block} (hf : b ≠ .fab) (hn : b ≠ .stn) : b.Same s (released s p) := by
  obtain ⟨x, y, c, h⟩ := released_eq s p
  rw [h]
  exact (Block.same_stn s _ hn).trans (Block.same_fab _ _ hf)

/-- A completion issues what its port may issue; the packets and buffers are those of the release but for that. -/
theorem completed_fab : (completed s p).fab = (plIssue (released s p)).fab := by
  unfold completed; dsimp only; split <;> simp

theorem completed_stn : (completed s p).stn = { (released s p).stn with
    lateCnt := if p.deadline < s.stn.time.toNat then satInc s.stn.lateCnt else s.stn.lateCnt } := by
  unfold completed
  dsimp only
  split
  · rw [raise_stn, (issues_plIssue _).stn, released_lateCnt]
  · rw [(issues_plIssue _).stn, ← released_lateCnt s p]

theorem Block.same_completed {b : Block} (hf : b ≠ .fab) (hn : b ≠ .stn) : b.Same s (completed s p) := by
  have hr := (Block.same_released s p hf hn).trans ((issues_plIssue (released s p)).same hf)
  unfold completed
  dsimp only
  split
  · exact hr.trans ((Block.same_stn _ _ hn).trans (same_raise ..))
  · exact hr
end

theorem plOutstanding_released {s : State} {p : PlPkt} (hp : p ∈ s.fab.out) :
    plOutstanding (released s p) p.port p.tgt + 1 = plOutstanding s p.port p.tgt := by
  unfold plOutstanding
  rw [released_wait, released_out, ← List.countP_eq_length_filter, ← List.countP_eq_length_filter, List.countP_append, List.countP_append,
    List.countP_erase]
  have : 0 < s.fab.out.countP fun q => q.port == p.port && q.tgt == p.tgt := List.countP_pos_iff.2 ⟨p, hp, by simp⟩
  simp [hp]
  omega

/-- The packet that the port has queued first is issued when one of its packets completes. -/
theorem mem_completed_wait {s : State} {p q : PlPkt} {rest : List PlPkt} (hp : p ∈ s.fab.out) (hq : s.fab.queue = q :: rest)
    (hport : q.port = p.port) (htgt : q.tgt = p.tgt) (h : plOutstanding s p.port p.tgt ≤ 16) :
    q.issuedAt s.stn.time.toNat ∈ (completed s p).fab.wait := by
  have ho := plOutstanding_released hp
  rw [completed_fab, ← released_time s p]
  exact mem_plIssue_of_head (by rw [released_queue, hq]) (by rw [hport, htgt]; omega)

/-- A late completion ends with its raise. -/
theorem completed_of_late {s : State} {p : PlPkt} (h : p.deadline < s.stn.time.toNat) :
    ∃ u, completed s p = raise u 497 ∧ u.evr = s.evr :=
  ⟨_, if_pos h, (issues_plIssue _).evr.trans (released_evr s p)⟩

theorem does_placedPacketComplete {s : State} (ha : alive s = true) {port : Fin 8} {a : PlTarget} {p : PlPkt}
    (h : s.fab.out.find? (fun p => p.port == port && p.tgt == a) = some p) :
    Does (.placedPacketComplete port a) s [.fab, .stn] (fun t => t.fab = (completed (freshCycle s) p).fab ∧
      t.stn = (completed (freshCycle s) p).stn ∧ (p.deadline < s.stn.time.toNat → Settled s → Raised t 497)) := by
  refine does_of (f := fun u => completed u p) (exec_placedPacketComplete ha h) (fun b hb => ?_)
    ⟨settle_fab _, settle_stn _, fun hl => ?_⟩
  · simp only [List.mem_cons, List.not_mem_nil, or_false, not_or] at hb
    exact Block.same_completed _ _ hb.1 hb.2
  · obtain ⟨u, hu, hv⟩ := completed_of_late (s := freshCycle s) (p := p) (by rwa [freshCycle_stn])
    dsimp only
    rw [hu]
    exact raised_of (by decide) fun hs => (NowRaised.of_settled hs).freshCycle.congr hv

theorem released_of_none {s : State} {p : PlPkt} (h : p.release = none) :
    released s p = { s with fab := { s.fab with out := s.fab.out.erase p } } := by
  unfold released; rw [h]

theorem released_of_some {s : State} {p : PlPkt} {n : Nat} (h : p.release = some n) :
    released s p = plFree { s with fab := { s.fab with out := s.fab.out.erase p } } n := by
  unfold released; rw [h]

/-! ### Saturated ages (R54) -/

theorem plSaturates_freshCycle (s : State) (a : PlTarget) : plSaturates (freshCycle s) a = plSaturates s a := by
  funext p; unfold plSaturates; rw [freshCycle_stn]

theorem reqAge_freshCycle (s : State) : reqAge (freshCycle s) = reqAge s := by
  funext m r; unfold reqAge refNow; rw [freshCycle_stn]

theorem reqSaturates_freshCycle (s : State) : reqSaturates (freshCycle s) = reqSaturates s := by
  funext x; unfold reqSaturates; rw [freshCycle_qp, reqAge_freshCycle]

/-- A saturated AGE has been counted and has raised its event (R54). -/
def SatCounted (s t : State) : Prop := t.stn = { s.stn with satCnt := satInc s.stn.satCnt } ∧ (Settled s → Raised t 498)

/-- A saturation that comes about is counted and raises its event; `f` is what it marks. -/
theorem does_ageSaturation {s : State} (ha : alive s = true) {a : PlTarget} {f : State → State} {l : List Block}
    (hf : saturate (freshCycle s) a = some (f (freshCycle s))) (hs : saturate s a = some (f s)) (hl : .stn ∈ l)
    (hn : (f (freshCycle s)).stn = s.stn) (hv : (f (freshCycle s)).evr = (freshCycle s).evr)
    (hb : ∀ b : Block, b ∉ l → b.Same (freshCycle s) (f (freshCycle s))) :
    Does (.ageSaturation a) s l (fun t => SatCounted s t ∧
      t.fab = (f (freshCycle s)).fab ∧ t.qp = (f (freshCycle s)).qp) := by
  have hx : exec (.ageSaturation a) s = .next { settle (raise { f (freshCycle s) with
      stn := { (f (freshCycle s)).stn with satCnt := satInc (f (freshCycle s)).stn.satCnt } } 498) with pending := s.pending } := by
    rw [show exec (.ageSaturation a) s = execAgeSaturation a s from rfl, execAgeSaturation, guarded_true (by rw [ha, hs]; rfl)]
    dsimp only
    rw [hf]
  refine does_of (f := fun u => raise { f u with stn := { (f u).stn with satCnt := satInc (f u).stn.satCnt } } 498) hx
    (fun b h => ?_) ⟨⟨?_, raised_of (by decide) fun hq => ?_⟩, ?_, ?_⟩
  · exact (hb b h).trans ((Block.same_stn _ _ (by rintro rfl; exact h hl)).trans (same_raise ..))
  · simp [hn]
  · exact (NowRaised.of_settled hq).freshCycle.congr hv
  · simp
  · simp

/-- The packet's AGE has been counted. -/
def PlPkt.counted (p : PlPkt) : PlPkt := { p with sat := true }

/-- The first packet before arbiter `a` whose AGE has saturated has been counted. -/
def waitCounted (a : PlTarget) (s : State) : State :=
  { s with fab := { s.fab with wait := modFirst (plSaturates s a) PlPkt.counted s.fab.wait } }

/-- The first packet on its way from arbiter `a` whose AGE has saturated has been counted. -/
def outCounted (a : PlTarget) (s : State) : State :=
  { s with fab := { s.fab with out := modFirst (plSaturates s a) PlPkt.counted s.fab.out } }

/-- The first problem of a template that waits with a saturated AGE has been counted. -/
def QTmpl.counted (s : State) (m : QTmpl) : QTmpl :=
  { m with wait := modFirst (fun r => !r.sat && reqAge s m r == 0x7FFFFF) (fun r => { r with sat := true }) m.wait }

theorem saturate_wait {s : State} {a : PlTarget} (h : s.fab.wait.any (plSaturates s a) = true) : saturate s a = some (waitCounted a s) :=
  if_pos h

theorem saturate_out {s : State} {a : PlTarget} (hw : s.fab.wait.any (plSaturates s a) = false)
    (h : s.fab.out.any (plSaturates s a) = true) : saturate s a = some (outCounted a s) :=
  (if_neg (by simp [hw])).trans (if_pos h)

theorem saturate_request {s : State} (hw : s.fab.wait.any (plSaturates s .solver) = false)
    (ho : s.fab.out.any (plSaturates s .solver) = false) {x : Fin 64} (h : (allFin 64).find? (reqSaturates s) = some x) :
    saturate s .solver = some (modTmpl s x (QTmpl.counted s)) := by
  unfold saturate
  dsimp only
  rw [if_neg (by simp [hw]), if_neg (by simp [ho]), if_neg (by simp), h]
  rfl

theorem does_ageSaturation_wait {s : State} (ha : alive s = true) {a : PlTarget} (h : s.fab.wait.any (plSaturates s a) = true) :
    Does (.ageSaturation a) s [.fab, .stn] (fun t => SatCounted s t ∧
      t.fab = (waitCounted a s).fab) := by
  have hf : saturate (freshCycle s) a = some (waitCounted a (freshCycle s)) := saturate_wait (by rwa [freshCycle_fab, plSaturates_freshCycle])
  refine (does_ageSaturation ha (f := waitCounted a) hf (saturate_wait h) (by simp) (freshCycle_stn s) rfl
    (fun b hb => Block.same_fab _ _ (by rintro rfl; simp at hb))).imp fun t ⟨hc, hfab, _⟩ => ⟨hc, hfab.trans ?_⟩
  unfold waitCounted
  rw [plSaturates_freshCycle, freshCycle_fab]

theorem does_ageSaturation_out {s : State} (ha : alive s = true) {a : PlTarget} (hw : s.fab.wait.any (plSaturates s a) = false)
    (h : s.fab.out.any (plSaturates s a) = true) :
    Does (.ageSaturation a) s [.fab, .stn] (fun t => SatCounted s t ∧
      t.fab = (outCounted a s).fab) := by
  have hf : saturate (freshCycle s) a = some (outCounted a (freshCycle s)) :=
    saturate_out (by rwa [freshCycle_fab, plSaturates_freshCycle]) (by rwa [freshCycle_fab, plSaturates_freshCycle])
  refine (does_ageSaturation ha (f := outCounted a) hf (saturate_out hw h) (by simp) (freshCycle_stn s) rfl
    (fun b hb => Block.same_fab _ _ (by rintro rfl; simp at hb))).imp fun t ⟨hc, hfab, _⟩ => ⟨hc, hfab.trans ?_⟩
  unfold outCounted
  rw [plSaturates_freshCycle, freshCycle_fab]

theorem exists_tmpl_of_reqSaturates {s : State} {x : Fin 64} (h : reqSaturates s x = true) : ∃ m, s.qp.tmpls[x] = some m := by
  cases hm : s.qp.tmpls[x] with
  | none => simp [reqSaturates, hm] at h
  | some m => exact ⟨m, rfl⟩

theorem does_ageSaturation_request {s : State} (ha : alive s = true) (hp : (s.fab.wait ++ s.fab.out).any (plSaturates s .solver) = false)
    (h : ∃ x, reqSaturates s x = true) :
    Does (.ageSaturation .solver) s [.qp, .stn] (fun t =>
      SatCounted s t ∧ t.qp.slots = s.qp.slots ∧
      ∃ x m, s.qp.tmpls[x] = some m ∧ reqSaturates s x = true ∧ t.qp.tmpls[x] = some (m.counted s) ∧
        ∀ j : Fin 64, j ≠ x → t.qp.tmpls[j] = s.qp.tmpls[j]) := by
  rw [List.any_append, Bool.or_eq_false_iff] at hp
  obtain ⟨hw, ho⟩ := hp
  obtain ⟨x, hx⟩ : ∃ x, (allFin 64).find? (reqSaturates s) = some x := by
    obtain ⟨x, hx⟩ := h
    exact Option.isSome_iff_exists.1 (List.find?_isSome.2 ⟨x, mem_allFin x, hx⟩)
  have hsat : reqSaturates s x = true := List.find?_some hx
  obtain ⟨m, hm⟩ := exists_tmpl_of_reqSaturates hsat
  have hf : saturate (freshCycle s) .solver = some (modTmpl (freshCycle s) x (QTmpl.counted (freshCycle s))) :=
    saturate_request (by rwa [freshCycle_fab, plSaturates_freshCycle]) (by rwa [freshCycle_fab, plSaturates_freshCycle])
      (by rwa [reqSaturates_freshCycle])
  refine (does_ageSaturation ha (f := fun u => modTmpl u x (QTmpl.counted u)) hf (saturate_request hw ho hx) (by simp) (by simp) rfl
    (fun b hb => Block.same_qp _ _ (by rintro rfl; simp at hb))).imp fun t ⟨hc, _, hq⟩ => ⟨hc, ?_⟩
  have hq : t.qp = (modTmpl s x (QTmpl.counted s)).qp := by
    rw [hq]
    unfold modTmpl QTmpl.counted
    rw [freshCycle_qp, reqAge_freshCycle]
  rw [hq]
  exact ⟨rfl, x, m, hm, hsat, (vmod_get_self ..).trans (by rw [hm]; rfl), fun j hj => vmod_get_ne _ hj.symm _⟩

theorem doesSilently_fabClrCnt {s : State} {sess : Fin 4} (ho : Opened s sess) : DoesSilently (.fabClrCnt sess) s [.stn] (fun t =>
    t.stn = { s.stn with timedLate := 0, lateCnt := 0, satCnt := 0 }) :=
  doesSilently_of (f := fabClrCnt) (openCmd_of ho fabClrCnt)
    (fun _ hb => Block.same_stn _ _ (by simpa using hb)) (fun _ => ⟨rfl, rfl, rfl, fun _ => rfl⟩) (by simp [fabClrCnt])

end Sys2Proof.Machine

open Sys2Proof Sys2Proof.Machine

/-- Settles O51: command by command, from what issue, the arbiters' choice, buffers, completion and the counts of saturated ages do. -/
theorem fabric : Obligations.Fabric := by
  intro s
  refine ⟨fun ha => ⟨fun blk inst tier dl vars port => ?_, fun tgt new => ?_, fun port tgt p hp => ?_, fun tgt => ?_⟩,
    fun sess ho => doesSilently_fabClrCnt ho⟩
  · refine (does_timedDeadlineMiss ha blk inst tier dl vars port).imp fun t ⟨hstn, hr, hn, hv, hstk, hports⟩ => ?_
    exact ⟨hstn, hr, hn, by rw [hv, List.length_map], fun i v hi => by rw [hv]; exact missed_vars _ _ i v hi, hstk, hports⟩
  · have hi := issues_plBegin s new
    exact ⟨hi.wait, hi.bounded, fun p => mem_plBegin, does_grant_none ha, does_grant_some ha⟩
  · refine (does_placedPacketComplete ha hp).imp fun t ⟨hfab, hstn, hr⟩ => ?_
    have hi := issues_plIssue (released (freshCycle s) p)
    have hfab' := hfab.trans (completed_fab ..)
    rw [completed_stn, freshCycle_stn] at hstn
    rw [hstn]
    refine ⟨?_, ?_, fun q rest hq hport htgt ho => ?_, ⟨fun hl => ⟨if_pos hl, hr hl⟩, fun hl => if_neg hl⟩, ?_,
      fun hn => ?_, fun n b hn hb => ?_⟩
    · rw [hfab', hi.out, released_out, freshCycle_fab]
    · simpa [hfab'] using hi.wait
    · rw [hfab]
      obtain ⟨rfl, rfl⟩ : p.port = port ∧ p.tgt = tgt := by simpa using List.find?_some hp
      simpa using mem_completed_wait (s := freshCycle s) (p := p) (rest := rest) (by simpa using List.mem_of_find?_eq_some hp)
        (by simpa using hq) hport htgt (by simpa [plOutstanding] using ho)
    · rw [released_stn, freshCycle_stn]
    · rw [hfab', hi.bufs, released_of_none hn]
      simp
    · rw [hfab', hi.bufs, released_of_some hn]
      simpa using plFree_of_find (s := { freshCycle s with fab := { (freshCycle s).fab with out := (freshCycle s).fab.out.erase p } })
        (by rw [← hb]; simp)
  · refine ⟨does_ageSaturation_wait ha, does_ageSaturation_out ha, ?_⟩
    rintro rfl hp h
    exact does_ageSaturation_request ha hp h
end

section
/-! Mode commands: which are taken, and what a refused one leaves (R69, R394). -/

namespace Sys2Proof.Machine
open Sys2Proof

/-- The mode, and the STOP that the station is in, allow mode command `n` (R69). -/
def ModeAllows (s : State) (n : BitVec 3) : Prop :=
  (n = 1 ∧ s.stn.mode ≠ .stop) ∨ ((n = 2 ∨ n = 3) ∧ s.stn.mode = .stop) ∨
    (n = 4 ∧ s.stn.mode = .stop ∧ s.stn.faultStop = false ∧ (s.stn.stopCause = 2 ∨ s.stn.stopCause = 6)) ∨
    (n = 5 ∧ s.stn.mode = .hold)

/-- The mode commands and their numbers. -/
def modeNums (sess : Fin 4) : List (Instr × BitVec 3) :=
  [(.stop sess, 1), (.runCold sess, 2), (.runWarm sess, 3), (.runHot sess, 4), (.release sess, 5)]

theorem modeNums_mem {sess : Fin 4} {c : Instr} {n : BitVec 3} (h : (c, n) ∈ modeNums sess) :
    n = 1 ∨ n = 2 ∨ n = 3 ∨ n = 4 ∨ n = 5 := by
  simp only [modeNums, List.mem_cons, Prod.mk.injEq, List.not_mem_nil, or_false] at h
  rcases h with ⟨-, h⟩ | ⟨-, h⟩ | ⟨-, h⟩ | ⟨-, h⟩ | ⟨-, h⟩ <;> simp [h]

theorem exec_modeCommand {sess : Fin 4} {c : Instr} {n : BitVec 3} (h : (c, n) ∈ modeNums sess) (s : State) :
    exec c s = keyedCmd s sess 0x304 (fun u => modeCommand u n.toNat sess.val) := by
  simp only [modeNums, List.mem_cons, Prod.mk.injEq, List.not_mem_nil, or_false] at h
  rcases h with ⟨rfl, rfl⟩ | ⟨rfl, rfl⟩ | ⟨rfl, rfl⟩ | ⟨rfl, rfl⟩ | ⟨rfl, rfl⟩ <;> rfl

theorem modeNums_ne_zero {sess : Fin 4} {c : Instr} {n : BitVec 3} (h : (c, n) ∈ modeNums sess) : n ≠ 0 := by
  rcases modeNums_mem h with rfl | rfl | rfl | rfl | rfl <;> decide

theorem modeAllowed_eq_true_iff (s : State) {n : BitVec 3} (hn : n = 1 ∨ n = 2 ∨ n = 3 ∨ n = 4 ∨ n = 5) :
    modeAllowed s n.toNat = true ↔ s.img.running.isSome = true ∧ ModeAllows s n := by
  rcases hn with rfl | rfl | rfl | rfl | rfl <;>
    simp [modeAllowed, ModeAllows, inRunHold_eq_true_iff, and_assoc]

theorem modeOk_eq_true_iff (s : State) {n : BitVec 3} (hn : n = 1 ∨ n = 2 ∨ n = 3 ∨ n = 4 ∨ n = 5) :
    modeOk s n.toNat = true ↔
      ModeAllows s n ∧ s.img.running.isSome = true ∧ s.pair.state ≠ 4 ∧ s.pwr.quiet.getLsbD 13 = false := by
  simp only [modeOk, isStandby, Bool.and_eq_true, Bool.not_eq_true', modeAllowed_eq_true_iff s hn, beq_eq_false_iff_ne]
  tauto

theorem modeOk_freshCycle (s : State) (n : Nat) : modeOk (freshCycle s) n = modeOk s n := by
  simp [modeOk, modeAllowed, isStandby, inRunHold]

/-- STN with mode command `n` of session `sess` waiting for the next T1 boundary (R69). -/
def Stn.modeTaken (n : BitVec 3) (sess : Nat) (m : Stn) : Stn :=
  { m with modeCmd := n, modeSess := sess, runCarried := false
           accepted := m.accepted.filter (fun c => !c.isMode) ++ [.mode n sess] }

/-- STN after a refused mode command: MODE_CMD reads 0 where none waits (R69). -/
def Stn.modeDeclined (m : Stn) : Stn := if m.modeCmd = 0 then { m with runCarried := false } else m

theorem modeCommand_taken {s : State} {n : BitVec 3} (h0 : n ≠ 0) (h : modeOk s n.toNat = true) (sess : Nat) :
    modeCommand s n.toNat sess = modStn s (Stn.modeTaken n sess) := by
  have hn : n.toNat ≠ 0 := fun hz => h0 (BitVec.eq_of_toNat_eq hz)
  simp [modeCommand, hn, h, accept, modStn, Stn.modeTaken]

theorem modeCommand_refused {s : State} {n : BitVec 3} (h0 : n ≠ 0) (h : modeOk s n.toNat = false) (sess : Nat) :
    modeCommand s n.toNat sess = logEntry (modStn s Stn.modeDeclined) 0x5005 sess 1
      [n.zeroExtend 8, BitVec.ofNat 8 s.stn.mode.code, s.stn.stopCause.zeroExtend 8] := by
  have hn : n.toNat ≠ 0 := fun hz => h0 (BitVec.eq_of_toNat_eq hz)
  unfold modeCommand Stn.modeDeclined
  rw [if_neg hn, if_neg (by simp [h]), BitVec.ofNat_toNat, BitVec.ofNat_toNat]
  by_cases hc : s.stn.modeCmd = 0
  · have hm : ({ s.stn with modeCmd := 0, runCarried := false } : Stn) = { s.stn with runCarried := false } := by rw [← hc]
    rw [if_pos hc, Machine.modeRefused, hm, modStn, if_pos hc, BitVec.ofNat_toNat, BitVec.ofNat_toNat]
    rfl
  · rw [if_neg hc, modStn, if_neg hc]
    rfl

section
variable {s : State} {sess : Fin 4} {c : Instr} {n : BitVec 3} (hw : Windowed s sess 0x308) (hc : (c, n) ∈ modeNums sess)
include hw hc

/-- A mode command within its window, at the supervisor. -/
theorem exec_modeCommand_windowed :
    exec c s = .next { settle (modeCommand (freshCycle s) n.toNat sess.val) with pending := s.pending } :=
  (exec_modeCommand hc s).trans (keyedCmd_of hw (a := 0x304) rfl)

theorem doesSilently_modeTaken (h : modeOk s n.toNat = true) :
    DoesSilently c s [.stn] (fun t => t.stn = s.stn.modeTaken n sess.val) := by
  refine doesSilently_modStn ?_
  rw [exec_modeCommand_windowed hw hc, modeCommand_taken (modeNums_ne_zero hc) (by rwa [modeOk_freshCycle])]

theorem does_modeRefused (h : modeOk s n.toNat = false) : Does c s [.stn] (fun t => t.stn = s.stn.modeDeclined ∧
    Noted s t 0x5005 sess.val 1 [n.zeroExtend 8, BitVec.ofNat 8 s.stn.mode.code, s.stn.stopCause.zeroExtend 8]) := by
  refine does_of (f := fun u => logEntry (modStn u Stn.modeDeclined) 0x5005 sess.val 1
    [n.zeroExtend 8, BitVec.ofNat 8 s.stn.mode.code, s.stn.stopCause.zeroExtend 8]) ?_ (fun b hb => ?_) ⟨?_, ?_⟩
  · rw [exec_modeCommand_windowed hw hc, modeCommand_refused (modeNums_ne_zero hc) (by rwa [modeOk_freshCycle]), freshCycle_stn]
  · exact (Block.same_modStn _ _ (by simpa using hb)).trans (same_logEntry ..)
  · simp
  · exact noted_entry (f := fun u => logEntry (modStn u Stn.modeDeclined) 0x5005 sess.val 1
      [n.zeroExtend 8, BitVec.ofNat 8 s.stn.mode.code, s.stn.stopCause.zeroExtend 8]) (by decide) (by omega) (by decide)
      fun _ => ⟨_, rfl, rfl⟩

end

end Sys2Proof.Machine

open Sys2Proof Sys2Proof.Machine

/-- Settles O19: a mode command is taken exactly where `modeOk` holds, and its refusal is one entry. -/
theorem modeCommands : Obligations.ModeCommands := by
  intro s sess c n hw hc mode ok
  have hok : modeOk s n.toNat = true ↔ ok := modeOk_eq_true_iff s (modeNums_mem hc)
  have hf : (fun x : DistCmd => match x with | .mode _ _ => false | _ => true) = fun x => !x.isMode := by
    funext x; cases x <;> rfl
  refine ⟨fun h => ?_, fun h => ?_⟩
  · have hd := doesSilently_modeTaken hw hc (hok.2 h)
    rw [Stn.modeTaken, ← hf] at hd
    exact hd
  · exact does_modeRefused hw hc (Bool.eq_false_iff.2 (mt hok.1 h))
end

section
/-! What a session asks of an engine in HOLD, and the hold permit (R75–R79). -/

namespace Sys2Proof.Machine
open Sys2Proof

/-- A session may enable a breakpoint, step and freeze (R75). -/
def MayHold (s : State) : Prop := s.stn.mode ≠ .stop ∧ s.stn.commissioning = true ∧ s.stn.holdPermit = true

theorem holdOk_eq_true_iff (s : State) : holdOk s = true ↔ MayHold s := by
  simp [holdOk, MayHold, inRunHold_eq_true_iff, and_assoc]

theorem holdOk_freshCycle (s : State) : holdOk (freshCycle s) = holdOk s := by simp [holdOk, inRunHold]

theorem isStandby_freshCycle (s : State) : isStandby (freshCycle s) = isStandby s := by simp [isStandby]

theorem isStandby_eq_false_iff (s : State) : isStandby s = false ↔ s.pair.state ≠ 4 := by simp [isStandby]

/-- The KEY register of a logic engine (R4). -/
theorem blockKey_leAddr (e : Fin 16) {o : Nat} (ho : o < 0x10000) : blockKey (leAddr e o) = some (0x10002C + 0x10000 * e.val) := by
  have h1 : ¬ leAddr e o < 0x100000 := by unfold leAddr; omega
  have h2 : leAddr e o < 0x200000 := by unfold leAddr; omega
  have h3 : (leAddr e o - 0x100000) / 0x10000 = e.val := by unfold leAddr; omega
  unfold blockKey
  iterate 18 rw [if_neg (by omega)]
  rw [if_pos h2, h3]
  congr 1
  omega

/-- A command that leaves the state as its fabric cycle finds it. -/
theorem doesSilently_unchanged {c : Instr} {s : State} (hx : exec c s = .next { settle (freshCycle s) with pending := s.pending }) :
    DoesSilently c s [] (fun _ => True) :=
  doesSilently_of (f := id) hx (fun b _ => Block.Same.refl _ b) (fun _ => ⟨rfl, rfl, rfl, fun _ => rfl⟩) trivial

/-! ### Breakpoints -/

section
variable {s : State} {sess : Fin 4} {e : Fin 16} (hw : Windowed s sess (0x10002C + 0x10000 * e.val)) (addr : BitVec 16) (en : Bool)
include hw

theorem exec_breakpointSet : exec (.breakpointSet sess e addr en) s =
    .next { settle (bkptWrite (freshCycle s) e addr en) with pending := s.pending } :=
  keyedCmd_of hw (blockKey_leAddr e (o := 0x18) (by decide))

theorem doesSilently_breakpointSet (h : s.pair.state ≠ 4 ∧ (en = false ∨ MayHold s)) :
    DoesSilently (.breakpointSet sess e addr en) s [.stn] (fun t =>
      t.stn = { s.stn with accepted := s.stn.accepted ++ [.bkpt e addr en] }) := by
  refine doesSilently_modStn (f := fun m => { m with accepted := m.accepted ++ [.bkpt e addr en] }) ?_
  rw [exec_breakpointSet hw, bkptWrite, if_pos]
  · rfl
  · simpa [isStandby_freshCycle, holdOk_freshCycle, isStandby_eq_false_iff, holdOk_eq_true_iff] using h

theorem doesSilently_breakpointSet_refused (h : ¬ (s.pair.state ≠ 4 ∧ (en = false ∨ MayHold s))) :
    DoesSilently (.breakpointSet sess e addr en) s [] (fun _ => True) := by
  refine doesSilently_unchanged ?_
  rw [exec_breakpointSet hw, bkptWrite, if_neg]
  simpa [isStandby_freshCycle, holdOk_freshCycle, isStandby_eq_false_iff, ← holdOk_eq_true_iff] using h

end

/-! ### STEP, RESUME and FREEZE -/

/-- What hold command `n` does to STN: it waits for the next T1 boundary, and STEP and RESUME start the hold timer again (R77). -/
def Stn.holdTaken (e : Fin 16) (n : BitVec 2) (m : Stn) : Stn :=
  { m with holdT0 := if n = 3 then m.holdT0 else m.time, accepted := m.accepted ++ [.hold e n m.tierRef.toNat] }

/-- The state once hold command `n` of engine `e` has been taken. -/
def holdTaken (s : State) (e : Fin 16) (n : BitVec 2) : State :=
  { s with stn := s.stn.holdTaken e n, le := vmodN s.le e.val (fun g => { g with holdCmd := n }) }

/-- R75: RESUME is taken in every mode, the others where they are allowed. -/
def HoldTakes (s : State) (n : BitVec 2) : Prop := s.pair.state ≠ 4 ∧ (n = 2 ∨ MayHold s)

theorem holdWrite_takes {s : State} {n : BitVec 2} (hn : n ≠ 0) (h : HoldTakes s n) (e : Fin 16) :
    holdWrite s e n = holdTaken s e n := by
  obtain ⟨hp, hok⟩ := h
  rw [← isStandby_eq_false_iff] at hp
  rw [← holdOk_eq_true_iff] at hok
  unfold holdWrite holdTaken Stn.holdTaken
  have h0 : ¬ (decide (n = 0) || isStandby s) = true := by rw [hp, decide_eq_false hn]; decide
  have h2 : (decide (n = 2) || holdOk s) = true := by simpa only [Bool.or_eq_true, decide_eq_true_eq] using hok
  rw [if_neg h0, if_pos h2]
  dsimp only
  by_cases h3 : n = 3
  · rw [if_pos h3, if_pos h3]; rfl
  · rw [if_neg h3, if_neg h3]; rfl

theorem holdWrite_refuses {s : State} {n : BitVec 2} (h : ¬ HoldTakes s n) (e : Fin 16) : holdWrite s e n = s := by
  unfold HoldTakes at h
  rw [← isStandby_eq_false_iff, ← holdOk_eq_true_iff] at h
  unfold holdWrite
  split
  · rfl
  · next hs =>
    obtain ⟨-, hp⟩ : n ≠ 0 ∧ isStandby s = false := by simpa only [Bool.or_eq_true, decide_eq_true_eq, not_or, Bool.not_eq_true] using hs
    exact if_neg fun hok => h ⟨hp, by simpa only [Bool.or_eq_true, decide_eq_true_eq] using hok⟩

theorem holdTakes_freshCycle (s : State) (n : BitVec 2) : HoldTakes (freshCycle s) n ↔ HoldTakes s n := by
  simp [HoldTakes, MayHold]

theorem Engine.SameBut.holdCmd {g h : Engine} (x : g.SameBut h) (n : BitVec 2) :
    Engine.SameBut { g with holdCmd := n } { h with holdCmd := n } := by
  unfold Engine.SameBut at x ⊢; rw [x]

theorem holdTaken_le {s u : State} (h : ∀ x : Fin 17, s.le[x].SameBut u.le[x]) (e : Fin 16) (n : BitVec 2) (x : Fin 17) :
    Engine.SameBut (if x.val = e.val then { s.le[x] with holdCmd := n } else s.le[x]) (holdTaken u e n).le[x] := by
  show Engine.SameBut _ (vmodN u.le e.val _)[x]
  rw [vmodN_get]
  by_cases hx : x.val = e.val
  · rw [if_pos hx, if_pos hx.symm]; exact (h x).holdCmd n
  · rw [if_neg hx, if_neg (Ne.symm hx)]; exact h x

theorem Block.same_holdTaken (s : State) (e : Fin 16) (n : BitVec 2) {b : Block} (h : b ∉ [Block.stn, .le]) :
    b.Same s (holdTaken s e n) := by
  simp only [List.mem_cons, List.not_mem_nil, or_false, not_or] at h
  exact (Block.same_stn _ _ h.1).trans (Block.same_le _ _ h.2)

section
variable {s : State} {sess : Fin 4} {e : Fin 16} {n : BitVec 2} {c : Instr} (hw : Windowed s sess (0x10002C + 0x10000 * e.val))
  (hc : exec c s = keyedCmd s sess (leAddr e 0x1C) (fun u => holdWrite u e n))
include hw hc

theorem doesSilently_holdTaken (hn : n ≠ 0) (h : HoldTakes s n) : DoesSilently c s [.stn, .le] (fun t =>
    t.stn = s.stn.holdTaken e n ∧
    ∀ x : Fin 17, Engine.SameBut (if x.val = e.val then { s.le[x] with holdCmd := n } else s.le[x]) t.le[x]) := by
  refine doesSilently_of (f := fun u => holdTaken u e n) ?_ (fun b hb => Block.same_holdTaken _ _ _ hb)
    (fun _ => ⟨rfl, rfl, rfl, fun x => ?_⟩) ⟨?_, fun x => ?_⟩
  · rw [hc, keyedCmd_of hw (blockKey_leAddr e (by decide)), holdWrite_takes hn ((holdTakes_freshCycle s n).2 h)]
  · show (vmodN s.le e.val _)[x].pending = _
    rw [vmodN_get]; split <;> rfl
  · show (settle _).stn = _
    rw [settle_stn, holdTaken, freshCycle_stn]
  · exact (holdTaken_le (freshCycle_le s) e n x).trans (settle_le _ x)

theorem doesSilently_holdRefused (h : ¬ HoldTakes s n) : DoesSilently c s [] (fun _ => True) := by
  refine doesSilently_unchanged ?_
  rw [hc, keyedCmd_of hw (blockKey_leAddr e (by decide)), holdWrite_refuses (mt (holdTakes_freshCycle s n).1 h)]

end

/-! ### The hold permit -/

theorem doesSilently_holdPermitChange {s : State} (ha : alive s = true) (level : Bool) :
    DoesSilently (.holdPermitChange level) s [.stn] (fun t => t.stn = { s.stn with
      holdPermit := level
      permitCount := if s.pair.state = 4 then s.stn.permitCount else !level && decide (s.stn.mode = .hold) }) := by
  refine doesSilently_modStn (f := fun m => { m with
    holdPermit := level, permitCount := if s.pair.state = 4 then m.permitCount else !level && decide (m.mode = .hold) }) ?_
  rw [show exec (.holdPermitChange level) s = execHoldPermitChange level s from rfl, execHoldPermitChange, guarded_true ha]
  simp only [modStn, isStandby, freshCycle_pair, beq_iff_eq]
  congr

theorem doesSilently_holdPermitWithdrawn {s : State} (ha : alive s = true) (hp : s.pair.state ≠ 4) (hcnt : s.stn.permitCount = true)
    (hm : s.stn.mode = .hold) (hpin : s.stn.holdPermit = false) :
    DoesSilently .holdPermitWithdrawn s [.stn] (fun t =>
      t.stn = { s.stn with permitCount := false, accepted := s.stn.accepted ++ [.holdPermitStop] }) :=
  doesSilently_modStn (f := fun m => { m with permitCount := false, accepted := m.accepted ++ [.holdPermitStop] })
    (guarded_true (by simp [ha, (isStandby_eq_false_iff s).2 hp, hcnt, hm, hpin])
      (fun u => accept { u with stn := { u.stn with permitCount := false } } .holdPermitStop))

end Sys2Proof.Machine

open Sys2Proof Sys2Proof.Machine

/-- Settles O23: the permit's two commands change STN alone, and each command of a session is taken exactly where `HoldTakes`, or R75's
condition on a breakpoint, holds. -/
theorem holdInstant : Obligations.HoldInstant := by
  refine ⟨fun s ha => ⟨doesSilently_holdPermitChange ha, doesSilently_holdPermitWithdrawn ha⟩, fun s sess e addr en hw => ?_⟩
  intro takes may asks
  have asked : ∀ {c : Instr} {n : BitVec 2} {timer ok : Prop}, exec c s = keyedCmd s sess (leAddr e 0x1C) (fun u => holdWrite u e n) →
      n ≠ 0 → (timer ↔ n ≠ 3) → (HoldTakes s n ↔ takes ∧ ok) → asks c n timer ok := by
    intro c n timer ok hx hn ht hok
    refine ⟨fun h1 h2 => ?_, fun h => doesSilently_holdRefused hw hx (mt hok.1 h)⟩
    obtain ⟨t, hx, hk, hs, hstn, hle⟩ := doesSilently_holdTaken hw hx hn (hok.2 ⟨h1, h2⟩)
    refine ⟨t, hx, hk, hs, fun h => ?_, fun h => ?_, hle⟩
    · rw [hstn, Stn.holdTaken, if_neg (ht.1 h)]
    · rw [hstn, Stn.holdTaken, if_pos (not_not.1 (mt ht.2 h))]
  refine ⟨fun h1 h2 => doesSilently_breakpointSet hw addr en ⟨h1, h2⟩, doesSilently_breakpointSet_refused hw addr en,
    asked rfl (by decide) (by decide) ?_, asked rfl (by decide) (by decide) ?_, asked rfl (by decide) (by decide) ?_⟩
  · simp [HoldTakes, takes, may, MayHold]
  · simp [HoldTakes, takes]
  · simp [HoldTakes, takes, may, MayHold]
end

section
/-! Time passing to an engine's window, and to the end of one, where the state carries the slew remainder of `staleSlew` (R17, R23, R26, R64). -/

namespace Sys2Proof.Machine
open Sys2Proof

/-! ### The opening of a window (R26) -/

/-- STN once the window of a scan released from a breakpoint has opened: time has passed to it. -/
theorem scanStart_stn_of_resume {s : State} {e : Fin 17} (hp : s.le[e].cyc.phase = .resume) :
    (scanStart s e).stn = (passTo s (opening s e)).stn := by
  unfold scanStart
  dsimp only
  rw [if_pos (by rwa [passTo_le])]

/-- STN after SCAN_START, in a state in whose LOG nothing waits. -/
theorem exec_scanStart_stn {s t : State} {e : Fin 17} (ha : alive s = true) (hr : s.le[e].running = true) (hw : s.le[e].window = true)
    (he : s.le[e].evtActive = false) (hp : s.le[e].cyc.phase = .resume) (hi : s.log.intake = [])
    (hx : exec (.scanStart e) s = .next t) : t.stn = (passTo s (opening s e)).stn := by
  have h : exec (.scanStart e) s = .next { settle (scanStart (freshCycle s) e) with pending := s.pending } :=
    guarded_true (by rw [ha, hr, hw, he, hp]; rfl) (fun u => scanStart u e)
  rw [h, freshCycle_of_intake hi] at hx
  cases hx
  rw [settle_stn, scanStart_stn_of_resume hp]

/-- `staleSlew` with a scan of engine 0 released from a breakpoint, whose window opens 4 µs after the boundary at 0. -/
def staleResume : State :=
  { staleSlew with le := State.reset.le.set 0 { Engine.unused with
      used := true, tier := 1, running := true, window := true, code := [0], entry := some 0, cyc := { TaskRun.fresh with phase := .resume } } }

/-! ### A fault STOP takes no time (R66) -/

@[simp] theorem setMode_time (s : State) (m : Mode) : (setMode s m).stn.time = s.stn.time := by
  unfold setMode; split <;> simp

theorem foldl_stn {α : Type} (l : List α) {f : State → α → State} (h : ∀ u x, (f u x).stn = u.stn) (s : State) :
    (l.foldl f s).stn = s.stn :=
  List.foldlRecOn (motive := fun u : State => u.stn = s.stn) l f rfl fun u hu x _ => (h u x).trans hu

@[simp] theorem canStop_stn (s : State) : (canStop s).stn = s.stn := by
  refine foldl_stn _ (fun u k => ?_) s
  exact modCan_stn ..

@[simp] theorem telStop_stn (s : State) : (telStop s).stn = s.stn := by
  refine foldl_stn _ (fun u t => ?_) s
  split
  · split <;> rfl
  · rfl

@[simp] theorem retainSave_time (s : State) : (retainSave s).stn.time = s.stn.time := by
  unfold retainSave; split <;> rfl

@[simp] theorem stopAll_time (s : State) (cause : Nat) (isFault : Bool) : (stopAll s cause isFault).stn.time = s.stn.time := by
  simp [stopAll, loopsStop, mapLoops, disarmFieldEvents, mapLogic]

@[simp] theorem faultStop_time (s : State) (cause eng : Nat) (evt : Bool) (kind instr : Nat) (cnt : Word) :
    (faultStop s cause eng evt kind instr cnt).stn.time = s.stn.time := by
  simp [faultStop]

/-- An overrun takes the time to the end of the window that ends first (R64). -/
theorem taskOverrun_time (s : State) (l : List (Fin 16 × Fin 5)) :
    (taskOverrun s l).stn.time = (passTo s ((firstEnd s (overrunning s l)).getD 0)).stn.time := by
  unfold taskOverrun
  dsimp only
  split
  · rfl
  · rw [faultStop_time, foldl_stn]
    exact fun u x => raise_stn ..

/-- Station time after TASK_OVERRUN, in a state in whose LOG nothing waits. -/
theorem exec_taskOverrun_time {s t : State} {l : List (Fin 16 × Fin 5)} (ha : alive s = true) (hu : l.any (unfinished s) = true)
    (hi : s.log.intake = []) (hx : exec (.taskOverrun l) s = .next t) :
    t.stn.time = (passTo s ((firstEnd s (overrunning s l)).getD 0)).stn.time := by
  have h : exec (.taskOverrun l) s = .next { settle (taskOverrun (freshCycle s) l) with pending := s.pending } :=
    guarded_true (by simp [ha, hu]) (fun u => taskOverrun u l)
  rw [h, freshCycle_of_intake hi] at hx
  cases hx
  rw [settle_stn, taskOverrun_time]

/-- `staleSlew` 90 µs after the boundary at 0, with engine 0 still in the run of its T1 task, whose window ends 4 µs later. -/
def staleRun : State :=
  { staleSlew with
    stn := { staleSlew.stn with tierRef := 90000 }
    le := State.reset.le.set 0 { Engine.unused with
      used := true, tier := 1, running := true, code := [0], entry := some 0, cyc := { TaskRun.fresh with phase := .run } } }

theorem staleRun_unfinished : Unfinished staleRun 0 0 := by
  intro x hx
  obtain rfl : x = 0 := Fin.ext hx
  decide

end Sys2Proof.Machine

open Sys2Proof Sys2Proof.Machine

/-- Refutes O20: SCAN_START does not meet `PassedTo` in every running state. The statement bounds no slew remainder, and in `staleResume`,
as in `staleSlew`, 5000 ns pass to a window 4000 ns ahead, more than the 500 ppm of R23 allow. No run reaches such a remainder
(`Stn.pass` leaves one below 2000): what fails is the claim over every state, for want of that bound. -/
theorem not_engineScans : ¬ Obligations.EngineScans := by
  rintro ⟨-, h⟩
  obtain ⟨hresume, -⟩ := h staleResume 0 (by decide) (by decide) (by decide) (by decide)
  obtain ⟨t, hx, -, hp, -⟩ := hresume (by decide)
  refine not_passedTo_of_time (by rfl) (by decide) ?_ hp
  rw [exec_scanStart_stn (by decide) (by decide) (by decide) (by decide) (by decide) rfl hx]
  decide

/-- Refutes O21: TASK_OVERRUN does not meet `PassedTo` in every running state. The statement bounds no slew remainder, and in `staleRun`
the end of the window lies 4000 ns ahead and 5000 ns pass to it, more than the 500 ppm of R23 allow. No run reaches such a
remainder (`Stn.pass` leaves one below 2000): what fails is the claim over every state, for want of that bound. -/
theorem not_faultStops : ¬ Obligations.FaultStops := by
  intro h
  obtain ⟨hoverrun, -⟩ := h staleRun (by decide)
  obtain ⟨t, hx, -, hfirst, -⟩ := hoverrun [(0, 0)] ⟨(0, 0), by simp, staleRun_unfinished⟩
  obtain ⟨hp, -⟩ := hfirst (0, 0) ⟨by simp, staleRun_unfinished, fun y hy _ => by rw [List.mem_singleton.1 hy]⟩
  refine not_passedTo_of_time (by rfl) (by decide) ?_ hp
  rw [exec_taskOverrun_time (by decide) (by decide) rfl hx]
  decide
end

section
/-! What a logic instruction leaves in its registers: the laws of `leavesRegs` for each shared operation on words (R97–R100). -/

namespace Sys2Proof.Machine
open Sys2Proof

/-! ### Effects on registers alone -/

/-- From `c` to `d` no word, instance or buffered output changes, and no fault arises. -/
def LCtx.RegsOnly (c d : LCtx) : Prop := d.fault = c.fault ∧ d.eng = c.eng ∧ d.t.out = c.t.out

theorem LCtx.regsOnly_setWA (c : LCtx) (v : Word) (m : MTag) (exc : Bool) : c.RegsOnly (c.setWA v m exc) := ⟨rfl, rfl, rfl⟩

theorem LCtx.regsOnly_setLA (c : LCtx) (b : Bool) (m : MTag) : c.RegsOnly (c.setLA b m) := ⟨rfl, rfl, rfl⟩

section
variable (s : State) (e : Fin 17) (k : Fin 5) (n : Nat)

theorem ctxOf_la : (ctxOf s e k n).t.la = (regsAfter s e k n).la := by rw [ctx_t]; rfl
theorem ctxOf_wa : (ctxOf s e k n).t.wa = (regsAfter s e k n).wa := by rw [ctx_t]; rfl
theorem ctxOf_wb : (ctxOf s e k n).t.wb = (regsAfter s e k n).wb := by rw [ctx_t]; rfl
theorem ctxOf_ta : (ctxOf s e k n).t.ta = (regsAfter s e k n).ta := by rw [ctx_t]; rfl

theorem wTag_ctxOf : (ctxOf s e k n).wTag = tagOfBoth e (regsAfter s e k n).tb (regsAfter s e k n).ta := by
  rw [← ctxOf_regs]
  exact comb_eq e _ _ _ (ctx_sle s e k n)

/-- A word result in the registers: with the exception where `exc` says so (R98, R99). -/
theorem setWA_regs (v : Word) (m : MTag) (exc : Bool) : ((ctxOf s e k n).setWA v m exc).t.regs =
    if exc then (regsAfter s e k n).exc e v m else { regsAfter s e k n with wa := v, ta := m } := by
  rw [← ctxOf_regs]
  cases exc <;> simp [LCtx.setWA, Regs.exc, TaskRun.regs, raiseQ_eq e m _ (ctx_sle s e k n)]

theorem setLA_regs (b : Bool) (m : MTag) :
    ((ctxOf s e k n).setLA b m).t.regs = { regsAfter s e k n with la := b, lt := m } := by
  rw [← ctxOf_regs]; rfl
end

section
variable {i : Instr} {s : State} {e : Fin 17} {k : Fin 5} {n : Nat} {sle : Bool}

/-- An instruction whose effect is one on registers alone. -/
theorem leavesRegs_of {f : LCtx → LCtx} {r : Regs} (hx : Executing s e k sle) (hi : exec i s = logicCmd i s e k n sle f)
    (ho : (ctxOf s e k n).RegsOnly (f (ctxOf s e k n))) (hr : (f (ctxOf s e k n)).t.regs = r) : LeavesRegs i s e k r :=
  leavesRegs hx hi ho.1 ho.2.1 ho.2.2 hr

/-- A two-operand integer instruction (R97, R98). -/
theorem leavesRegs_int2 (g : Int → Int → Int) (hx : Executing s e k sle) (hi : exec i s = logicCmd i s e k n sle (opInt2 g)) :
    let r := regsAfter s e k n
    LeavesRegs i s e k (r.int e (g r.wb.toInt r.wa.toInt) (tagOfBoth e r.tb r.ta)) :=
  leavesRegs_of hx hi (LCtx.regsOnly_setWA ..) (by rw [opInt2, setInt_regs, wTag_ctxOf, ctx_t]; rfl)

/-- A one-operand integer instruction (R97, R98). -/
theorem leavesRegs_int1 (g : Int → Int) (hx : Executing s e k sle) (hi : exec i s = logicCmd i s e k n sle (opInt1 g)) :
    let r := regsAfter s e k n
    LeavesRegs i s e k (r.int e (g r.wa.toInt) r.ta) :=
  leavesRegs_of hx hi (LCtx.regsOnly_setWA ..) (by rw [opInt1, setInt_regs, ctx_t]; rfl)

/-- A two-operand binary32 instruction (R97, R99). -/
theorem leavesRegs_flt2 (g : Nat → Nat → Nat) (hx : Executing s e k sle) (hi : exec i s = logicCmd i s e k n sle (opF2 g)) :
    let r := regsAfter s e k n
    LeavesRegs i s e k (r.flt e (g r.wb.toNat r.wa.toNat) (tagOfBoth e r.tb r.ta)) :=
  leavesRegs_of hx hi (LCtx.regsOnly_setWA ..) (by rw [opF2, setF_regs, wTag_ctxOf, ctx_t]; rfl)

/-- A one-operand binary32 instruction (R97, R99). -/
theorem leavesRegs_flt1 (g : Nat → Nat) (hx : Executing s e k sle) (hi : exec i s = logicCmd i s e k n sle (opF1 g)) :
    let r := regsAfter s e k n
    LeavesRegs i s e k (r.flt e (g r.wa.toNat) r.ta) :=
  leavesRegs_of hx hi (LCtx.regsOnly_setWA ..) (by rw [opF1, setF_regs, ctx_t]; rfl)

/-- A two-operand bitwise instruction (R97). -/
theorem leavesRegs_word2 (g : Word → Word → Word) (hx : Executing s e k sle) (hi : exec i s = logicCmd i s e k n sle (opW2 g)) :
    let r := regsAfter s e k n
    LeavesRegs i s e k { r with wa := g r.wb r.wa, ta := tagOfBoth e r.tb r.ta } :=
  leavesRegs_of hx hi (LCtx.regsOnly_setWA ..) (by rw [opW2, setWA_regs, wTag_ctxOf, ctx_t]; rfl)

/-- A one-operand bitwise instruction (R97). -/
theorem leavesRegs_word1 (g : Word → Word) (hx : Executing s e k sle) (hi : exec i s = logicCmd i s e k n sle (opW1 g)) :
    let r := regsAfter s e k n
    LeavesRegs i s e k { r with wa := g r.wa } :=
  leavesRegs_of hx hi (LCtx.regsOnly_setWA ..) (by rw [opW1, setWA_regs, ctx_t]; rfl)

/-- A comparison of WB with WA (R97, R99). -/
theorem leavesRegs_cmp {g : Word → Word → Bool} {b : Bool} (hx : Executing s e k sle)
    (hi : exec i s = logicCmd i s e k n sle (fun c => opCmp (g c.t.wb c.t.wa) c))
    (hb : g (regsAfter s e k n).wb (regsAfter s e k n).wa = b) :
    let r := regsAfter s e k n
    LeavesRegs i s e k { r with la := b, lt := tagOfBoth e r.tb r.ta } :=
  leavesRegs_of hx hi (LCtx.regsOnly_setLA ..) (by rw [opCmp, setLA_regs, wTag_ctxOf, ← hb, ctx_t]; rfl)

end

section
variable (s : State) (e : Fin 17) (k : Fin 5) (n : Nat)

theorem opDiv_regs : (opDiv (ctxOf s e k n)).t.regs =
    let r := regsAfter s e k n
    let m := tagOfBoth e r.tb r.ta
    if r.wa.toInt = 0 then r.exc e (if r.wb.toInt > 0 then 0x7FFFFFFF else if r.wb.toInt < 0 then 0x80000000 else 0) m
    else r.int e (Int.tdiv r.wb.toInt r.wa.toInt) m := by
  unfold opDiv
  dsimp only
  rw [ctxOf_wa, ctxOf_wb, wTag_ctxOf]
  split
  · rw [setWA_regs]; rfl
  · rw [setInt_regs]

theorem opMod_regs : (opMod (ctxOf s e k n)).t.regs =
    let r := regsAfter s e k n
    let m := tagOfBoth e r.tb r.ta
    if r.wa.toInt = 0 ∨ (r.wb.toInt = -2147483648 ∧ r.wa.toInt = -1) then r.exc e 0 m
    else { r with wa := BitVec.ofInt 32 (Int.tmod r.wb.toInt r.wa.toInt), ta := m } := by
  unfold opMod
  dsimp only
  rw [ctxOf_wa, ctxOf_wb, wTag_ctxOf, ite_or]
  split
  · rw [setWA_regs]; rfl
  · split <;> rw [setWA_regs] <;> rfl

theorem opFtoi_regs : (opFtoi (ctxOf s e k n)).t.regs =
    let r := regsAfter s e k n
    match f32.toInt r.wa.toNat with
    | none => r.exc e 0 r.ta
    | some x => r.int e x r.ta := by
  unfold opFtoi
  rw [ctxOf_wa, ctxOf_ta]
  dsimp only
  cases f32.toInt (regsAfter s e k n).wa.toNat with
  | none => exact setWA_regs ..
  | some x => exact setInt_regs ..

theorem opSel_regs : (opSel (ctxOf s e k n)).t.regs =
    let r := regsAfter s e k n
    if r.la then { r with ta := tagOfBoth e r.ta r.lt } else { r with wa := r.wb, ta := tagOfBoth e r.tb r.lt } := by
  unfold opSel
  have hc := fun a b => comb_eq e a b _ (ctx_sle s e k n)
  rw [ctxOf_la, hc, hc, ctx_t]
  dsimp only
  split <;> rw [setWA_regs] <;> rfl

theorem opSetq_regs (q : BitVec 3) : (opSetq q (ctxOf s e k n)).t.regs =
    let r := regsAfter s e k n
    { r with ta := some (match r.ta with
      | some t => { t with q := q }
      | none => { q := q, c := false, f := false, h := false, age := 0, s := false, origin := logicOrigin e }) } := by
  have ho : (ctxOf s e k n).origin = logicOrigin e := by
    unfold LCtx.origin logicOrigin; rw [ctx_sle]; by_cases h : e.val = 16 <;> simp [h]
  rw [← ctxOf_regs]
  unfold opSetq
  rw [ho]
  cases h : (ctxOf s e k n).t.ta <;> simp [TaskRun.regs, h, mkTag]
end

theorem LCtx.regsOnly_opDiv (c : LCtx) : c.RegsOnly (opDiv c) := by
  unfold opDiv; dsimp only; split <;> exact regsOnly_setWA ..

theorem LCtx.regsOnly_opMod (c : LCtx) : c.RegsOnly (opMod c) := by
  unfold opMod; dsimp only; repeat' split
  all_goals exact regsOnly_setWA ..

theorem LCtx.regsOnly_opFtoi (c : LCtx) : c.RegsOnly (opFtoi c) := by
  unfold opFtoi; split <;> exact regsOnly_setWA ..

theorem LCtx.regsOnly_opSel (c : LCtx) : c.RegsOnly (opSel c) := by
  unfold opSel; split <;> exact regsOnly_setWA ..

theorem beq_eq_decide_toInt_eq (b a : Word) : (b == a) = decide (b.toInt = a.toInt) := by
  rw [Bool.eq_iff_iff]; simp [BitVec.toInt_inj]

end Sys2Proof.Machine

open Sys2Proof Sys2Proof.Machine

/-- Settles O5: every instruction but DIV and MOD is an exact function of its operands, put into WA by `setInt`. -/
theorem integerInstructions : Obligations.IntegerInstructions := by
  intro s e k hx
  exact ⟨leavesRegs_int2 (· + ·) hx rfl, leavesRegs_int2 (· - ·) hx rfl, leavesRegs_int2 (· * ·) hx rfl,
    leavesRegs_int1 (fun a => -a) hx rfl, leavesRegs_int1 (fun a => if a < 0 then -a else a) hx rfl,
    leavesRegs_of hx rfl (LCtx.regsOnly_opDiv _) (opDiv_regs ..), leavesRegs_of hx rfl (LCtx.regsOnly_opMod _) (opMod_regs ..)⟩

/-- Settles O6: every instruction but ITOF and FTOI is a binary32 function of its operands, put into WA by `setF`. -/
theorem floatInstructions : Obligations.FloatInstructions := by
  intro s e k hx
  exact ⟨leavesRegs_flt2 f32.add hx rfl, leavesRegs_flt2 f32.subt hx rfl, leavesRegs_flt2 f32.mul hx rfl, leavesRegs_flt2 f32.div hx rfl,
    leavesRegs_flt1 f32.flip hx rfl, leavesRegs_flt1 f32.mag hx rfl, leavesRegs_flt1 f32.sqrt hx rfl,
    leavesRegs_of hx rfl (LCtx.regsOnly_setWA ..) (by rw [opItof, setF_regs, ctxOf_wa, ctxOf_ta]; rfl),
    leavesRegs_of hx rfl (LCtx.regsOnly_opFtoi _) (opFtoi_regs ..)⟩

/-- Settles O8: each comparison is one of the two words, signed or as binary32 patterns. -/
theorem comparisons : Obligations.Comparisons := by
  intro s e k
  refine ⟨fun hx => ?_, fun hx => ?_⟩
  · exact ⟨leavesRegs_cmp (g := (· == ·)) hx rfl (beq_eq_decide_toInt_eq ..),
      leavesRegs_cmp (g := (· != ·)) hx rfl (by rw [bne, beq_eq_decide_toInt_eq, decide_not]),
      leavesRegs_cmp (g := fun b a => decide (b.toInt > a.toInt)) hx rfl rfl,
      leavesRegs_cmp (g := fun b a => decide (b.toInt ≥ a.toInt)) hx rfl rfl,
      leavesRegs_cmp (g := fun b a => decide (b.toInt < a.toInt)) hx rfl rfl,
      leavesRegs_cmp (g := fun b a => decide (b.toInt ≤ a.toInt)) hx rfl rfl⟩
  · exact ⟨leavesRegs_cmp (g := fun b a => f32.eq b.toNat a.toNat) hx rfl rfl,
      leavesRegs_cmp (g := fun b a => !f32.eq b.toNat a.toNat) hx rfl rfl,
      leavesRegs_cmp (g := fun b a => f32.lt a.toNat b.toNat) hx rfl rfl,
      leavesRegs_cmp (g := fun b a => f32.le a.toNat b.toNat) hx rfl rfl,
      leavesRegs_cmp (g := fun b a => f32.lt b.toNat a.toNat) hx rfl rfl,
      leavesRegs_cmp (g := fun b a => f32.le b.toNat a.toNat) hx rfl rfl⟩

/-- Settles O7: each is a two-operand or a one-operand bitwise instruction. -/
theorem bitwiseInstructions : Obligations.BitwiseInstructions := by
  intro s e k n hx
  exact ⟨leavesRegs_word2 (· &&& ·) hx rfl, leavesRegs_word2 (· ||| ·) hx rfl, leavesRegs_word2 (· ^^^ ·) hx rfl,
    leavesRegs_word1 (~~~ ·) hx rfl, leavesRegs_word1 (· <<< n.toNat) hx rfl, leavesRegs_word1 (· >>> n.toNat) hx rfl,
    leavesRegs_word1 (fun w => w.sshiftRight n.toNat) hx rfl⟩
end

section
/-! The branch stack and the flow of control: branches, jumps, END and EVT (R95, R96, R102). -/

namespace Sys2Proof.Machine
open Sys2Proof

theorem LCtx.push_of_room {c : LCtx} (h : c.t.stack.length < 16) (x : StackEnt) :
    c.push x = { c with t := { c.t with stack := x :: c.t.stack } } := if_neg (by omega)

theorem opClose_of_branch {c : LCtx} {la : Bool} {lt : MTag} {op : BrOp} {r : List StackEnt} (h : c.t.stack = .branch la lt op :: r) :
    opClose c = { c with t := { c.t with la := op.ap la c.t.la, lt := c.comb lt c.t.lt, stack := r } } := by
  unfold opClose; rw [h]

theorem opRet_of_ret {c : LCtx} {p : Nat} {r : List StackEnt} (h : c.t.stack = .ret p :: r) :
    opRet c = { c with t := { c.t with pc := p, stack := r } } := by
  unfold opRet; rw [h]

theorem opCall_of_room {c : LCtx} (hf : c.fault = none) (h : c.t.stack.length < 16) (target : BitVec 16) :
    opCall target c = { c with t := { c.t with pc := target.toNat, stack := .ret c.t.pc :: c.t.stack } } := by
  simp [opCall, LCtx.push_of_room h, LCtx.jump, hf]

/-- The cost of an instruction is a summand of the run's cycles (R112). -/
theorem regsAfter_add (s : State) (e : Fin 17) (k : Fin 5) (m n : Nat) :
    regsAfter s e k (m + n) = { regsAfter s e k m with cost := (regsAfter s e k m).cost + n } := by
  simp [regsAfter]; omega

/-- LOOP's count: WA less 1, saturated at the most negative number (R98, R102). -/
theorem satI32_pred (w : Word) : satI32 (w.toInt - 1) = if w = 0x80000000 then w else w - 1 := by
  have hlt : w.toInt < 2147483648 := BitVec.toInt_lt
  have hle : -2147483648 ≤ w.toInt := BitVec.le_toInt w
  unfold satI32
  rw [if_neg (by omega)]
  by_cases h : w = 0x80000000
  · subst h; rfl
  · have hmin : w.toInt ≠ -2147483648 := fun hw => h (BitVec.toInt_inj.mp hw)
    rw [if_neg (by omega), if_neg h, ← BitVec.toInt_inj, BitVec.toInt_ofInt, BitVec.toInt_sub]
    rfl

section
variable {i : Instr} {s : State} {e : Fin 17} {k : Fin 5} {n : Nat} {sle : Bool}

/-- An opening branch where the stack has room (R95, R96). -/
theorem leavesRegs_open (op : BrOp) (hx : Executing s e k sle) (hi : exec i s = logicCmd i s e k n sle (opOpen op)) :
    let r := regsAfter s e k n
    r.stack.length < 16 → LeavesRegs i s e k { r with stack := .branch r.la r.lt op :: r.stack } := by
  intro r hr
  have ho : opOpen op (ctxOf s e k n) = _ := LCtx.push_of_room (by rw [ctx_t]; exact hr) _
  exact leavesRegs_of hx hi (by rw [ho]; exact ⟨rfl, rfl, rfl⟩) (by rw [ho]; dsimp only [r]; rw [← ctxOf_regs]; rfl)

/-- A conditional jump, taken where LA reads `b` (R102, R112). -/
theorem leavesRegs_jumpIf (b : Bool) (target : BitVec 16) (hx : Executing s e k sle)
    (hi : exec i s = logicCmd i s e k n sle (opJumpIf b target)) :
    let r := regsAfter s e k n
    LeavesRegs i s e k (if r.la = b then { r with pc := target.toNat, cost := r.cost + 4 } else { r with cost := r.cost + 2 }) := by
  refine leavesRegs_of hx hi ?_ ?_ <;> unfold opJumpIf
  · split <;> exact ⟨rfl, rfl, rfl⟩
  · rw [ctxOf_la, ← ctxOf_regs]
    split <;> rfl

theorem leavesRegs_loop (target : BitVec 16) (hx : Executing s e k sle) (hi : exec i s = logicCmd i s e k n sle (opLoop target)) :
    let r := regsAfter s e k n
    let w : Word := if r.wa = 0x80000000 then r.wa else r.wa - 1
    LeavesRegs i s e k (if w.toInt > 0 then { r with wa := w, pc := target.toNat, cost := r.cost + 4 }
      else { r with wa := w, cost := r.cost + 2 }) := by
  refine leavesRegs_of hx hi ?_ ?_ <;> unfold opLoop <;> dsimp only
  · split <;> exact ⟨rfl, rfl, rfl⟩
  · rw [ctxOf_wa, satI32_pred, ← ctxOf_regs, apply_ite LCtx.t, apply_ite TaskRun.regs]
    rfl

theorem leavesRegs_jmp (target : BitVec 16) (hx : Executing s e k sle)
    (hi : exec i s = logicCmd i s e k 4 sle (fun c => c.jump target)) :
    let r := regsAfter s e k 0
    LeavesRegs i s e k { r with pc := target.toNat, cost := r.cost + 4 } := by
  refine leavesRegs_of hx hi ⟨rfl, rfl, rfl⟩ ?_
  calc _ = { regsAfter s e k 4 with pc := target.toNat } := by rw [← ctxOf_regs]; rfl
    _ = _ := by rw [regsAfter_add s e k 0 4]

/-- CALL where the stack has room (R96, R102). -/
theorem leavesRegs_call (target : BitVec 16) (hx : Executing s e k sle) (hi : exec i s = logicCmd i s e k 5 sle (opCall target)) :
    let r := regsAfter s e k 0
    r.stack.length < 16 →
      LeavesRegs i s e k { r with pc := target.toNat, stack := .ret r.pc :: r.stack, cost := r.cost + 5 } := by
  intro r hr
  have hc := opCall_of_room (c := ctxOf s e k 5) rfl (by rw [ctx_t]; exact hr) target
  refine leavesRegs_of hx hi (by rw [hc]; exact ⟨rfl, rfl, rfl⟩) ?_
  calc _ = { regsAfter s e k 5 with pc := target.toNat, stack := .ret r.pc :: r.stack } := by rw [hc, ctx_t]; rfl
    _ = _ := by rw [regsAfter_add s e k 0 5]

theorem leavesRegs_ret {p : Nat} {rest : List StackEnt} (hx : Executing s e k sle) (hi : exec i s = logicCmd i s e k 5 sle opRet) :
    let r := regsAfter s e k 0
    r.stack = .ret p :: rest → LeavesRegs i s e k { r with pc := p, stack := rest, cost := r.cost + 5 } := by
  intro r hst
  have hc := opRet_of_ret (c := ctxOf s e k 5) (by rw [ctx_t]; exact hst)
  refine leavesRegs_of hx hi (by rw [hc]; exact ⟨rfl, rfl, rfl⟩) ?_
  calc _ = { regsAfter s e k 5 with pc := p, stack := rest } := by rw [hc, ← ctxOf_regs]; rfl
    _ = _ := by rw [regsAfter_add s e k 0 5]

end

/-! ### The end of a run and the program event -/

section
variable {i : Instr} {s : State} {e : Fin 17} {k : Fin 5} {n : Nat} {sle : Bool} {f : LCtx → LCtx}

theorem Fetched.fetched_eq (h : Fetched i s e k) : fetched s e k i = true := by
  obtain ⟨w, hw, hi⟩ := h
  unfold fetched; rw [hw, hi]; simp

/-- The window of an event task opens with what the instruction works on as it was. -/
theorem logicCtx_evtOpens (s : State) (e : Fin 17) (k : Fin 5) (n : Nat) :
    logicCtx (evtOpens (freshCycle s) k) e k n = ctxOf s e k n := by
  obtain ⟨_, _, ho, -⟩ := evtOpens_eq (freshCycle s) k
  rw [ho]; rfl

/-- The state that an instruction without a fault leaves (R85). -/
theorem exec_logic (hx : Executing s e k sle) (hi : exec i s = logicCmd i s e k n sle f) (hw : Fetched i s e k)
    (hf : (f (ctxOf s e k n)).fault = none) :
    exec i s = .next { settle (logicLeave (evtOpens (freshCycle s) k) e k (s.le[e].task k).pc (f (ctxOf s e k n))) with
      pending := s.pending } := by
  obtain ⟨ha, hm, hpc, hs⟩ := hx
  have hle : (evtOpens (freshCycle s) k).le = (freshCycle s).le := by
    obtain ⟨_, _, ho, -⟩ := evtOpens_eq (freshCycle s) k
    rw [ho]
  have hok : ¬ (decide ((s.le[e].task k).pc ≥ s.le[e].code.length) || (e.val == 16 && !sle)) = true := by
    simp only [Bool.or_eq_true, decide_eq_true_eq, Bool.and_eq_true, beq_iff_eq, Bool.not_eq_true', not_or, not_and]
    exact ⟨by omega, fun h => by simp [hs h]⟩
  rw [hi, logicCmd, guarded_true (by rw [ha, hm, hw.fetched_eq]; rfl), logicStep]
  simp only [hle, freshCycle_task, (freshCycle_le s e).code_eq, logicCtx_evtOpens, hf, if_neg hok]
end

/-- The engine as the end of a run of task `k` leaves it (R102). -/
def Engine.runEnded (g : Engine) (k : Fin 5) (t : TaskRun) : Engine :=
  let h := g.setTask k t
  if k = 0 then h.scanEnded t.cost else { h with evtBegun := h.evtActive : Engine }.flagged

theorem Engine.runEnded_task (g : Engine) (k : Fin 5) (t : TaskRun) : (g.runEnded k t).task k = t := by
  refine Eq.trans ?_ (g.setTask_task k t)
  unfold runEnded
  dsimp only
  split <;> rfl

/-- A run that has ended stands at no breakpoint. -/
theorem logicLeave_ended {s : State} {e : Fin 17} {k : Fin 5} {c : LCtx} (hp : c.t.phase = .done) (hl : c.idxLog = false)
    (hr : c.raiseEvt = false) (instr : Nat) :
    logicLeave s e k instr c = { s with le := vmod s.le e (fun _ => c.eng.runEnded k c.t) } := by
  have hb : (decide (e.val < 16) && decide (k = 0) && (c.eng.runEnded k c.t).atBreak) = false := by
    by_cases hk : k = 0
    · subst hk
      have ht : (c.eng.runEnded 0 c.t).cyc = c.t := c.eng.runEnded_task 0 c.t
      simp [Engine.atBreak, ht, hp]
    · simp [hk]
  have hd : { c.t with phase := .done } = c.t := by rw [← hp]
  unfold logicLeave
  dsimp only
  rw [hl, hr]
  generalize hg : c.eng.setTask k _ = g
  have hg' : g = c.eng.setTask k c.t := by rw [← hg, hd, ite_self]
  generalize hj : (if k = 0 then if (c.t.phase == Phase.done) = true then g.scanEnded c.t.cost else g else _) = j
  have hj' : j = c.eng.runEnded k c.t := by rw [← hj, hg', hp]; rfl
  rw [hj', if_neg (by rw [hb]; exact Bool.false_ne_true)]
  rfl

theorem opEnd_of_empty {c : LCtx} (h : c.t.stack = []) : opEnd c =
    ({ c with t := { c.t with phase := .done } }).charge (if c.sle then 128 else if c.task = 0 then 32 else 48) := by
  unfold opEnd; rw [h]; rfl

/-! ### What freezing leaves raised -/

theorem Raised.setMode {s : State} {n : Nat} (h : Raised s n) (m : Mode) : Raised (setMode s m) n := by
  unfold Machine.setMode
  split
  · exact h
  · exact Raised.raise (by exact h) 503

theorem Raised.refreshHold {s : State} {n : Nat} (h : Raised s n) : Raised (refreshHold s) n := by
  unfold Machine.refreshHold
  split
  · exact h.setMode _
  · exact h

theorem Raised.freezeEngine {s : State} {n : Nat} (h : Raised s n) (e : Fin 17) (b : Nat) : Raised (freezeEngine s e b) n :=
  Raised.raise (Raised.refreshHold (by exact h)) _

/-- An instruction that raises the program event leaves its source raised, though a breakpoint freezes the engine after it. -/
theorem raised_logicLeave {s : State} {e : Fin 17} {k : Fin 5} {c : LCtx} (hs : NowRaised s) (he : e.val < 16)
    (hr : c.raiseEvt = true) (instr : Nat) : Raised (logicLeave s e k instr c) (304 + 4 * e.val + 3) := by
  unfold logicLeave
  dsimp only
  generalize hu : (if c.idxLog = true then _ else _ : State) = u
  have hv : u.evr = s.evr := by rw [← hu]; split <;> rfl
  rw [if_pos hr]
  have h : Raised (raise u (304 + 4 * e.val + 3)) (304 + 4 * e.val + 3) := raised_raise (hs.congr hv) (by omega)
  generalize (decide (e.val < 16) && decide (k = 0) && Engine.atBreak _) = b
  cases b
  · exact h
  · exact h.freezeEngine e 1

theorem ctxOf_eng (s : State) (e : Fin 17) (k : Fin 5) (n : Nat) : (ctxOf s e k n).eng = (freshCycle s).le[e] := rfl

/-- The exit overhead of a run (R112, R239). -/
def endCost (e : Fin 17) (k : Fin 5) : Nat := if e.val = 16 then 128 else if k = 0 then 32 else 48

/-- A run that has ended, with its exit overhead charged. -/
def TaskRun.finished (t : TaskRun) (n : Nat) : TaskRun := { t with phase := .done, cost := t.cost + n }

theorem opEnd_ctxOf {s : State} {e : Fin 17} {k : Fin 5} {n : Nat} (h : (s.le[e].task k).stack = []) :
    opEnd (ctxOf s e k n) = { ctxOf s e k n with t := (ctxOf s e k n).t.finished (endCost e k) } := by
  have hst : (ctxOf s e k n).t.stack = [] := by rw [ctx_t]; exact h
  have hk : (ctxOf s e k n).task = 0 ↔ k = 0 := (Fin.ext_iff (a := k) (b := 0)).symm
  have hc : (if (ctxOf s e k n).sle = true then 128 else if (ctxOf s e k n).task = 0 then 32 else 48) = endCost e k := by
    simp only [ctx_sle, beq_iff_eq, hk]; rfl
  unfold opEnd
  rw [hst, hc]
  rfl

/-- The end of a run: what it costs, and the statistics of a cyclic scan (R96, R102, R112). -/
theorem leaves_of_end {s : State} {e : Fin 17} {k : Fin 5} (hx : Executing s e k true) (hw : Fetched (.end_ e k) s e k)
    (hst : (s.le[e].task k).stack = []) :
    ∃ t, exec (.end_ e k) s = .next t ∧ (t.le[e].task k).phase = .done ∧ (t.le[e].task k).out = (s.le[e].task k).out ∧
      (t.le[e].task k).regs = regsAfter s e k (2 + endCost e k) ∧ Engine.SameWords s.le[e] t.le[e] ∧ LogicKeeps s t e k ∧
      (k = 0 → t.le[e].scanCnt = s.le[e].scanCnt + 1 ∧
        t.le[e].scanLast = satNat 26 ((s.le[e].task k).cost + 2 + sleCost e + endCost e k)) := by
  have hc := opEnd_ctxOf (n := 2) hst
  have hi : exec (.end_ e k) s = logicCmd (.end_ e k) s e k 2 true opEnd := rfl
  obtain ⟨t, ht, hregs, hout, hwords, hkeeps⟩ := leavesRegs_of hx hi (by rw [hc]; exact ⟨rfl, rfl, rfl⟩)
    (show _ = regsAfter s e k (2 + endCost e k) by rw [hc, regsAfter_add, ← ctxOf_regs]; rfl) hw
  have hl := exec_logic hx hi hw (by rw [hc]; rfl)
  rw [hc, logicLeave_ended rfl rfl rfl, ht, Host.Outcome.next.injEq] at hl
  have he : Engine.SameBut ((ctxOf s e k 2).eng.runEnded k ((ctxOf s e k 2).t.finished (endCost e k))) t.le[e] := by
    have h := settle_le { evtOpens (freshCycle s) k with le := vmod (evtOpens (freshCycle s) k).le e (fun _ =>
      (ctxOf s e k 2).eng.runEnded k ((ctxOf s e k 2).t.finished (endCost e k))) } e
    rw [vmod_get_self] at h
    rw [hl]
    exact h
  refine ⟨t, ht, ?_, hout, hregs, hwords, hkeeps, ?_⟩
  · rw [he.task, Engine.runEnded_task]; rfl
  · rintro rfl
    obtain ⟨_, _, _, he⟩ := Engine.sameBut_iff.mp he
    obtain ⟨_, _, _, hf⟩ := Engine.sameBut_iff.mp (freshCycle_le s e)
    have hcnt : (ctxOf s e 0 2).eng.scanCnt = s.le[e].scanCnt := by rw [ctxOf_eng, hf]
    have hcost : (ctxOf s e 0 2).t.cost = (s.le[e].task 0).cost + 2 + sleCost e := by rw [ctx_t]
    rw [he, ← hcnt, ← hcost]
    exact ⟨rfl, rfl⟩

theorem raised_of_evt {s t : State} {e : Fin 17} {k : Fin 5} (hx : Executing s e k false) (hw : Fetched (.evt e k) s e k)
    (hla : (s.le[e].task k).la = true) (hs : Settled s) (ht : exec (.evt e k) s = .next t) : Raised t (304 + 4 * e.val + 3) := by
  have he : e.val < 16 := by
    obtain ⟨-, -, -, hsle⟩ := hx
    have h16 : e.val ≠ 16 := fun h => Bool.false_ne_true (hsle h)
    omega
  have hv : (evtOpens (freshCycle s) k).evr = (freshCycle s).evr := by
    obtain ⟨_, _, ho, -⟩ := evtOpens_eq (freshCycle s) k
    rw [ho]
  have hl := exec_logic hx (f := opEvt) rfl hw rfl
  rw [ht, Host.Outcome.next.injEq] at hl
  have hr := raised_logicLeave (k := k) (c := opEvt (ctxOf s e k 2)) ((NowRaised.of_settled hs).freshCycle.congr hv) he
    (by rw [opEvt, ctx_t]; exact hla) (s.le[e].task k).pc
  rw [hl]
  exact hr.settle.congr rfl

end Sys2Proof.Machine

open Sys2Proof Sys2Proof.Machine

/-- Settles O3: by what a push with room and a closing branch do to the context. -/
theorem branchInstructions : Obligations.BranchInstructions := by
  intro s e k hx r
  refine ⟨fun hr => ⟨leavesRegs_open .and hx rfl hr, leavesRegs_open .or hx rfl hr, leavesRegs_open .xor hx rfl hr⟩,
    fun la lt op rest hst => ?_⟩
  have hc : opClose (ctxOf s e k 2) = _ := opClose_of_branch (by rw [ctx_t]; exact hst)
  refine leavesRegs_of hx (n := 2) rfl (by rw [hc]; exact ⟨rfl, rfl, rfl⟩) ?_
  rw [hc, comb_eq e _ _ _ (ctx_sle ..)]
  dsimp only [r]
  rw [← ctxOf_regs]
  cases op <;> rfl

/-- Settles O10: jumps, LOOP, CALL and RET by what they do to index, WA and branch stack; END by its end of the run. -/
theorem flowInstructions : Obligations.FlowInstructions := by
  constructor
  · intro s e k target hx next cost goTo w
    have hjcn := leavesRegs_jumpIf false target hx (rfl : exec (.jcn e k target) s = _)
    simp only [Bool.eq_false_iff, ite_not] at hjcn
    exact ⟨leavesRegs_jmp target hx rfl, leavesRegs_jumpIf true target hx rfl, hjcn, leavesRegs_loop target hx rfl,
      leavesRegs_call target hx rfl, fun _ _ => leavesRegs_ret hx rfl⟩
  · intro s e k
    refine ⟨fun hx hw hst => ?_, fun hx => ⟨leavesRegs_of hx rfl ⟨rfl, rfl, rfl⟩ (ctxOf_regs ..), fun hw hla hs t ht =>
      raised_of_evt hx hw hla hs ht⟩⟩
    obtain ⟨t, ht, hp, hout, hregs, hwords, hkeeps, hscan⟩ := leaves_of_end hx hw hst
    refine ⟨t, ht, hp, hout, hregs, hwords, hkeeps, ?_⟩
    rintro rfl
    exact hscan rfl
end

section
/-! Instructions with an operand: what they leave where the operand is well formed and lies in its space (R94, R97, R100). -/

namespace Sys2Proof.Machine
open Sys2Proof

/-- From `c` to `d` no fault arises, and every task of the engine but the one at work stands as it did. -/
def LCtx.KeepsTasks (c d : LCtx) : Prop := d.fault = c.fault ∧ d.eng.cyc = c.eng.cyc ∧ d.eng.evt = c.eng.evt

theorem LCtx.KeepsTasks.refl (c : LCtx) : c.KeepsTasks c := ⟨rfl, rfl, rfl⟩

theorem LCtx.keepsTasks_read (c : LCtx) (o : Opnd) : c.KeepsTasks (c.read o).1 := by
  obtain ⟨hf, he, -⟩ := read_keep c o
  exact ⟨hf, by rw [he], by rw [he]⟩

theorem LCtx.keepsTasks_readBit (c : LCtx) (o : Opnd) : c.KeepsTasks (c.readBit o).1 := by
  obtain ⟨hf, he, -⟩ := readBit_keep c o
  exact ⟨hf, by rw [he], by rw [he]⟩

theorem LCtx.keepsTasks_storeWord (c : LCtx) (o : Opnd) : c.KeepsTasks (c.storeWord o) := by
  unfold storeWord
  split
  · exact ⟨rfl, rfl, rfl⟩
  · exact put_keep ..

section
variable {i : Instr} {s : State} {e : Fin 17} {k : Fin 5} {n : Nat} {o : Opnd} {sps : List Nat} {word : Bool} {f : LCtx → LCtx} {d : LCtx}

/-- An instruction whose operand is well formed and lies in its space. -/
theorem leavesCtx_opnd (hx : Executing s e k (!o.ix))
    (hi : exec i s = logicCmd i s e k (n + b2n o.ix) (!o.ix) (withOpnd o sps word f)) (hwf : o.wf sps word = true)
    (hin : (ctxOf s e k (n + b2n o.ix)).inSpace o = true) (hd : f (ctxOf s e k (n + b2n o.ix)) = d)
    (hk : (ctxOf s e k (n + b2n o.ix)).KeepsTasks d) : LeavesCtx i s e k d := by
  have hf := (withOpnd_eq hwf hin f).trans hd
  rw [← hf]
  exact leavesCtx hx hi (by rw [hf]; exact hk.1) (by rw [hf]; exact hk.2)

/-- LD and LDN: `x` is what they load (R94). -/
theorem leavesCtx_load {neg x : Bool} (hx : Executing s e k (!o.ix)) (hi : exec i s = logicOpnd i s e k 2 o.ix o.sp o.ad (opLoadBit neg))
    (hwf : o.wf spBitRead false = true) (hin : (ctxOf s e k (2 + b2n o.ix)).inSpace o = true)
    (hv : (((ctxOf s e k (2 + b2n o.ix)).readBit o).2.1 != neg) = x) :
    let r := (ctxOf s e k (2 + b2n o.ix)).readBit o
    LeavesCtx i s e k (r.1.setLA x r.2.2) :=
  leavesCtx_opnd hx hi hwf hin (by rw [← hv]) (LCtx.keepsTasks_readBit ..)

/-- A bit combination: `x` is the bit that takes part in it (R94). -/
theorem leavesCtx_bit (g : Bool → Bool → Bool) {neg x : Bool} (hx : Executing s e k (!o.ix))
    (hi : exec i s = logicOpnd i s e k 2 o.ix o.sp o.ad (opBit g neg))
    (hwf : o.wf spBitRead false = true) (hin : (ctxOf s e k (2 + b2n o.ix)).inSpace o = true)
    (hv : (((ctxOf s e k (2 + b2n o.ix)).readBit o).2.1 != neg) = x) :
    let r := (ctxOf s e k (2 + b2n o.ix)).readBit o
    LeavesCtx i s e k (r.1.setLA (g (s.le[e].task k).la x) (tagOfBoth e (s.le[e].task k).lt r.2.2)) := by
  intro r
  obtain ⟨-, -, hsle, hla, hlt⟩ := readBit_keep (ctxOf s e k (2 + b2n o.ix)) o
  refine leavesCtx_opnd hx hi hwf hin ?_ (LCtx.keepsTasks_readBit ..)
  dsimp only
  rw [hv, comb_eq e _ _ _ (hsle.trans (ctx_sle ..)), hla, hlt, ctx_t]

end

end Sys2Proof.Machine

open Sys2Proof Sys2Proof.Machine

/-- Settles O1: a load or combination takes the operand's bit or its inverse. -/
theorem bitInstructions : Obligations.BitInstructions := by
  intro s e k
  refine ⟨fun hx => ⟨leavesRegs_of hx rfl ⟨rfl, rfl, rfl⟩ (ctxOf_regs ..),
    leavesRegs_of hx rfl ⟨rfl, rfl, rfl⟩ (by rw [setLA_regs, ctx_t]; rfl)⟩, ?_⟩
  · intro ix sp ad hx o c hwf hin d b m chain la lt
    exact ⟨leavesCtx_load (o := o) hx rfl hwf hin (Bool.bne_false _), leavesCtx_load (o := o) hx rfl hwf hin (Bool.bne_true _),
      leavesCtx_bit (o := o) (· && ·) hx rfl hwf hin (Bool.bne_false _),
      leavesCtx_bit (o := o) (· && ·) hx rfl hwf hin (Bool.bne_true _),
      leavesCtx_bit (o := o) (· || ·) hx rfl hwf hin (Bool.bne_false _),
      leavesCtx_bit (o := o) (· || ·) hx rfl hwf hin (Bool.bne_true _),
      leavesCtx_bit (o := o) (· != ·) hx rfl hwf hin (Bool.bne_false _),
      leavesCtx_bit (o := o) (· != ·) hx rfl hwf hin (Bool.bne_true _)⟩

/-- Settles O4: SWAP and LXR by their registers, LW and SW by what a read yields and a store keeps. -/
theorem wordMoves : Obligations.WordMoves := by
  intro s e k
  refine ⟨fun hx => leavesRegs_of hx rfl ⟨rfl, rfl, rfl⟩ (by rw [← ctxOf_regs]; rfl),
    fun hx => leavesRegs_of hx rfl ⟨rfl, rfl, rfl⟩ (by rw [← ctxOf_regs]; rfl), ?_⟩
  · intro ix sp ad hx o c hin
    exact ⟨fun hwf => leavesCtx_opnd (o := o) hx rfl hwf hin rfl (LCtx.keepsTasks_read ..),
      fun hwf => leavesCtx_opnd (o := o) hx rfl hwf hin rfl (LCtx.keepsTasks_storeWord ..)⟩

/-- Settles O9: MIN, MAX, SEL and SETQ by their registers, LTAG and QCHK by the tag that a read yields. -/
theorem selectionAndQuality : Obligations.SelectionAndQuality := by
  intro s e k
  refine ⟨fun hx => ⟨?_, ?_, ?_, fun q => ?_⟩, ?_⟩
  · exact leavesRegs_of hx rfl (LCtx.regsOnly_setWA ..) (by rw [setWA_regs, wTag_ctxOf, ctxOf_wa, ctxOf_wb]; rfl)
  · exact leavesRegs_of hx rfl (LCtx.regsOnly_setWA ..) (by rw [setWA_regs, wTag_ctxOf, ctxOf_wa, ctxOf_wb]; rfl)
  · exact leavesRegs_of hx rfl (LCtx.regsOnly_opSel _) (opSel_regs ..)
  · exact leavesRegs_of hx rfl ⟨rfl, rfl, rfl⟩ (opSetq_regs ..)
  · intro ix sp ad hx o c hwf hin d t ht
    exact ⟨leavesCtx_opnd (o := o) hx rfl hwf hin (by dsimp only; rw [ht]; rfl) (LCtx.keepsTasks_read ..),
      leavesCtx_opnd (o := o) hx rfl hwf hin (by dsimp only; rw [ht]; rfl) (LCtx.keepsTasks_read ..)⟩
end

section
/-! Bit stores: which bit of which word they change, and the tag that the word takes (R93, R94). -/

namespace Sys2Proof.Machine
open Sys2Proof

/-- Setting or clearing bit `n` of a word leaves the others. -/
theorem getLsbD_withBit (w : Word) (n : Nat) (b : Bool) {j : Nat} (hj : j < 32) :
    (if b then w ||| 1#32 <<< n else w &&& ~~~(1#32 <<< n)).getLsbD j = if j = n then b else w.getLsbD j := by
  have h1 : (1#32 <<< n).getLsbD j = decide (j = n) := by
    rw [BitVec.getLsbD_shiftLeft, BitVec.getLsbD_one, Bool.eq_iff_iff]
    simp
    omega
  cases b
  · simp only [Bool.false_eq_true, if_false, BitVec.getLsbD_and, BitVec.getLsbD_not, hj, h1]
    by_cases h : j = n <;> simp [h]
  · simp only [if_true, BitVec.getLsbD_or, h1]
    by_cases h : j = n <;> simp [h]

theorem LCtx.image_put (c : LCtx) (i : Nat) (v : Word) (tag : Tag) :
    (c.put 1 i v tag).image (bindKey (c.eng.exports.getD i 0xFFFFFFFF) (0x8000 + i)) = { val := v, tag := tag } := by
  simp only [put, if_true, image, aget_aset_self]

theorem LCtx.mem_put (c : LCtx) (i : Nat) (v : Word) (tag : Tag) : (c.put 2 i v tag).mem 2 i = { val := v, tag := tag } := by
  simp [put, mem, forcedWord, wordKey, aget_aset_self]

/-- The spaces of the bit stores are Q and M (R94). -/
theorem sp_of_bitStore {o : Opnd} (h : o.wf spBitStore false = true) : o.sp = 1 ∨ o.sp = 2 := by
  unfold Opnd.wf at h
  simp only [spBitStore, Bool.and_eq_true, List.contains_eq_mem, decide_eq_true_eq, List.mem_cons, List.not_mem_nil, or_false] at h
  obtain ⟨⟨h, -⟩, -⟩ := h
  exact h.imp (fun h => BitVec.eq_of_toNat_eq h) (fun h => BitVec.eq_of_toNat_eq h)

/-- The word that a bit store into Q leaves (R93). -/
theorem LCtx.image_storeBit {c : LCtx} {o : Opnd} {i : Nat} (hsp : o.sp = 1) (hr : c.reach o = some i) (b : Bool) :
    let key := bindKey (c.eng.exports.getD i 0xFFFFFFFF) (0x8000 + i)
    (c.storeBit o b).image key =
      { val := if b then (c.image key).val ||| 1#32 <<< o.bitNo else (c.image key).val &&& ~~~(1#32 <<< o.bitNo)
        tag := if aget c.t.out key = none then c.storeTag c.t.lt else combine (c.image key).tag (c.storeTag c.t.lt) false c.origin } := by
  intro key
  unfold storeBit
  rw [hr, hsp]
  refine (image_put ..).trans ?_
  congr 1
  cases aget c.t.out key <;> rfl

/-- The word that a bit store into M leaves (R93). -/
theorem LCtx.mem_storeBit {c : LCtx} {o : Opnd} {i : Nat} (hsp : o.sp = 2) (hr : c.reach o = some i) (b : Bool) :
    (c.storeBit o b).mem 2 i =
      { val := if b then (c.mem 2 i).val ||| 1#32 <<< o.bitNo else (c.mem 2 i).val &&& ~~~(1#32 <<< o.bitNo)
        tag := if i ∉ c.t.mStored then c.storeTag c.t.lt else combine (c.mem 2 i).tag (c.storeTag c.t.lt) false c.origin } := by
  unfold storeBit
  rw [hr, hsp]
  refine (mem_put ..).trans ?_
  congr 1
  by_cases h : i ∈ c.t.mStored <;> simp [h]

end Sys2Proof.Machine

open Sys2Proof Sys2Proof.Machine

/-- Settles O2: the stores by what they store and when; the word that a store leaves, by its space. -/
theorem bitStores : Obligations.BitStores := by
  constructor
  · intro s e k ix sp ad hx o c hwf hin la
    have hk (b : Bool) : c.KeepsTasks (c.storeBit o b) := storeBit_keep ..
    have hla : c.t.la = la := by dsimp only [c]; rw [ctx_t]
    have hset (b : Bool) : c.KeepsTasks (if la then c.storeBit o b else c) := by split <;> [exact hk b; exact .refl c]
    exact ⟨leavesCtx_opnd (o := o) hx rfl hwf hin (by rw [← hla]; exact congrArg (c.storeBit o) (Bool.bne_false _)) (hk _),
      leavesCtx_opnd (o := o) hx rfl hwf hin (by rw [← hla]; exact congrArg (c.storeBit o) (Bool.bne_true _)) (hk _),
      leavesCtx_opnd (o := o) hx rfl hwf hin (by rw [← hla]) (hset true),
      leavesCtx_opnd (o := o) hx rfl hwf hin (by rw [← hla]) (hset false)⟩
  · intro c o i b hwf hr key word first new
    have hnew : new.val = (if b then (word c).val ||| 1#32 <<< o.bitNo else (word c).val &&& ~~~(1#32 <<< o.bitNo)) ∧
        (first → new.tag = c.storeTag c.t.lt) ∧ (¬ first → new.tag = combine (word c).tag (c.storeTag c.t.lt) false c.origin) := by
      obtain hsp | hsp := sp_of_bitStore hwf
      · simp only [new, word, first, if_pos hsp]
        rw [show (c.storeBit o b).image key = _ from LCtx.image_storeBit hsp hr b]
        exact ⟨rfl, fun h => if_pos h, fun h => if_neg h⟩
      · have hne : o.sp ≠ 1 := by rw [hsp]; decide
        simp only [new, word, first, if_neg hne]
        rw [LCtx.mem_storeBit hsp hr b]
        exact ⟨rfl, fun h => if_pos h, fun h => if_neg h⟩
    obtain ⟨hval, htag⟩ := hnew
    exact ⟨fun j hj => by rw [hval]; exact getLsbD_withBit _ _ b hj, htag⟩
end

section
/-! Instructions on an instance: how an evaluation starts, what it stores, and what the instance's neighbours keep (R103–R111). -/

namespace Sys2Proof.Machine
open Sys2Proof

/-! ### The instance that an operand names -/

theorem Engine.inst?_mem {g : Engine} {sp num : Nat} {i : Inst} (h : g.inst? sp num = some i) : i ∈ g.insts :=
  List.mem_of_find?_eq_some h

theorem Engine.SameBut.inst?_eq {g h : Engine} (x : g.SameBut h) (sp num : Nat) : h.inst? sp num = g.inst? sp num := by
  obtain ⟨-, -, hi⟩ := x.words
  unfold inst?; rw [hi]

theorem Engine.mem_setInst {g : Engine} {i j : Inst} (hi : i ∈ g.insts) (hk : j.kind = i.kind) (hn : j.num = i.num) :
    j ∈ (g.setInst j).insts :=
  List.mem_map.2 ⟨i, hi, by simp [hk, hn]⟩

theorem Engine.mem_setInst_of_ne {g : Engine} {x j : Inst} (hx : x ∈ g.insts) (h : ¬ (x.kind = j.kind ∧ x.num = j.num)) :
    x ∈ (g.setInst j).insts :=
  List.mem_map.2 ⟨x, hx, by simp [h]⟩

/-- The operand of an instance instruction is well formed and names the instance. -/
theorem withOpnd_inst {c : LCtx} {sp : BitVec 4} {ad : BitVec 20} {i : Inst} (hsp : sp = 4 ∨ sp = 5 ∨ sp = 6) (had : ad.toNat % 32 = 0)
    (h : c.eng.inst? sp.toNat (ad.toNat / 32) = some i) (f : LCtx → LCtx) :
    withOpnd (instOpnd sp ad) [sp.toNat] true f c = f c := by
  refine withOpnd_eq ?_ ?_ f
  · simp [Opnd.wf, instOpnd, Opnd.bitNo, had]
  · rw [LCtx.inSpace, if_pos (by rcases hsp with rfl | rfl | rfl <;> rfl)]
    exact Option.isSome_iff_exists.2 ⟨i, h⟩

section
variable {c : Instr} {s : State} {e : Fin 17} {k : Fin 5} {n : Nat} {sle : Bool}

theorem ctxOf_inst? (s : State) (e : Fin 17) (k : Fin 5) (n sp num : Nat) :
    (ctxOf s e k n).eng.inst? sp num = s.le[e].inst? sp num := (freshCycle_le s e).inst?_eq sp num

/-- An instruction that replaces the instance `i` by `j` and changes registers besides. -/
theorem leavesInst {f : LCtx → LCtx} {i j : Inst} {u : TaskRun} {r : Regs} {P : Inst → Prop} (hx : Executing s e k sle)
    (hi : exec c s = logicCmd c s e k n sle f) (hm : i ∈ s.le[e].insts)
    (hf : f (ctxOf s e k n) = { ctxOf s e k n with eng := (ctxOf s e k n).eng.setInst j, t := u })
    (hj : j.kind = i.kind ∧ j.num = i.num) (ho : u.out = (ctxOf s e k n).t.out) (hr : u.regs = r) (hp : P j) : LeavesInst c s e k r i P := by
  intro hw
  obtain ⟨hk, hn⟩ := hj
  obtain ⟨hm0, hw0, hi0⟩ := (freshCycle_le s e).words
  rw [← ctxOf_eng s e k n] at hm0 hw0 hi0
  obtain ⟨t, ht, hregs, hout, -, ⟨hm1, hw1, hi1⟩, hkeeps⟩ := leavesCtx hx hi (by rw [hf]; rfl) (by rw [hf]; exact ⟨rfl, rfl⟩) hw
  rw [hf] at hregs hout hm1 hw1 hi1
  refine ⟨t, ht, hregs.trans hr, ?_, hm1.trans hm0, hw1.trans hw0, ⟨j, ?_, hk, hn, hp⟩, fun x hxi hne => ?_, hkeeps⟩
  · rw [hout, ho, ctx_t]
  · rw [hi1]
    exact Engine.mem_setInst (hi0 ▸ hm) hk hn
  · rw [hi1]
    exact Engine.mem_setInst_of_ne (hi0 ▸ hxi) (by rwa [hk, hn])
end

/-! ### Timers -/

/-- An instance whose evaluation has begun at count `now` with input `inNow` (R103, R105). -/
def Inst.begun (i : Inst) (now : Word) (inNow : Bool) : Inst :=
  { i with inPrev := if i.first then inNow else i.inPrev, stamp := now, first := false }

/-- The tier cycles since the last evaluation, none at the first (R103). -/
def Inst.delta (i : Inst) (now : Word) : Nat := if i.first then 0 else (now - i.stamp).toNat

theorem Inst.begin_eq (i : Inst) (now : Word) (inNow : Bool) : i.begin now inNow = (i.begun now inNow, i.delta now) := by
  unfold Inst.begin begun delta
  by_cases h : i.first = true
  · simp [h]
  · simp [h]

/-- PT in tier cycles as a number (R104). -/
theorem presetCycles_toNat (w : Word) (p : Nat) : (presetCycles w p).toNat =
    if w.toInt ≤ 0 then 0 else min ((w.toNat * 1000 + p - 1) / p) (2 ^ 32 - 1) := by
  unfold presetCycles cdiv
  split
  · rfl
  · exact Nat.mod_eq_of_lt (lt_of_le_of_lt (Nat.min_le_right ..) (by decide))

theorem etAdd_toNat (et ptc : Word) (d : Nat) : (etAdd et d ptc).toNat = min (et.toNat + d) ptc.toNat := by
  unfold etAdd
  rw [BitVec.toNat_ofNat]; omega

/-- The instance with the three fields that the evaluation of a timer decides. -/
def Inst.timed (i : Inst) (et : Word) (out run : Bool) : Inst := { i with et := et, out := out, run := run }

theorem word_beq_zero (w : Word) : (w == 0) = decide (w.toNat = 0) := by
  rw [Bool.eq_iff_iff]; simp [← BitVec.toNat_inj]

theorem word_bne_zero (w : Word) : (w != 0) = decide (w.toNat > 0) := by
  rw [bne, word_beq_zero, Bool.eq_iff_iff]; simp [Nat.pos_iff_ne_zero]

section
variable (i : Inst) (la : Bool) (ptc : Word) (d : Nat)

/-- TON (R105). -/
theorem tonEval_eq : ∃ et : Word,
    tonEval i la ptc d = i.timed et (la && (if i.inPrev then decide (min (i.et.toNat + d) ptc.toNat ≥ ptc.toNat) else decide (ptc.toNat = 0))) i.run ∧
    et.toNat = if la && i.inPrev then min (i.et.toNat + d) ptc.toNat else 0 := by
  unfold tonEval Inst.timed
  rw [etAdd_toNat, word_beq_zero]
  cases la
  · exact ⟨0, rfl, rfl⟩
  · cases i.inPrev
    · exact ⟨0, rfl, rfl⟩
    · exact ⟨etAdd i.et d ptc, rfl, etAdd_toNat ..⟩

/-- TOF (R105). -/
theorem tofEval_eq : ∃ et : Word,
    tofEval i la ptc d = i.timed et
      (if la then true else if i.inPrev then decide (ptc.toNat > 0) else if i.run then decide (min (i.et.toNat + d) ptc.toNat < ptc.toNat) else i.out)
      (if la then false else if i.inPrev then decide (ptc.toNat > 0) else if i.run then decide (min (i.et.toNat + d) ptc.toNat < ptc.toNat) else i.run) ∧
    et.toNat = if la || i.inPrev then 0 else if i.run then min (i.et.toNat + d) ptc.toNat else i.et.toNat := by
  unfold tofEval Inst.timed
  rw [etAdd_toNat, word_bne_zero]
  obtain ⟨_, _, _, _, _, _, _, _, prev, _, _, et, run, _, _, _, _, _, _⟩ := i
  cases la
  · cases prev
    · cases run
      · exact ⟨et, rfl, rfl⟩
      · exact ⟨etAdd et d ptc, rfl, etAdd_toNat ..⟩
    · exact ⟨0, rfl, rfl⟩
  · exact ⟨0, rfl, rfl⟩

/-- TP (R105, R106). -/
theorem tpEval_eq :
    let et := min (i.et.toNat + d) ptc.toNat
    let ends := i.run && decide (et ≥ ptc.toNat)
    let starts := (!i.run || ends) && la && !i.inPrev
    ∃ w : Word, tpEval i la ptc d = i.timed w (if starts then decide (ptc.toNat > 0) else if ends then false else i.out)
        (if starts then decide (ptc.toNat > 0) else i.run && !ends) ∧
      w.toNat = if starts then 0 else if i.run then et else if la then i.et.toNat else 0 := by
  obtain ⟨_, _, _, _, _, _, _, _, prev, _, _, et, run, _, _, _, _, _, _⟩ := i
  dsimp only
  unfold tpEval Inst.timed
  rw [word_bne_zero]
  dsimp only
  rw [etAdd_toNat]
  cases run
  · cases la
    · exact ⟨0, rfl, rfl⟩
    · cases prev
      · exact ⟨0, rfl, rfl⟩
      · exact ⟨et, rfl, rfl⟩
  · by_cases he : min (et.toNat + d) ptc.toNat ≥ ptc.toNat
    · cases la
      · exact ⟨etAdd et d ptc, by simp [he], by simp [etAdd_toNat]⟩
      · cases prev
        · exact ⟨0, by simp [he], by simp [he]⟩
        · exact ⟨etAdd et d ptc, by simp [he], by simp [etAdd_toNat]⟩
    · exact ⟨etAdd et d ptc, by simp [he], by simp [he, etAdd_toNat]⟩
end

/-- What the instance `i` is after a timer instruction that leaves ET, output and run flag so (R105, R111). -/
def LCtx.timerStored (c : LCtx) (i : Inst) (et : Word) (out run : Bool) : Inst :=
  { (i.begun c.t.nNow c.t.la).timed et out run with
    inPrev := c.t.la, pt := c.t.wa, ptc := presetCycles c.t.wa c.period, pus := c.period, tag := c.storeTag (c.comb c.t.lt c.t.ta) }

/-- A timer instruction on its instance. -/
theorem opTimer_eq {c : LCtx} {kind : Nat} {ev : Inst → Bool → Word → Nat → Inst} {ad : BitVec 20} {i : Inst} {et : Word}
    {out run : Bool} (had : ad.toNat % 32 = 0) (h : c.eng.inst? 4 (ad.toNat / 32) = some i) (hk : i.kind = kind)
    (hev : ev (i.begun c.t.nNow c.t.la) c.t.la (presetCycles c.t.wa c.period) (i.delta c.t.nNow) =
      (i.begun c.t.nNow c.t.la).timed et out run) :
    opTimer kind ev (instOpnd 4 ad) c =
      { c with eng := c.eng.setInst (c.timerStored i et out run), t := { c.t with la := out, lt := c.comb c.t.lt c.t.ta } } := by
  unfold opTimer
  refine (withOpnd_inst (.inl rfl) had h _).trans ?_
  have hw : c.eng.inst? 4 (instOpnd 4 ad).word = some i := h
  dsimp only
  rw [hw]
  dsimp only
  rw [if_neg (not_not.2 hk), Inst.begin_eq]
  dsimp only
  rw [hev]
  rfl

/-- The tier period of a task in µs (R104). -/
theorem ctxOf_period (s : State) (e : Fin 17) (k : Fin 5) (n : Nat) :
    (ctxOf s e k n).period = if k = 0 then tierNs s.le[e].tier.toNat / 1000 else 100 := by
  obtain ⟨_, _, _, hf⟩ := Engine.sameBut_iff.mp (freshCycle_le s e)
  unfold ctxOf logicCtx
  rw [hf]; rfl

/-- The preset of the timer that task `k` evaluates, in its tier cycles (R104). -/
def timerPreset (s : State) (e : Fin 17) (k : Fin 5) : Word :=
  presetCycles (regsAfter s e k 10).wa (if k = 0 then tierNs s.le[e].tier.toNat / 1000 else 100)

/-- The instance of the timer that task `k` evaluates, once its evaluation has begun. -/
def timerBegun (s : State) (e : Fin 17) (k : Fin 5) (i : Inst) : Inst := i.begun (s.le[e].task k).nNow (regsAfter s e k 10).la

/-- A timer instruction from what its evaluation decides. -/
theorem leavesInst_timer {c : Instr} {s : State} {e : Fin 17} {k : Fin 5} {ad : BitVec 20} {i : Inst} {kind : Nat}
    {ev : Inst → Bool → Word → Nat → Inst} {et : Word} {out run : Bool} {P : Inst → Prop} (hx : Executing s e k true)
    (hi : exec c s = logicCmd c s e k 10 true (opTimer kind ev (instOpnd 4 ad)))
    (had : ad.toNat % 32 = 0) (h : s.le[e].inst? 4 (ad.toNat / 32) = some i) (hk : i.kind = kind)
    (hev : ev (timerBegun s e k i) (regsAfter s e k 10).la (timerPreset s e k) (i.delta (s.le[e].task k).nNow) =
      (timerBegun s e k i).timed et out run) (hp : ∀ x : Inst, x.et = et → x.run = run → P x) :
    let r := regsAfter s e k 10
    LeavesInst c s e k { r with la := out, lt := tagOfBoth e r.lt r.ta } i (fun x =>
      x.out = out ∧ x.inPrev = r.la ∧ x.first = false ∧ x.stamp = (s.le[e].task k).nNow ∧ P x) := by
  have hnow : (ctxOf s e k 10).t.nNow = (s.le[e].task k).nNow := by rw [ctx_t]
  have hev' : ev (i.begun (ctxOf s e k 10).t.nNow (ctxOf s e k 10).t.la) (ctxOf s e k 10).t.la
      (presetCycles (ctxOf s e k 10).t.wa (ctxOf s e k 10).period) (i.delta (ctxOf s e k 10).t.nNow) =
      (i.begun (ctxOf s e k 10).t.nNow (ctxOf s e k 10).t.la).timed et out run := by
    rw [hnow, ctxOf_la, ctxOf_wa, ctxOf_period]; exact hev
  have hf := opTimer_eq had ((ctxOf_inst? ..).trans h) hk hev'
  refine leavesInst hx hi (Engine.inst?_mem h) hf ⟨rfl, rfl⟩ rfl ?_ ⟨rfl, ctxOf_la .., rfl, hnow, hp _ rfl rfl⟩
  rw [comb_eq e _ _ _ (ctx_sle ..), ← ctxOf_regs]
  rfl

end Sys2Proof.Machine

open Sys2Proof Sys2Proof.Machine

/-- Settles O11: each evaluation decides ET, output and run flag as R105 says; the rest is the same for the three timers. -/
theorem timerInstructions : Obligations.TimerInstructions := by
  intro s e k ad i hx had h r now period ptc prev et leaves
  have hptc : (timerPreset s e k).toNat = ptc := presetCycles_toNat ..
  refine ⟨fun hk => ?_, fun hk => ?_, fun hk => ?_⟩
  · obtain ⟨w, hev, hw⟩ := tonEval_eq (timerBegun s e k i) r.la (timerPreset s e k) (i.delta now)
    rw [hptc] at hev hw
    exact leavesInst_timer hx rfl had h hk hev fun x hx _ => by rw [hx]; exact hw
  · obtain ⟨w, hev, hw⟩ := tofEval_eq (timerBegun s e k i) r.la (timerPreset s e k) (i.delta now)
    rw [hptc] at hev hw
    exact leavesInst_timer hx rfl had h hk hev fun x hx hr => ⟨by rw [hx]; exact hw, hr⟩
  · obtain ⟨w, hev, hw⟩ := tpEval_eq (timerBegun s e k i) r.la (timerPreset s e k) (i.delta now)
    rw [hptc] at hev hw
    exact leavesInst_timer hx rfl had h hk hev fun x hx hr => ⟨by rw [hx]; exact hw, hr⟩
end

section
/-! Counters and edge instances: the count, the previous inputs and the output that an instruction stores (R107, R108, R111). -/

namespace Sys2Proof.Machine
open Sys2Proof

/-- A counter whose count-up input is evaluated with input `la`, which is its own previous value at the first evaluation (R105). -/
def Inst.upBegun (i : Inst) (la : Bool) : Inst := { i with upPrev := if i.firstU then la else i.upPrev, firstU := false }

/-- Likewise its count-down input. -/
def Inst.dnBegun (i : Inst) (la : Bool) : Inst := { i with dnPrev := if i.firstD then la else i.dnPrev, firstD := false }

theorem Inst.upBegun_eq (i : Inst) (la : Bool) : (if i.firstU then { i with upPrev := la, firstU := false } else i) = i.upBegun la := by
  obtain ⟨_, _, _, _, _, _, firstU, _, _, _, _, _, _, _, _, _, _, _, _⟩ := i
  cases firstU <;> rfl

theorem Inst.dnBegun_eq (i : Inst) (la : Bool) : (if i.firstD then { i with dnPrev := la, firstD := false } else i) = i.dnBegun la := by
  obtain ⟨_, _, _, _, _, _, _, firstD, _, _, _, _, _, _, _, _, _, _, _⟩ := i
  cases firstD <;> rfl

/-- A count that stands at its limit stays there (R107). -/
theorem count_eq (step : Bool) (cv limit next : Word) :
    (if step then (if cv = limit then cv else next) else cv) = if step && cv ≠ limit then next else cv := by
  cases step
  · rfl
  · by_cases h : cv = limit <;> simp [h]

section
variable {c : LCtx} {ad : BitVec 20} {i : Inst} (had : ad.toNat % 32 = 0)
include had

/-- CTU on its instance (R107). -/
theorem opCount_up (h : c.eng.inst? 5 (ad.toNat / 32) = some i) :
    let u := if c.t.la && !(i.upBegun c.t.la).upPrev && i.cv ≠ 0x7FFFFFFF then i.cv + 1 else i.cv
    let q := decide (u.toInt ≥ c.t.wa.toInt)
    let m := c.comb c.t.lt c.t.ta
    opCount true (instOpnd 5 ad) c = { c with
      eng := c.eng.setInst { i.upBegun c.t.la with stamp := c.t.nNow, cv := u, out := q, tag := c.storeTag m, upPrev := c.t.la }
      t := { c.t with la := q, lt := m } } := by
  unfold opCount
  refine (withOpnd_inst (.inr (.inl rfl)) had h _).trans ?_
  have hw : c.eng.inst? 5 (instOpnd 5 ad).word = some i := h
  dsimp only
  rw [hw]
  simp only [↓reduceIte]
  rw [Inst.upBegun_eq, count_eq]
  rfl

/-- CTD on its instance (R107). -/
theorem opCount_down (h : c.eng.inst? 5 (ad.toNat / 32) = some i) :
    let d := if c.t.la && !(i.dnBegun c.t.la).dnPrev && i.cv ≠ 0x80000000 then i.cv - 1 else i.cv
    let q := decide (d.toInt ≤ 0)
    let m := c.comb c.t.lt c.t.ta
    opCount false (instOpnd 5 ad) c = { c with
      eng := c.eng.setInst { i.dnBegun c.t.la with stamp := c.t.nNow, cv := d, out := q, tag := c.storeTag m, dnPrev := c.t.la }
      t := { c.t with la := q, lt := m } } := by
  unfold opCount
  refine (withOpnd_inst (.inr (.inl rfl)) had h _).trans ?_
  have hw : c.eng.inst? 5 (instOpnd 5 ad).word = some i := h
  dsimp only
  rw [hw]
  simp only [↓reduceIte, Bool.false_eq_true]
  rw [Inst.dnBegun_eq, count_eq]
  rfl

/-- CRST and CLD on their instance (R107). -/
theorem opCountSet_eq (load : Bool) (h : c.eng.inst? 5 (ad.toNat / 32) = some i) :
    opCountSet load (instOpnd 5 ad) c = { c with
      eng := c.eng.setInst { i with stamp := c.t.nNow, cv := if c.t.la then (if load then c.t.wa else 0) else i.cv } } := by
  unfold opCountSet
  refine (withOpnd_inst (.inr (.inl rfl)) had h _).trans ?_
  have hw : c.eng.inst? 5 (instOpnd 5 ad).word = some i := h
  dsimp only
  rw [hw]

/-- REDGE and FEDGE on their instance (R108). -/
theorem opEdge_eq (rising : Bool) (h : c.eng.inst? 6 (ad.toNat / 32) = some i) :
    let prev := (i.begun c.t.nNow c.t.la).inPrev
    let q := if rising then c.t.la && !prev else prev && !c.t.la
    opEdge rising (instOpnd 6 ad) c = { c with
      eng := c.eng.setInst { i.begun c.t.nNow c.t.la with inPrev := c.t.la, out := q, tag := c.storeTag c.t.lt }
      t := { c.t with la := q } } := by
  unfold opEdge
  refine (withOpnd_inst (.inr (.inr rfl)) had h _).trans ?_
  have hw : c.eng.inst? 6 (instOpnd 6 ad).word = some i := h
  dsimp only
  rw [hw]
  dsimp only
  rw [Inst.begin_eq]
end

end Sys2Proof.Machine

open Sys2Proof Sys2Proof.Machine

/-- Settles O12: by what each instruction stores in its instance. -/
theorem instanceInstructions : Obligations.InstanceInstructions := by
  constructor
  · intro s e k ad i hx had h r5 r3 now up dn u d m
    have hi (n : Nat) : (ctxOf s e k n).eng.inst? 5 (ad.toNat / 32) = some i := (ctxOf_inst? ..).trans h
    have hm := Engine.inst?_mem h
    have hc : (ctxOf s e k 5).comb (ctxOf s e k 5).t.lt (ctxOf s e k 5).t.ta = m := by
      rw [comb_eq e _ _ _ (ctx_sle ..), ctx_t]; rfl
    refine ⟨?_, ?_, ?_, ?_⟩
    · refine leavesInst hx rfl hm (opCount_up had (hi 5)) ⟨rfl, rfl⟩ rfl ?_ ?_
      · rw [hc, ctx_t]; rfl
      · rw [ctx_t]; exact ⟨rfl, rfl, rfl, rfl, rfl, rfl, rfl⟩
    · refine leavesInst hx rfl hm (opCount_down had (hi 5)) ⟨rfl, rfl⟩ rfl ?_ ?_
      · rw [hc, ctx_t]; rfl
      · rw [ctx_t]; exact ⟨rfl, rfl, rfl, rfl, rfl, rfl, rfl⟩
    · refine leavesInst hx rfl hm (opCountSet_eq had false (hi 3)) ⟨rfl, rfl⟩ rfl (ctxOf_regs ..) ?_
      rw [ctx_t]; exact ⟨rfl, rfl, rfl⟩
    · refine leavesInst hx rfl hm (opCountSet_eq had true (hi 3)) ⟨rfl, rfl⟩ rfl (ctxOf_regs ..) ?_
      rw [ctx_t]; exact ⟨rfl, rfl, rfl⟩
  · intro s e k ad i hx had h r prev
    have hi : (ctxOf s e k 3).eng.inst? 6 (ad.toNat / 32) = some i := (ctxOf_inst? ..).trans h
    have hm := Engine.inst?_mem h
    refine ⟨?_, ?_⟩
    · refine leavesInst hx rfl hm (opEdge_eq had true hi) ⟨rfl, rfl⟩ rfl ?_ ?_ <;> rw [ctx_t]
      · rfl
      · exact ⟨rfl, rfl, rfl⟩
    · refine leavesInst hx rfl hm (opEdge_eq had false hi) ⟨rfl, rfl⟩ rfl ?_ ?_ <;> rw [ctx_t]
      · rfl
      · exact ⟨rfl, rfl, rfl⟩

end

section
/-! What a STOP leaves of the station: no trigger in STOP, and the whole of a STOP in one equation (R60, R66, R70, R154). -/

namespace Sys2Proof.Machine
open Sys2Proof

/-! ### No trigger in STOP (R60) -/

theorem trigger_of_stop {s : State} (h : s.stn.mode = .stop) (e i : Nat) : trigger s e i = s := by
  simp [trigger, inRunHold, h]

theorem raise_le_of_stop {s : State} (h : s.stn.mode = .stop) (n : Nat) : (raise s n).le = s.le := by
  unfold raise
  split
  · rfl
  · dsimp only
    rw [trigger_of_stop (by repeat' split
                            all_goals exact h), ite_self]
    repeat' split
    all_goals rfl

theorem logPass_le_of_stop {s : State} (h : s.stn.mode = .stop) : (logPass s).le = s.le := by
  rw [logPass_def]
  dsimp only
  split
  · exact raise_le_of_stop (by exact h) 488
  · rfl

@[simp] theorem logPass_stn (s : State) : (logPass s).stn = s.stn := by
  obtain ⟨_, _, _, h, -⟩ := logPass_eq s
  rw [h]

/-- In STOP the end of a command leaves the engines as they are, triggers included. -/
theorem settle_le_of_stop {s : State} (h : s.stn.mode = .stop) : (settle s).le = s.le := by
  unfold settle
  obtain ⟨_, _, hd, -⟩ := deliverRaises_eq (logPass (logPass (logPass s)))
  rw [hd]
  exact (logPass_le_of_stop (by simpa using h)).trans ((logPass_le_of_stop (by simpa using h)).trans (logPass_le_of_stop h))

/-! ### A STOP in one equation (R66, R70) -/

/-- STN has kept its tier counts, its last boundary, its instant and the record of a stop; `n` before. -/
def Stn.KeepsStop (n n' : Stn) : Prop :=
  n'.faultStop = n.faultStop ∧ n'.stopCause = n.stopCause ∧ n'.ovrEngine = n.ovrEngine ∧ n'.ovrEvent = n.ovrEvent ∧
  n'.cnt = n.cnt ∧ n'.lastB = n.lastB ∧ n'.time = n.time

theorem Stn.KeepsStop.trans {a b c : Stn} (h : a.KeepsStop b) (k : b.KeepsStop c) : a.KeepsStop c := by
  obtain ⟨h1, h2, h3, h4, h5, h6, h7⟩ := h
  obtain ⟨k1, k2, k3, k4, k5, k6, k7⟩ := k
  exact ⟨k1.trans h1, k2.trans h2, k3.trans h3, k4.trans h4, k5.trans h5, k6.trans h6, k7.trans h7⟩

theorem setMode_stop_eq (s : State) : ∃ n v g, setMode s .stop = { s with stn := n, evr := v, log := g } ∧
    n.mode = .stop ∧ s.stn.KeepsStop n := by
  unfold setMode
  split
  · next h => exact ⟨s.stn, s.evr, s.log, rfl, h, rfl, rfl, rfl, rfl, rfl, rfl, rfl⟩
  · obtain ⟨v, g, l, h, -⟩ := raise_eq { s with stn := { s.stn with mode := .stop, permitCount := false } } 503
    have hl : l = s.le := (congrArg State.le h).symm.trans (raise_le_of_stop rfl 503)
    subst hl
    exact ⟨_, v, g, h, rfl, rfl, rfl, rfl, rfl, rfl, rfl, rfl⟩

theorem disarmFieldEvents_eq (s : State) : ∃ a, disarmFieldEvents s = { s with ang := a } := ⟨_, rfl⟩

/-- The loops as a STOP leaves them (R154, R155). -/
def LoopBlk.stopped (b : LoopBlk) : LoopBlk :=
  { b with loops := b.loops.map (fun l => if l.used then
      (if l.started then { l with state := if l.state = 7 then 7 else l.c.stopState, stopW := l.st.w } else l) else l) }

theorem loopsStop_eq (s : State) : loopsStop s = { s with lp := s.lp.stopped } := rfl

theorem canStop_eq (s : State) : ∃ c, canStop s = { s with can := c } := by
  refine List.foldlRecOn (motive := fun u : State => ∃ c, u = { s with can := c }) (allFin 8) _ ⟨s.can, rfl⟩ ?_
  rintro _ ⟨c, rfl⟩ k -
  exact ⟨_, rfl⟩

theorem telStop_eq (s : State) : ∃ n, telStop s = { s with net := n } := by
  refine List.foldlRecOn (motive := fun u : State => ∃ n, u = { s with net := n }) (allFin 64) _ ⟨s.net, rfl⟩ ?_
  rintro _ ⟨n, rfl⟩ k -
  dsimp only
  split
  · split
    · exact ⟨_, rfl⟩
    · exact ⟨_, rfl⟩
  · exact ⟨_, rfl⟩

theorem retainSave_eq (s : State) : ∃ n, retainSave s = { s with stn := n } ∧ n.mode = s.stn.mode ∧ s.stn.KeepsStop n := by
  unfold retainSave
  split
  · exact ⟨s.stn, rfl, rfl, rfl, rfl, rfl, rfl, rfl, rfl, rfl⟩
  · exact ⟨_, rfl, rfl, rfl, rfl, rfl, rfl, rfl, rfl, rfl⟩

/-- The engines of a station whose logic engines have stopped. -/
def stoppedEngines (s : State) : Vector Engine 17 := (mapLogic s Engine.stopped).le

/-- STN as a stop marks it (R66). -/
def Stn.marked (n : Stn) (cause : Nat) (isFault : Bool) : Stn := { n with faultStop := isFault, stopCause := BitVec.ofNat 4 cause }

/-- The first part of a STOP: the engines have stopped and the stop is recorded. -/
def stopMarked (s : State) (cause : Nat) (isFault : Bool) : State :=
  { mapLogic s Engine.stopped with stn := (mapLogic s Engine.stopped).stn.marked cause isFault }

theorem stopMarked_eq (s : State) (cause : Nat) (isFault : Bool) :
    stopMarked s cause isFault = { s with stn := s.stn.marked cause isFault, le := stoppedEngines s } := by
  simp only [stopMarked, stoppedEngines, mapLogic]

theorem stopAll_def (s : State) (cause : Nat) (isFault : Bool) : stopAll s cause isFault =
    retainSave (telStop (canStop (loopsStop (disarmFieldEvents (setMode (stopMarked s cause isFault) .stop))))) := rfl

theorem stopAll_eq (s : State) (cause : Nat) (isFault : Bool) : ∃ n v g a c x, stopAll s cause isFault =
      { s with stn := n, le := stoppedEngines s, lp := s.lp.stopped, evr := v, log := g, ang := a, can := c, net := x } ∧
    n.mode = .stop ∧ (s.stn.marked cause isFault).KeepsStop n := by
  rw [stopAll_def, stopMarked_eq]
  obtain ⟨n1, v, g, h1, hm1, hk1⟩ := setMode_stop_eq { s with stn := s.stn.marked cause isFault, le := stoppedEngines s }
  rw [h1]
  generalize stoppedEngines s = l
  obtain ⟨a, h2⟩ := disarmFieldEvents_eq { s with stn := n1, le := l, evr := v, log := g }
  rw [h2, loopsStop_eq]
  obtain ⟨c, h3⟩ := canStop_eq { s with stn := n1, le := l, evr := v, log := g, ang := a, lp := s.lp.stopped }
  rw [h3]
  obtain ⟨x, h4⟩ := telStop_eq { s with stn := n1, le := l, evr := v, log := g, ang := a, lp := s.lp.stopped, can := c }
  rw [h4]
  obtain ⟨n, h5, hm, hk⟩ :=
    retainSave_eq { s with stn := n1, le := l, evr := v, log := g, ang := a, lp := s.lp.stopped, can := c, net := x }
  exact ⟨n, v, g, a, c, x, h5, hm.trans hm1, hk1.trans hk⟩

/-! ### The stopped engines -/

theorem foldl_vmod_get {α : Type} {n : Nat} (f : α → α) (l : List (Fin n)) (hl : l.Nodup) (v : Vector α n) (j : Fin n) :
    (l.foldl (fun v i => vmod v i f) v)[j] = if j ∈ l then f v[j] else v[j] := by
  induction l generalizing v with
  | nil => rfl
  | cons i l ih =>
    rw [List.nodup_cons] at hl
    rw [List.foldl_cons, ih hl.2, vmod_get]
    by_cases hij : i = j
    · subst hij; simp [hl.1]
    · simp [hij, Ne.symm hij]

theorem mapLogic_get (s : State) (f : Engine → Engine) (e : Fin 17) :
    (mapLogic s f).le[e] = if e.val < 16 then f s.le[e] else s.le[e] := by
  refine (foldl_vmod_get f logicEngines (by decide) s.le e).trans ?_
  simp [logicEngines, mem_allFin]

theorem Engine.stopped_task (g : Engine) (k : Fin 5) : (g.stopped.task k).phase = .idle ∧ (g.stopped.task k).out = [] := by
  unfold Engine.task
  split
  · exact ⟨rfl, rfl⟩
  · next h =>
    have hk : k.val - 1 < 4 := by omega
    simp [Engine.stopped, vget, hk]

theorem LoopBlk.stopped_get (b : LoopBlk) (n : Fin 192) : b.stopped.loops[n].out = b.loops[n].out ∧
    b.stopped.loops[n].state = if b.loops[n].used ∧ b.loops[n].started ∧ b.loops[n].state ≠ 7 then
      b.loops[n].c.stopState else b.loops[n].state := by
  unfold stopped
  simp only [Fin.getElem_fin, Vector.getElem_map]
  generalize b.loops[n.val] = l
  by_cases hu : l.used = true <;> by_cases hs : l.started = true <;> by_cases h7 : l.state = 7#3 <;> simp [hu, hs, h7]

end Sys2Proof.Machine
end

section
/-! Where an instruction meets a fault, and the fault STOP that it becomes (R65, R66, R91, R96). -/

namespace Sys2Proof.Machine
open Sys2Proof

theorem Engine.stopped_sameWords (g : Engine) : g.SameWords g.stopped := ⟨rfl, rfl, rfl⟩

theorem Engine.SameWords.trans {g h i : Engine} (x : g.SameWords h) (y : h.SameWords i) : g.SameWords i := by
  obtain ⟨x1, x2, x3⟩ := x
  obtain ⟨y1, y2, y3⟩ := y
  exact ⟨y1.trans x1, y2.trans x2, y3.trans x3⟩

theorem Engine.SameBut.fault_eq {g h : Engine} (x : g.SameBut h) : h.fault = g.fault := by unfold Engine.SameBut at x; rw [x]

/-! ### From a fault to fault STOP (R65, R66) -/

section
variable (w : State) (cause : Nat) (isFault : Bool)

theorem stopAll_mode : (stopAll w cause isFault).stn.mode = .stop := by
  obtain ⟨n, v, g, a, c, x, h, hm, -⟩ := stopAll_eq w cause isFault
  rw [h]; exact hm

theorem stopAll_keeps : (w.stn.marked cause isFault).KeepsStop (stopAll w cause isFault).stn := by
  obtain ⟨n, v, g, a, c, x, h, -, hk⟩ := stopAll_eq w cause isFault
  rw [h]; exact hk

theorem stopAll_le : (stopAll w cause isFault).le = stoppedEngines w := by
  obtain ⟨n, v, g, a, c, x, h, -⟩ := stopAll_eq w cause isFault
  rw [h]

theorem stopAll_lp : (stopAll w cause isFault).lp = w.lp.stopped := by
  obtain ⟨n, v, g, a, c, x, h, -⟩ := stopAll_eq w cause isFault
  rw [h]

theorem same_stopAll {b : Block} (hb : b ∉ [Block.stn, .le, .lp, .ang, .can, .net]) : b.Same w (stopAll w cause isFault) := by
  obtain ⟨n, v, g, a, c, x, h, -⟩ := stopAll_eq w cause isFault
  rw [h]
  cases b <;> first | rfl | simp at hb

/-- The engines as the end of the command leaves them. -/
theorem settle_stopAll_le (e : Fin 17) :
    (settle (stopAll w cause isFault)).le[e] = if e.val < 16 then w.le[e].stopped else w.le[e] := by
  rw [settle_le_of_stop (stopAll_mode ..), stopAll_le, stoppedEngines, mapLogic_get]
end

/-- A STOP with its cause out of a state `w` that differs from what the command found in STN and the engines alone. -/
theorem faultStopped_stopAll {s w : State} {cause : Nat} (hc : cause < 16)
    (hb : ∀ b : Block, b ≠ .stn → b ≠ .le → b.Same (freshCycle s) w) (hcnt : w.stn.cnt = s.stn.cnt)
    (hlast : w.stn.lastB = s.stn.lastB) (hw : ∀ e : Fin 17, e.val < 16 → s.le[e].SameWords w.le[e])
    (h16 : s.le[(16 : Fin 17)].SameBut w.le[(16 : Fin 17)]) :
    FaultStopped s { settle (stopAll w cause true) with pending := s.pending } cause := by
  have hlp : w.lp = s.lp := Eq.trans (hb .lp nofun nofun) (freshCycle_lp s)
  have hle := settle_stopAll_le w cause true
  obtain ⟨hfs, hsc, -, -, hkc, hkl, -⟩ := stopAll_keeps w cause true
  refine ⟨keepsBut_settle fun b hl => ?_, ?_, ?_, ?_, ?_, ?_, fun e he => ?_, ?_, fun n => ?_⟩
  · refine (hb b ?_ ?_).trans (same_stopAll w cause true hl) <;> rintro rfl <;> simp at hl
  · exact (congrArg Stn.mode (settle_stn _)).trans (stopAll_mode ..)
  · exact (congrArg Stn.faultStop (settle_stn _)).trans hfs
  · have h : (settle (stopAll w cause true)).stn.stopCause = BitVec.ofNat 4 cause := by rw [settle_stn]; exact hsc
    dsimp only
    rw [h, BitVec.toNat_ofNat]
    exact Nat.mod_eq_of_lt hc
  · exact (congrArg Stn.cnt (settle_stn _)).trans (hkc.trans hcnt)
  · exact (congrArg Stn.lastB (settle_stn _)).trans (hkl.trans hlast)
  · dsimp only
    rw [hle e, if_pos he]
    exact ⟨rfl, rfl, rfl, rfl, (hw e he).trans (Engine.stopped_sameWords _), Engine.stopped_task _⟩
  · dsimp only
    rw [hle, if_neg (by decide)]
    exact h16
  · dsimp only
    rw [settle_lp, stopAll_lp, hlp]
    exact s.lp.stopped_get n

/-- An engine fault is a STOP out of a state in which the engine's flag stands and STN names the engine (R65, R66). -/
theorem engineFault_eq (u : State) (e : Fin 17) (kind instr : Nat) (evt : Bool) (he : e.val < 16) :
    ∃ w, engineFault u e kind instr evt = stopAll w 4 true ∧ (∀ b : Block, b ≠ .stn → b ≠ .le → b.Same u w) ∧
      w.stn = { u.stn with ovrEngine := BitVec.ofNat 4 e.val, ovrEvent := evt } ∧
      (∀ j : Fin 17, Engine.SameBut (if e = j then { u.le[j] with fault := true } else u.le[j]) w.le[j]) := by
  unfold engineFault faultStop
  dsimp only
  refine ⟨_, rfl, fun b h1 h2 => ?_, ?_, fun j => ?_⟩
  · refine Block.Same.trans ?_ (same_logEntry ..)
    have hr := same_raise { u with le := vmod u.le e (fun g => { g with fault := true }) } (304 + 4 * e.val + 1) b
    cases b <;> first | exact absurd rfl h1 | exact absurd rfl h2 | exact hr
  · rw [logEntry_stn, if_pos he, if_pos he, raise_stn]
  · rw [logEntry_le]
    refine Engine.SameBut.trans ?_ (raise_le ..)
    dsimp only
    rw [vmod_get]
    split
    · next h => subst h; exact .refl _
    · exact .refl _

/-! ### The faults of an instruction (R65, R91, R96) -/

section
variable {i : Instr} {s : State} {e : Fin 17} {k : Fin 5} {n : Nat} {sle : Bool} {f : LCtx → LCtx}

/-- The instruction is met with an engine fault of a logic engine: it has no word, or its effect is a fault. -/
theorem exec_fault (he : e.val < 16) (ha : alive s = true) (hm : s.le[e].mayRun k = true)
    (hw : ∀ w, s.le[e].code[(s.le[e].task k).pc]? = some w → logicWord i = some w) (hi : exec i s = logicCmd i s e k n sle f)
    (hf : s.le[e].code.length ≤ (s.le[e].task k).pc ∨ ∃ kind, (f (ctxOf s e k n)).fault = some kind) :
    ∃ kind, exec i s = .next { settle (engineFault (evtOpens (freshCycle s) k) e kind (s.le[e].task k).pc (k ≠ 0)) with
      pending := s.pending } := by
  have hfetch : fetched s e k i = true := by
    unfold fetched
    split
    · next h => simp [hw _ h]
    · rfl
  have hle : (evtOpens (freshCycle s) k).le = (freshCycle s).le := by
    obtain ⟨_, _, ho, -⟩ := evtOpens_eq (freshCycle s) k
    rw [ho]
  have h16 : e.val ≠ 16 := by omega
  have hstep : ∃ kind, logicStep (evtOpens (freshCycle s) k) e k n sle f =
      engineFault (evtOpens (freshCycle s) k) e kind (s.le[e].task k).pc (k ≠ 0) := by
    unfold logicStep
    simp only [hle, freshCycle_task, (freshCycle_le s e).code_eq, logicCtx_evtOpens, logicFault, if_neg h16]
    by_cases hpc : s.le[e].code.length ≤ (s.le[e].task k).pc
    · exact ⟨2, if_pos (by rw [decide_eq_true hpc]; rfl)⟩
    · obtain ⟨kind, hk⟩ := hf.resolve_left hpc
      refine ⟨kind, (if_neg ?_).trans (by rw [hk])⟩
      simpa [h16] using hpc
  obtain ⟨kind, hk⟩ := hstep
  exact ⟨kind, by rw [hi, logicCmd, guarded_true (by rw [ha, hm, hfetch]; rfl), hk]⟩

/-- What an instruction fault of a logic engine leaves. -/
theorem faults_of (he : e.val < 16) (ha : alive s = true) (hm : s.le[e].mayRun k = true)
    (hw : ∀ w, s.le[e].code[(s.le[e].task k).pc]? = some w → logicWord i = some w) (hi : exec i s = logicCmd i s e k n sle f)
    (hf : s.le[e].code.length ≤ (s.le[e].task k).pc ∨ ∃ kind, (f (ctxOf s e k n)).fault = some kind) :
    ∃ t, exec i s = .next t ∧ FaultStopped s t 4 ∧ (k = 0 → t.stn.time = s.stn.time) ∧ t.le[e].fault = true ∧
      t.stn.ovrEngine.toNat = e.val ∧ t.stn.ovrEvent = decide (k ≠ 0) := by
  obtain ⟨kind, hx⟩ := exec_fault he ha hm hw hi hf
  obtain ⟨st, g, ho, hst⟩ := evtOpens_eq (freshCycle s) k
  obtain ⟨w, hE, hb, hn, hl⟩ := engineFault_eq (evtOpens (freshCycle s) k) e kind (s.le[e].task k).pc (decide (k ≠ 0)) he
  rw [ho] at hb hn hl
  obtain ⟨-, -, heng, hevt, -, -, htime⟩ := stopAll_keeps w 4 true
  have hfresh := freshCycle_le s
  have hstn : st.cnt = s.stn.cnt ∧ st.lastB = s.stn.lastB ∧ (k = 0 → st.time = s.stn.time) := by
    rw [freshCycle_stn] at hst
    obtain rfl | ⟨hk, d, rfl⟩ := hst
    · exact ⟨rfl, rfl, fun _ => rfl⟩
    · exact ⟨rfl, rfl, fun h => absurd h hk⟩
  rw [hE] at hx
  refine ⟨_, hx, faultStopped_stopAll (by decide) ?_ ?_ ?_ ?_ ?_, ?_, ?_, ?_, ?_⟩
  · intro b h1 h2
    have h := hb b h1 h2
    cases b <;> first | exact absurd rfl h1 | exact absurd rfl h2 | exact h
  · rw [hn]; exact hstn.1
  · rw [hn]; exact hstn.2.1
  · intro j _
    refine (hfresh j).words.trans (Engine.SameWords.trans ?_ (hl j).words)
    split <;> exact ⟨rfl, rfl, rfl⟩
  · have h := hl 16
    rw [if_neg (by rintro rfl; exact absurd he (by decide))] at h
    exact (hfresh 16).trans h
  · intro hk
    dsimp only
    rw [settle_stn, stopAll_time, hn]; exact hstn.2.2 hk
  · have h := (hl e).fault_eq
    rw [if_pos rfl] at h
    dsimp only
    rw [settle_stopAll_le, if_pos he]
    exact h
  · dsimp only
    rw [settle_stn, heng]
    simp [Stn.marked, hn, Nat.mod_eq_of_lt he]
  · dsimp only
    rw [settle_stn, hevt]
    simp [Stn.marked, hn]

end

theorem LCtx.push_fault {c : LCtx} (h : 16 ≤ c.t.stack.length) (x : StackEnt) : c.push x = c.fail 3 := if_pos h

theorem opClose_fault {c : LCtx} (h : ∀ la lt op r, c.t.stack ≠ .branch la lt op :: r) : opClose c = c.fail 3 := by
  unfold opClose
  split
  · next hs => exact absurd hs (h _ _ _ _)
  · rfl

theorem opRet_fault {c : LCtx} (h : ∀ n r, c.t.stack ≠ .ret n :: r) : opRet c = c.fail 3 := by
  unfold opRet
  split
  · next hs => exact absurd hs (h _ _)
  · rfl

theorem opCall_fault {c : LCtx} (h : 16 ≤ c.t.stack.length) (target : BitVec 16) : opCall target c = c.fail 3 := by
  unfold opCall
  rw [LCtx.push_fault h]
  rfl

theorem opEnd_fault {c : LCtx} (h : c.t.stack ≠ []) : opEnd c = c.fail 3 :=
  if_neg (by rwa [List.isEmpty_iff])

end Sys2Proof.Machine

open Sys2Proof Sys2Proof.Machine

/-- Settles O22: `faults_of`, with the fault that each branch instruction meets on the stack. -/
theorem instructionFaults : Obligations.InstructionFaults := by
  intro s e k c target he ha hm faults st
  have hst : ∀ n, (ctxOf s e k n).t.stack = st := fun n => by rw [ctx_t]
  refine ⟨fun hc hpc => ?_, fun hc h16 => ?_, fun hc hno => ?_, fun hc hno => ?_, fun hc hne => ?_⟩
  · have beyond : ∀ {n sle f}, exec c s = logicCmd c s e k n sle f → faults := fun hi hw => faults_of he ha hm hw hi (.inl hpc)
    simp only [List.mem_cons, List.not_mem_nil, or_false] at hc
    rcases hc with rfl | rfl | rfl | rfl | rfl | rfl | rfl <;> exact beyond rfl
  · have full : ∀ {n sle f}, exec c s = logicCmd c s e k n sle f → f (ctxOf s e k n) = (ctxOf s e k n).fail 3 → faults :=
      fun hi hf hw => faults_of he ha hm hw hi (.inr ⟨3, by rw [hf]; rfl⟩)
    simp only [List.mem_cons, List.not_mem_nil, or_false] at hc
    rcases hc with rfl | rfl | rfl | rfl
    · exact full (f := opOpen .and) rfl (LCtx.push_fault (by rwa [hst]) _)
    · exact full (f := opOpen .or) rfl (LCtx.push_fault (by rwa [hst]) _)
    · exact full (f := opOpen .xor) rfl (LCtx.push_fault (by rwa [hst]) _)
    · exact full (f := opCall target) rfl (opCall_fault (by rwa [hst]) _)
  · subst hc
    exact fun hw => faults_of he ha hm hw rfl (.inr ⟨3, by rw [opClose_fault (by rwa [hst])]; rfl⟩)
  · subst hc
    exact fun hw => faults_of he ha hm hw rfl (.inr ⟨3, by rw [opRet_fault (by rwa [hst])]; rfl⟩)
  · subst hc
    exact fun hw => faults_of he ha hm hw rfl (.inr ⟨3, by rw [opEnd_fault (by rwa [hst])]; rfl⟩)
end

section
/-! Force commands: the first result that holds, and what an accepted or a refused one leaves (R123, R124). -/

namespace Sys2Proof.Machine
open Sys2Proof

/-! ### The result -/

/-- The station takes force commands at all (R123). -/
def ForcesPermitted (s : State) : Prop := s.stn.commissioning = true ∨ s.stn.forcePermit = true

theorem forceable_iff (y : Var) : forceable y = true ↔ y.wblk ∈ [0, 1, 2, 3, 10] := List.contains_iff_mem

/-- No force stands on the variable and the table has no room for another (R123). -/
def ForcesFull (s : State) (idx : Nat) : Prop :=
  (∀ f ∈ s.stn.forces, f.idx ≠ idx) ∧ 1024 ≤ s.stn.forces.length + pendingForces s

theorem forcesFull_iff (s : State) (idx : Nat) :
    (!s.stn.forces.any (fun f => f.idx == idx) && decide (s.stn.forces.length + pendingForces s ≥ 1024)) = true ↔ ForcesFull s idx := by
  simp [ForcesFull]

/-- The results that every force command meets first: 6 at a standby, then 3 without the permit (R123). -/
def CommonResult (s : State) (r : Nat) : Prop :=
  (r = 6 ∧ ¬ s.pair.state ≠ 4) ∨ (r = 3 ∧ s.pair.state ≠ 4 ∧ ¬ ForcesPermitted s)

/-- A result of those, or the command's own checks decide. -/
theorem commonResult_or {s : State} {r own : Nat}
    (h : r = if isStandby s then 6 else if !(s.stn.commissioning || s.stn.forcePermit) then 3 else own) :
    CommonResult s r ∨ (s.pair.state ≠ 4 ∧ ForcesPermitted s ∧ r = own) := by
  split at h
  next hs => exact .inl (.inl ⟨h, by simpa [isStandby] using hs⟩)
  next hs =>
    have here : s.pair.state ≠ 4 := by simpa [isStandby] using hs
    split at h
    next hp => exact .inl (.inr ⟨h, here, by simpa [ForcesPermitted] using hp⟩)
    next hp => exact .inr ⟨here, by simpa [ForcesPermitted, or_iff_not_imp_left] using hp, h⟩

/-- The result of a set command, in the order of R123. -/
theorem forceSetCode_spec (s : State) (idx : Nat) :
    CommonResult s (forceSetCode s idx) ∨ (s.pair.state ≠ 4 ∧ ForcesPermitted s ∧
      ((forceSetCode s idx = 4 ∧ var? s idx = none) ∨ ∃ y, var? s idx = some y ∧
        ((forceSetCode s idx = 1 ∧ y.wblk ∉ [0, 1, 2, 3, 10]) ∨ (y.wblk ∈ [0, 1, 2, 3, 10] ∧
          ((forceSetCode s idx = 5 ∧ commitPending s = true ∧ changeTouches s.stn.staged y = true) ∨
            (¬ (commitPending s = true ∧ changeTouches s.stn.staged y = true) ∧
              ((forceSetCode s idx = 2 ∧ ForcesFull s idx) ∨ (forceSetCode s idx = 0 ∧ ¬ ForcesFull s idx)))))))) := by
  refine (commonResult_or (r := forceSetCode s idx) rfl).imp_right fun ⟨here, may, hr⟩ => ⟨here, may, ?_⟩
  rw [hr]
  cases hx : var? s idx with
  | none => exact .inl ⟨rfl, rfl⟩
  | some y =>
    refine .inr ⟨y, rfl, ?_⟩
    dsimp only
    simp only [Bool.not_eq_true', ← Bool.not_eq_true, forceable_iff]
    by_cases hw : y.wblk ∈ [0, 1, 2, 3, 10]
    · rw [if_neg (not_not.mpr hw), ← Bool.and_eq_true]
      refine .inr ⟨hw, ?_⟩
      split
      next ht => exact .inl ⟨rfl, ht⟩
      next ht =>
        refine .inr ⟨ht, ?_⟩
        split
        next hf => exact .inl ⟨rfl, (forcesFull_iff s idx).mp hf⟩
        next hf => exact .inr ⟨rfl, mt (forcesFull_iff s idx).mpr hf⟩
    · rw [if_pos hw]
      exact .inl ⟨rfl, hw⟩

/-- The result of a remove and of a remove-all command, in the order of R123. -/
theorem forceRemoveCode_spec (s : State) (idx : Nat) :
    CommonResult s (forceRemoveCode s idx) ∨ (s.pair.state ≠ 4 ∧ ForcesPermitted s ∧
      ((forceRemoveCode s idx = 4 ∧ var? s idx = none) ∨ (forceRemoveCode s idx = 0 ∧ var? s idx ≠ none))) := by
  refine (commonResult_or (r := forceRemoveCode s idx) rfl).imp_right fun ⟨here, may, hr⟩ => ⟨here, may, ?_⟩
  rw [hr]
  cases var? s idx with
  | none => exact .inl ⟨rfl, rfl⟩
  | some y => exact .inr ⟨rfl, nofun⟩

theorem forceSetCode_freshCycle (s : State) (idx : Nat) : forceSetCode (freshCycle s) idx = forceSetCode s idx := by
  obtain ⟨v, g, l, h, -⟩ := freshCycle_eq s
  rw [h]; rfl

theorem forceRemoveCode_freshCycle (s : State) (idx : Nat) : forceRemoveCode (freshCycle s) idx = forceRemoveCode s idx := by
  obtain ⟨v, g, l, h, -⟩ := freshCycle_eq s
  rw [h]; rfl

/-! ### The command -/

/-- STN after a force command with result `r`: an accepted one waits as `cmd` for the next T1 boundary (R123, R124). -/
def Stn.forceAnswered (var : BitVec 20) (act : BitVec 2) (cmd : DistCmd) (r : Nat) (n : Stn) : Stn :=
  { n with
    forceVar := var, forceRes := BitVec.ofNat 3 r, forceAct := if r = 0 then act else 0
    accepted := if r = 0 then n.accepted ++ [cmd] else n.accepted }

theorem forceCtrl_set (s : State) (v : BitVec 20) : forceCtrl s v.toNat 1 =
    modStn s (Stn.forceAnswered v 1 (.forceSet v.toNat s.stn.forceVal) (forceSetCode s v.toNat)) := by
  have hc : forceSetCode { s with stn := { s.stn with forceVar := v } } v.toNat = forceSetCode s v.toNat := rfl
  by_cases h : forceSetCode s v.toNat = 0 <;> simp [forceCtrl, Stn.forceAnswered, modStn, accept, hc, h]

theorem forceCtrl_remove (s : State) (v : BitVec 20) : forceCtrl s v.toNat 2 =
    modStn s (Stn.forceAnswered v 2 (.forceRemove v.toNat) (forceRemoveCode s v.toNat)) := by
  have hc : forceRemoveCode { s with stn := { s.stn with forceVar := v } } v.toNat = forceRemoveCode s v.toNat := rfl
  by_cases h : forceRemoveCode s v.toNat = 0 <;> simp [forceCtrl, Stn.forceAnswered, modStn, accept, hc, h]

theorem forceCtrl_removeAll (s : State) (v : BitVec 20) : forceCtrl s v.toNat 3 =
    modStn s (Stn.forceAnswered v 3 .forceRemoveAll (forceRemoveCode s v.toNat)) := by
  have hc : forceRemoveAllCode { s with stn := { s.stn with forceVar := v } } v.toNat = forceRemoveCode s v.toNat := rfl
  by_cases h : forceRemoveCode s v.toNat = 0 <;> simp [forceCtrl, Stn.forceAnswered, modStn, accept, hc, h]

/-- A force command within its window answers as its action does at the supervisor. -/
theorem doesSilently_force {c : Instr} {s : State} {sess : Fin 4} {v : BitVec 20} {a r : Nat} {act : BitVec 2} {cmd : DistCmd}
    (hw : Windowed s sess 0x308) (hc : exec c s = keyedCmd s sess 0x420 (fun u => forceCtrl u v.toNat a))
    (ha : forceCtrl (freshCycle s) v.toNat a = modStn (freshCycle s) (Stn.forceAnswered v act cmd r)) :
    DoesSilently c s [.stn] (fun t => t.stn = s.stn.forceAnswered v act cmd r) := by
  refine doesSilently_modStn ?_
  rw [hc, keyedCmd_of hw rfl, ha]

end Sys2Proof.Machine

open Sys2Proof Sys2Proof.Machine

/-- Settles O38: the result is the first of R123 that holds, and STN alone takes it and the waiting command. -/
theorem forces : Obligations.Forces := by
  intro s sess v hw here may x touched full common setRes removeRes answers
  have hremove : removeRes (forceRemoveCode s v.toNat) := forceRemoveCode_spec s v.toNat
  refine ⟨⟨forceSetCode s v.toNat, forceSetCode_spec s v.toNat, doesSilently_force hw rfl ?_⟩,
    ⟨_, hremove, doesSilently_force hw rfl ?_⟩, ⟨_, hremove, doesSilently_force hw rfl ?_⟩⟩
  · rw [forceCtrl_set, freshCycle_stn, forceSetCode_freshCycle]
  · rw [forceCtrl_remove, forceRemoveCode_freshCycle]
  · rw [forceCtrl_removeAll, forceRemoveCode_freshCycle]
end

section
/-! The SOURCE of a Daybook entry of a refused change (R116, R366). -/

namespace Sys2Proof.Machine
open Sys2Proof

/-- SOURCE has 16 bits: no entry is noted with a greater one. -/
theorem not_noted_of_source {s t : State} {code source sev : Nat} {payload : List Byte} (hq : Quiet s)
    (hs : s.log.dbSevMin.toNat ≤ sev) (h : 2 ^ 16 ≤ source) : ¬ Noted s t code source sev payload := by
  intro hn
  obtain ⟨x, -, -, hx, -⟩ := hn hq hs
  have := x.source.isLt
  omega

/-- A running station without an image whose PREPARE is under way, told so by a session whose number needs 17 bits. -/
def prepareOfSession65536 : State :=
  { State.reset with
    pwr := { PwrBlk.reset with power := .run }
    stn := { Stn.reset with olcState := 2, olcSess := 65536 } }

end Sys2Proof.Machine

open Sys2Proof Sys2Proof.Machine

/-- Refutes O37: the end of PREPARE notes its refusal under the session in `olcSess`, for which the statement claims SOURCE equal to the
number itself. The model keeps `olcSess` as a `Nat` and SOURCE has 16 bits; from `prepareOfSession65536` the checks end in code 13, and the
entry cannot name the session. No run reaches such a number (`olcCommand` stores that of one of four sessions): what fails is the
claim over every state, for want of that bound. -/
theorem not_onlineChange : ¬ Obligations.OnlineChange := by
  intro h
  have hcode : (prepareCode prepareOfSession65536).1 ≠ 0 := by decide
  have hquiet : Quiet prepareOfSession65536 := ⟨⟨rfl, rfl⟩, rfl⟩
  obtain ⟨-, hdone, -⟩ := h prepareOfSession65536 0
  obtain ⟨hrefused, -⟩ := hdone true none (by decide) (by decide) (by decide)
  obtain ⟨t, -, -, -, -, -, p, hnoted⟩ := hrefused hcode
  exact not_noted_of_source hquiet (by decide) (by decide) hnoted
end

section
/-! Commands that change one loop or the registers of one loop engine (R155, R156, R158). -/

namespace Sys2Proof.Machine
open Sys2Proof

/-! ### The loop block after one change -/

theorem Block.same_lp (s : State) (x : LoopBlk) {b : Block} (h : b ≠ .lp) : b.Same s { s with lp := x } := by
  cases b <;> first | rfl | exact fun _ => rfl | exact absurd rfl h

/-- The loop block has changed in loop `n` alone, which is `l`. -/
def LoopBlk.ButLoop (p q : LoopBlk) (n : Fin 192) (l : Loop) : Prop :=
  q.eng = p.eng ∧ q.frozen = p.frozen ∧ ∀ j : Fin 192, q.loops[j] = if j = n then l else p.loops[j]

theorem modLoop_butLoop (s : State) (n : Fin 192) (f : Loop → Loop) : s.lp.ButLoop (modLoop s n f).lp n (f s.lp.loops[n]) := by
  refine ⟨rfl, rfl, fun j => ?_⟩
  simp only [modLoop, vmod_get, @eq_comm _ n j]

theorem modLEng_eng (s : State) (e j : Fin 24) (f : LoopEng → LoopEng) :
    (modLEng s e f).lp.eng[j] = if j = e then f s.lp.eng[j] else s.lp.eng[j] := by
  simp only [modLEng, vmod_get]
  by_cases h : e = j
  · rw [if_pos h, if_pos h.symm, h]
  · rw [if_neg h, if_neg (Ne.symm h)]

/-! ### Commands -/

section
variable {c : Instr} {s : State} {n : Fin 192} {g : Loop → Loop}

/-- A command that changes one loop. -/
theorem doesSilently_modLoop (hx : exec c s = .next { settle (modLoop (freshCycle s) n g) with pending := s.pending }) :
    DoesSilently c s [.lp] (fun t => s.lp.ButLoop t.lp n (g s.lp.loops[n])) := by
  refine doesSilently_of (f := fun u => modLoop u n g) hx (fun b hb => Block.same_lp _ _ (by simpa using hb))
    (fun _ => ⟨rfl, rfl, rfl, fun _ => rfl⟩) ?_
  show s.lp.ButLoop (settle (modLoop (freshCycle s) n g)).lp n _
  rw [settle_lp, ← freshCycle_lp s]
  exact modLoop_butLoop ..

/-- A command that changes one loop and is carried at the next T1 boundary (R71). -/
theorem doesSilently_accept_modLoop {d : DistCmd}
    (hx : exec c s = .next { settle (accept (modLoop (freshCycle s) n g) d) with pending := s.pending }) :
    DoesSilently c s [.lp, .stn] (fun t => s.lp.ButLoop t.lp n (g s.lp.loops[n]) ∧
      t.stn = { s.stn with accepted := s.stn.accepted ++ [d] }) := by
  refine doesSilently_of (f := fun u => accept (modLoop u n g) d) hx (fun b hb => ?_) (fun _ => ⟨rfl, rfl, rfl, fun _ => rfl⟩) ⟨?_, ?_⟩
  · obtain ⟨hl, hn⟩ : b ≠ .lp ∧ b ≠ .stn := by simpa using hb
    exact (Block.same_lp _ _ hl).trans (Block.same_stn _ _ hn)
  · show s.lp.ButLoop (settle (accept (modLoop (freshCycle s) n g) d)).lp n _
    rw [settle_lp, accept_lp, ← freshCycle_lp s]
    exact modLoop_butLoop ..
  · show (settle (accept (modLoop (freshCycle s) n g) d)).stn = _
    rw [settle_stn]
    simp [accept]

/-- A command that changes the registers of one loop engine. -/
theorem doesSilently_modLEng {e : Fin 24} {f : LoopEng → LoopEng}
    (hx : exec c s = .next { settle (modLEng (freshCycle s) e f) with pending := s.pending }) :
    DoesSilently c s [.lp] (fun t => t.lp.loops = s.lp.loops ∧ t.lp.frozen = s.lp.frozen ∧
      ∀ j : Fin 24, t.lp.eng[j] = if j = e then f s.lp.eng[j] else s.lp.eng[j]) := by
  have hl : (settle (modLEng (freshCycle s) e f)).lp = (modLEng s e f).lp := by rw [settle_lp, modLEng, freshCycle_lp]; rfl
  refine doesSilently_of (f := fun u => modLEng u e f) hx (fun b hb => Block.same_lp _ _ (by simpa using hb))
    (fun _ => ⟨rfl, rfl, rfl, fun _ => rfl⟩) ?_
  show (settle _).lp.loops = _ ∧ (settle _).lp.frozen = _ ∧ ∀ j : Fin 24, (settle _).lp.eng[j] = _
  rw [hl]
  exact ⟨rfl, rfl, fun j => modLEng_eng s e j f⟩
end

/-! ### FAULT and RESTART -/

/-- A loop that has entered FAULT (R155). -/
def Loop.faulted (l : Loop) (cause : BitVec 2) : Loop :=
  { l with
    state := 7, faultCause := cause, initDue := true
    samples := l.samples.map (fun x => if x.phase == .done then x else { x with stop := 7, stale := true }) }

theorem loopFault_lp (s : State) (n : Fin 192) (cause : BitVec 2) :
    (loopFault s n cause).lp = (modLoop s n (fun l => l.faulted cause)).lp :=
  raise_lp ..

theorem Block.same_loopFault (s : State) (n : Fin 192) (cause : BitVec 2) {b : Block} (h : b ≠ .lp) : b.Same s (loopFault s n cause) :=
  (Block.same_lp s (modLoop s n (fun l => l.faulted cause)).lp h).trans (same_raise _ _ b)

/-- The engine's registers show a memory error (R155). -/
def memErrMarked (s : State) (e : Fin 24) : State := modLEng s e (fun g => { g with memErr := true })

/-- A memory error puts its loop into FAULT, marks the engine and raises the engine's fault event (R155). -/
theorem does_loopMemErr {s : State} {n : Fin 192} (ha : alive s = true) (hu : s.lp.loops[n].used = true) :
    Does (.loopMemErr n) s [.lp] (fun t => t.lp.loops[n] = s.lp.loops[n].faulted 2 ∧
      (∀ j : Fin 192, j ≠ n → t.lp.loops[j] = s.lp.loops[j]) ∧
      t.lp.eng[engOf n].memErr = true ∧ (Settled s → Raised t (257 + 2 * (n.val / 8)))) := by
  obtain ⟨heng, -, hloops⟩ := modLoop_butLoop (memErrMarked s (engOf n)) n (fun l => l.faulted 2)
  have hlp : (settle (loopFault (memErrMarked (freshCycle s) (engOf n)) n 2)).lp =
      (modLoop (memErrMarked s (engOf n)) n (fun l => l.faulted 2)).lp := by
    rw [settle_lp, loopFault_lp]
    simp only [modLoop, memErrMarked, modLEng, freshCycle_lp]
  refine does_of (f := fun u => loopFault (memErrMarked u (engOf n)) n 2)
    (guarded_true (by rw [ha, hu]; rfl) (fun u => loopFault (memErrMarked u (engOf n)) n 2))
    (fun b hb => (Block.same_lp _ _ (by simpa using hb)).trans (Block.same_loopFault _ _ _ (by simpa using hb))) ⟨?_, fun j hj => ?_, ?_, ?_⟩
  · exact (congrArg (·.loops[n]) hlp).trans ((hloops n).trans (if_pos rfl))
  · exact (congrArg (·.loops[j]) hlp).trans ((hloops j).trans (if_neg hj))
  · have hmarked : (memErrMarked s (engOf n)).lp.eng[engOf n].memErr = true := by rw [memErrMarked, modLEng_eng, if_pos rfl]
    rw [← heng, ← hlp] at hmarked
    exact hmarked
  · exact raised_of (by omega) fun hs => (NowRaised.of_settled hs).freshCycle.congr rfl

/-- The KEY register of a loop's CTRL is its engine's (R4, R9). -/
theorem blockKey_loopCtrlAddr (n : Fin 192) : blockKey (loopCtrlAddr n) = some (0xC0010 + 0x800 * (n.val / 8)) := by
  have hn : n.val / 8 < 24 := by omega
  unfold blockKey loopCtrlAddr lpAddr
  iterate 12 rw [if_neg (by omega)]
  rw [if_pos (by omega), Option.some.injEq]
  omega

/-- A RESTART of a used loop without one waits for the next T1 boundary at every station but a standby (R158). -/
theorem loopCtrlWrite_restart {s : State} {n : Fin 192} (hp : s.pair.state ≠ 4) (hu : s.lp.loops[n].used = true)
    (hr : s.lp.loops[n].restart = false) : loopCtrlWrite s n true false =
      accept (modLoop s n (fun l => { l with restart := true, restartReady := false, restartT := none })) (.loopRestart n) := by
  unfold loopCtrlWrite
  rw [(isStandby_eq_false_iff s).2 hp, hu, hr]
  rfl

end Sys2Proof.Machine

open Sys2Proof Sys2Proof.Machine

/-- Settles O31: the stall, the reload and the clears change one loop or one engine's registers; a memory error is the entry into FAULT,
RESTART a change of its loop that the next T1 boundary carries. -/
theorem loopCommands : Obligations.LoopCommands := by
  intro s sess n e ha l one
  refine ⟨fun hu hst hsrc hlim hno hcnt => ?stall, fun hu => ?memErr, fun hr => ?reload, fun hw => ⟨?clrCnt, fun hu hr hp => ?restart⟩,
    fun ho => ?clrStat⟩
  case stall =>
    refine doesSilently_modLoop (g := fun l => { l with stall := true })
      (guarded_true (b := alive s && l.used && l.started && l.c.src == 4 && l.c.stallT2 != 0 && !l.stall && l.noSample ≥ l.c.stallT2) ?_
        (fun u => modLoop u n (fun l => { l with stall := true })))
    simp [ha, hu, hst, hsrc, hlim, hno, hcnt]
  case memErr =>
    obtain ⟨t, hx, hk, hn, hj, hm, hr⟩ := does_loopMemErr ha hu
    refine ⟨t, hx, hk, ?_⟩
    dsimp only
    rw [hn]
    exact ⟨rfl, rfl, rfl, rfl, rfl, hm, hj, hr⟩
  case reload =>
    refine doesSilently_modLoop (g := fun l => { l with reload := false })
      (guarded_true (b := alive s && l.reload) ?_ (fun u => modLoop u n (fun l => { l with reload := false })))
    rw [ha, hr]; rfl
  case clrCnt =>
    exact doesSilently_modLoop (g := fun l => { l with missCnt := 0, consec := 0, skipCnt := 0 })
      (keyedCmd_of (f := fun u => loopCtrlWrite u n false true) hw (blockKey_loopCtrlAddr n))
  case restart =>
    refine doesSilently_accept_modLoop (g := fun l => { l with restart := true, restartReady := false, restartT := none }) ?_
    rw [← loopCtrlWrite_restart (by rwa [freshCycle_pair]) (by rwa [freshCycle_lp]) (by rwa [freshCycle_lp])]
    exact keyedCmd_of (f := fun u => loopCtrlWrite u n true false) hw (blockKey_loopCtrlAddr n)
  case clrStat =>
    exact doesSilently_modLEng (f := fun g => { g with minSlack := 0xFFFFF })
      (openCmd_of ho (fun u => modLEng u e (fun g => { g with minSlack := 0xFFFFF })))
end

section
/-! Time passing to the deadline of a sample, and to its output instant, where the state carries the slew
remainder of `staleSlew` (R17, R23, R133). -/

namespace Sys2Proof.Machine
open Sys2Proof

/-! ### What the engines' queue and an output leave of STN -/

@[simp] theorem startNext_stn (s : State) (e : Fin 24) : (startNext s e).stn = s.stn := by
  unfold startNext
  dsimp only
  split
  · rfl
  · split <;> rfl

@[simp] theorem loopFault_stn (s : State) (n : Fin 192) (cause : BitVec 2) : (loopFault s n cause).stn = s.stn := raise_stn ..

@[simp] theorem missSample_stn (s : State) (n : Fin 192) : (missSample s n).stn = s.stn := by
  unfold missSample
  simp only [startNext_stn, apply_ite State.stn, loopFault_stn, raise_stn, modLEng_stn, modLoop_stn, ite_self]

@[simp] theorem latchPoint_stn (s : State) (p : Fin 96) (w : TWord) : (latchPoint s p w).stn = s.stn := by
  unfold latchPoint latchAt
  dsimp only
  split <;> rfl

@[simp] theorem writeBind_stn (s : State) (b : Word) (w : TWord) : (writeBind s b w).stn = s.stn := by
  unfold writeBind
  split <;> rfl

@[simp] theorem writeOut_stn (s : State) (n : Fin 192) (w : TWord) : (writeOut s n w).stn = s.stn := by
  unfold writeOut
  dsimp only
  split
  · split <;> simp
  · simp

@[simp] theorem outputSample_stn (s : State) (n : Fin 192) : (outputSample s n).stn = s.stn := by
  unfold outputSample
  split
  · split <;> simp
  · rfl

/-! ### The two commands in a state in whose LOG nothing waits -/

/-- STN after LOOP_SAMPLE_MISS is that of the station once time has passed to the deadline (R133, R135). -/
theorem exec_loopSampleMiss_stn {s t : State} {n : Fin 192} {x : LSample} (ha : alive s = true)
    (hs : s.lp.loops[n].samples.find? (fun x => x.phase != .done) = some x) (hi : s.log.intake = [])
    (hx : exec (.loopSampleMiss n) s = .next t) : t.stn = (passTo s (deadline s.lp.loops[n] x)).stn := by
  have hm : hasSample s n (fun x => x.phase != .done) = true :=
    List.any_eq_true.2 ⟨x, List.mem_of_find?_eq_some hs, List.find?_some (p := fun x : LSample => x.phase != .done) hs⟩
  have h : exec (.loopSampleMiss n) s = .next { settle (missSample (passTo (freshCycle s)
      (((firstSample (freshCycle s).lp.loops[n] (fun x => x.phase != .done)).map (deadline (freshCycle s).lp.loops[n])).getD 0)) n) with
      pending := s.pending } :=
    guarded_true (by rw [ha, hm]; rfl) (fun u => missSample (passTo u
      (((firstSample u.lp.loops[n] (fun x => x.phase != .done)).map (deadline u.lp.loops[n])).getD 0)) n)
  rw [h, freshCycle_of_intake hi] at hx
  cases hx
  rw [settle_stn, missSample_stn, firstSample, hs]
  rfl

/-- A loop output that comes about takes STN to the output instant (R132, R133). -/
theorem exec_loopOutput_stn {s t : State} {n : Fin 192} {x : LSample} {r : List LSample} (ha : alive s = true)
    (hs : s.lp.loops[n].samples = x :: r) (hd : x.phase = .done) (hb : beforeNext s (outputAt s.lp.loops[n] x) = true)
    (hw : outputWaits s n (outputAt s.lp.loops[n] x) = false) (hi : s.log.intake = []) (hx : exec (.loopOutput n) s = .next t) :
    t.stn = (passTo s (outputAt s.lp.loops[n] x)).stn := by
  have h : exec (.loopOutput n) s = .next { settle (outputSample (passTo (freshCycle s) (outputAt s.lp.loops[n] x)) n) with
      pending := s.pending } := by
    show execLoopOutput n s = _
    unfold execLoopOutput
    simp only [hs, List.head?_cons, Option.map_some, Option.getD_some]
    exact guarded_true (by rw [ha, hd, hb, hw]; rfl) (fun u => outputSample (passTo u (outputAt s.lp.loops[n] x)) n)
  rw [h, freshCycle_of_intake hi] at hx
  cases hx
  rw [settle_stn, outputSample_stn]

/-! ### The states -/

/-- A sample taken at instant `t0`, with nothing read. -/
def sampleAt (phase : SPhase) (t0 : Nat) : LSample :=
  { phase := phase, t0 := t0, late := 0, stop := 0, init := false, stale := false, pv := undefData, sp := undefData, ext := undefData,
    ff := undefData, sched := undefData, ctl := undefData, man := undefData, rb := undefData, tabs := [], res := undefData }

/-- `staleSlew` with the sample `x` at loop 0. -/
def staleLoop (x : LSample) : State :=
  { staleSlew with lp := { LoopBlk.reset with
      loops := LoopBlk.reset.loops.set 0 { Loop.unused with used := true, started := true, samples := [x] } } }

end Sys2Proof.Machine

open Sys2Proof Sys2Proof.Machine

/-- Refutes O29: LOOP_SAMPLE_MISS does not meet `PassedTo` in every running state. The statement bounds no slew remainder, and with a sample
in the engine of `staleLoop` whose deadline lies 4000 ns ahead 5000 ns pass to it, more than the 500 ppm of R23 allow. No run reaches
such a remainder (`Stn.pass` leaves one below 2000): what fails is the claim over every state, for want of that bound. -/
theorem not_loopSamples : ¬ Obligations.LoopSamples := by
  rintro ⟨-, -, h⟩
  have hs : (staleLoop (sampleAt .running 4600)).lp.loops[(0 : Fin 192)].samples.find? (fun x => x.phase != .done) =
    some (sampleAt .running 4600) := by decide
  obtain ⟨t, hx, -, hp, -⟩ := h (staleLoop (sampleAt .running 4600)) 0 (by decide) ⟨_, List.mem_of_find?_eq_some hs, by decide⟩
  refine not_passedTo_of_time (by rfl) (by decide) ?_ (hp _ hs)
  rw [exec_loopSampleMiss_stn (by decide) hs rfl hx]
  decide

/-- Refutes O30: LOOP_OUTPUT does not meet `PassedTo` in every running state. The statement bounds no slew remainder, and in `staleLoop`
with a completed sample whose output instant lies 4000 ns ahead 5000 ns pass to it, more than the 500 ppm of R23 allow. No run
reaches such a remainder (`Stn.pass` leaves one below 2000): what fails is the claim over every state, for want of that bound. -/
theorem not_loopOutput : ¬ Obligations.LoopOutput := by
  intro h
  have hs : (staleLoop (sampleAt .done 4000)).lp.loops[(0 : Fin 192)].samples = [sampleAt .done 4000] := by decide
  have hw : outputWaits (staleLoop (sampleAt .done 4000)) 0 4000 = false := by decide
  obtain ⟨hout, -⟩ := h (staleLoop (sampleAt .done 4000)) 0 _ _ (by decide) hs rfl rfl (by decide) hw
  obtain ⟨t, hx, -, ⟨hp, -⟩, -⟩ := hout (by decide)
  refine not_passedTo_of_time (by rfl) (by decide) ?_ hp
  rw [exec_loopOutput_stn (by decide) hs rfl (by decide) hw rfl hx]
  decide
end

section
/-! Time passing to the release of a solve, where the state carries the slew remainder of `staleSlew` (R17, R23, R181). -/

namespace Sys2Proof.Machine
open Sys2Proof

/-- The instant at which the taken solve of a slot is released: 4 µs after the boundary, or 8 µs where the boundary's set was late (R181, R267). -/
def solveReleaseAt (s : State) : Nat := s.stn.lastB + 4000 + if lateOf s s.stn.lastB = 0 then 0 else 4000

/-- A slot whose solve is released: a carried cold request goes with it (R179, R187). -/
def QSlot.released (q : QSlot) : QSlot :=
  { q with phase := .solving, coldNow := q.coldCarried, coldReq := q.coldReq && !q.coldCarried, coldCarried := false }

/-- STN after SOLVE_RELEASE is that of the station once time has passed to the release (R181). -/
theorem exec_solveRelease_stn {s t : State} {p : Fin 64} (ha : alive s = true) (hq : s.qp.slots[p].phase = .taken)
    (hi : s.log.intake = []) (hx : exec (.solveRelease p) s = .next t) : t.stn = (passTo s (solveReleaseAt s)).stn := by
  have h : exec (.solveRelease p) s = .next { settle (modSlot (passTo (freshCycle s) (solveReleaseAt (freshCycle s))) p QSlot.released) with
      pending := s.pending } :=
    guarded_true (by rw [ha, hq]; rfl) (fun u => modSlot (passTo u (solveReleaseAt u)) p QSlot.released)
  rw [h, freshCycle_of_intake hi] at hx
  cases hx
  rw [settle_stn, modSlot_stn]

/-- `staleSlew` with a solve of slot 0 taken at the boundary at 0. -/
def staleSolve : State :=
  { staleSlew with qp := { QpBlk.reset with slots := QpBlk.reset.slots.set 0 { QSlot.unused with tier := 1, phase := .taken } } }

end Sys2Proof.Machine

open Sys2Proof Sys2Proof.Machine

/-- Refutes O32: SOLVE_RELEASE does not meet `PassedTo` in every running state. The statement bounds no slew remainder, and in `staleSolve`
5000 ns pass to the release 4000 ns ahead, more than the 500 ppm of R23 allow. No run reaches such a remainder (`Stn.pass` leaves one
below 2000): what fails is the claim over every state, for want of that bound. -/
theorem not_solves : ¬ Obligations.Solves := by
  intro h
  obtain ⟨hrelease, -⟩ := h staleSolve 0 (by decide)
  obtain ⟨t, hx, -, -, -, -, hp⟩ := hrelease (by decide)
  refine not_passedTo_of_time (by rfl) (by decide) ?_ hp
  rw [exec_solveRelease_stn (by decide) (by decide) rfl hx]
  decide
end

section
/-! What the solver chooses: the oldest request, the oldest problem of a peer, a free slot and a peer that offers one (R52, R53). -/

namespace Sys2Proof.Machine
open Sys2Proof

/-! ### Choices made along a list -/

section
variable {α : Type} {step : Option α → α → Option α} {l : List α} {b x : α}

/-- A choice that at each element keeps what it has or takes the element comes from the list. -/
theorem mem_of_foldl_choice (h : ∀ a x, step a x = a ∨ step a x = some x) (hb : l.foldl step none = some b) : b ∈ l := by
  induction l using List.reverseRecOn with
  | nil => cases hb
  | append_singleton l x ih =>
    rw [List.foldl_concat] at hb
    obtain hk | hk := h (l.foldl step none) x
    · exact List.mem_append_left _ (ih (hk ▸ hb))
    · rw [hk, Option.some.injEq] at hb
      simp [hb]

/-- The choice is the oldest of `l`; none stands for a list in which nothing has an age. -/
def Oldest (age : α → Option Nat) (l : List α) : Option α → Prop
  | none => ∀ x ∈ l, age x = none
  | some b => ∃ k, age b = some k ∧ ∀ x ∈ l, ∀ j, age x = some j → j ≤ k

variable {age : α → Option Nat} {k j : Nat}

/-- A choice that at each element stays the oldest is the oldest of the list. -/
theorem oldest_foldl (h : ∀ l a x, Oldest age l a → Oldest age (l ++ [x]) (step a x)) (l : List α) :
    Oldest age l (l.foldl step none) := by
  induction l using List.reverseRecOn with
  | nil => exact fun _ h => absurd h List.not_mem_nil
  | append_singleton l x ih => rw [List.foldl_concat]; exact h _ _ _ ih

/-- The first element with an age is chosen. -/
theorem Oldest.first (h : Oldest age l none) (hx : age x = some j) : Oldest age (l ++ [x]) (some x) := by
  refine ⟨j, hx, fun y hy i hi => ?_⟩
  obtain hy | hy := List.mem_append.1 hy
  · rw [h y hy] at hi; cases hi
  · rw [List.mem_singleton.1 hy, hx, Option.some.injEq] at hi; omega

/-- An element that is as old takes the place of the choice so far. -/
theorem Oldest.take (h : Oldest age l (some b)) (hb : age b = some k) (hx : age x = some j) (hk : k ≤ j) :
    Oldest age (l ++ [x]) (some x) := by
  obtain ⟨k', hb', hl⟩ := h
  obtain rfl : k = k' := Option.some.inj (hb.symm.trans hb')
  refine ⟨j, hx, fun y hy i hi => ?_⟩
  obtain hy | hy := List.mem_append.1 hy
  · exact (hl y hy i hi).trans hk
  · rw [List.mem_singleton.1 hy, hx, Option.some.injEq] at hi; omega

/-- The choice so far stays at an element that is no older. -/
theorem Oldest.keep (h : Oldest age l (some b)) (hb : age b = some k) (hx : ∀ j, age x = some j → j ≤ k) :
    Oldest age (l ++ [x]) (some b) := by
  obtain ⟨k', hb', hl⟩ := h
  obtain rfl : k = k' := Option.some.inj (hb.symm.trans hb')
  refine ⟨k, hb, fun y hy i hi => ?_⟩
  obtain hy | hy := List.mem_append.1 hy
  · exact hl y hy i hi
  · exact hx i (List.mem_singleton.1 hy ▸ hi)

theorem Oldest.none_concat (h : Oldest age l none) (hx : age x = none) : Oldest age (l ++ [x]) none := fun y hy =>
  (List.mem_append.1 hy).elim (h y) (fun hy => List.mem_singleton.1 hy ▸ hx)
end

/-! ### The four choices -/

/-- The template chosen has a request that waits, and none has an older one (R53). -/
theorem oldest_nextTmpl (s : State) : Oldest (waitingAge s) (allFin 64) (nextTmpl s) := by
  unfold nextTmpl
  refine oldest_foldl (fun l a x ha => ?_) _
  cases hx : waitingAge s x with
  | none =>
    cases a with
    | none => exact ha.none_concat hx
    | some b =>
      obtain ⟨k, hb, -⟩ := id ha
      exact ha.keep hb (by simp [hx])
  | some j =>
    cases a with
    | none => exact ha.first hx
    | some b =>
      obtain ⟨k, hb, -⟩ := id ha
      simp only [hb, Option.getD_some]
      split
      · next hc => exact ha.take hb hx (by simp at hc; omega)
      · next hc => exact ha.keep hb (fun i hi => by simp [hx] at hc hi; omega)

/-- No request that waits is older than that of the template chosen (R53). -/
theorem waitingAge_le_of_nextTmpl {s : State} {x y : Fin 64} {k j : Nat} (hx : nextTmpl s = some x) (hk : waitingAge s x = some k)
    (hj : waitingAge s y = some j) : j ≤ k := by
  obtain ⟨k', hk', hl⟩ := hx ▸ oldest_nextTmpl s
  obtain rfl : k = k' := Option.some.inj (hk.symm.trans hk')
  exact hl y (mem_allFin y) j hj

/-- The queue of the peers gives one of those that are oldest (R53). -/
theorem oldest_nextPeer (s : State) : Oldest (fun w => some (peerAge s w)) s.qp.peers (nextPeer s) := by
  unfold nextPeer
  refine oldest_foldl (fun l a x ha => ?_) _
  cases a with
  | none => exact ha.first rfl
  | some b =>
    dsimp only
    split
    · next hc => exact ha.take rfl rfl (by simp at hc; omega)
    · next hc => exact ha.keep rfl (fun i hi => by simp at hc hi; omega)

theorem peerAge_le_of_nextPeer {s : State} {v w : PeerWait} (hv : nextPeer s = some v) (hw : w ∈ s.qp.peers) :
    peerAge s w ≤ peerAge s v := by
  obtain ⟨k, hk, hl⟩ := hv ▸ oldest_nextPeer s
  exact (hl w hw _ rfl).trans (Option.some.inj hk).ge

/-- The slot that R52 names is a free placed slot. -/
theorem slotFree_of_freeSlot {s : State} {p : Fin 64} (h : freeSlot s = some p) :
    s.qp.slots[p].tier = 7 ∧ s.qp.slots[p].phase = .idle ∧ s.qp.slots[p].reload = false := by
  have hm : p ∈ (allFin 64).filter (slotFree s) := by
    refine mem_of_foldl_choice (fun a x => ?_) h
    cases a with
    | none => exact .inr rfl
    | some b => exact (ite_eq_or_eq ..).symm
  simpa [slotFree, and_assoc] using (List.mem_filter.1 hm).2

/-- The peer that R52 names is one of those that offer a slot. -/
theorem mem_of_nearestPeer {s : State} {offers : List Nat} {k : Nat} (h : nearestPeer s offers = some k) : k ∈ offers := by
  refine mem_of_foldl_choice (fun a x => ?_) h
  cases a with
  | none => exact .inr rfl
  | some b => exact (ite_eq_or_eq ..).symm

/-- The age of a template's oldest request, where none runs. -/
theorem waitingAge_of_wait {s : State} {x : Fin 64} {m : QTmpl} {r : PReq} {w : List PReq} (hm : s.qp.tmpls[x] = some m)
    (hr : m.run = none) (hw : m.wait = r :: w) : waitingAge s x = some (reqAge s m r) := by
  simp [waitingAge, hm, hr, hw]

/-- A free slot that is due to an own request is due to no older problem of a peer (R53). -/
theorem peerAge_le_of_ownFirst {s : State} {x : Fin 64} {k : Nat} {v : PeerWait} (ho : ownFirst s x = true)
    (hk : waitingAge s x = some k) (hv : nextPeer s = some v) : peerAge s v ≤ k := by
  have hf : peerFirst s v k = false := by simpa [ownFirst, hk, hv] using ho
  simp [peerFirst] at hf
  omega

/-- A free slot that is not due to the own request is due to a peer's problem that is as old (R53). -/
theorem le_peerAge_of_not_ownFirst {s : State} {x : Fin 64} {k : Nat} {v : PeerWait} (ho : ownFirst s x = false)
    (hk : waitingAge s x = some k) (hv : nextPeer s = some v) : k ≤ peerAge s v := by
  have hf : peerFirst s v k = true := by simpa [ownFirst, hk, hv] using ho
  simp [peerFirst] at hf
  omega

/-! ### The choices over the next fabric cycle -/

@[simp] theorem freeSlot_freshCycle (s : State) : freeSlot (freshCycle s) = freeSlot s := by
  have h : slotFree (freshCycle s) = slotFree s := by
    funext p
    simp only [slotFree, freshCycle_qp]
  unfold freeSlot
  rw [h]

@[simp] theorem nearestPeer_freshCycle (s : State) (offers : List Nat) : nearestPeer (freshCycle s) offers = nearestPeer s offers := by
  unfold nearestPeer
  rw [freshCycle_stk]

end Sys2Proof.Machine
end

section
/-! What a slot's memory reads after a write, and afresh from the image (R164, R189). -/

namespace Sys2Proof.Machine
open Sys2Proof

@[simp] theorem wB_length (w : Word) : (wB w).length = 4 := rfl

/-- A byte beside a write reads as before. -/
theorem Mem.get_put_of_disjoint {a x : Nat} {l : List Byte} (h : x < a ∨ a + l.length ≤ x) (m : Mem) : (m.put a l).get x = m.get x := by
  have hc : (Mem.cells a l).find? (fun c => c.1 == x) = none := by
    refine List.find?_eq_none.2 fun c hc => ?_
    obtain ⟨h1, h2, -⟩ := Mem.mem_cells hc
    simp only [beq_iff_eq]
    omega
  have hfilter {p : Host.Cell → Bool} (hp : ∀ c, c.1 = x → p c = true) :
      (m.filter p).find? (fun c => c.1 == x) = m.find? (fun c => c.1 == x) := by
    rw [List.find?_filter]
    exact congrArg (m.find? ·) (funext fun c => by by_cases hx : c.1 = x <;> simp [hx, hp])
  have hnone {p : Host.Cell → Bool} (hp : ∀ c, c.1 = x → p c = false) :
      (m.filter p).find? (fun c => c.1 == x) = none :=
    List.find?_eq_none.2 fun c hc hx => by simpa [hp c (beq_iff_eq.1 hx)] using (List.mem_filter.1 hc).2
  unfold Mem.get Mem.put
  rw [List.find?_append, List.find?_append, hc, Option.or_none]
  obtain h | h := h
  · rw [hfilter (by simp; omega), hnone (by simp; omega), Option.or_none]
  · rw [hnone (by simp; omega), hfilter (by simp; omega), Option.none_or]

/-- A word beside a write reads as before. -/
theorem Mem.word_put_of_disjoint {a x : Nat} {l : List Byte} (h : x + 4 ≤ a ∨ a + l.length ≤ x) (m : Mem) :
    (m.put a l).word x = m.word x := by
  have hb : (m.put a l).bytes x 4 = m.bytes x 4 :=
    List.map_congr_left fun i hi => get_put_of_disjoint (by have := List.mem_range.1 hi; omega) m
  rw [Mem.word, hb, Mem.word]

/-- A word written 0 reads 0. -/
theorem Mem.word_putWord_zero (m : Mem) (a : Nat) : (m.putWord a 0).word a = 0 := by
  have hb : (m.putWord a 0).bytes a 4 = List.replicate 4 0 := by
    refine List.eq_replicate_iff.2 ⟨by simp [Mem.bytes], fun b hb => ?_⟩
    obtain ⟨i, hi, rfl⟩ := List.mem_map.1 hb
    have hi := List.mem_range.1 hi
    have hnone : (m.putWord a 0).find? (fun c => c.1 == a + i) = none := by
      refine List.find?_eq_none.2 fun c hc => ?_
      have hput : m.putWord a 0 = m.filter (fun c => c.1 < a) ++ [] ++ m.filter (fun c => a + 4 ≤ c.1) := rfl
      simp only [hput, List.append_nil, List.mem_append, List.mem_filter, decide_eq_true_eq] at hc
      simp only [beq_iff_eq]
      omega
    rw [Mem.get, hnone]
  rw [Mem.word, hb]
  rfl

/-- A slot afresh from its image has no iterate stored, no factor and nothing pending (R165, R189). -/
theorem word_freshSlotMem (c : List Byte) : (freshSlotMem c).word 0x3C = 0 := by
  have h (x : Mem) : (withStructure x).word 0x3C = x.word 0x3C := by
    unfold withStructure Mem.putWord
    rw [Mem.word_put_of_disjoint (by simp), Mem.word_put_of_disjoint (by simp)]
  unfold freshSlotMem
  rw [h, Mem.word_putWord_zero]

theorem stateBit_freshSlotMem (c : List Byte) (i : Nat) : stateBit (freshSlotMem c) i = false := by
  simp [stateBit, word_freshSlotMem, bit]

end Sys2Proof.Machine
end

section
/-! Commands that change the solver array: placed problems, memory errors, and the commands of a slot and of a cluster
(R50, R52, R164, R179, R185–R189). -/

namespace Sys2Proof.Machine
open Sys2Proof

/-! ### One slot or one template changed -/

theorem DoesSilently.imp {c : Instr} {s : State} {l : List Block} {P Q : State → Prop} (h : DoesSilently c s l P)
    (hi : ∀ t, P t → Q t) : DoesSilently c s l Q :=
  Does.imp h fun t ⟨hs, hp⟩ => ⟨hs, hi t hp⟩

/-- The array has changed in slot `p` alone, which is `q`. -/
def QpBlk.ButSlot (a b : QpBlk) (p : Fin 64) (q : QSlot) : Prop :=
  b.clus = a.clus ∧ b.tmpls = a.tmpls ∧ ∀ j : Fin 64, b.slots[j] = if j = p then q else a.slots[j]

theorem modSlot_butSlot (s : State) (p : Fin 64) (f : QSlot → QSlot) : s.qp.ButSlot (modSlot s p f).qp p (f s.qp.slots[p]) := by
  refine ⟨rfl, rfl, fun j => ?_⟩
  simp only [modSlot, vmod_get, @eq_comm _ p j]

theorem modTmpl_tmpls (s : State) (x j : Fin 64) (f : QTmpl → QTmpl) :
    (modTmpl s x f).qp.tmpls[j] = if j = x then s.qp.tmpls[x].map f else s.qp.tmpls[j] := by
  simp only [modTmpl, vmod_get, @eq_comm _ x j]

theorem Block.same_send (s : State) (x : Sent) (b : Block) : b.Same s (send s x) := by
  cases b <;> first | rfl | exact fun _ => rfl

section
variable {c : Instr} {s : State} {P : State → Prop}

/-- A command that changes the solver array alone. -/
theorem doesSilently_qp {q : QpBlk} (hx : exec c s = .next { settle { freshCycle s with qp := q } with pending := s.pending })
    (hp : ∀ t : State, t.qp = q → P t) : DoesSilently c s [.qp] P :=
  doesSilently_of (f := fun u => { u with qp := q }) hx (fun b hb => Block.same_qp _ _ (by simpa using hb))
    (fun _ => ⟨rfl, rfl, rfl, fun _ => rfl⟩) (hp _ (settle_qp ..))

/-- A command that changes one slot. -/
theorem doesSilently_modSlot {p : Fin 64} {g : QSlot → QSlot}
    (hx : exec c s = .next { settle (modSlot (freshCycle s) p g) with pending := s.pending }) :
    DoesSilently c s [.qp] (fun t => s.qp.ButSlot t.qp p (g s.qp.slots[p])) := by
  refine doesSilently_qp (q := (modSlot s p g).qp) (by rw [hx]; simp only [modSlot, freshCycle_qp]) fun t ht => ?_
  rw [ht]
  exact modSlot_butSlot s p g

/-- A command that makes `m'` of the template `m`. -/
theorem doesSilently_modTmpl {x : Fin 64} {g : QTmpl → QTmpl} {m m' : QTmpl} (hm : s.qp.tmpls[x] = some m) (hg : g m = m')
    (hx : exec c s = .next { settle (modTmpl (freshCycle s) x g) with pending := s.pending }) :
    DoesSilently c s [.qp] (fun t => (t.qp.clus = s.qp.clus ∧ ∀ j : Fin 64, j ≠ x → t.qp.tmpls[j] = s.qp.tmpls[j]) ∧
      t.qp.slots = s.qp.slots ∧ t.qp.tmpls[x] = some m') := by
  refine doesSilently_qp (q := (modTmpl s x g).qp) (by rw [hx]; simp only [modTmpl, freshCycle_qp]) fun t ht => ?_
  rw [ht]
  exact ⟨⟨rfl, fun j hj => (modTmpl_tmpls ..).trans (if_neg hj)⟩, rfl, by rw [modTmpl_tmpls, if_pos rfl, hm, Option.map_some, hg]⟩

/-- A command that changes one slot and is carried at the next T1 boundary (R71). -/
theorem doesSilently_accept_modSlot {p : Fin 64} {g : QSlot → QSlot} {d : DistCmd}
    (hx : exec c s = .next { settle (accept (modSlot (freshCycle s) p g) d) with pending := s.pending }) :
    DoesSilently c s [.qp, .stn] (fun t => s.qp.ButSlot t.qp p (g s.qp.slots[p]) ∧
      t.stn = { s.stn with accepted := s.stn.accepted ++ [d] }) := by
  refine doesSilently_of (f := fun u => accept (modSlot u p g) d) hx (fun b hb => ?_)
    (fun _ => ⟨rfl, rfl, rfl, fun _ => rfl⟩) ⟨?_, ?_⟩
  · obtain ⟨hq, hn⟩ : b ≠ .qp ∧ b ≠ .stn := by simpa using hb
    exact (Block.same_qp _ _ hq).trans (Block.same_stn _ _ hn)
  · show s.qp.ButSlot (settle (accept (modSlot (freshCycle s) p g) d)).qp p _
    rw [settle_qp, accept_qp, ← freshCycle_qp s]
    exact modSlot_butSlot ..
  · show (settle (accept (modSlot (freshCycle s) p g) d)).stn = _
    rw [settle_stn]
    simp [accept]
end

/-! ### Placed problems (R50, R52, R185) -/

/-- A template whose request `r` has begun to run at `pl`, under the issue number `n`. -/
def QTmpl.begun (m : QTmpl) (r : PReq) (w : List PReq) (pl : PPlace) (n : Nat) : QTmpl :=
  { m with wait := w, run := some (r, pl), res := none, issue := n }

/-- Template `x` has begun its oldest request at `pl`. -/
def tmplBegun (s : State) (x : Fin 64) (r : PReq) (w : List PReq) (pl : PPlace) : State :=
  let u := modTmpl s x (fun m => m.begun r w pl (s.qp.issued + 1))
  { u with qp := { u.qp with lastT := x, lastPeer := false, issued := s.qp.issued + 1 } }

section
variable (s : State) (x : Fin 64) (r : PReq) (w : List PReq) (pl : PPlace)
@[simp] theorem tmplBegun_fab : (tmplBegun s x r w pl).fab = s.fab := rfl
@[simp] theorem tmplBegun_stn : (tmplBegun s x r w pl).stn = s.stn := rfl
@[simp] theorem tmplBegun_stk : (tmplBegun s x r w pl).stk = s.stk := rfl

theorem tmplBegun_tmpls_self {m : QTmpl} (hm : s.qp.tmpls[x] = some m) :
    (tmplBegun s x r w pl).qp.tmpls[x] = some (m.begun r w pl (s.qp.issued + 1)) :=
  (modTmpl_tmpls ..).trans ((if_pos rfl).trans (congrArg (Option.map _) hm))

theorem tmplBegun_tmpls_ne {j : Fin 64} (h : j ≠ x) : (tmplBegun s x r w pl).qp.tmpls[j] = s.qp.tmpls[j] :=
  (modTmpl_tmpls ..).trans (if_neg h)
end

/-- What `startPlaced` makes of its slot (R179, R185). -/
theorem startPlaced_slot (s : State) (p : Fin 64) (t : Nat) (content : List Byte) (bind : QBind) (r : PReq) (peer : Option PeerProb) :
    let q := (startPlaced s p t content bind r peer).qp.slots[p]
    q.phase = .solving ∧ q.ins = r.ins ∧ q.params = r.params ∧ q.bind = bind ∧ q.template = BitVec.ofNat 6 t ∧
      q.remote = peer.isSome ∧ q.peer = peer ∧ q.mem = loadTemplate s.qp.slots[p].mem content ∧ q.status = s.qp.slots[p].status := by
  simp only [startPlaced, modSlot, vmod_get_self, and_self]

theorem startPlaced_slots_ne (s : State) {p j : Fin 64} (h : j ≠ p) (t : Nat) (content : List Byte) (bind : QBind) (r : PReq)
    (peer : Option PeerProb) : (startPlaced s p t content bind r peer).qp.slots[j] = s.qp.slots[j] :=
  vmod_get_ne _ h.symm _

/-- The problem of a peer leaves the queue for slot `p`. -/
def peerBegun (s : State) (p : Fin 64) (v : PeerProb) : State :=
  let u := startPlaced s p v.template v.content (peerBind v.content v.req) v.req (some v)
  { u with qp := { u.qp with peers := u.qp.peers.eraseP (fun w => w.prob == v), lastStn := v.station, lastPeer := true } }

/-- The transfer that carries a request to the peer `k` (R54, R185). -/
def problemXfer (s : State) (m : QTmpl) (r : PReq) (k : Nat) : PlReq × Nat :=
  (plOver s 2 m.soon 5 k (problemWords m.content r), reqAge s m r)

/-- What goes to the peer `k` with it. -/
def problemSent (s : State) (x : Fin 64) (m : QTmpl) (r : PReq) (k : Nat) : Sent :=
  .peerProblem k x.val (s.qp.issued + 1) m.content r (reqAge s m r)

theorem problemXfer_freshCycle (s : State) (m : QTmpl) (r : PReq) (k : Nat) : problemXfer (freshCycle s) m r k = problemXfer s m r k := by
  simp only [problemXfer, plOver, plEgress, freshCycle_stk, reqAge_freshCycle]

section
variable {s : State} {x p : Fin 64} {m : QTmpl} {r : PReq} {w : List PReq} {offers : List Nat}

theorem placedStart_slot (hm : s.qp.tmpls[x] = some m) (hw : m.wait = r :: w) (hp : freeSlot s = some p) :
    placedStart s (.own x offers) = tmplBegun (startPlaced s p x.val m.content m.bind r none) x r w (.slot p) := by
  simp only [placedStart, ownStart, hm, hw, hp]
  rfl

/-- The state once a request has gone to the peer `k`. -/
def peerStarted (s : State) (x : Fin 64) (m : QTmpl) (r : PReq) (w : List PReq) (k : Nat) : State :=
  plTakeAged (send (tmplBegun s x r w (.peer k)) (problemSent s x m r k)) [problemXfer s m r k]

theorem peerStarted_issues (s : State) (x : Fin 64) (m : QTmpl) (r : PReq) (w : List PReq) (k : Nat) :
    Issues (send (tmplBegun s x r w (.peer k)) (problemSent s x m r k)) (peerStarted s x m r w k) := issues_plTakeAged ..

theorem placedStart_peer {k : Nat} (hm : s.qp.tmpls[x] = some m) (hw : m.wait = r :: w) (hp : freeSlot s = none)
    (hk : nearestPeer s offers = some k) : placedStart s (.own x offers) = peerStarted s x m r w k := by
  simp only [placedStart, ownStart, hm, hw, hp, hk]
  rfl

theorem placedStart_fromPeer {v : PeerProb} (hp : freeSlot s = some p) : placedStart s (.fromPeer v) = peerBegun s p v := by
  simp only [placedStart, hp]
  rfl

theorem exec_placedProblemStart {src : PlacedSrc} (ha : alive s = true) (hc : placedCan s src = true) :
    exec (.placedProblemStart src) s = .next { settle (placedStart (freshCycle s) src) with pending := s.pending } :=
  guarded_true (by rw [ha, hc]; rfl) (fun u => placedStart u src)
end

/-- A free slot here takes the oldest request of the template chosen (R52, R53, R185). -/
theorem doesSilently_start_slot {s : State} {x p : Fin 64} {m : QTmpl} {r : PReq} {w : List PReq} {offers : List Nat}
    (ha : alive s = true) (hs : s.pair.state ≠ 4) (hm : s.qp.tmpls[x] = some m) (hn : nextTmpl s = some x) (hw : m.wait = r :: w)
    (hp : freeSlot s = some p) (ho : ownFirst s x = true) :
    DoesSilently (.placedProblemStart (.own x offers)) s [.qp] (fun t =>
      t.qp = (tmplBegun (startPlaced s p x.val m.content m.bind r none) x r w (.slot p)).qp) := by
  have hc : placedCan s (.own x offers) = true := by simp [placedCan, (isStandby_eq_false_iff s).2 hs, hn, hp, ho]
  refine doesSilently_qp (q := (tmplBegun (startPlaced s p x.val m.content m.bind r none) x r w (.slot p)).qp) ?_ fun t ht => ht
  rw [exec_placedProblemStart ha hc, placedStart_slot (by rwa [freshCycle_qp]) hw (by rwa [freeSlot_freshCycle])]
  simp only [tmplBegun, modTmpl, startPlaced, modSlot, freshCycle_qp]

/-- A free slot here takes the oldest problem of a peer (R52, R53, R185). -/
theorem doesSilently_start_fromPeer {s : State} {p : Fin 64} {v : PeerWait} (ha : alive s = true) (hs : s.pair.state ≠ 4)
    (hv : nextPeer s = some v) (hp : freeSlot s = some p) (ho : ∀ x, nextTmpl s = some x → ownFirst s x = false) :
    DoesSilently (.placedProblemStart (.fromPeer v.prob)) s [.qp] (fun t => t.qp = (peerBegun s p v.prob).qp) := by
  have hc : placedCan s (.fromPeer v.prob) = true := by
    cases hn : nextTmpl s with
    | none => simp [placedCan, (isStandby_eq_false_iff s).2 hs, hv, hp, hn]
    | some x => simp [placedCan, (isStandby_eq_false_iff s).2 hs, hv, hp, hn, ho x hn]
  refine doesSilently_qp (q := (peerBegun s p v.prob).qp) ?_ fun t ht => ht
  rw [exec_placedProblemStart ha hc, placedStart_fromPeer (by rwa [freeSlot_freshCycle])]
  simp only [peerBegun, startPlaced, modSlot, freshCycle_qp]

/-- Without a free slot here the oldest request of the template chosen goes to the nearest peer that offers one (R52, R54, R185). -/
theorem does_start_peer {s : State} {x : Fin 64} {m : QTmpl} {r : PReq} {w : List PReq} {offers : List Nat} {k : Nat}
    (ha : alive s = true) (hs : s.pair.state ≠ 4) (hm : s.qp.tmpls[x] = some m) (hn : nextTmpl s = some x) (hw : m.wait = r :: w)
    (hp : freeSlot s = none) (hi : s.stk.inStack = true) (hk : nearestPeer s offers = some k) :
    Does (.placedProblemStart (.own x offers)) s [.qp, .fab] (fun t => t.qp = (tmplBegun s x r w (.peer k)).qp ∧
      t.fab = (plTakeAged s [problemXfer s m r k]).fab ∧ Sends s t (problemSent s x m r k)) := by
  have he : offers.isEmpty = false := by
    cases offers with
    | nil => cases hk
    | cons => rfl
  have hc : placedCan s (.own x offers) = true := by simp [placedCan, (isStandby_eq_false_iff s).2 hs, hn, hp, hi, he]
  refine does_of (f := fun u => peerStarted u x m r w k) ?_ (fun b hb => ?_) ⟨?_, ?_, sends_of (f := fun u => peerStarted u x m r w k) ?_⟩
  · rw [exec_placedProblemStart ha hc, placedStart_peer (by rwa [freshCycle_qp]) hw (by rwa [freeSlot_freshCycle])
      (by rwa [nearestPeer_freshCycle])]
  · obtain ⟨hq, hf⟩ : b ≠ .qp ∧ b ≠ .fab := by simpa using hb
    exact ((Block.same_qp _ _ hq).trans (Block.same_send ..)).trans ((peerStarted_issues ..).same hf)
  · show (settle (peerStarted (freshCycle s) x m r w k)).qp = _
    rw [settle_qp, (peerStarted_issues ..).frame]
    simp only [send, tmplBegun, modTmpl, freshCycle_qp]
  · show (settle (peerStarted (freshCycle s) x m r w k)).fab = _
    rw [settle_fab, peerStarted, problemXfer_freshCycle]
    exact plTakeAged_fab_congr (by simp) (by simp) (by simp) _
  · intro _
    rw [(peerStarted_issues ..).frame]
    exact ⟨rfl, rfl, rfl⟩

/-! ### Results (R50, R185, R186) -/

/-- A template whose request `r` has been handed back at `at_` with the outputs `l`. -/
def QTmpl.handed (m : QTmpl) (r : PReq) (at_ : Nat) (l : List (Word × TWord)) : QTmpl :=
  { m with deliver := m.deliver ++ [(r, at_, l)], run := none, res := none }

theorem placedOuts_freshCycle (s : State) (x : Fin 64) (remote : Option (Nat × List TWord)) :
    placedOuts (freshCycle s) x remote = placedOuts s x remote := by
  unfold placedOuts
  rw [freshCycle_qp]

theorem placedOuts_slot {s : State} {x p : Fin 64} {m : QTmpl} {r : PReq} {l : List (Word × TWord)} (hm : s.qp.tmpls[x] = some m)
    (hr : m.run = some (r, .slot p)) (hl : m.res = some l) : placedOuts s x none = some l := by
  simp only [placedOuts, hm, hr, hl]

theorem placedOuts_peer {s : State} {x : Fin 64} {m : QTmpl} {r : PReq} {k : Nat} (hm : s.qp.tmpls[x] = some m)
    (hr : m.run = some (r, .peer k)) (i : Nat) (l : List TWord) :
    placedOuts s x (some (i, l)) = if i = m.issue then some (bindOuts m.bind l) else none := by
  simp only [placedOuts, hm, hr]

/-- A result at hand is handed back at a station that is no standby. -/
theorem doesSilently_placedResult {s : State} {x : Fin 64} {remote : Option (Nat × List TWord)} {m : QTmpl} {r : PReq} {pl : PPlace}
    {l : List (Word × TWord)} (ha : alive s = true) (hs : s.pair.state ≠ 4) (hm : s.qp.tmpls[x] = some m) (hr : m.run = some (r, pl))
    (ho : placedOuts s x remote = some l) :
    DoesSilently (.placedResult x remote) s [.qp] (fun t =>
      (t.qp.clus = s.qp.clus ∧ ∀ j : Fin 64, j ≠ x → t.qp.tmpls[j] = s.qp.tmpls[j]) ∧
      t.qp.slots = s.qp.slots ∧ t.qp.tmpls[x] = some (m.handed r s.stn.tierRef.toNat l)) := by
  have hx : exec (.placedResult x remote) s = execPlacedResult x remote s := rfl
  unfold execPlacedResult at hx
  rw [guarded_true (by simp [ha, (isStandby_eq_false_iff s).2 hs, ho])] at hx
  refine doesSilently_modTmpl hm ?_ hx
  simp only [placedOuts_freshCycle, ho, hr, refNow, freshCycle_stn]
  rfl

/-- Nothing is handed back where there is nothing to hand back. -/
theorem doesSilently_placedResult_none {s : State} {x : Fin 64} {remote : Option (Nat × List TWord)} (ho : placedOuts s x remote = none) :
    DoesSilently (.placedResult x remote) s [] (fun _ => True) :=
  ⟨s, (by rfl : exec (.placedResult x remote) s = execPlacedResult x remote s).trans (guarded_false (by simp [ho]) _),
    ⟨rfl, fun b _ => Block.Same.refl s b⟩, fun _ => ⟨rfl, rfl, rfl, fun _ => rfl⟩, trivial⟩

/-! ### The end of a solve (R172, R175, R189) -/

/-- Nothing but the array has changed, and of it neither a cluster nor a slot. -/
structure SameSlots (s t : State) : Prop where
  same : ∀ b : Block, b ≠ .qp → b.Same s t
  clus : t.qp.clus = s.qp.clus
  slots : t.qp.slots = s.qp.slots

namespace SameSlots
variable {s t u : State}

theorem trans (h : SameSlots s t) (k : SameSlots t u) : SameSlots s u :=
  ⟨fun b hb => (h.same b hb).trans (k.same b hb), k.clus.trans h.clus, k.slots.trans h.slots⟩

theorem of_same (h : ∀ b : Block, b.Same s t) : SameSlots s t :=
  ⟨fun b _ => h b, congrArg QpBlk.clus (h .qp), congrArg QpBlk.slots (h .qp)⟩

theorem refl (s : State) : SameSlots s s := of_same (Block.Same.refl s)

theorem send (s : State) (x : Sent) : SameSlots s (send s x) := of_same (Block.same_send s x)

theorem free (s : State) (n : Nat) : SameSlots s { s with free := n } := of_same fun b => by cases b <;> first | rfl | exact fun _ => rfl

theorem tmpls (s : State) (x : Vector (Option QTmpl) 64) : SameSlots s { s with qp := { s.qp with tmpls := x } } :=
  ⟨fun _ hb => Block.same_qp _ _ hb, rfl, rfl⟩

theorem logEntry_if (h : SameSlots s t) (c : Bool) (code source sev : Nat) (payload : List Byte) :
    SameSlots s (if c then logEntry t code source sev payload else t) := by
  cases c
  · exact h
  · exact h.trans (of_same (same_logEntry t code source sev payload))

theorem raise_if (h : SameSlots s t) (c : Bool) (n : Nat) : SameSlots s (if c then raise t n else t) := by
  cases c
  · exact h
  · exact h.trans (of_same (same_raise t n))

/-- The results of a placed problem go to the peer that sent it, or to its template (R185). -/
theorem handBack (h : SameSlots s t) (placed : Bool) (peer : Option PeerProb) (f : PeerProb → Sent) (v : Vector (Option QTmpl) 64) :
    SameSlots s (if !placed then t else
      match peer with
      | some x => Machine.send t (f x)
      | none => { t with qp := { t.qp with tmpls := v } }) := by
  cases placed
  · exact h
  · cases peer with
    | some x => exact h.trans (send t (f x))
    | none => exact h.trans (tmpls t v)

end SameSlots

/-- What slot `q` has become at the end of a solve with the results `o` (R172, R175). -/
structure QSlot.Ended (q r : QSlot) (o : SolveOut) : Prop where
  phase : r.phase = .idle
  status : r.status = BitVec.ofNat 3 o.res.status
  numericCnt : r.numericCnt = if o.res.status = 5 then satInc q.numericCnt else q.numericCnt
  merit : o.res.res = none → r.merit = 0x7F800000

/-- The end of a solve changes its slot, and nothing else but a template's result, what is sent, entered and raised, and the free values
drawn. -/
theorem finishSolve_spec (s : State) (p : Fin 64) (o : SolveOut) (ht : s.qp.slots[p].tier ≠ 0) :
    ∃ s1 q, SameSlots s s1 ∧ SameSlots (modSlot s1 p (fun _ => q)) (finishSolve s p o) ∧ s.qp.slots[p].Ended q o := by
  unfold finishSolve
  dsimp only [drawWord]
  rw [if_neg ht]
  refine ⟨_, _, ?draw, ((((SameSlots.refl _).logEntry_if ..).logEntry_if ..).raise_if ..).handBack .., rfl, rfl, rfl, fun h => ?merit⟩
  case draw =>
    split
    · exact SameSlots.refl s
    · exact SameSlots.free s _
  case merit =>
    dsimp only
    rw [h]

/-! ### A memory error and its reload (R189) -/

/-- A memory error ends the solve of its slot as NUMERIC with the merit at infinity. -/
theorem memErrSolve_spec (s : State) (p : Fin 64) (ht : s.qp.slots[p].tier ≠ 0) :
    ∃ s1 q, SameSlots s s1 ∧ SameSlots (modSlot s1 p (fun _ => q)) (memErrSolve s p) ∧ q.status = 5 ∧
      q.numericCnt = satInc s.qp.slots[p].numericCnt ∧ q.merit = 0x7F800000 := by
  obtain ⟨s1, q, h1, h2, hq⟩ := finishSolve_spec { s with free := s.free + 1 } p
    { solveBase s.qp.slots[p] with res := { (solveBase s.qp.slots[p]).res with used := (drawWord s).1.toNat, step := 0 } } ht
  exact ⟨s1, q, (SameSlots.free s _).trans h1, h2, hq.status, hq.numericCnt, hq.merit rfl⟩

/-- The cluster of slot `p` shows a memory error, which has ended a solve in progress. -/
def memErrFound (s : State) (p : Fin 64) : State :=
  let s1 := modClus s (clusOf p) (fun k => { k with memErr := true })
  if s.qp.slots[p].phase == .solving then memErrSolve s1 p else s1

/-- A slot whose content is to be reloaded. -/
def QSlot.reloads (q : QSlot) : QSlot := { q with phase := .idle, reload := true, facKey := [] }

theorem memErrFound_idle {s : State} {p : Fin 64} (h : s.qp.slots[p].phase ≠ .solving) :
    memErrFound s p = modClus s (clusOf p) (fun k => { k with memErr := true }) := if_neg (by simpa using h)

theorem memErrFound_solving {s : State} {p : Fin 64} (h : s.qp.slots[p].phase = .solving) :
    memErrFound s p = memErrSolve (modClus s (clusOf p) (fun k => { k with memErr := true })) p := if_pos (by simpa using h)

/-- What the error leaves before the reload: its cluster shows it, no other slot has changed, and neither has this one but at the end of a
solve, which is NUMERIC. -/
theorem memErrFound_spec (s : State) (p : Fin 64) (ht : s.qp.slots[p].tier ≠ 0) :
    (∀ b : Block, b ≠ .qp → b.Same s (memErrFound s p)) ∧ (memErrFound s p).qp.clus[clusOf p].memErr = true ∧
    (∀ j : Fin 64, j ≠ p → (memErrFound s p).qp.slots[j] = s.qp.slots[j]) ∧
    (s.qp.slots[p].phase = .solving → (memErrFound s p).qp.slots[p].status = 5 ∧
      (memErrFound s p).qp.slots[p].numericCnt = satInc s.qp.slots[p].numericCnt ∧ (memErrFound s p).qp.slots[p].merit = 0x7F800000) ∧
    (s.qp.slots[p].phase ≠ .solving → (memErrFound s p).qp.slots[p] = s.qp.slots[p]) := by
  let s1 := modClus s (clusOf p) (fun k => { k with memErr := true })
  have hsame (b : Block) (hb : b ≠ .qp) : b.Same s s1 := Block.same_qp _ _ hb
  have hclus : s1.qp.clus[clusOf p].memErr = true := by simp only [s1, modClus, vmod_get_self]
  by_cases hq : s.qp.slots[p].phase = .solving
  · obtain ⟨s2, q, ⟨hb2, hc2, hs2⟩, ⟨hb3, hc3, hs3⟩, hst, hn, hm⟩ := memErrSolve_spec s1 p ht
    have hslots (j : Fin 64) : (memErrFound s p).qp.slots[j] = if p = j then q else s.qp.slots[j] := by
      rw [memErrFound_solving hq, hs3, modSlot, vmod_get, hs2]
      rfl
    refine ⟨fun b hb => ?_, ?_, fun j hj => (hslots j).trans (if_neg hj.symm), fun _ => ?_, fun h => absurd hq h⟩
    · rw [memErrFound_solving hq]
      exact (hsame b hb).trans ((hb2 b hb).trans ((Block.same_qp _ _ hb).trans (hb3 b hb)))
    · rw [memErrFound_solving hq, hc3]
      exact hc2 ▸ hclus
    · rw [hslots, if_pos rfl]
      exact ⟨hst, hn, hm⟩
  · rw [memErrFound_idle hq]
    exact ⟨hsame, hclus, fun _ _ => rfl, fun h => absurd h hq, fun _ => rfl⟩

/-- SLOT_MEM_ERR marks the cluster, ends a solve in progress as NUMERIC, has the slot reloaded, and is recorded (R189). -/
theorem does_slotMemErr {s : State} {p : Fin 64} (ha : alive s = true) (ht : s.qp.slots[p].tier ≠ 0) (ofs : BitVec 16) :
    let q := s.qp.slots[p]
    Does (.slotMemErr p ofs) s [.qp] (fun t =>
      t.qp.clus[clusOf p].memErr = true ∧ t.qp.slots[p].phase = .idle ∧ t.qp.slots[p].reload = true ∧
      (∀ j : Fin 64, j ≠ p → t.qp.slots[j] = s.qp.slots[j]) ∧
      (q.phase = .solving → t.qp.slots[p].status = 5 ∧ t.qp.slots[p].numericCnt = satInc q.numericCnt ∧
        t.qp.slots[p].merit = 0x7F800000) ∧
      (q.phase ≠ .solving → t.qp.slots[p] = q.reloads ∧ Noted s t 0x2802 p.val 3 (leN 4 ofs.toNat))) := by
  let found (u : State) : State := logEntry (modSlot (memErrFound u p) p QSlot.reloads) 0x2802 p.val sevMajor (leN 4 ofs.toNat)
  obtain ⟨hb, hc, hj, hsolving, hidle⟩ := memErrFound_spec (freshCycle s) p (by rwa [freshCycle_qp])
  rw [freshCycle_qp] at hj hsolving hidle
  have hqp : (settle (found (freshCycle s))).qp = (modSlot (memErrFound (freshCycle s) p) p QSlot.reloads).qp := by
    rw [settle_qp, logEntry_qp]
  have hp : (settle (found (freshCycle s))).qp.slots[p] = (memErrFound (freshCycle s) p).qp.slots[p].reloads := by
    rw [hqp, modSlot, vmod_get_self]
  refine does_of (f := found) (guarded_true (by simpa [ha] using ht) found) (fun b hn => ?_)
    ⟨(congrArg (·.clus[clusOf p].memErr) hqp).trans hc, congrArg (·.phase) hp, congrArg (·.reload) hp,
      fun j hn => ?_, fun hq => ?_, fun hq => ?_⟩
  · have hn : b ≠ .qp := by simpa using hn
    exact (hb b hn).trans ((Block.same_qp _ _ hn).trans (same_logEntry ..))
  · exact (congrArg (·.slots[j]) hqp).trans ((vmod_get_ne _ hn.symm _).trans (hj j hn))
  · obtain ⟨hst, hn, hm⟩ := hsolving hq
    exact ⟨(congrArg (·.status) hp).trans hst, (congrArg (·.numericCnt) hp).trans hn, (congrArg (·.merit) hp).trans hm⟩
  · refine ⟨hp.trans (congrArg QSlot.reloads (hidle hq)),
      noted_entry (f := found) (by decide) (by omega) (by decide) fun _ => ⟨_, rfl, ?_⟩⟩
    rw [memErrFound_idle hq]
    rfl

@[simp] theorem slotContent_freshCycle (s : State) (p : Fin 64) : slotContent (freshCycle s) p = slotContent s p := by
  simp only [slotContent, freshCycle_qp, freshCycle_img]

/-- A slot whose memory stands afresh with this content. -/
def QSlot.reloaded (q : QSlot) (content : List Byte) : QSlot := { q with mem := freshSlotMem content, facKey := [], reload := false }

/-- The end of a reload sets the slot's content afresh (R189). -/
theorem doesSilently_slotReloadDone {s : State} {p : Fin 64} (ha : alive s = true) (hr : s.qp.slots[p].reload = true) :
    DoesSilently (.slotReloadDone p) s [.qp] (fun t => s.qp.ButSlot t.qp p (s.qp.slots[p].reloaded (slotContent s p))) := by
  refine doesSilently_modSlot (g := fun q => q.reloaded (slotContent s p)) ?_
  rw [← slotContent_freshCycle s p]
  exact guarded_true (by rw [ha, hr]; rfl) (fun u => modSlot u p (fun q => q.reloaded (slotContent u p)))

/-! ### Registers of a slot and of a cluster (R7, R164, R179) -/

/-- The KEY register of a slot's CTRL is its cluster's (R4, R9). -/
theorem blockKey_slotCtrl (p : Fin 64) : blockKey (slotAddr p 0x30) = some (0xD0014 + 0x2000 * (p.val / 8)) := by
  have hp : p.val / 8 < 8 := by omega
  unfold blockKey slotAddr
  iterate 14 rw [if_neg (by omega)]
  rw [if_pos (by omega), Option.some.injEq]
  omega

/-- A cold request of a slot without one waits for the next T1 boundary at every station but a standby (R179, R187). -/
theorem slotCtrlWrite_cold {s : State} {p : Fin 64} (hs : s.pair.state ≠ 4) (hc : s.qp.slots[p].coldReq = false) :
    slotCtrlWrite s p true false = accept (modSlot s p (fun q => { q with coldReq := true, coldCarried := false })) (.coldReq p) := by
  unfold slotCtrlWrite
  rw [(isStandby_eq_false_iff s).2 hs, hc]
  rfl

theorem foldl_modSlot (f : QSlot → QSlot) (l : List (Fin 64)) (s : State) : l.foldl (fun s p => modSlot s p f) s =
    { s with qp := { s.qp with slots := l.foldl (fun v p => vmod v p f) s.qp.slots } } := by
  induction l generalizing s with
  | nil => rfl
  | cons p l ih => exact ih (modSlot s p f)

/-- CLR_STAT of a cluster clears the counts of its slots (R7). -/
theorem qpClrStat_slots (s : State) (c : Fin 8) (j : Fin 64) : (qpClrStat s c).qp.slots[j] =
    if j.val / 8 = c.val then { s.qp.slots[j].clearStat with supersede := 0 } else s.qp.slots[j] := by
  unfold qpClrStat
  rw [foldl_modSlot]
  refine (foldl_vmod_get _ _ ((List.nodup_finRange 64).filter _) ..).trans ?_
  simp [clusOf, Fin.ext_iff]

theorem doesSilently_qpClClrStat {s : State} {sess : Fin 4} (ho : Opened s sess) (k : Fin 8) :
    DoesSilently (.qpClClrStat sess k) s [.qp] (fun t => t.qp.clus = s.qp.clus ∧ t.qp.tmpls = s.qp.tmpls ∧
      ∀ j : Fin 64, t.qp.slots[j] = if j.val / 8 = k.val then { s.qp.slots[j].clearStat with supersede := 0 } else s.qp.slots[j]) := by
  refine doesSilently_qp (q := (qpClrStat s k).qp) ?_ fun t ht => ?_
  · have hx : exec (.qpClClrStat sess k) s = openCmd s sess (fun u => qpClrStat u k) := rfl
    rw [hx, openCmd_of ho]
    unfold qpClrStat
    rw [foldl_modSlot, foldl_modSlot, freshCycle_qp]
  · rw [ht]
    refine ⟨?_, ?_, qpClrStat_slots s k⟩ <;> rw [qpClrStat, foldl_modSlot]

/-- A read of MEM_DATA moves its cluster's address one word on (R164). -/
theorem doesSilently_memDataRead {s : State} (ha : alive s = true) (k : Fin 8) :
    DoesSilently (.memDataRead k) s [.qp] (fun t => t.qp.slots = s.qp.slots ∧ t.qp.tmpls = s.qp.tmpls ∧
      ∀ j : Fin 8, t.qp.clus[j] = if j = k then { s.qp.clus[j] with addr := s.qp.clus[j].addr + 1 } else s.qp.clus[j]) := by
  refine doesSilently_qp (q := (modClus s k (fun x => { x with addr := x.addr + 1 })).qp) ?_ fun t ht => ?_
  · have hx : exec (.memDataRead k) s = guarded s (alive s) (fun u => modClus u k (fun x => { x with addr := x.addr + 1 })) := rfl
    rw [hx, guarded_true ha]
    simp only [modClus, freshCycle_qp]
  · rw [ht]
    refine ⟨rfl, rfl, fun j => ?_⟩
    simp only [modClus, vmod_get, @eq_comm _ k j]
    split
    · next h => rw [h]
    · rfl

end Sys2Proof.Machine

open Sys2Proof Sys2Proof.Machine

/-- Settles O33: what the intake takes is a fold's maximum of AGE; each start, result and command changes one slot, template or cluster; and a
memory error is the end of a solve as NUMERIC, where one runs, before the reload. -/
theorem solverCommands : Obligations.SolverCommands := by
  refine ⟨fun s x m ha hs hm => ⟨fun offers r w hn hr hw => ⟨fun y k hy => ?oldest, fun p hp ho => ?here, fun k hp hi hk => ?there⟩,
    fun r p l hr hl => ?result, fun r k i l hr => ⟨fun hi => ?peerResult, fun hi => ?stale⟩⟩,
    fun s v p ha hs hv hp ho => ⟨fun v' hv' => peerAge_le_of_nextPeer hv hv', fun x k hn hk => ?olderThanOwn, ?fromPeer⟩,
    fun s sess p k ha => ⟨fun ofs ht => does_slotMemErr ha ht ofs, fun hr => ?reload, fun hw => ⟨?clrCnt, fun hs hc => ?cold⟩,
      fun ho => doesSilently_qpClClrStat ho k, doesSilently_memDataRead ha k⟩⟩
  case oldest => exact waitingAge_le_of_nextTmpl hn (waitingAge_of_wait hm hr hw) hy
  case here =>
    refine (doesSilently_start_slot ha hs hm hn hw hp ho).imp fun t ht => ?_
    obtain ⟨hphase, hins, hparams, hbind, htempl, hremote, -, hmem, hstatus⟩ := startPlaced_slot s p x.val m.content m.bind r none
    dsimp only
    rw [ht]
    exact ⟨⟨rfl, fun j hj => tmplBegun_tmpls_ne (h := hj) ..⟩, fun v => peerAge_le_of_ownFirst ho (waitingAge_of_wait hm hr hw),
      tmplBegun_tmpls_self (hm := hm) .., rfl, slotFree_of_freeSlot hp, hphase, hins, hparams, hbind,
      (congrArg BitVec.toNat htempl).trans (Nat.mod_eq_of_lt x.isLt), hremote, hmem, hstatus, fun j hj => startPlaced_slots_ne s hj ..⟩
  case there =>
    refine ⟨mem_of_nearestPeer hk, (does_start_peer ha hs hm hn hw hp hi hk).imp fun t ⟨hq, hf, hsent⟩ => ?_⟩
    dsimp only
    rw [hq]
    exact ⟨⟨rfl, fun j hj => tmplBegun_tmpls_ne (h := hj) ..⟩, rfl, tmplBegun_tmpls_self (hm := hm) .., hf, hsent⟩
  case result => exact doesSilently_placedResult ha hs hm hr (placedOuts_slot hm hr hl)
  case peerResult => exact doesSilently_placedResult ha hs hm hr ((placedOuts_peer hm hr i l).trans (if_pos hi))
  case stale => exact doesSilently_placedResult_none ((placedOuts_peer hm hr i l).trans (if_neg hi))
  case olderThanOwn => exact le_peerAge_of_not_ownFirst (ho x hn) hk hv
  case fromPeer =>
    refine (doesSilently_start_fromPeer ha hs hv hp ho).imp fun t ht => ?_
    obtain ⟨hphase, hins, hparams, -, -, hremote, hpeer, hmem, -⟩ :=
      startPlaced_slot s p v.prob.template v.prob.content (peerBind v.prob.content v.prob.req) v.prob.req (some v.prob)
    rw [ht]
    exact ⟨rfl, rfl, hphase, hpeer, hins, hparams, hremote, hmem, fun j hj => startPlaced_slots_ne s hj ..⟩
  case reload =>
    refine (doesSilently_slotReloadDone ha hr).imp fun t h => ?_
    obtain ⟨-, -, hslots⟩ := id h
    refine ⟨h, ?_⟩
    rw [hslots, if_pos rfl]
    exact ⟨stateBit_freshSlotMem .., stateBit_freshSlotMem ..⟩
  case clrCnt =>
    exact doesSilently_modSlot (g := QSlot.clearStat) (keyedCmd_of (f := fun u => slotCtrlWrite u p false true) hw (blockKey_slotCtrl p))
  case cold =>
    refine doesSilently_accept_modSlot (g := fun q => { q with coldReq := true, coldCarried := false }) ?_
    rw [← slotCtrlWrite_cold (by rwa [freshCycle_pair]) (by rwa [freshCycle_qp])]
    exact keyedCmd_of (f := fun u => slotCtrlWrite u p true false) hw (blockKey_slotCtrl p)
end

section
/-! What an edge makes of an angle source: the changes of one source with the events that they raise, for encoders and toothed wheels
(R193, R194, R198, R202). -/

namespace Sys2Proof.Machine
open Sys2Proof

/-! ### Changes of the sources alone -/

theorem Block.same_ang (s : State) (x : AngBlk) {b : Block} (h : b ≠ .ang) : b.Same s { s with ang := x } := by
  cases b <;> first | rfl | exact fun _ => rfl | exact absurd rfl h

/-- Nothing but angle sources has changed on the way from `s` to `t`, and raises go on reading 1. -/
structure SrcsOnly (s t : State) : Prop where
  same : ∀ b : Block, b ≠ .ang → b.Same s t
  ang : t.ang = { s.ang with src := t.ang.src }
  now : NowRaised s → NowRaised t
  kept : ∀ n, Raised s n → Raised t n

theorem SrcsOnly.refl (s : State) : SrcsOnly s s := ⟨fun b _ => Block.Same.refl s b, rfl, id, fun _ => id⟩

theorem SrcsOnly.trans {s t u : State} (h : SrcsOnly s t) (k : SrcsOnly t u) : SrcsOnly s u :=
  ⟨fun b hb => (h.same b hb).trans (k.same b hb), by rw [k.ang, h.ang], k.now ∘ h.now, fun n => k.kept n ∘ h.kept n⟩

/-- Source `a` has become `q` with the events `l` of that source raised, and nothing else has changed. -/
structure SrcBecomes (s t : State) (a : Fin 8) (q : ASrc) (l : List Nat) : Prop extends SrcsOnly s t where
  src : ∀ j : Fin 8, t.ang.src[j] = if j = a then q else s.ang.src[j]
  raised : NowRaised s → ∀ i ∈ l, Raised t (angSrc a i)

@[simp] theorem modSrc_src_self (s : State) (a : Fin 8) (f : ASrc → ASrc) : (modSrc s a f).ang.src[a] = f s.ang.src[a] :=
  vmod_get_self ..

theorem SrcBecomes.refl {s : State} {a : Fin 8} {r : ASrc} (hr : s.ang.src[a] = r) : SrcBecomes s s a r [] :=
  { SrcsOnly.refl s with
    src := fun j => by
      split
      · next h => rw [h, hr]
      · rfl
    raised := fun _ _ hi => absurd hi List.not_mem_nil }

section
variable {s t : State} {a : Fin 8} {q : ASrc} {l : List Nat}

theorem SrcBecomes.self (h : SrcBecomes s t a q l) : t.ang.src[a] = q := (h.src a).trans (if_pos rfl)

theorem SrcsOnly.modSrc (s : State) (a : Fin 8) (f : ASrc → ASrc) : SrcsOnly s (modSrc s a f) :=
  ⟨fun _ hb => Block.same_ang _ _ hb, rfl, fun hn => hn.congr rfl, fun _ hn => hn.congr rfl⟩

theorem SrcsOnly.raise (s : State) (n : Nat) : SrcsOnly s (raise s n) :=
  ⟨fun b _ => same_raise _ _ b, by rw [raise_ang], fun hn => hn.raise _, fun _ hn => hn.raise _⟩

theorem SrcBecomes.modSrc (h : SrcBecomes s t a q l) (f : ASrc → ASrc) : SrcBecomes s (modSrc t a f) a (f q) l where
  toSrcsOnly := h.toSrcsOnly.trans (.modSrc t a f)
  src j := by
    simp only [Machine.modSrc, vmod_get, h.self, h.src j, @eq_comm _ a j]
    split <;> rfl
  raised hn i hi := (h.raised hn i hi).congr rfl

theorem SrcBecomes.raise (h : SrcBecomes s t a q l) {i : Nat} (hi : i < 8) : SrcBecomes s (raise t (angSrc a i)) a q (i :: l) where
  toSrcsOnly := h.toSrcsOnly.trans (.raise t _)
  src j := by rw [raise_ang]; exact h.src j
  raised hn k hk := by
    obtain rfl | hk := List.mem_cons.1 hk
    · exact raised_raise (h.now hn) (by unfold angSrc; omega)
    · exact (h.raised hn k hk).raise _

theorem SrcBecomes.raise_if (h : SrcBecomes s t a q l) {i : Nat} (hi : i < 8) (c : Bool) :
    SrcBecomes s (if c then Machine.raise t (angSrc a i) else t) a q (if c then i :: l else l) := by
  cases c
  · exact h
  · exact h.raise hi
end

/-! ### Synchronisation and loss (R202) -/

/-- A source that has gained synchronisation with its last edge at `pos`. -/
def ASrc.gained (r : ASrc) (pos : Int) : ASrc :=
  { r.restart with sync := 2, stillF := false, pos := pos, placed := true, turnErr := 0, cause := 0 }

/-- A source that is lost with a cause. -/
def ASrc.lost (r : ASrc) (cause : BitVec 3) : ASrc :=
  let lasts := cause == 1#3 || cause == 5#3 || cause == 7#3
  { r.seek with sync := if lasts then 0 else 1, loss := lasts, cause := cause }

/-- The events `l`, and before them that of a lost synchronisation, where the source had it. -/
def ASrc.syncLost (r : ASrc) (l : List Nat) : List Nat := if r.sync == 2#2 then 3 :: l else l

theorem ASrc.mem_syncLost {r : ASrc} (h : r.sync = 2) (l : List Nat) : 3 ∈ r.syncLost l := by simp [syncLost, h]

theorem ASrc.mem_syncLost_of_mem {r : ASrc} {l : List Nat} {i : Nat} (h : i ∈ l) : i ∈ r.syncLost l := by
  unfold syncLost
  split
  · exact List.mem_cons_of_mem _ h
  · exact h

section
variable {s t : State} {a : Fin 8} {q : ASrc} {l : List Nat}

theorem SrcBecomes.gainSync (h : SrcBecomes s t a q l) (pos : Int) : SrcBecomes s (gainSync t a pos) a (q.gained pos) (2 :: l) :=
  (h.modSrc _).raise (i := 2) (by decide)

theorem SrcBecomes.loseSync (h : SrcBecomes s t a q l) : SrcBecomes s (loseSync t a) a { q.seek with cause := 0 } (q.syncLost l) := by
  unfold Machine.loseSync
  rw [h.self]
  exact (h.modSrc _).raise_if (by decide) _

theorem SrcBecomes.loseSource (h : SrcBecomes s t a q l) (cause : BitVec 3) :
    SrcBecomes s (loseSource t a cause) a (q.lost cause) (4 :: q.syncLost l) := by
  unfold Machine.loseSource
  rw [h.self]
  exact ((h.modSrc _).raise_if (by decide) _).raise (i := 4) (by decide)
end

/-! ### The count of edges -/

/-- The source has counted an edge in EDGE_CNT. -/
def ASrc.edgeSeen (r : ASrc) : ASrc := { r with edgeCnt := r.edgeCnt + 1 }

theorem modSrc_edgeSeen (s : State) (a : Fin 8) :
    modSrc s a (fun r => { r with edgeCnt := r.edgeCnt + 1 }) = modSrc s a ASrc.edgeSeen := rfl

theorem SrcBecomes.edgeSeen {s : State} {a : Fin 8} {q : ASrc} (hq : s.ang.src[a].edgeSeen = q) :
    SrcBecomes s (Machine.modSrc s a ASrc.edgeSeen) a q [] :=
  hq ▸ (SrcBecomes.refl rfl).modSrc _

/-! ### Encoders (R193, R202) -/

/-- An encoder's source at its next count position. -/
def ASrc.stepped (r : ASrc) (fwd : Bool) : ASrc := { r with pos := if fwd then r.pos + 1 else r.pos - 1 }

/-- An encoder's source once the direction has flipped (R202). -/
def ASrc.turned (r : ASrc) : ASrc :=
  { r with rev := !r.rev, stillF := false, edges := [], filled := false, against := 0 }

/-- An encoder's source once it has synchronised without an index (R193). -/
def ASrc.homed (r : ASrc) (fwd : Bool) : ASrc := { r.gained 0 with rev := !fwd }

section
variable {s : State} {a : Fin 8} {r q : ASrc} {w : Nat} {fwd : Bool}

/-- What a transition makes of an encoder that is not lost, by synchronisation, ZMODE and direction. -/
theorem encoderEdge_spec (hq : s.ang.src[a].edgeSeen = q) (hl : q.loss = false) :
    (q.sync ≠ 2 → q.zmode = true → SrcBecomes s (encoderEdge s a w fwd) a { q.stepped fwd with rev := !fwd } []) ∧
    (q.sync ≠ 2 → q.zmode = false → SrcBecomes s (encoderEdge s a w fwd) a ((q.homed fwd).count w) [2]) ∧
    (q.sync = 2 → q.rev = !fwd → SrcBecomes s (encoderEdge s a w fwd) a ((q.stepped fwd).count w) []) ∧
    (q.sync = 2 → q.rev = fwd → q.against + 1 < q.revEdges →
      SrcBecomes s (encoderEdge s a w fwd) a { q.stepped fwd with against := q.against + 1 } []) ∧
    (q.sync = 2 → q.rev = fwd → q.revEdges ≤ q.against + 1 →
      SrcBecomes s (encoderEdge s a w fwd) a ((q.stepped fwd).turned.count w) [6]) := by
  have hseen := SrcBecomes.edgeSeen hq
  unfold encoderEdge
  dsimp only
  rw [modSrc_edgeSeen, hseen.self, if_neg (by simp [hl])]
  refine ⟨fun hs hz => ?_, fun hs hz => ?_, fun hs hd => ?_, fun hs hd ha => ?_, fun hs hd ha => ?_⟩
  · rw [if_pos hs, if_pos hz]
    exact hseen.modSrc _
  · rw [if_pos hs, if_neg (by simp [hz])]
    exact (hseen.gainSync 0).modSrc _
  · rw [if_neg (not_not.2 hs), if_pos (by simp [hd])]
    exact (hseen.modSrc _).modSrc _
  · rw [if_neg (not_not.2 hs), if_neg (by simp [hd]), if_pos ha]
    exact (hseen.modSrc _).modSrc _
  · rw [if_neg (not_not.2 hs), if_neg (by simp [hd]), if_neg (by omega)]
    exact ((hseen.modSrc _).modSrc _).raise (i := 6) (by decide)

/-- What an index edge makes of an encoder with ZMODE that is not lost. -/
theorem encoderIndex_spec (hr : s.ang.src[a] = r) (hl : r.loss = false) (hz : r.zmode = true) {n : Int} (hn : r.perTurn = n) :
    (r.sync ≠ 2 → SrcBecomes s (encoderIndex s a) a (r.gained 0) [2]) ∧
    (r.sync = 2 → r.pos % n = 0 → SrcBecomes s (encoderIndex s a) a r []) ∧
    (r.sync = 2 → r.pos % n = 1 →
      SrcBecomes s (encoderIndex s a) a { r with pos := r.pos - 1, errCnt := satInc r.errCnt } []) ∧
    (r.sync = 2 → r.pos % n = n - 1 → n ≠ 1 → n ≠ 2 →
      SrcBecomes s (encoderIndex s a) a { r with pos := r.pos + 1, errCnt := satInc r.errCnt } []) ∧
    (r.sync = 2 → r.pos % n ≠ 0 → r.pos % n ≠ 1 → r.pos % n ≠ n - 1 →
      SrcBecomes s (encoderIndex s a) a (r.lost 3) (4 :: r.syncLost [])) := by
  have h := SrcBecomes.refl hr
  unfold encoderIndex
  dsimp only
  rw [hr, hn, if_neg (by simp [hl, hz])]
  refine ⟨fun hs => ?_, fun hs h0 => ?_, fun hs h1 => ?_, fun hs hm h1 h2 => ?_, fun hs h0 h1 hm => ?_⟩
  · rw [if_pos hs]
    exact h.gainSync 0
  · rw [if_neg (not_not.2 hs), if_pos h0]
    exact h
  · rw [if_neg (not_not.2 hs), if_neg (by omega), if_pos h1]
    exact h.modSrc _
  · rw [if_neg (not_not.2 hs), if_neg (by omega), if_neg (by omega), if_pos hm]
    exact h.modSrc _
  · rw [if_neg (not_not.2 hs), if_neg h0, if_neg h1, if_neg hm]
    exact h.loseSource 3
end

/-! ### Toothed wheels (R194) -/

/-- A source that has counted an error. -/
def ASrc.errCounted (r : ASrc) : ASrc := { r with errCnt := satInc r.errCnt }

/-- A wheel's source with an edge at `w`, `n` pitches on, whose period `T` over them is its reference; `err` are the errors of the turn. -/
def ASrc.toothed (r : ASrc) (w T n err : Nat) : ASrc :=
  { r with pos := r.pos + n, lastT := some w, refN := T, refD := n, turnErr := err }

theorem SrcBecomes.toothTake {s t : State} {a : Fin 8} {q : ASrc} {l : List Nat} (h : SrcBecomes s t a q l) (hs : q.sync = 2) (w n : Nat) :
    SrcBecomes s (toothTake t a w n) a (ASrc.count { q with pos := q.pos + n, lastT := some w } w) l := by
  unfold Machine.toothTake
  rw [h.self, if_neg (not_not.2 hs)]
  exact h.modSrc _

/-- What an edge makes of a synchronised wheel: one too near the last, a normal tooth, the tooth that ends the gap. -/
theorem toothEdge_spec {s : State} {a : Fin 8} {q : ASrc} {w w0 : Nat} (hq : s.ang.src[a].edgeSeen = q) (hl : q.loss = false)
    (hs : q.sync = 2) (ht : q.lastT = some w0) (hn : q.refN ≠ 0) :
    let below := fun (h : Nat) => 2 * (w - w0) * q.refD < h * q.refN
    let atGap := (q.pos % (q.lines : Int)).toNat + 1 = q.lines - q.gap
    (below 1 → SrcBecomes s (toothEdge s a w) a q.errCounted []) ∧
    (¬ below 1 → ¬ atGap → below 3 → SrcBecomes s (toothEdge s a w) a ((q.toothed w (w - w0) 1 q.turnErr).count w) []) ∧
    (¬ below 1 → atGap → ¬ below (2 * q.gap + 1) → below (2 * q.gap + 3) → SrcBecomes s (toothEdge s a w) a
      ((q.toothed w (w - w0) (q.gap + 1) 0).count w) []) := by
  have hseen := SrcBecomes.edgeSeen hq
  unfold toothEdge
  dsimp only
  rw [modSrc_edgeSeen, hseen.self, if_neg (by simp [hl]), ht]
  dsimp only
  rw [if_neg hn]
  refine ⟨fun h1 => ?_, fun h1 hg h3 => ?_, fun h1 hg hlo hhi => ?_⟩
  · rw [if_pos h1]
    exact hseen.modSrc _
  · rw [if_neg h1, if_neg (not_not.2 hs), if_neg hg, if_pos h3]
    exact (hseen.modSrc _).toothTake hs w 1
  · rw [if_neg h1, if_neg (not_not.2 hs), if_pos hg, if_pos (by simp [hlo, hhi])]
    exact (hseen.modSrc _).toothTake hs w _

/-! ### The commands of one source -/

section
variable {s : State} {a : Fin 8} {q : ASrc} {l : List Nat}

/-- A command that makes `q` of one source and raises the events `l` of that source. -/
theorem does_srcBecomes {c : Instr} {f : State → State} {P : State → Prop}
    (hx : exec c s = .next { settle (f (freshCycle s)) with pending := s.pending })
    (h : SrcBecomes (freshCycle s) (f (freshCycle s)) a q l)
    (hp : ∀ t : State, t.ang = { s.ang with src := t.ang.src } → (∀ j : Fin 8, j ≠ a → t.ang.src[j] = s.ang.src[j]) → t.ang.src[a] = q →
      (Settled s → ∀ i ∈ l, Raised t (angSrc a i)) → P t) : Does c s [.ang] P := by
  have hang : (settle (f (freshCycle s))).ang = (f (freshCycle s)).ang := settle_ang _
  refine does_of hx (fun b hb => h.same b (by simpa using hb)) (hp _ ?_ (fun j hj => ?_) ?_ fun hs i hi => ?_)
  · exact hang.trans (h.ang.trans (by rw [freshCycle_ang, ← hang]))
  · exact (congrArg (·.src[j]) hang).trans ((h.src j).trans ((if_neg hj).trans (by rw [freshCycle_ang])))
  · exact (congrArg (·.src[a]) hang).trans h.self
  · exact (h.raised (NowRaised.of_settled hs).freshCycle i hi).settle.congr rfl

theorem beforeNext_of {w : Nat} (hb : s.pair.await = none) (hw : w < s.stn.lastB + 20000) : beforeNext s w = true := by
  simp [beforeNext, hb, hw]

/-- ANGLE_EDGE of an edge that the sensor can deliver before the next boundary (R191, R192). -/
theorem does_angleEdge {k : EdgeIn} {w : Nat} {P : State → ASrc → Prop} (ha : alive s = true) (hb : s.pair.await = none)
    (hw : w < s.stn.lastB + 20000) (hk : edgeFits s.ang.src[a].type k = true)
    (h : SrcBecomes (freshCycle s) (angleEdge (freshCycle s) a k w) a q l)
    (hp : ∀ t, (Settled s → ∀ i ∈ l, Raised t (angSrc a i)) → P t q) :
    Does (.angleEdge a k w) s [.ang] (fun t =>
      t.ang = { s.ang with src := t.ang.src } ∧ (∀ j : Fin 8, j ≠ a → t.ang.src[j] = s.ang.src[j]) ∧ P t t.ang.src[a]) :=
  does_srcBecomes (f := fun u => angleEdge u a k w)
    (guarded_true (by rw [ha, hk, beforeNext_of hb hw]; rfl) (fun u => angleEdge u a k w)) h
    fun t hang hj hq hr => ⟨hang, hj, hq ▸ hp t hr⟩

/-- What a loss has raised. -/
theorem raised_of_lost {t : State} (h : Settled s → ∀ i ∈ 4 :: q.syncLost [], Raised t (angSrc a i)) :
    (Settled s → Raised t (angSrc a 4)) ∧ (q.sync = 2 → Settled s → Raised t (angSrc a 3)) :=
  ⟨fun hs => h hs 4 List.mem_cons_self, fun hq hs => h hs 3 (List.mem_cons_of_mem _ (ASrc.mem_syncLost hq []))⟩

theorem angleEdge_quad (ht : s.ang.src[a].type = 1) (w : Nat) (fwd : Bool) : angleEdge s a (.quad fwd) w = encoderEdge s a w fwd := by
  simp only [angleEdge, ht]

theorem angleEdge_index (ht : s.ang.src[a].type = 1) (w : Nat) : angleEdge s a .index w = encoderIndex s a := by
  simp only [angleEdge, ht]

theorem angleEdge_both (ht : s.ang.src[a].type = 1) (hl : s.ang.src[a].loss = false) (w : Nat) :
    angleEdge s a .both w = loseSource s a 2 := by
  unfold angleEdge; rw [ht]; exact if_neg (by simpa using hl)

theorem angleEdge_tooth (ht : s.ang.src[a].type = 2) (w : Nat) : angleEdge s a .tooth w = toothEdge s a w := by
  simp only [angleEdge, ht]

end

/-! ### The edges that an estimate counts (R198) -/

/-- An edge of source `r` at `w` and count position `pos`. -/
def ASrc.edgeAt (r : ASrc) (w : Nat) (pos : Int) : AEdge := { t := w, th := ({ r with pos := pos } : ASrc).th }

section
variable {q r : ASrc} {w : Nat}

/-- What counting an edge changes: a standstill ends, and the estimate starts from that edge alone (R202). -/
theorem ASrc.count_eq (q : ASrc) (w : Nat) : q.count w =
    { q with
      stillF := false, filled := !q.stillF && q.filled, against := 0
      edges := if q.stillF then [{ t := w, th := q.th }] else ({ t := w, th := q.th } :: q.edges).take (2 * q.k + 1) } := by
  unfold ASrc.count
  cases h : q.stillF <;> simp

/-- Source `q` is set up as `r` is: type, turn, zero offset and span. -/
structure ASrc.SetUpAs (q r : ASrc) : Prop where
  cfg : q.cfg = r.cfg
  zeroOfs : q.zeroOfs = r.zeroOfs
  span : q.span = r.span

theorem ASrc.SetUpAs.trans {p : ASrc} (h : q.SetUpAs r) (k : p.SetUpAs q) : p.SetUpAs r :=
  ⟨k.cfg.trans h.cfg, k.zeroOfs.trans h.zeroOfs, k.span.trans h.span⟩

theorem ASrc.setUpAs_edgeSeen (r : ASrc) : r.edgeSeen.SetUpAs r := ⟨rfl, rfl, rfl⟩
theorem ASrc.setUpAs_stepped (r : ASrc) (fwd : Bool) : (r.stepped fwd).SetUpAs r := ⟨rfl, rfl, rfl⟩
theorem ASrc.setUpAs_turned (r : ASrc) : r.turned.SetUpAs r := ⟨rfl, rfl, rfl⟩
theorem ASrc.setUpAs_toothed (r : ASrc) (w T n err : Nat) : (r.toothed w T n err).SetUpAs r := ⟨rfl, rfl, rfl⟩

theorem ASrc.edgeAt_of_setUpAs (h : q.SetUpAs r) : ({ t := w, th := q.th } : AEdge) = r.edgeAt w q.pos := by
  unfold ASrc.edgeAt ASrc.th ASrc.perTurn ASrc.type ASrc.lines
  rw [h.cfg, h.zeroOfs]

theorem ASrc.k_of_setUpAs (h : q.SetUpAs r) : q.k = r.k := by rw [ASrc.k, ASrc.k, h.span]

end

end Sys2Proof.Machine

open Sys2Proof Sys2Proof.Machine

/-- Settles O34: each transition, index edge and tooth is one change of its source, by the classification of R193, R194 and R202. -/
theorem angleEdges : Obligations.AngleEdges := by
  refine ⟨fun s a w ha hb hw ht hl => ?encoder, fun s a w w0 ha hb hw ht hl hs hw0 hn hst => ?wheel⟩
  case encoder =>
    intro r src raised lost
    have hr : (freshCycle s).ang.src[a] = r := by rw [freshCycle_ang]
    have hsrc {k : EdgeIn} {q : ASrc} {l : List Nat} {P : State → ASrc → Prop}
        (h : SrcBecomes (freshCycle s) (angleEdge (freshCycle s) a k w) a q l) (hk : edgeFits 1 k = true)
        (hp : ∀ t, (Settled s → ∀ i ∈ l, Raised t (angSrc a i)) → P t q) : src k P :=
      does_angleEdge ha hb hw (by rwa [ht]) h hp
    change r.type = 1 at ht
    change r.loss = false at hl
    clear_value src r
    have ht' : (freshCycle s).ang.src[a].type = 1 := by rwa [hr]
    have hlost {c : BitVec 3} (hc : c = 2 ∨ c = 3) (t : State) (h : Settled s → ∀ i ∈ 4 :: r.syncLost [], Raised t (angSrc a i)) :
        lost c t (r.lost c) := by
      obtain ⟨h4, h3⟩ := raised_of_lost h
      obtain rfl | rfl := hc <;> exact ⟨rfl, rfl, rfl, rfl, rfl, h4, h3⟩
    refine ⟨?both, fun fwd => ?quad, fun hz => ?index⟩
    case both =>
      refine hsrc ?_ rfl (hlost (.inl rfl))
      rw [angleEdge_both ht' (by rwa [hr])]
      exact (SrcBecomes.refl hr).loseSource 2
    case quad =>
      intro pos edge
      obtain ⟨hseekZ, hseek, hon, hagainst, hflip⟩ := encoderEdge_spec (w := w) (fwd := fwd) (congrArg ASrc.edgeSeen hr) hl
      rw [← angleEdge_quad ht'] at hseekZ hseek hon hagainst hflip
      have hset := r.setUpAs_edgeSeen.trans (ASrc.setUpAs_stepped _ fwd)
      refine ⟨fun hs hz => ?_, fun hs hz => ?_, fun hs hd => ?_, fun hs hd hlt => ?_, fun hs hd hge => ?_⟩
      · exact hsrc (hseekZ hs hz) rfl fun t _ => rfl
      · refine hsrc (hseek hs hz) rfl fun t h => ?_
        rw [ASrc.count_eq]
        exact ⟨rfl, rfl, rfl, rfl, (List.length_take ..).trans (Nat.min_eq_right (Nat.le_add_left 1 _)), rfl, rfl,
          fun hs => h hs 2 List.mem_cons_self⟩
      · refine hsrc (hon hs hd) rfl fun t _ => ?_
        rw [ASrc.count_eq, ASrc.edgeAt_of_setUpAs hset, ASrc.k_of_setUpAs hset]
        exact ⟨rfl, rfl, hs, rfl, rfl, rfl, rfl⟩
      · exact hsrc (hagainst hs hd hlt) rfl fun t _ => rfl
      · refine hsrc (hflip hs hd hge) rfl fun t h => ?_
        have hset := hset.trans (ASrc.setUpAs_turned _)
        rw [ASrc.count_eq, ASrc.edgeAt_of_setUpAs hset, ASrc.k_of_setUpAs hset]
        exact ⟨rfl, congrArg (!·) hd, hs, rfl, rfl, rfl, fun hs => h hs 6 List.mem_cons_self⟩
    case index =>
      intro n
      have hn : (r.perTurn : Int) = n := by rw [ASrc.perTurn, if_pos ht]; push_cast; rfl
      have h4 : 4 ≤ n := by show 4 ≤ 4 * ((fld r.cfg 3 16 + 1 : Nat) : Int); omega
      obtain ⟨hseek, hhome, hplus, hminus, hoff⟩ := encoderIndex_spec hr hl hz hn
      rw [← angleEdge_index ht' w] at hseek hhome hplus hminus hoff
      refine ⟨fun hs => ?_, fun hs h0 => ?_, fun hs h1 _ => ?_, fun hs hm _ => ?_, fun hs h0 h1 hm => ?_⟩
      · exact hsrc (hseek hs) rfl fun t h => ⟨rfl, rfl, rfl, rfl, rfl, fun hs => h hs 2 List.mem_cons_self⟩
      · exact hsrc (hhome hs h0) rfl fun t _ => rfl
      · exact hsrc (hplus hs h1) rfl fun t _ => rfl
      · exact hsrc (hminus hs hm (by omega) (by omega)) rfl fun t _ => rfl
      · exact hsrc (hoff hs h0 h1 hm) rfl (hlost (.inr rfl))
  case wheel =>
    intro r T below atGap src
    have ht' : (freshCycle s).ang.src[a].type = 2 := by rwa [freshCycle_ang]
    have hsrc {q : ASrc} {P : ASrc → Prop} (h : SrcBecomes (freshCycle s) (toothEdge (freshCycle s) a w) a q [])
        (hp : q.edgeCnt = r.edgeCnt + 1 ∧ P q) : src P :=
      does_angleEdge (P := fun _ q => q.edgeCnt = r.edgeCnt + 1 ∧ P q) ha hb hw (by rw [ht]; rfl)
        (by rwa [angleEdge_tooth ht']) fun _ _ => hp
    obtain ⟨hnear, hnormal, hgap⟩ :=
      toothEdge_spec (s := freshCycle s) (a := a) (q := r.edgeSeen) (w := w) (by rw [freshCycle_ang]) hl hs hw0 hn
    change r.stillF = false at hst
    change r.sync = 2 at hs
    clear_value src r
    refine ⟨fun h1 => hsrc (hnear h1) ⟨rfl, rfl⟩, fun h1 hg h3 => hsrc (hnormal h1 hg h3) ?_,
      fun h1 hg hlo hhi => hsrc (hgap h1 hg hlo hhi) ?_⟩
    · have hset := r.setUpAs_edgeSeen.trans (ASrc.setUpAs_toothed _ w (w - w0) 1 r.edgeSeen.turnErr)
      rw [ASrc.count_eq, ASrc.edgeAt_of_setUpAs hset, ASrc.k_of_setUpAs hset]
      exact ⟨rfl, rfl, rfl, rfl, rfl, hs, rfl, rfl, if_neg (Bool.eq_false_iff.1 hst)⟩
    · rw [ASrc.count_eq]
      exact ⟨rfl, (Int.add_assoc r.pos r.gap 1).symm, rfl, rfl, rfl, hs, rfl, rfl⟩
end

section
/-! Standstill, the loss of a voltage and zero crossings, which concern every source of a VS set (R195, R202). -/

namespace Sys2Proof.Machine
open Sys2Proof

/-! ### One source -/

section
variable {s t : State} {a : Fin 8} {q : ASrc}

theorem SrcBecomes.enterStill (h : SrcBecomes s t a q []) (hq : q.type ≠ 2) :
    SrcBecomes s (enterStill t a) a { q with stillF := true } [5] := by
  unfold Machine.enterStill
  dsimp only
  rw [h.self, if_neg hq]
  exact (h.modSrc _).raise (i := 5) (by decide)

/-- A wheel at standstill loses its synchronisation too. -/
theorem SrcBecomes.enterStill_wheel (h : SrcBecomes s t a q []) (hq : q.type = 2) :
    SrcBecomes s (Machine.enterStill t a) a { q.seek with cause := 0, stillF := true } (q.syncLost [5]) := by
  unfold Machine.enterStill
  dsimp only
  rw [h.self, if_pos hq]
  exact ((h.modSrc _).raise (i := 5) (by decide)).loseSync.modSrc _

/-- A command that changes one source. -/
theorem doesSilently_modSrc {c : Instr} {g : ASrc → ASrc}
    (hx : exec c s = .next { settle (modSrc (freshCycle s) a g) with pending := s.pending }) :
    DoesSilently c s [.ang] (fun t => t.ang = (modSrc s a g).ang) := by
  refine doesSilently_of (f := fun u => modSrc u a g) hx (fun b hb => Block.same_ang _ _ (by simpa using hb))
    (fun _ => ⟨rfl, rfl, rfl, fun _ => rfl⟩) ?_
  show (settle (modSrc (freshCycle s) a g)).ang = _
  rw [settle_ang]
  simp only [modSrc, freshCycle_ang]

/-- A zero crossing that follows the last one in order (R195). -/
def ASrc.Follows (r : ASrc) (k : Fin 6) (mhz : Nat) : Prop :=
  r.loss = false ∧ r.sync = 2 ∧ 40000 ≤ mhz ∧ mhz ≤ 70000 ∧ ∃ p, r.lastX = some p ∧ k.val = (p.val + 1) % 6

/-- A synchronised source moves on by one position at the crossing that follows. -/
theorem crossingEdge_follows {k : Fin 6} {w mhz : Nat} (hq : s.ang.src[a].edgeSeen = q) (h : q.Follows k mhz) :
    SrcBecomes s (crossingEdge s a k w mhz) a (ASrc.count { q with lastX := some k, pos := q.pos + 1 } w) [] := by
  obtain ⟨hl, hs, hlo, hhi, p, hp, hk⟩ := h
  have hseen := SrcBecomes.edgeSeen hq
  have hstep : (k.val + 6 - p.val) % 6 = 1 := by omega
  unfold crossingEdge
  dsimp only
  rw [modSrc_edgeSeen, hseen.self, if_neg (by simp [hl])]
  simp only [hp, hstep]
  rw [if_neg (by simp [hlo, hhi]), if_neg (not_not.2 hs), if_neg (by decide)]
  exact hseen.modSrc _

/-- Whatever else a zero crossing does to a source, EDGE_CNT counts it. -/
theorem crossingEdge_counts {k : Fin 6} {w mhz : Nat} (hq : s.ang.src[a].edgeSeen = q) :
    ∃ q' l, SrcBecomes s (crossingEdge s a k w mhz) a q' l ∧ q'.edgeCnt = q.edgeCnt := by
  have hcount (r : ASrc) : (r.count w).edgeCnt = r.edgeCnt := by rw [ASrc.count_eq]
  unfold crossingEdge
  extract_lets seen r step n valid
  have hseen : SrcBecomes s seen a q [] := .edgeSeen hq
  have hvalid : SrcBecomes s valid a { q with lastX := some k, validX := n } [] := hseen.modSrc _
  clear_value seen r step n valid
  split
  · exact ⟨_, _, hseen, rfl⟩
  split
  · exact ⟨_, _, hseen.loseSource 6, rfl⟩
  split
  · split
    · split
      · exact ⟨_, _, hvalid.loseSource 6, rfl⟩
      · exact ⟨_, _, (hvalid.gainSync _).modSrc _, hcount _⟩
    · exact ⟨_, _, hvalid, rfl⟩
  · exact ⟨_, _, hseen.modSrc _, hcount _⟩
end

/-! ### All sources of a VS set -/

theorem mem_vsSources {s : State} {v : Fin 2} {a : Fin 8} : a ∈ vsSources s v ↔ s.ang.src[a].type = 3 + v.val := by
  simp [vsSources, mem_allFin]

theorem nodup_vsSources (s : State) (v : Fin 2) : (vsSources s v).Nodup := (List.nodup_finRange 8).filter _

/-- A change of one source after another changes each as it would alone. -/
theorem foldl_srcBecomes {op : State → Fin 8 → State} {P : ASrc → ASrc → List Nat → Prop}
    (hop : ∀ u a, ∃ q l, SrcBecomes u (op u a) a q l ∧ P u.ang.src[a] q l) (as : List (Fin 8)) (hn : as.Nodup) (s : State) :
    SrcsOnly s (as.foldl op s) ∧ (∀ a, a ∉ as → (as.foldl op s).ang.src[a] = s.ang.src[a]) ∧
      ∀ a ∈ as, ∃ l, P s.ang.src[a] (as.foldl op s).ang.src[a] l ∧ (NowRaised s → ∀ i ∈ l, Raised (as.foldl op s) (angSrc a i)) := by
  induction as generalizing s with
  | nil => exact ⟨.refl s, fun _ _ => rfl, fun _ h => absurd h List.not_mem_nil⟩
  | cons b as ih =>
    obtain ⟨hb, hn⟩ := List.nodup_cons.1 hn
    obtain ⟨q, l, hone, hP⟩ := hop s b
    obtain ⟨hrest, hout, hin⟩ := ih hn (op s b)
    have hne (a : Fin 8) (h : a ≠ b) : (op s b).ang.src[a] = s.ang.src[a] := (hone.src a).trans (if_neg h)
    rw [List.foldl_cons]
    refine ⟨hone.toSrcsOnly.trans hrest, fun a ha => ?_, fun a ha => ?_⟩
    · obtain ⟨hab, ha⟩ := not_or.1 (mt List.mem_cons.2 ha)
      exact (hout a ha).trans (hne a hab)
    · obtain rfl | ha := List.mem_cons.1 ha
      · exact ⟨l, by rwa [hout a hb, hone.self], fun hs i hi => hrest.kept _ (hone.raised hs i hi)⟩
      · obtain ⟨l, hP, hr⟩ := hin a ha
        exact ⟨l, by rwa [← hne a fun h => hb (h ▸ ha)], fun hs => hr (hone.now hs)⟩

/-! ### The measurement of a VS set (R195) -/

/-- A sum of the powers of two that `f` selects has the selected bits. -/
theorem getLsbD_sum_pow : ∀ (f : Fin 3 → Bool) (i : Fin 3),
    (BitVec.ofNat 3 ((allFin 3).foldl (fun a i => a + if f i = true then 2 ^ i.val else 0) 0)).getLsbD i.val = f i := by decide

theorem vsPresent_getLsbD (vnom : Nat) (rms : Vector (BitVec 16) 3) (i : Fin 3) :
    (vsPresent vnom rms).getLsbD i.val = decide (vnom ≤ 10 * rms[i].toNat) := by
  rw [← getLsbD_sum_pow (fun i => decide (vnom ≤ 10 * rms[i].toNat)) i]
  simp only [vsPresent, decide_eq_true_eq, ge_iff_le]

/-- VS set `v` has measured the voltages `x`, and nothing else has changed but its frequency and the order of its crossings. -/
structure Measured (s t : State) (v : Fin 2) (x : Vector (BitVec 16) 3) : Prop where
  same : ∀ b : Block, b ≠ .ang → b.Same s t
  ang : t.ang = { s.ang with vs := t.ang.vs }
  evr : t.evr = s.evr
  others : ∀ j : Fin 2, j ≠ v → t.ang.vs[j] = s.ang.vs[j]
  rms : t.ang.vs[v].rms = x
  present : t.ang.vs[v].present = vsPresent s.ang.vs[v].vnom.toNat x

theorem measured_vsMeasure (s : State) (v : Fin 2) (rms : Vector (BitVec 16) 3) (mhz : Nat) (seqErr : Bool) :
    Measured s (vsMeasure s v rms mhz seqErr) v rms where
  same _ hb := Block.same_ang _ _ hb
  ang := rfl
  evr := rfl
  others _ hj := vmod_get_ne _ (Ne.symm hj) _
  rms := congrArg VsSet.rms (vmod_get_self ..)
  present := congrArg VsSet.present (vmod_get_self ..)

theorem Measured.vsCross {s t : State} {v : Fin 2} {rms : Vector (BitVec 16) 3} (h : Measured s t v rms) (k : Fin 6) :
    Measured s (vsCross t v k) v rms where
  same b hb := (h.same b hb).trans (Block.same_ang _ _ hb)
  ang := by
    have hang := h.ang
    unfold Machine.vsCross
    rw [hang]
  evr := h.evr
  others j hj := (vmod_get_ne _ (Ne.symm hj) _).trans (h.others j hj)
  rms := (congrArg VsSet.rms (vmod_get_self ..)).trans h.rms
  present := (congrArg VsSet.present (vmod_get_self ..)).trans h.present

theorem toNat_satNat {n v : Nat} (h : v < 2 ^ n) : (satNat n v).toNat = v := by
  rw [satNat, BitVec.toNat_ofNat, Nat.min_eq_left (by omega), Nat.mod_eq_of_lt h]

/-- A command that measures VS set `v` and then changes each source that reads it. -/
theorem does_vsSources {c : Instr} {s u : State} {v : Fin 2} {x : Vector (BitVec 16) 3} {op : State → Fin 8 → State}
    {P : ASrc → ASrc → List Nat → Prop} {Q : State → Prop}
    (hx : exec c s = .next { settle ((vsSources (freshCycle s) v).foldl op u) with pending := s.pending })
    (hu : Measured (freshCycle s) u v x) (hop : ∀ u a, ∃ q l, SrcBecomes u (op u a) a q l ∧ P u.ang.src[a] q l)
    (hq : ∀ t : State, t.ang = { s.ang with src := t.ang.src, vs := t.ang.vs } → t.ang.vs = u.ang.vs →
      (t.ang.vs[v].rms = x ∧ (∀ j : Fin 2, j ≠ v → t.ang.vs[j] = s.ang.vs[j]) ∧
        (∀ i : Fin 3, t.ang.vs[v].present.getLsbD i.val = decide (s.ang.vs[v].vnom.toNat ≤ 10 * x[i].toNat)) ∧
        (∀ a : Fin 8, s.ang.src[a].type ≠ 3 + v.val → t.ang.src[a] = s.ang.src[a])) →
      (∀ a : Fin 8, s.ang.src[a].type = 3 + v.val →
        ∃ l, P s.ang.src[a] t.ang.src[a] l ∧ (Settled s → ∀ i ∈ l, Raised t (angSrc a i))) → Q t) : Does c s [.ang] Q := by
  obtain ⟨hsame, hang, hevr, hothers, hrms, hpresent⟩ := hu
  obtain ⟨honly, hout, hin⟩ := foldl_srcBecomes hop _ (nodup_vsSources (freshCycle s) v) u
  have hsrc : u.ang.src = s.ang.src := (congrArg (·.src) hang).trans (by rw [freshCycle_ang])
  have hmem (a : Fin 8) : a ∈ vsSources (freshCycle s) v ↔ s.ang.src[a].type = 3 + v.val := by rw [mem_vsSources, freshCycle_ang]
  have hend : (settle ((vsSources (freshCycle s) v).foldl op u)).ang = ((vsSources (freshCycle s) v).foldl op u).ang := settle_ang _
  have hvs : ((vsSources (freshCycle s) v).foldl op u).ang.vs = u.ang.vs := congrArg (·.vs) honly.ang
  rw [freshCycle_ang] at hang hothers hpresent
  rw [hsrc] at hout hin
  refine does_of (f := fun _ => (vsSources (freshCycle s) v).foldl op u) hx
    (fun b hb => (hsame b (by simpa using hb)).trans (honly.same b (by simpa using hb))) (hq _ ?_ ?_ ⟨?_, ?_, ?_, ?_⟩ ?_)
  all_goals dsimp only; rw [hend]
  · rw [hvs]
    exact honly.ang.trans (by rw [hang])
  · exact hvs
  · rw [hvs, hrms]
  · rw [hvs]
    exact hothers
  · rw [hvs, hpresent]
    exact vsPresent_getLsbD _ x
  · exact fun a ha => hout a (mt (hmem a).1 ha)
  · intro a ha
    obtain ⟨l, hP, hr⟩ := hin a ((hmem a).2 ha)
    exact ⟨l, hP, fun hs i hi => (hr ((NowRaised.of_settled hs).freshCycle.congr hevr) i hi).settle.congr rfl⟩

/-- What NO_VOLTAGE makes of a source: one that is not lost is lost with cause 5. -/
def ASrc.Unpowered (r q : ASrc) (l : List Nat) : Prop := if r.loss then q = r else q = r.lost 5 ∧ l = 4 :: r.syncLost []

theorem srcBecomes_unpowered (u : State) (a : Fin 8) :
    ∃ q l, SrcBecomes u (if u.ang.src[a].loss then u else loseSource u a 5) a q l ∧ u.ang.src[a].Unpowered q l := by
  have h : SrcBecomes u u a u.ang.src[a] [] := .refl rfl
  unfold ASrc.Unpowered
  split
  · exact ⟨_, _, h, rfl⟩
  · exact ⟨_, _, h.loseSource 5, rfl, rfl⟩

/-- What a zero crossing makes of a source. -/
def ASrc.Crossed (k : Fin 6) (w mhz : Nat) (r q : ASrc) : Prop :=
  q.edgeCnt = r.edgeCnt + 1 ∧ (r.Follows k mhz → q = ASrc.count { r.edgeSeen with lastX := some k, pos := r.pos + 1 } w)

theorem srcBecomes_crossed (k : Fin 6) (w mhz : Nat) (u : State) (a : Fin 8) :
    ∃ q l, SrcBecomes u (crossingEdge u a k w mhz) a q l ∧ u.ang.src[a].Crossed k w mhz q := by
  by_cases hf : u.ang.src[a].Follows k mhz
  · exact ⟨_, _, crossingEdge_follows rfl hf, by rw [ASrc.count_eq]; rfl, fun _ => rfl⟩
  · obtain ⟨q, l, h, hcnt⟩ := crossingEdge_counts (k := k) (w := w) (mhz := mhz) (s := u) (a := a) rfl
    exact ⟨q, l, h, hcnt, fun h => absurd h hf⟩

/-! ### The commands -/

section
variable {s : State}

theorem exec_lineFault {a : Fin 8} (ha : alive s = true) (ht : s.ang.src[a].type = 1) :
    exec (.lineFault a) s = .next { settle (loseSource (freshCycle s) a 1) with pending := s.pending } :=
  guarded_true (by rw [ha, ht]; rfl) (fun u => loseSource u a 1)

theorem exec_standstill {a : Fin 8} (ha : alive s = true) (h1 : 1 ≤ s.ang.src[a].type) (h4 : s.ang.src[a].type ≤ 4)
    (hs : s.ang.src[a].sync = 2) (hst : s.ang.src[a].stillF = false) (hl : s.ang.src[a].loss = false) :
    exec (.standstill a) s = .next { settle (enterStill (freshCycle s) a) with pending := s.pending } :=
  guarded_true (by rw [ha, hs, hst, hl, decide_eq_true h1, decide_eq_true h4]; rfl) (fun u => enterStill u a)

/-- A lasting loss is over, and the source seeks again. -/
def ASrc.recovered (r : ASrc) : ASrc := { r with loss := false, sync := 1 }

theorem exec_lossRecovery {a : Fin 8} (ha : alive s = true) (hl : s.ang.src[a].loss = true) :
    exec (.lossRecovery a) s = .next { settle (modSrc (freshCycle s) a ASrc.recovered) with pending := s.pending } :=
  guarded_true (by rw [ha, hl]; rfl) (fun u => modSrc u a ASrc.recovered)

/-- VS set `v` with the voltages `rms`, its frequency as it was. -/
def vsUnpowered (s : State) (v : Fin 2) (rms : Vector (BitVec 16) 3) : State :=
  vsMeasure s v rms s.ang.vs[v].freq.toNat s.ang.vs[v].seqErr

theorem exec_noVoltage {v : Fin 2} {rms : Vector (BitVec 16) 3} (ha : alive s = true) (hu : s.ang.vs[v].used = true) :
    exec (.noVoltage v rms) s = .next { settle ((vsSources (freshCycle s) v).foldl
      (fun u a => if u.ang.src[a].loss then u else loseSource u a 5) (vsUnpowered (freshCycle s) v rms)) with pending := s.pending } := by
  show execNoVoltage v rms s = _
  unfold execNoVoltage
  rw [guarded_true (by rw [ha, hu]; rfl)]
  rfl

/-- VS set `v` with the measurement that stands with crossing `k`. -/
def vsCrossed (s : State) (v : Fin 2) (k : Fin 6) (rms : Vector (BitVec 16) 3) (mhz : Nat) : State :=
  vsCross (vsMeasure s v rms mhz (reversed s v k)) v k

theorem exec_vsCrossing {v : Fin 2} {k : Fin 6} {w mhz : Nat} {rms : Vector (BitVec 16) 3} (ha : alive s = true)
    (hu : s.ang.vs[v].used = true) (hb : s.pair.await = none) (hw : w < s.stn.lastB + 20000) :
    exec (.vsCrossing v k w rms mhz) s = .next { settle ((vsSources (freshCycle s) v).foldl
      (fun u a => crossingEdge u a k w mhz) (vsCrossed (freshCycle s) v k rms mhz)) with pending := s.pending } :=
  guarded_true (by rw [ha, hu, beforeNext_of hb hw]; rfl) (fun u => (vsSources u v).foldl
    (fun u a => crossingEdge u a k w mhz) (vsCrossed u v k rms mhz))

theorem vsCrossed_freq (v : Fin 2) (k : Fin 6) (rms : Vector (BitVec 16) 3) (mhz : Nat) :
    (vsCrossed s v k rms mhz).ang.vs[v].freq = satNat 24 mhz := by
  simp only [vsCrossed, vsCross, vsMeasure, vmod_get_self]
end

theorem AngBlk.frame_of_src {x y : AngBlk} (h : y = { x with src := y.src }) :
    y.vs = x.vs ∧ y = { x with src := y.src, vs := y.vs } := by
  have hv : y.vs = x.vs := congrArg (·.vs) h
  exact ⟨hv, by rw [hv]; exact h⟩

end Sys2Proof.Machine

open Sys2Proof Sys2Proof.Machine

/-- Settles O35: a loss, a standstill and a zero crossing are each one change of a source, which a VS set makes of each of its sources
in turn. -/
theorem sourceStates : Obligations.SourceStates := by
  intro s ha raised frame lost
  have hlost {t : State} {a : Fin 8} {c : BitVec 3} (hc : c = 1 ∨ c = 5) (hq : t.ang.src[a] = s.ang.src[a].lost c)
      (hr : Settled s → ∀ i ∈ 4 :: s.ang.src[a].syncLost [], Raised t (angSrc a i)) : lost t a c := by
    obtain ⟨h4, h3⟩ := raised_of_lost hr
    simp only [lost, hq]
    obtain rfl | rfl := hc <;> exact ⟨rfl, rfl, rfl, rfl, rfl, h4, h3⟩
  refine ⟨fun a => ?source, fun v rms hu => ⟨?noVoltage, fun k w mhz hb hw => ?crossing⟩⟩
  case source =>
    intro others
    have hself : SrcBecomes (freshCycle s) (freshCycle s) a s.ang.src[a] [] := .refl (by rw [freshCycle_ang])
    have hothers {t : State} (h : t.ang = { s.ang with src := t.ang.src }) (hj : ∀ j : Fin 8, j ≠ a → t.ang.src[j] = s.ang.src[j]) :
        others t := by
      obtain ⟨hv, hf⟩ := AngBlk.frame_of_src h
      exact ⟨hv, hf, hj⟩
    refine ⟨fun ht => ?lineFault, fun h1 h4 hs hst hl => ?still, fun hl => ?recovery⟩
    case lineFault =>
      exact does_srcBecomes (f := fun u => loseSource u a 1) (exec_lineFault ha ht)
        (hself.loseSource 1) fun t hang hj hq hr => ⟨hothers hang hj, hlost (.inl rfl) hq hr⟩
    case still =>
      have hx := exec_standstill ha h1 h4 hs hst hl
      by_cases ht : s.ang.src[a].type = 2
      · refine does_srcBecomes (f := fun u => enterStill u a) hx (hself.enterStill_wheel ht) fun t hang hj hq hr => ?_
        exact ⟨hothers hang hj, congrArg (·.stillF) hq, fun h => hr h 5 (ASrc.mem_syncLost_of_mem List.mem_cons_self),
          fun h => absurd ht h, fun _ => ⟨congrArg (·.sync) hq, fun h => hr h 3 (ASrc.mem_syncLost hs _)⟩⟩
      · refine does_srcBecomes (f := fun u => enterStill u a) hx (hself.enterStill ht) fun t hang hj hq hr => ?_
        exact ⟨hothers hang hj, congrArg (·.stillF) hq, fun h => hr h 5 List.mem_cons_self, fun _ => hq, fun h => absurd h ht⟩
    case recovery =>
      refine (doesSilently_modSrc (exec_lossRecovery ha hl)).imp fun t ht => ?_
      exact ⟨hothers (by rw [ht]; rfl) fun j hj => by rw [ht]; exact vmod_get_ne _ hj.symm _, by rw [ht]; exact modSrc_src_self ..⟩
  case noVoltage =>
    refine does_vsSources (exec_noVoltage ha hu) (measured_vsMeasure ..) srcBecomes_unpowered fun t hf hvs hm hsrc => ⟨hf, hm, fun a ht => ?_⟩
    obtain ⟨l, hP, hr⟩ := hsrc a ht
    unfold ASrc.Unpowered at hP
    split
    · next hl => rwa [if_pos hl] at hP
    · next hl =>
      rw [if_neg hl] at hP
      obtain ⟨hq, rfl⟩ := hP
      exact hlost (.inr rfl) hq hr
  case crossing =>
    refine does_vsSources (P := fun r q _ => r.Crossed k w mhz q) (exec_vsCrossing ha hu hb hw) ((measured_vsMeasure ..).vsCross k)
      (srcBecomes_crossed k w mhz) fun t hf hvs hm hsrc => ⟨hf, hm, fun hlt => ?_, fun a ht => ?_⟩
    · rw [hvs, vsCrossed_freq, toNat_satNat hlt]
    · obtain ⟨l, ⟨hcnt, hq⟩, -⟩ := hsrc a ht
      refine ⟨hcnt, fun hl hs hlo hhi p hp hk => ?_⟩
      rw [hq ⟨hl, hs, hlo, hhi, p, hp, hk⟩, ASrc.count_eq]
      exact ⟨rfl, rfl, hs⟩
end

section
open Sys2Proof Sys2Proof.Machine

/-- Refutes O36: ANGLE_WINDOW does not meet `PassedTo` in every running state. The statement bounds no slew remainder, and in `staleSlew`
5000 ns pass to the window 4000 ns ahead, more than the 500 ppm of R23 allow. No run reaches such a remainder (`Stn.pass` leaves one
below 2000): what fails is the claim over every state, for want of that bound. -/
theorem not_angleEvents : ¬ Obligations.AngleEvents := by
  rintro ⟨h, -⟩
  obtain ⟨⟨t, hx, -, hp, -⟩, -⟩ := h staleSlew (by decide)
  refine not_passedTo_of_time (by rfl) (by decide) ?_ hp
  rw [exec_angleWindow_stn (by decide) hx, freshCycle_of_intake rfl]
  exact passTo_staleSlew_time
end

section
/-! What an event makes of a bank and its points: the changes of one bank, of its points and of their diagnostics, with the events that
they raise (R210, R224, R225). -/

namespace Sys2Proof.Machine
open Sys2Proof

/-! ### Changes of one bank and of the points -/

theorem Block.same_fld (s : State) (x : FldBlk) {b : Block} (h : b ≠ .fld) : b.Same s { s with fld := x } := by
  cases b <;> first | rfl | exact fun _ => rfl | exact absurd rfl h

theorem vmod_vmod {α : Type} {n : Nat} (v : Vector α n) (i : Fin n) (f g : α → α) :
    vmod (vmod v i f) i g = vmod v i (fun x => g (f x)) := by simp [vmod]

theorem vmod_same {α : Type} {n : Nat} (v : Vector α n) (i : Fin n) : vmod v i (fun _ => v[i]) = v := by simp [vmod]

/-- Bank `b` has become `k` and the points `p`, with the events `l` of that bank raised, and nothing else has changed on the way from `s`
to `t`. -/
structure BankBecomes (s t : State) (b : Fin 8) (k : Bank) (p : Fin 96 → Pt) (l : List Nat) : Prop where
  same : ∀ x : Block, x ≠ .fld → x.Same s t
  fld : t.fld = { s.fld with banks := vmod s.fld.banks b fun _ => k, pts := t.fld.pts }
  pt : ∀ n : Fin 96, t.fld.pts[n] = p n
  now : NowRaised s → NowRaised t
  raised : NowRaised s → ∀ i ∈ l, Raised t (bankSrc b i)

theorem BankBecomes.refl (s : State) (b : Fin 8) : BankBecomes s s b s.fld.banks[b] (fun n => s.fld.pts[n]) [] where
  same x _ := Block.Same.refl s x
  fld := by rw [vmod_same]
  pt _ := rfl
  now := id
  raised _ _ hi := absurd hi List.not_mem_nil

section
variable {s t : State} {b : Fin 8} {k : Bank} {p : Fin 96 → Pt} {l : List Nat}

theorem BankBecomes.subset (h : BankBecomes s t b k p l) {m : List Nat} (hm : m ⊆ l) : BankBecomes s t b k p m :=
  { h with raised := fun hn i hi => h.raised hn i (hm hi) }

theorem BankBecomes.bank (h : BankBecomes s t b k p l) : t.fld.banks[b] = k := by rw [h.fld]; exact vmod_get_self ..

theorem BankBecomes.modBank (h : BankBecomes s t b k p l) (f : Bank → Bank) : BankBecomes s (modBank t b f) b (f k) p l where
  same x hx := (h.same x hx).trans (Block.same_fld _ _ hx)
  fld := by
    have hf := h.fld
    unfold Machine.modBank
    rw [hf]
    dsimp only
    rw [vmod_vmod]
  pt := h.pt
  now hn := (h.now hn).congr rfl
  raised hn i hi := (h.raised hn i hi).congr rfl

theorem BankBecomes.modPt (h : BankBecomes s t b k p l) (n : Fin 96) (f : Pt → Pt) :
    BankBecomes s (modPt t n f) b k (Function.update p n (f (p n))) l where
  same x hx := (h.same x hx).trans (Block.same_fld _ _ hx)
  fld := by
    have hf := h.fld
    unfold Machine.modPt
    rw [hf]
  pt j := by
    simp only [Machine.modPt, vmod_get, h.pt, Function.update_apply, @eq_comm _ n j]
  now hn := (h.now hn).congr rfl
  raised hn i hi := (h.raised hn i hi).congr rfl

theorem BankBecomes.raise (h : BankBecomes s t b k p l) {i : Nat} (hi : i < 16) :
    BankBecomes s (raise t (bankSrc b i)) b k p (i :: l) where
  same x hx := (h.same x hx).trans (same_raise _ _ x)
  fld := by rw [raise_fld]; exact h.fld
  pt := by rw [raise_fld]; exact h.pt
  now hn := (h.now hn).raise _
  raised hn j hj := by
    obtain rfl | hj := List.mem_cons.1 hj
    · exact raised_raise (h.now hn) (by unfold bankSrc; omega)
    · exact (h.raised hn j hj).raise _

/-- A bank and the points as a command's fabric cycle finds them. -/
theorem BankBecomes.fresh (s : State) (b : Fin 8) :
    BankBecomes (freshCycle s) (freshCycle s) b s.fld.banks[b] (fun n => s.fld.pts[n]) [] := by
  simpa only [freshCycle_fld] using BankBecomes.refl (freshCycle s) b

/-- A command that makes of bank `b` the bank `k` and of the points `p`, and raises the events `l` of the bank. -/
theorem does_bankBecomes {c : Instr} {f : State → State} {P : State → Prop}
    (hx : exec c s = .next { settle (f (freshCycle s)) with pending := s.pending })
    (h : BankBecomes (freshCycle s) (f (freshCycle s)) b k p l)
    (hp : ∀ t : State, t.fld = { s.fld with banks := vmod s.fld.banks b fun _ => k, pts := t.fld.pts } →
      (∀ n : Fin 96, t.fld.pts[n] = p n) → (Settled s → ∀ i ∈ l, Raised t (bankSrc b i)) → P t) : Does c s [.fld] P := by
  have hfld : (settle (f (freshCycle s))).fld = (f (freshCycle s)).fld := settle_fld _
  refine does_of hx (fun x hx => h.same x (by simpa using hx)) (hp _ ?_ (fun n => ?_) fun hs i hi => ?_)
  · exact hfld.trans (h.fld.trans (by rw [freshCycle_fld, ← hfld]))
  · exact (congrArg (·.pts[n]) hfld).trans (h.pt n)
  · exact (h.raised (NowRaised.of_settled hs).freshCycle i hi).settle.congr rfl

/-- A command that changes FLD alone and raises nothing. -/
theorem doesSilently_fld {c : Instr} {x : FldBlk} {P : State → Prop}
    (hx : exec c s = .next { settle { freshCycle s with fld := x } with pending := s.pending })
    (hp : ∀ t : State, t.fld = x → P t) : DoesSilently c s [.fld] P :=
  doesSilently_of (f := fun u => { u with fld := x }) hx (fun b hb => Block.same_fld _ _ (by simpa using hb))
    (fun _ => ⟨rfl, rfl, rfl, fun _ => rfl⟩) (hp _ (settle_fld ..))

/-! ### Diagnostics (R224, R225) -/

/-- The bit of a diagnostic in DIAG. -/
def Diag.mask (d : Diag) : BitVec 5 := 1#5 <<< d.idx

/-- A point with other state bits, latched bits and count of its diagnostics. -/
def Pt.withDiag (p : Pt) (diag diagL : BitVec 5) (cnt : BitVec 16) : Pt := { p with diag := diag, diagL := diagL, diagCnt := cnt }

/-- A point at which a diagnostic has been detected. -/
def Pt.detected (p : Pt) (d : Diag) : Pt :=
  p.withDiag (p.diag ||| d.mask) (p.diagL ||| d.mask) (if p.diagL &&& d.mask = 0 then satInc p.diagCnt else p.diagCnt)

theorem modPt_congr {n : Fin 96} {f g : Pt → Pt} (h : f s.fld.pts[n] = g s.fld.pts[n]) : modPt s n f = modPt s n g := by
  unfold Machine.modPt vmod
  rw [h]

theorem modPt_modPt (s : State) (n : Fin 96) (f g : Pt → Pt) : modPt (modPt s n f) n g = modPt s n fun p => g (f p) := by
  simp only [Machine.modPt, vmod_vmod]

theorem diagSet_eq (s : State) (n : Fin 96) (d : Diag) : diagSet s n d =
    if s.fld.pts[n].diagL &&& d.mask = 0 then raise (modPt s n fun p => p.detected d) (bankSrc (bankOf n) (n.val % 12))
    else modPt s n fun p => p.detected d := by
  unfold Machine.diagSet
  by_cases h : s.fld.pts[n].diagL &&& d.mask = 0
  · rw [if_pos h, modPt_congr (g := fun p => p.withDiag (p.diag ||| d.mask) (p.diagL ||| d.mask) (satInc p.diagCnt))
      (by rw [Pt.detected, if_pos h])]
    exact (if_neg (not_not.2 h)).trans (congrArg (raise · _) (modPt_modPt ..))
  · rw [if_neg h, modPt_congr (g := fun p => p.withDiag (p.diag ||| d.mask) (p.diagL ||| d.mask) p.diagCnt)
      (by rw [Pt.detected, if_neg h])]
    exact if_pos h

/-- A diagnostic at a point of the bank, which raises the point's event when it is newly latched. -/
theorem BankBecomes.diagSet (h : BankBecomes s t b k p l) {n : Fin 96} (hn : bankOf n = b) (d : Diag) :
    BankBecomes s (diagSet t n d) b k (Function.update p n ((p n).detected d))
      (if (p n).diagL &&& d.mask = 0 then n.val % 12 :: l else l) := by
  have hset := h.modPt n fun p => p.detected d
  rw [diagSet_eq, h.pt n, hn]
  split
  · exact hset.raise (by omega)
  · exact hset
end

/-! ### The commands of one point -/

section
variable {s : State} {n : Fin 96}

theorem exec_diagDetect {d : Diag} (hf : fieldPowered s (bankOf n) = true) (hd : diagApplies s.fld.pts[n] d = true)
    (hs : d = .supply → s.fld.banks[bankOf n].lp ≠ 2) :
    exec (.diagDetect n d) s = .next { settle (diagSet (freshCycle s) n d) with pending := s.pending } := by
  refine guarded_true ?_ (fun u => diagSet u n d)
  rw [hf, hd]
  simpa [← imp_iff_not_or] using hs

theorem exec_shortCircuitShutoff {w : Word} (hf : fieldPowered s (bankOf n) = true) (hs : s.fld.pts[n].isSwitch = true)
    (hp : s.fld.pts[n].prot = 0) (hw : driven s n = some w) (h0 : w ≠ 0) :
    exec (.shortCircuitShutoff n) s =
      .next { settle (diagSet (modPt (freshCycle s) n fun p => { p with prot := 1 }) n .short) with pending := s.pending } :=
  guarded_true (by rw [hf, hs, hp, hw]; simpa using h0) (fun u => diagSet (modPt u n fun p => { p with prot := 1 }) n .short)

theorem exec_pwmPeriodStart (hf : fieldPowered s (bankOf n) = true) (hm : s.fld.pts[n].mode = 7) (hr : s.fld.pts[n].pwmRun = true) :
    exec (.pwmPeriodStart n) s =
      .next { settle { freshCycle s with fld := (modPt s n Pt.periodStart).fld } with pending := s.pending } := by
  rw [show exec (.pwmPeriodStart n) s = _ from guarded_true (by rw [hf, hm, hr]; rfl) (fun u => modPt u n Pt.periodStart)]
  simp only [modPt, freshCycle_fld]
end

/-! ### The on time of a PWM period (R221) -/

/-- `⌊x / 65536⌋`, or one more where the remainder is a half or above, is within a half of the quotient. -/
theorem rounded_bounds {x g : Nat} {tie : Bool}
    (hg : g = if x % 65536 > 32768 || (x % 65536 = 32768 && tie) then x / 65536 + 1 else x / 65536) :
    65536 * g ≤ x + 32768 ∧ x ≤ 65536 * g + 32768 := by
  split at hg
  · next h =>
    simp only [Bool.or_eq_true, Bool.and_eq_true, decide_eq_true_eq] at h
    omega
  · next h =>
    simp only [Bool.or_eq_true, Bool.and_eq_true, decide_eq_true_eq, not_or] at h
    omega

/-- The on time is none, the whole period, or the rounded one, where both it and the off time last 10 µs. -/
theorem pwmOn_cases (duty period : Nat) :
    pwmOn duty period = 0 ∨ (pwmOn duty period = 100 * period ∧ 10000 ≤ 100 * period) ∨
    ∃ g, pwmOn duty period = 20 * g ∧ 10000 ≤ 20 * g ∧ 10000 ≤ 100 * period - 20 * g ∧
      65536 * g ≤ min duty 65536 * period * 5 + 32768 ∧ min duty 65536 * period * 5 ≤ 65536 * g + 32768 := by
  unfold pwmOn
  extract_lets d x q r g on per
  have hb : 65536 * g ≤ x + 32768 ∧ x ≤ 65536 * g + 32768 := rounded_bounds rfl
  have hx : x ≤ 65536 * (5 * period) := by
    calc x = d * (5 * period) := by ring
      _ ≤ 65536 * (5 * period) := Nat.mul_le_mul_right _ (Nat.min_le_right ..)
  clear_value g
  split
  · exact .inl rfl
  · split
    · exact .inr (.inl ⟨rfl, by omega⟩)
    · exact .inr (.inr ⟨g, rfl, by omega, by omega, hb⟩)

end Sys2Proof.Machine

open Sys2Proof Sys2Proof.Machine

/-- Settles O27: a diagnostic is one change of its point, and the on time is none, the whole period or the rounded one. -/
theorem pointEvents : Obligations.PointEvents := by
  refine ⟨fun s n d hf => ?diag, fun s n hf hm hr => ?pwm, fun duty period => ?onTime⟩
  case diag =>
    intro p sets
    have hfresh := BankBecomes.fresh s (bankOf n)
    have hsets {c : Instr} {f : State → State} {d : Diag} {q : Pt}
        (hx : exec c s = .next { settle (f (freshCycle s)) with pending := s.pending })
        (h : BankBecomes (freshCycle s) (f (freshCycle s)) (bankOf n) s.fld.banks[bankOf n]
          (Function.update (fun j => s.fld.pts[j]) n (q.detected d)) (if q.diagL &&& d.mask = 0 then [n.val % 12] else []))
        (hq : q.diag = p.diag ∧ q.diagL = p.diagL ∧ q.diagCnt = p.diagCnt) : sets c d q := by
      obtain ⟨hd, hl, hc⟩ := hq
      refine does_bankBecomes hx h fun t ht hpt hraised => ?_
      rw [vmod_same] at ht
      refine ⟨congrArg (·.banks) ht, congrArg (·.dist) ht, congrArg (·.distRb) ht, fun j hj => ?_, ?_, fun hnew hs => ?_⟩
      · exact (hpt j).trans (Function.update_of_ne hj ..)
      · rw [hpt n, Function.update_self, ← hd, ← hl, ← hc]
        rfl
      · refine hraised hs (n.val % 12) ?_
        rw [if_pos (by rw [hl]; exact hnew)]
        exact List.mem_singleton_self _
    refine ⟨fun ha hsup => ?_, fun hsw hprot ⟨w, hw, h0⟩ => ?_⟩
    · exact hsets (f := fun u => diagSet u n d) (exec_diagDetect hf ha hsup) (hfresh.diagSet rfl d) ⟨rfl, rfl, rfl⟩
    · refine hsets (d := .short) (q := { p with prot := 1 }) (f := fun u => diagSet (modPt u n fun p => { p with prot := 1 }) n .short)
        (exec_shortCircuitShutoff hf hsw hprot hw h0) ?_ ⟨rfl, rfl, rfl⟩
      simpa only [Function.update_idem, Function.update_self] using
        (hfresh.modPt n fun p => { p with prot := 1 }).diagSet (n := n) rfl .short
  case pwm =>
    refine doesSilently_fld (exec_pwmPeriodStart hf hm hr) fun t ht => ?_
    rw [ht]
    exact ⟨rfl, rfl, rfl, fun j hj => vmod_get_ne _ hj.symm _, vmod_get_self ..⟩
  case onTime =>
    obtain h | ⟨h, hp⟩ | ⟨g, h, hon, hoff, hle, hge⟩ := pwmOn_cases duty period
    all_goals dsimp only; rw [h]
    · omega
    · omega
    · refine ⟨by omega, by omega, .inr (.inr ⟨Nat.mul_mod_right .., ?_, ?_⟩)⟩ <;> omega
end

section
/-! Changes of every point of a bank, and what the events of a bank and the writes of its CTRL make of it (R223, R225–R230). -/

namespace Sys2Proof.Machine
open Sys2Proof

/-! ### The points of a bank -/

theorem mem_pointsOf {b : Fin 8} {n : Fin 96} : n ∈ pointsOf b ↔ bankOf n = b := by simp [pointsOf, mem_allFin]

theorem nodup_pointsOf (b : Fin 8) : (pointsOf b).Nodup := (List.nodup_finRange 96).filter _

/-- The points `p` with those of bank `b` changed by `f`. -/
def onBank (b : Fin 8) (f : Pt → Pt) (p : Fin 96 → Pt) : Fin 96 → Pt := fun n => if n.val / 12 = b.val then f (p n) else p n

theorem onBank_onBank (b : Fin 8) (f g : Pt → Pt) (p : Fin 96 → Pt) : onBank b g (onBank b f p) = onBank b (fun q => g (f q)) p := by
  funext n
  unfold onBank
  split <;> rfl

theorem onBank_id (b : Fin 8) (p : Fin 96 → Pt) : onBank b (fun q => q) p = p := by
  funext n
  unfold onBank
  split <;> rfl

section
variable {s t : State} {b : Fin 8} {k : Bank} {p : Fin 96 → Pt} {l : List Nat}

theorem BankBecomes.foldl {op : State → Fin 96 → State} {f : Pt → Pt}
    (hop : ∀ {t : State} {p : Fin 96 → Pt} (n : Fin 96), bankOf n = b → BankBecomes s t b k p l →
      BankBecomes s (op t n) b k (Function.update p n (f (p n))) l) :
    ∀ (ns : List (Fin 96)), ns.Nodup → (∀ n ∈ ns, bankOf n = b) → ∀ {t : State} {p : Fin 96 → Pt}, BankBecomes s t b k p l →
      BankBecomes s (ns.foldl op t) b k (fun n => if n ∈ ns then f (p n) else p n) l
  | [], _, _, _, _, h => by simpa using h
  | m :: ns, hd, hb, t, p, h => by
    obtain ⟨hm, hd⟩ := List.nodup_cons.1 hd
    have hrest := BankBecomes.foldl hop ns hd (fun n hn => hb n (List.mem_cons_of_mem _ hn)) (hop m (hb m List.mem_cons_self) h)
    rw [List.foldl_cons]
    convert hrest using 1
    funext n
    by_cases hn : n = m
    · subst hn
      simp [hm]
    · simp [hn]

/-- A change of each point of the bank in turn. -/
theorem BankBecomes.pointsOf {op : State → Fin 96 → State} {f : Pt → Pt} (h : BankBecomes s t b k p l)
    (hop : ∀ {t : State} {p : Fin 96 → Pt} (n : Fin 96), bankOf n = b → BankBecomes s t b k p l →
      BankBecomes s (op t n) b k (Function.update p n (f (p n))) l) :
    BankBecomes s ((pointsOf b).foldl op t) b k (onBank b f p) l := by
  convert h.foldl hop _ (nodup_pointsOf b) (fun n hn => mem_pointsOf.1 hn) using 1
  funext n
  simp only [onBank, mem_pointsOf, bankOf, Fin.ext_iff]

theorem BankBecomes.modPtsOf (h : BankBecomes s t b k p l) (f : Pt → Pt) : BankBecomes s (modPtsOf t b f) b k (onBank b f p) l :=
  h.pointsOf fun n _ h => h.modPt n f

theorem fieldPowered_of (hp : s.pwr.power = .run ∨ s.pwr.power = .warm) (h : s.fld.banks[b].fsPow = true) : fieldPowered s b = true := by
  obtain hp | hp := hp <;> rw [fieldPowered, hp, h] <;> rfl

theorem fieldUp_of (hp : s.pwr.power = .run ∨ s.pwr.power = .warm) (h : s.fld.banks[b].fsOk = true) : fieldUp s b = true := by
  obtain hp | hp := hp <;> rw [fieldUp, hp, h] <;> rfl

end

/-! ### A failed field side (R224, R226) -/

/-- A point whose field side has failed: one in use has the diagnostic SUPPLY. -/
def Pt.unsupplied (p : Pt) : Pt := if p.mode ≠ 0 then p.detected .supply else p

theorem BankBecomes.unsupplied {s t : State} {b : Fin 8} {k : Bank} {p : Fin 96 → Pt} {l : List Nat} (h : BankBecomes s t b k p l) :
    BankBecomes s ((Machine.pointsOf b).foldl (fun u n => if u.fld.pts[n].mode ≠ 0 then Machine.diagSet u n .supply else u) t) b k
      (onBank b Pt.unsupplied p) l := by
  refine h.pointsOf fun {t p} n hn h => ?_
  unfold Pt.unsupplied
  rw [h.pt n]
  split
  · refine (h.diagSet hn .supply).subset ?_
    split
    · exact List.subset_cons_self ..
    · exact List.Subset.refl _
  · rwa [Function.update_eq_self]

/-! ### Latched bits (R225) -/

theorem toNat_le_satInc {n : Nat} (c : BitVec n) : c.toNat ≤ (satInc c).toNat := by
  unfold satInc
  split
  · exact Nat.le_refl _
  · next h =>
    have hc : c.toNat ≠ 2 ^ n - 1 := fun e => h (BitVec.eq_of_toNat_eq (by rw [e, BitVec.toNat_allOnes]))
    have hlt : c.toNat + 1 % 2 ^ n < 2 ^ n := by
      have := c.isLt
      have := Nat.mod_le 1 (2 ^ n)
      omega
    rw [BitVec.toNat_add, BitVec.toNat_ofNat, Nat.mod_eq_of_lt hlt]
    exact Nat.le_add_right ..

/-- A point at which the diagnostics of `ds` that meet `c` have been detected. -/
def Pt.detects (c : Diag → Bool) (ds : List Diag) (p : Pt) : Pt := ds.foldl (fun q d => if c d then q.detected d else q) p

/-- What detection sets and leaves: the bits of the diagnostics that meet `c` and the count, which grows; and the rest. -/
structure Pt.Detects (c : Diag → Bool) (ds : List Diag) (p q : Pt) : Prop where
  rest : q = p.withDiag q.diag q.diagL q.diagCnt
  cnt : p.diagCnt.toNat ≤ q.diagCnt.toNat
  diag : ∀ i, q.diag.getLsbD i = (p.diag.getLsbD i || ds.any fun d => c d && d.mask.getLsbD i)
  diagL : ∀ i, q.diagL.getLsbD i = (p.diagL.getLsbD i || ds.any fun d => c d && d.mask.getLsbD i)

theorem Pt.detects_spec (c : Diag → Bool) (ds : List Diag) (p : Pt) : p.Detects c ds (p.detects c ds) := by
  induction ds generalizing p with
  | nil => exact ⟨rfl, Nat.le_refl _, by simp [detects], by simp [detects]⟩
  | cons d ds ih =>
    cases hc : c d
    · have hstep : p.detects c (d :: ds) = p.detects c ds := by simp [detects, hc]
      obtain ⟨hrest, hcnt, hdiag, hlatch⟩ := ih p
      rw [hstep]
      exact ⟨hrest, hcnt, fun i => by simp [hdiag i, hc], fun i => by simp [hlatch i, hc]⟩
    · have hstep : p.detects c (d :: ds) = (p.detected d).detects c ds := by simp [detects, hc]
      obtain ⟨hrest, hcnt, hdiag, hlatch⟩ := ih (p.detected d)
      have hgrows : p.diagCnt.toNat ≤ (p.detected d).diagCnt.toNat := by
        show _ ≤ (ite _ _ _ : BitVec 16).toNat
        split
        · exact toNat_le_satInc _
        · exact Nat.le_refl _
      have hbits (m : BitVec 5) (i : Nat) : ((m ||| d.mask).getLsbD i || ds.any fun d => c d && d.mask.getLsbD i) =
          (m.getLsbD i || (d :: ds).any fun d => c d && d.mask.getLsbD i) := by
        rw [List.any_cons, hc, BitVec.getLsbD_or, Bool.true_and, Bool.or_assoc]
      rw [hstep]
      exact ⟨hrest, hgrows.trans hcnt, fun i => (hdiag i).trans (hbits ..), fun i => (hlatch i).trans (hbits ..)⟩

/-- A diagnostic that stands at the point, is cleared by `mask` and was latched. -/
def Pt.stands (p : Pt) (mask : BitVec 5) (d : Diag) : Bool :=
  p.diag.getLsbD d.idx && mask.getLsbD d.idx && p.diagL.getLsbD d.idx

/-- A point with the latched bits of `mask` cleared, where those that stand latch again. -/
def Pt.relatched (mask : BitVec 5) (p : Pt) : Pt :=
  (p.withDiag p.diag (p.diagL &&& ~~~mask) p.diagCnt).detects (p.stands mask) [.openWire, .short, .over, .rbMis, .supply]

theorem BankBecomes.detects {s t : State} {b : Fin 8} {k : Bank} {p : Fin 96 → Pt} {l : List Nat} {n : Fin 96} (hn : bankOf n = b)
    (c : Diag → Bool) (ds : List Diag) (h : BankBecomes s t b k p l) :
    BankBecomes s (ds.foldl (fun u d => if c d then Machine.diagSet u n d else u) t) b k
      (Function.update p n ((p n).detects c ds)) l := by
  induction ds generalizing t p with
  | nil => simpa only [List.foldl_nil, Pt.detects, Function.update_eq_self] using h
  | cons d ds ih =>
    unfold Pt.detects at ih ⊢
    rw [List.foldl_cons, List.foldl_cons]
    split
    · have hset := ih ((h.diagSet hn d).subset (m := l) (by split <;> simp))
      rwa [Function.update_idem, Function.update_self] at hset
    · exact ih h

theorem BankBecomes.clearLatched {s t : State} {b : Fin 8} {k : Bank} {p : Fin 96 → Pt} {l : List Nat} {n : Fin 96} (hn : bankOf n = b)
    (h : BankBecomes s t b k p l) (mask : BitVec 5) :
    BankBecomes s (clearLatched t n mask) b k (Function.update p n ((p n).relatched mask)) l := by
  have hall := (h.modPt n fun p => p.withDiag p.diag (p.diagL &&& ~~~mask) p.diagCnt).detects hn ((p n).stands mask)
    [.openWire, .short, .over, .rbMis, .supply]
  rw [Function.update_idem, Function.update_self] at hall
  unfold Machine.clearLatched
  rw [h.pt n]
  exact hall

/-- Of all latched bits, those whose condition stands remain. -/
theorem Pt.relatched_all (p : Pt) : ∃ cnt, p.relatched 0b11111#5 = p.withDiag p.diag (p.diagL &&& p.diag) cnt ∧
    p.diagCnt.toNat ≤ cnt.toNat := by
  obtain ⟨hrest, hcnt, hdiag, hlatch⟩ : Pt.Detects _ _ _ (p.relatched 0b11111#5) := Pt.detects_spec ..
  have hd : (p.relatched 0b11111#5).diag = p.diag := by
    refine BitVec.eq_of_getLsbD_eq fun i hi => (hdiag i).trans ?_
    clear hrest hcnt hdiag hlatch
    interval_cases i <;> simp +contextual [stands, Diag.mask, Diag.idx, withDiag]
  have hl : (p.relatched 0b11111#5).diagL = p.diagL &&& p.diag := by
    refine BitVec.eq_of_getLsbD_eq fun i hi => (hlatch i).trans ?_
    clear hrest hcnt hdiag hlatch
    interval_cases i <;> simp [stands, Diag.mask, Diag.idx, withDiag, Bool.and_comm]
  rw [hd, hl] at hrest
  exact ⟨_, hrest, hcnt⟩

/-! ### The commands of a bank -/

/-- A point latched off by the overload of its bank, where it is a switch and not latched off yet (R223). -/
def Pt.overloaded (p : Pt) : Pt := if p.isSwitch && p.prot = 0 then { p with prot := 2 } else p

/-- A point that no longer lacks its supply (R224). -/
def Pt.supplied (p : Pt) : Pt := { p with diag := p.diag &&& 0b01111#5 }

/-- A point of a field side that has started again (R226). -/
def Pt.restarted (now : BitVec 64) (p : Pt) : Pt := { (p.deEnergised).restartInput now false with late := 0 }

/-- What BANK_OVERLOAD makes of a state. -/
def bankOverloaded (s : State) (b : Fin 8) : State :=
  raise (modBank (modPtsOf s b Pt.overloaded) b fun k => { k with ovl := true }) (bankSrc b 15)

/-- A bank with a measurement of L+. -/
def Bank.measured (mv ma : Nat) (k : Bank) : Bank :=
  { k with lp := supplyClass 12000 16000 mv k.lp, volt := satNat 16 (mv / 10), curr := satNat 16 ma }

/-- What LPLUS_CHANGE makes of a state. -/
def lplusChanged (s : State) (b : Fin 8) (mv ma : Nat) : State :=
  let old := s.fld.banks[b].lp
  let c := supplyClass 12000 16000 mv old
  let s1 := modBank s b (Bank.measured mv ma)
  let s2 := if c = 2 then modPtsOf s1 b (fun p => if p.isOut then p.supplied else p) else s1
  if c ≠ old && c ≠ 2 then raise s2 (bankSrc b 14) else s2

/-- A bank without its field side's converter output or link, de-energised without the former. -/
def bankDown (s : State) (b : Fin 8) (conv : Bool) : State :=
  let s0 := modBank s b (fun k => { k with fsOk := false })
  if conv then modBank (modPtsOf s0 b Pt.deEnergised) b (fun k => { k with fsPow := false, open_ := false }) else s0

/-- What FIELD_SIDE_FAIL makes of a state. -/
def fieldSideFailed (s : State) (b : Fin 8) (conv : Bool) : State :=
  raise ((pointsOf b).foldl (fun u n => if u.fld.pts[n].mode ≠ 0 then diagSet u n .supply else u) (bankDown s b conv)) (bankSrc b 15)

/-- What FIELD_SIDE_RECOVER makes of a state. -/
def fieldSideRecovered (s : State) (b : Fin 8) : State :=
  modPtsOf (fieldSideStart s b false) b (fun p => if p.isOut && s.fld.banks[b].lp ≠ 2#2 then p else p.supplied)

section
variable {s t : State} {b : Fin 8} {k : Bank} {p : Fin 96 → Pt} {l : List Nat}

theorem exec_bankOverload (hf : fieldPowered s b = true) {n : Fin 96} (hn : n ∈ pointsOf b) (hs : s.fld.pts[n].isSwitch = true) :
    exec (.bankOverload b) s = .next { settle (bankOverloaded (freshCycle s) b) with pending := s.pending } := by
  have hany : (pointsOf b).any (fun n => s.fld.pts[n].isSwitch) = true := List.any_eq_true.2 ⟨n, hn, hs⟩
  exact guarded_true (by rw [hf, hany]; rfl) (fun u => bankOverloaded u b)

theorem exec_lplusChange (hf : fieldPowered s b = true) (mv ma : Nat) :
    exec (.lplusChange b mv ma) s = .next { settle (lplusChanged (freshCycle s) b mv ma) with pending := s.pending } :=
  guarded_true hf (fun u => lplusChanged u b mv ma)

theorem exec_fieldSideFail {conv : Bool} (hf : (fieldUp s b || (fieldPowered s b && conv)) = true) :
    exec (.fieldSideFail ⟨b, conv⟩) s = .next { settle (fieldSideFailed (freshCycle s) b conv) with pending := s.pending } :=
  guarded_true hf (fun u => fieldSideFailed u b conv)

theorem exec_shutterExpire (hf : fieldPowered s b = true) (ho : s.fld.banks[b].open_ = true) :
    exec (.shutterExpire b) s = .next { settle (closeBank (freshCycle s) b) with pending := s.pending } :=
  guarded_true (by rw [hf, ho]; rfl) (fun u => closeBank u b)

theorem exec_aoWaitExpire (hf : fieldPowered s b = true) (hw : s.fld.banks[b].aoWait = true) :
    exec (.aoWaitExpire b) s =
      .next { settle (modBank (freshCycle s) b fun k => { k with aoWait := false }) with pending := s.pending } :=
  guarded_true (by rw [hf, hw]; rfl) (fun u => modBank u b fun k => { k with aoWait := false })

theorem exec_fieldSideRecover (hp : s.pwr.power = .run ∨ s.pwr.power = .warm) (hf : s.fld.banks[b].fsOk = false) :
    exec (.fieldSideRecover b) s = .next { settle (fieldSideRecovered (freshCycle s) b) with pending := s.pending } :=
  guarded_true (by obtain hp | hp := hp <;> rw [hp, hf] <;> rfl) (fun u => fieldSideRecovered u b)

theorem BankBecomes.raise_if (h : BankBecomes s t b k p l) {i : Nat} (hi : i < 16) (c : Bool) :
    BankBecomes s (if c then Machine.raise t (bankSrc b i) else t) b k p (if c then i :: l else l) := by
  cases c
  · exact h
  · exact h.raise hi

theorem BankBecomes.bankOverloaded (h : BankBecomes s t b k p l) :
    BankBecomes s (bankOverloaded t b) b { k with ovl := true } (onBank b Pt.overloaded p) (15 :: l) :=
  ((h.modPtsOf _).modBank _).raise (by decide)

theorem BankBecomes.closeBank (h : BankBecomes s t b k p l) :
    BankBecomes s (closeBank t b) b { k with open_ := false, closeCnt := satInc k.closeCnt }
      (onBank b (Pt.toSafe (refNow t)) p) (12 :: l) :=
  ((h.modPtsOf _).modBank _).raise (by decide)

theorem BankBecomes.lplusChanged (h : BankBecomes s t b k p l) (mv ma : Nat) :
    BankBecomes s (lplusChanged t b mv ma) b (k.measured mv ma)
      (onBank b (fun q => if (k.measured mv ma).lp = 2 ∧ q.isOut = true then q.supplied else q) p)
      (if (k.measured mv ma).lp ≠ k.lp ∧ (k.measured mv ma).lp ≠ 2 then 14 :: l else l) := by
  unfold Machine.lplusChanged
  rw [h.bank]
  extract_lets old c s1 s2
  change BankBecomes s _ b _ (onBank b (fun q => if c = 2 ∧ q.isOut = true then q.supplied else q) p)
    (if c ≠ old ∧ c ≠ 2 then _ else _)
  have hm : BankBecomes s s1 b (k.measured mv ma) p l := h.modBank _
  have hpts : BankBecomes s s2 b (k.measured mv ma) (onBank b (fun q => if c = 2 ∧ q.isOut = true then q.supplied else q) p) l := by
    unfold s2
    split
    · next hc => simpa only [hc, true_and] using hm.modPtsOf fun q => if q.isOut then q.supplied else q
    · next hc => simpa only [hc, false_and, if_false, onBank_id] using hm
  simpa only [Bool.and_eq_true, decide_eq_true_eq] using hpts.raise_if (i := 14) (by decide) (c ≠ old && c ≠ 2)

/-- A bank whose field side has failed. -/
def Bank.down (k : Bank) (conv : Bool) : Bank :=
  if conv then { k with fsOk := false, fsPow := false, open_ := false } else { k with fsOk := false }

theorem BankBecomes.bankDown (h : BankBecomes s t b k p l) (conv : Bool) :
    BankBecomes s (bankDown t b conv) b (k.down conv) (onBank b (fun q => if conv then q.deEnergised else q) p) l := by
  have hm := h.modBank fun k => { k with fsOk := false }
  cases conv
  · simp only [Bool.false_eq_true, if_false, onBank_id]
    exact hm
  · exact (hm.modPtsOf _).modBank _

theorem BankBecomes.fieldSideFailed (h : BankBecomes s t b k p l) (conv : Bool) :
    BankBecomes s (fieldSideFailed t b conv) b (k.down conv)
      (onBank b (fun q => Pt.unsupplied (if conv then q.deEnergised else q)) p) (15 :: l) := by
  rw [← onBank_onBank]
  exact (h.bankDown conv).unsupplied.raise (by decide)

theorem BankBecomes.fieldSideRecovered (h : BankBecomes s t b k p l) :
    BankBecomes s (fieldSideRecovered t b) b { k with fsOk := true, fsPow := true, open_ := false, drive := false, aoWait := false }
      (onBank b (fun q => if q.isOut && k.lp ≠ 2#2 then q.restarted t.stn.time else (q.restarted t.stn.time).supplied) p) l := by
  have hr := ((h.modPtsOf (Pt.restarted t.stn.time)).modBank fun k =>
    { k with fsOk := true, fsPow := true, open_ := false, drive := false, aoWait := false }).modPtsOf
      fun q => if q.isOut && k.lp ≠ 2#2 then q else q.supplied
  rw [onBank_onBank] at hr
  unfold Machine.fieldSideRecovered
  rw [h.bank]
  exact hr
end

/-- A failed field side changes the diagnostics of a point alone, and gives one in use SUPPLY. -/
theorem Pt.unsupplied_spec (p : Pt) : p.unsupplied = p.withDiag p.unsupplied.diag p.unsupplied.diagL p.unsupplied.diagCnt ∧
    if p.mode = 0 then p.unsupplied.diag = p.diag ∧ p.unsupplied.diagL = p.diagL
    else p.unsupplied.diag = p.diag ||| 16#5 ∧ p.unsupplied.diagL = p.diagL ||| 16#5 := by
  unfold unsupplied
  by_cases h : p.mode = 0
  · rw [if_neg (not_not.2 h), if_pos h]
    exact ⟨rfl, rfl, rfl⟩
  · rw [if_pos h, if_neg h]
    exact ⟨rfl, rfl, rfl⟩

/-- An output of a recovered field side goes on lacking an L+ that is not good. -/
theorem Pt.restarted_supply (p : Pt) (now : BitVec 64) (lp : BitVec 2) :
    (if p.isOut && lp ≠ 2#2 then p.restarted now else (p.restarted now).supplied) =
      { p.restarted now with diag := if p.isOut = true ∧ lp ≠ 2 then p.diag else p.diag &&& 0b01111#5 } := by
  by_cases h : p.isOut = true ∧ lp ≠ 2
  · rw [if_pos h, if_pos (by simpa using h)]
    rfl
  · rw [if_neg h, if_neg (by simpa using h)]
    rfl

/-- Changing points changes FLD alone. -/
theorem foldl_modPt_eq (f : Pt → Pt) (ns : List (Fin 96)) (s : State) :
    ns.foldl (fun u n => modPt u n f) s = { s with fld := (ns.foldl (fun u n => modPt u n f) s).fld } := by
  induction ns generalizing s with
  | nil => rfl
  | cons n ns ih => rw [List.foldl_cons, ih]; rfl

theorem exec_fldClrCnt {s : State} {sess : Fin 4} (ho : Opened s sess) (b : Fin 8) : exec (.fldClrCnt sess b) s =
    .next { settle { freshCycle s with fld := (fldCtrlWrite (freshCycle s) b false true).fld } with pending := s.pending } := by
  rw [show exec (.fldClrCnt sess b) s = _ from openCmd_of ho fun u => fldCtrlWrite u b false true]
  simp only [fldCtrlWrite, if_true, Bool.false_eq_true, if_false, modPtsOf]
  rw [foldl_modPt_eq]
  rfl

end Sys2Proof.Machine

open Sys2Proof Sys2Proof.Machine

/-- Settles O28: each event is a change of one bank, made of changes of each of its points. -/
theorem bankControl : Obligations.BankControl := by
  refine ⟨fun s b hp => ?event, fun s sess b ho => ⟨?clrDiag, ?clrCnt⟩⟩
  case event =>
    intro bank event noSupply
    have hfresh := BankBecomes.fresh s b
    have hevent {c : Instr} (f : State → State) {k : Bank} {g : Pt → Pt} {l : List Nat} {P : Fin 96 → Pt → Prop} {src : Option Nat}
        (hx : exec c s = .next { settle (f (freshCycle s)) with pending := s.pending })
        (h : BankBecomes (freshCycle s) (f (freshCycle s)) b k (onBank b g fun n => s.fld.pts[n]) l)
        (hP : ∀ n : Fin 96, P n (g s.fld.pts[n])) (hsrc : ∀ i, src = some i → i ∈ l) : event c k P src := by
      refine does_bankBecomes hx h fun t ht hpt hraised => ?_
      refine ⟨?_, fun j hj => ?_, congrArg (·.dist) ht, congrArg (·.distRb) ht, fun n => ?_, fun i hi hs => hraised hs i (hsrc i hi)⟩
      · rw [ht]; exact vmod_get_self ..
      · rw [ht]; exact vmod_get_ne _ hj.symm _
      · rw [hpt n]
        unfold onBank
        split
        · exact hP n
        · rfl
    clear_value event
    have hsome {i : Nat} {l : List Nat} (j : Nat) (h : some i = some j) : j ∈ i :: l := by simp [Option.some.inj h]
    refine ⟨fun hpow => ⟨fun ⟨n, hn, hsw⟩ => ?overload, fun mv ma => ?lplus⟩, fun hok => ?failLink, fun hor => ?failConv,
      fun hpow => ⟨fun hopen => ?expire, fun hwait => ?aoWait⟩, fun hok => ?recover⟩
    case overload =>
      exact hevent (fun u => bankOverloaded u b)
        (exec_bankOverload (fieldPowered_of hp hpow) (mem_pointsOf.2 (Fin.ext hn)) hsw) hfresh.bankOverloaded (fun _ => rfl) hsome
    case lplus =>
      intro c
      refine hevent (fun u => lplusChanged u b mv ma) (exec_lplusChange (fieldPowered_of hp hpow) mv ma)
        (hfresh.lplusChanged mv ma) (fun _ => rfl) fun i hi => ?_
      split at hi
      · next hc => exact (if_pos hc).symm ▸ hsome i hi
      · nomatch hi
    case failLink =>
      refine hevent (fun u => fieldSideFailed u b false) (exec_fieldSideFail (by rw [fieldUp_of hp hok]; rfl))
        (hfresh.fieldSideFailed false) (fun n => s.fld.pts[n].unsupplied_spec) hsome
    case failConv =>
      have hup : (fieldUp s b || (fieldPowered s b && true)) = true := by
        obtain h | h := hor
        · rw [fieldUp_of hp h, Bool.true_or]
        · rw [fieldPowered_of hp h, Bool.and_true, Bool.or_true]
      refine hevent (fun u => fieldSideFailed u b true) (exec_fieldSideFail hup) (hfresh.fieldSideFailed true) (fun n => ?_) hsome
      obtain ⟨hrest, hdiag⟩ := s.fld.pts[n].deEnergised.unsupplied_spec
      rw [if_pos rfl, hrest]
      exact ⟨rfl, rfl, rfl, rfl, rfl, hdiag⟩
    case expire =>
      refine hevent (fun u => closeBank u b) (exec_shutterExpire (fieldPowered_of hp hpow) hopen) hfresh.closeBank (fun n => ?_) hsome
      rw [refNow, freshCycle_stn]
      rfl
    case aoWait =>
      refine hevent (fun u => modBank u b fun k => { k with aoWait := false }) (g := fun q => q) (l := [])
        (exec_aoWaitExpire (fieldPowered_of hp hpow) hwait) ?_ (fun _ => rfl) fun i hi => nomatch hi
      rw [onBank_id]
      exact hfresh.modBank _
    case recover =>
      have hrec := hfresh.fieldSideRecovered
      rw [freshCycle_stn] at hrec
      refine hevent (fun u => fieldSideRecovered u b) (exec_fieldSideRecover hp hok) hrec (fun n => ?_) fun i hi => nomatch hi
      rw [Pt.restarted_supply]
      exact ⟨rfl, rfl, rfl, rfl, rfl, rfl, rfl, rfl, rfl, rfl, rfl⟩
  case clrDiag =>
    refine does_bankBecomes (f := fun u => fldCtrlWrite u b true false) (openCmd_of ho fun u => fldCtrlWrite u b true false)
      ((BankBecomes.fresh s b).pointsOf fun n hn h => h.clearLatched hn _) fun t ht hpt _ => ?_
    rw [vmod_same] at ht
    refine ⟨congrArg (·.banks) ht, congrArg (·.dist) ht, congrArg (·.distRb) ht, fun n => ?_⟩
    rw [hpt n]
    unfold onBank
    obtain ⟨cnt, hcnt, hle⟩ := s.fld.pts[n].relatched_all
    split
    · rw [hcnt]
      exact ⟨rfl, rfl, hle⟩
    · rfl
  case clrCnt =>
    refine doesSilently_fld (exec_fldClrCnt ho b) fun t ht => ?_
    have hclr : BankBecomes (freshCycle s) (fldCtrlWrite (freshCycle s) b false true) b _ _ [] :=
      ((BankBecomes.fresh s b).modPtsOf _).modBank _
    have hfld := hclr.fld
    rw [← ht, freshCycle_fld] at hfld
    refine ⟨congrArg (·.dist) hfld, congrArg (·.distRb) hfld, fun j => ?_, fun n => ?_⟩
    · rw [hfld, vmod_get]
      obtain rfl | hj := eq_or_ne j b
      · exact (if_pos rfl).trans (if_pos rfl).symm
      · exact (if_neg hj.symm).trans (if_neg hj).symm
    · rw [ht, hclr.pt n]
      rfl
end

section
/-! What a command makes of SAF: the operations of the safety function as changes of its block, with the events that they raise
(R242, R247, R251, R252). -/

namespace Sys2Proof.Machine
open Sys2Proof

theorem Block.same_saf (s : State) (x : SafBlk) {b : Block} (h : b ≠ .saf) : b.Same s { s with saf := x } := by
  cases b <;> first | rfl | exact fun _ => rfl | exact absurd rfl h

theorem same_logLedger (s : State) (code source sev : Nat) (payload : List Byte) (b : Block) :
    b.Same s (logLedger s code source sev payload) := by
  cases b <;> first | rfl | exact fun _ => rfl

/-! ### Changes of one part and of each part of SAF -/

/-- SAF with one input, one source or one output changed. -/
def SafBlk.onSi (b : SafBlk) (n : Fin 16) (f : SiCh → SiCh) : SafBlk := { b with si := vmod b.si n f }
@[inherit_doc SafBlk.onSi]
def SafBlk.onTp (b : SafBlk) (k : Fin 4) (f : TpSrc → TpSrc) : SafBlk := { b with tp := vmod b.tp k f }
@[inherit_doc SafBlk.onSi]
def SafBlk.onSo (b : SafBlk) (k : Fin 8) (f : SoOut → SoOut) : SafBlk := { b with so := vmod b.so k f }

/-- SAF with each input, or each output, changed. -/
def SafBlk.eachSi (b : SafBlk) (g : Fin 16 → SiCh → SiCh) : SafBlk := { b with si := Vector.ofFn fun n => g n b.si[n] }
@[inherit_doc SafBlk.eachSi]
def SafBlk.eachSo (b : SafBlk) (g : Fin 8 → SoOut → SoOut) : SafBlk := { b with so := Vector.ofFn fun k => g k b.so[k] }

theorem SafBlk.eachSi_get (b : SafBlk) (g : Fin 16 → SiCh → SiCh) (n : Fin 16) : (b.eachSi g).si[n] = g n b.si[n] := by
  simp [eachSi]

theorem SafBlk.eachSo_get (b : SafBlk) (g : Fin 8 → SoOut → SoOut) (k : Fin 8) : (b.eachSo g).so[k] = g k b.so[k] := by
  simp [eachSo]

theorem SafBlk.onSi_congr {b : SafBlk} {n : Fin 16} {f g : SiCh → SiCh} (h : f b.si[n] = g b.si[n]) : b.onSi n f = b.onSi n g := by
  unfold onSi vmod
  rw [h]

theorem SafBlk.onSi_self {b : SafBlk} {n : Fin 16} {f : SiCh → SiCh} (h : f b.si[n] = b.si[n]) : b.onSi n f = b :=
  (onSi_congr (g := fun _ => b.si[n]) h).trans (by rw [onSi, vmod_same])

theorem SafBlk.onSi_onSi (b : SafBlk) (n : Fin 16) (f g : SiCh → SiCh) : (b.onSi n f).onSi n g = b.onSi n fun c => g (f c) := by
  simp only [onSi, vmod_vmod]

theorem SafBlk.onSo_onSo (b : SafBlk) (k : Fin 8) (f g : SoOut → SoOut) : (b.onSo k f).onSo k g = b.onSo k fun o => g (f o) := by
  simp only [onSo, vmod_vmod]

theorem SafBlk.onSo_congr {b : SafBlk} {k : Fin 8} {f g : SoOut → SoOut} (h : f b.so[k] = g b.so[k]) : b.onSo k f = b.onSo k g := by
  unfold onSo vmod
  rw [h]

theorem SafBlk.onSo_self {b : SafBlk} {k : Fin 8} {f : SoOut → SoOut} (h : f b.so[k] = b.so[k]) : b.onSo k f = b :=
  (onSo_congr (g := fun _ => b.so[k]) h).trans (by rw [onSo, vmod_same])

/-- Changing each element in turn, each in its own way. -/
theorem foldl_vmod_allFin {α : Type} {n : Nat} (g : Fin n → α → α) (v : Vector α n) :
    (allFin n).foldl (fun v i => vmod v i (g i)) v = Vector.ofFn fun i => g i v[i] := by
  have hget (l : List (Fin n)) (hl : l.Nodup) (v : Vector α n) (j : Fin n) :
      (l.foldl (fun v i => vmod v i (g i)) v)[j] = if j ∈ l then g j v[j] else v[j] := by
    induction l generalizing v with
    | nil => rfl
    | cons i l ih =>
      obtain ⟨hi, hl⟩ := List.nodup_cons.1 hl
      rw [List.foldl_cons, ih hl, vmod_get]
      by_cases hij : i = j
      · subst hij; simp [hi]
      · simp [hij, Ne.symm hij]
  refine Vector.ext fun j hj => ?_
  rw [Vector.getElem_ofFn]
  exact (hget _ (List.nodup_finRange n) v ⟨j, hj⟩).trans (if_pos (mem_allFin _))

theorem SafBlk.foldl_onSi (b : SafBlk) (g : Fin 16 → SiCh → SiCh) :
    (allFin 16).foldl (fun b n => b.onSi n (g n)) b = b.eachSi g := by
  unfold eachSi
  rw [← foldl_vmod_allFin g]
  exact List.foldl_hom (fun v => ({ b with si := v } : SafBlk)) (g₁ := fun v n => vmod v n (g n))
    (g₂ := fun b n => b.onSi n (g n)) fun _ _ => rfl

theorem SafBlk.foldl_onSo (b : SafBlk) (g : Fin 8 → SoOut → SoOut) :
    (allFin 8).foldl (fun b k => b.onSo k (g k)) b = b.eachSo g := by
  unfold eachSo
  rw [← foldl_vmod_allFin g]
  exact List.foldl_hom (fun v => ({ b with so := v } : SafBlk)) (g₁ := fun v k => vmod v k (g k))
    (g₂ := fun b k => b.onSo k (g k)) fun _ _ => rfl

/-! ### From one state to another -/

/-- SAF has become `b`, with its events `l` raised, and nothing else has changed on the way from `s` to `t`. -/
structure SafBecomes (s t : State) (b : SafBlk) (l : List Nat) : Prop where
  same : ∀ x : Block, x ≠ .saf → x.Same s t
  saf : t.saf = b
  now : NowRaised s → NowRaised t
  raised : NowRaised s → ∀ i ∈ l, Raised t (safSrc i)

section
variable {s t : State} {b : SafBlk} {l : List Nat}

theorem SafBecomes.refl (s : State) : SafBecomes s s s.saf [] where
  same x _ := Block.Same.refl s x
  saf := rfl
  now := id
  raised _ _ hi := absurd hi List.not_mem_nil

theorem SafBecomes.subset (h : SafBecomes s t b l) {m : List Nat} (hm : m ⊆ l) : SafBecomes s t b m :=
  { h with raised := fun hn i hi => h.raised hn i (hm hi) }

/-- SAF as a command's fabric cycle finds it. -/
theorem SafBecomes.fresh (s : State) : SafBecomes (freshCycle s) (freshCycle s) s.saf [] := by
  simpa only [freshCycle_saf] using SafBecomes.refl (freshCycle s)

theorem SafBecomes.set (h : SafBecomes s t b l) (f : SafBlk → SafBlk) : SafBecomes s { t with saf := f t.saf } (f b) l where
  same x hx := (h.same x hx).trans (Block.same_saf _ _ hx)
  saf := congrArg f h.saf
  now hn := (h.now hn).congr rfl
  raised hn i hi := (h.raised hn i hi).congr rfl

theorem SafBecomes.modSi (h : SafBecomes s t b l) (n : Fin 16) (f : SiCh → SiCh) : SafBecomes s (modSi t n f) (b.onSi n f) l :=
  h.set fun b => b.onSi n f

theorem SafBecomes.modTp (h : SafBecomes s t b l) (k : Fin 4) (f : TpSrc → TpSrc) : SafBecomes s (modTp t k f) (b.onTp k f) l :=
  h.set fun b => b.onTp k f

theorem SafBecomes.modSo (h : SafBecomes s t b l) (k : Fin 8) (f : SoOut → SoOut) : SafBecomes s (modSo t k f) (b.onSo k f) l :=
  h.set fun b => b.onSo k f

theorem SafBecomes.onSi_of {n : Fin 16} {f g : SiCh → SiCh} (h : SafBecomes s t (b.onSi n f) l) (he : g b.si[n] = f b.si[n]) :
    SafBecomes s t (b.onSi n g) l := by
  rwa [SafBlk.onSi_congr he]

theorem SafBecomes.onSi_self {n : Fin 16} {f : SiCh → SiCh} (h : SafBecomes s t b l) (he : f b.si[n] = b.si[n]) :
    SafBecomes s t (b.onSi n f) l := by
  rwa [SafBlk.onSi_self he]

theorem SafBecomes.raise (h : SafBecomes s t b l) {i : Nat} (hi : i < 80) : SafBecomes s (raise t (safSrc i)) b (i :: l) where
  same x hx := (h.same x hx).trans (same_raise _ _ x)
  saf := (raise_saf ..).trans h.saf
  now hn := (h.now hn).raise _
  raised hn j hj := by
    obtain rfl | hj := List.mem_cons.1 hj
    · exact raised_raise (h.now hn) (by unfold safSrc; omega)
    · exact (h.raised hn j hj).raise _

theorem SafBecomes.logLedger (h : SafBecomes s t b l) (code source sev : Nat) (payload : List Byte) :
    SafBecomes s (logLedger t code source sev payload) b l where
  same x hx := (h.same x hx).trans (same_logLedger ..)
  saf := h.saf
  now hn := (h.now hn).congr rfl
  raised hn i hi := (h.raised hn i hi).congr rfl

/-- A change of each input in turn. -/
theorem SafBecomes.inputs (h : SafBecomes s t b l) {op : State → Fin 16 → State} {g : Fin 16 → SiCh → SiCh}
    (hop : ∀ {t : State} {b : SafBlk} (n : Fin 16), SafBecomes s t b l → SafBecomes s (op t n) (b.onSi n (g n)) l) :
    SafBecomes s ((allFin 16).foldl op t) (b.eachSi g) l := by
  rw [← SafBlk.foldl_onSi]
  exact List.foldl_rel (r := fun t b => SafBecomes s t b l) h fun n _ _ _ => hop n

/-- A change of each output in turn. -/
theorem SafBecomes.outputs (h : SafBecomes s t b l) {op : State → Fin 8 → State} {g : Fin 8 → SoOut → SoOut}
    (hop : ∀ {t : State} {b : SafBlk} (k : Fin 8), SafBecomes s t b l → SafBecomes s (op t k) (b.onSo k (g k)) l) :
    SafBecomes s ((allFin 8).foldl op t) (b.eachSo g) l := by
  rw [← SafBlk.foldl_onSo]
  exact List.foldl_rel (r := fun t b => SafBecomes s t b l) h fun k _ _ _ => hop k

/-- A command that makes `b` of SAF and raises its events `l`. -/
theorem does_safBecomes {c : Instr} {f : State → State} {P : State → Prop}
    (hx : exec c s = .next { settle (f (freshCycle s)) with pending := s.pending })
    (h : SafBecomes (freshCycle s) (f (freshCycle s)) b l)
    (hp : ∀ t : State, t.saf = b → (Settled s → ∀ i ∈ l, Raised t (safSrc i)) → P t) : Does c s [.saf] P :=
  does_of hx (fun x hx => h.same x (by simpa using hx)) <| hp _ ((settle_saf _).trans h.saf) fun hs i hi =>
    (h.raised (NowRaised.of_settled hs).freshCycle i hi).settle.congr rfl

/-- A command that changes SAF alone and raises nothing. -/
theorem doesSilently_saf {c : Instr} {P : State → Prop} (g : SafBlk → SafBlk)
    (hx : exec c s = .next { settle { freshCycle s with saf := g (freshCycle s).saf } with pending := s.pending })
    (hp : ∀ t : State, t.saf = g s.saf → P t) : DoesSilently c s [.saf] P :=
  doesSilently_of (f := fun u => { u with saf := g u.saf }) hx (fun b hb => Block.same_saf _ _ (by simpa using hb))
    (fun _ => ⟨rfl, rfl, rfl, fun _ => rfl⟩) (hp _ ((settle_saf _).trans (congrArg g (freshCycle_saf s))))
end

/-! ### Channel faults (R247) -/

/-- A cause as it arises. -/
def ChPend.arisen (cause : Nat) : ChPend := { cause := cause, offNs := 0, offSeen := false, passes := 0 }

/-- The pending causes once `cause` has arisen. -/
def withCause (cause : Nat) (l : List ChPend) : List ChPend :=
  if l.any (fun x => x.cause == cause) then l.map (fun x => if x.cause = cause then .arisen cause else x) else l ++ [.arisen cause]

theorem arisen_mem_withCause (cause : Nat) (l : List ChPend) : ChPend.arisen cause ∈ withCause cause l := by
  unfold withCause
  split
  · next h =>
    obtain ⟨x, hx, hc⟩ := List.any_eq_true.1 h
    exact List.mem_map.2 ⟨x, hx, if_pos (by simpa using hc)⟩
  · simp

/-- An input with a further pending cause. -/
def SiCh.pending (cause : Nat) (c : SiCh) : SiCh := { c with pend := withCause cause c.pend }

/-- An input whose fault has latched. -/
def SiCh.latch (c : SiCh) : SiCh := { c with latched := true, cnt := satInc c.cnt }

/-- An input at which a cause has arisen: the fault latches and counts when none stood. -/
def SiCh.faulted (cause : Nat) (c : SiCh) : SiCh := if c.fault then c.pending cause else (c.pending cause).latch

theorem chFault_eq (s : State) (n : Fin 16) (cause : Nat) : chFault s n cause =
    if s.saf.si[n].fault then modSi s n (SiCh.pending cause)
    else raise (modSi (modSi s n (SiCh.pending cause)) n SiCh.latch) (safSrc 2) := rfl

@[simp] theorem SiCh.faulted_pend (cause : Nat) (c : SiCh) : (c.faulted cause).pend = withCause cause c.pend := by
  unfold faulted; split <;> rfl

@[simp] theorem SiCh.faulted_stuck (cause : Nat) (c : SiCh) : (c.faulted cause).stuck = c.stuck := by unfold faulted; split <;> rfl

@[simp] theorem SiCh.faulted_seenTp (cause : Nat) (c : SiCh) : (c.faulted cause).seenTp = c.seenTp := by unfold faulted; split <;> rfl

theorem SiCh.faulted_of_nil {c : SiCh} (h : c.pend = []) (cause : Nat) :
    c.faulted cause = { c with pend := [.arisen cause], latched := true, cnt := satInc c.cnt } := by
  simp [faulted, fault, pending, latch, withCause, h]

theorem SiCh.cause_faulted (cause : Nat) (c : SiCh) : ∃ p ∈ (c.faulted cause).pend, p.cause = cause :=
  ⟨_, c.faulted_pend cause ▸ arisen_mem_withCause .., rfl⟩

theorem SafBecomes.chFault {s t : State} {b : SafBlk} {l : List Nat} (h : SafBecomes s t b l) (n : Fin 16) (cause : Nat) :
    SafBecomes s (chFault t n cause) (b.onSi n (SiCh.faulted cause)) (if b.si[n].fault then l else 2 :: l) := by
  have hpend := h.modSi n (SiCh.pending cause)
  obtain rfl := h.saf
  rw [chFault_eq]
  split
  · next hf =>
    exact hpend.onSi_of (if_pos hf)
  · next hf =>
    have hlatch := (hpend.modSi n SiCh.latch).raise (i := 2) (by decide)
    rw [SafBlk.onSi_onSi] at hlatch
    exact hlatch.onSi_of (if_neg hf)

/-- Likewise, whatever it raises. -/
theorem SafBecomes.chFaulted {s t : State} {b : SafBlk} {l : List Nat} (h : SafBecomes s t b l) (n : Fin 16) (cause : Nat) :
    SafBecomes s (Machine.chFault t n cause) (b.onSi n (SiCh.faulted cause)) l :=
  (h.chFault n cause).subset (by split <;> simp)

/-! ### Outputs, and the SLE fault (R242, R251, R252) -/

/-- An output in FAULT with the cause. -/
def SoOut.inFault (cause : Nat) (o : SoOut) : SoOut :=
  { o.off with state := 2, latched := true, pend := if o.pend.contains cause then o.pend else o.pend ++ [cause] }

/-- An output at which a cause has arisen: a used one goes to FAULT. -/
def SoOut.faulted (cause : Nat) (o : SoOut) : SoOut := if o.used then o.inFault cause else o

theorem soFault_eq (s : State) (k : Fin 8) (cause : Nat) : soFault s k cause =
    if !s.saf.so[k].used then s
    else if s.saf.so[k].state = 2 then modSo s k (SoOut.inFault cause)
    else raise (modSo s k (SoOut.inFault cause)) (safSrc 4) := rfl

/-- A tripped output. -/
def SoOut.tripped (o : SoOut) : SoOut := { o.off with state := 0, tripCnt := satInc o.tripCnt }

/-- The engine of the SLE once it has stopped. -/
def Engine.halted (g : Engine) : Engine :=
  { g with running := false, window := false, cyc := { g.cyc with phase := .idle, out := [] } }

theorem Engine.SameBut.halted {g h : Engine} (hb : g.SameBut h) : g.halted.SameBut h.halted := by
  unfold SameBut at hb ⊢
  rw [hb]
  rfl

/-- The station with the SLE stopped. -/
def sleStopped (s : State) : State := { s with le := vmod s.le 16 Engine.halted }

/-- SAF with the record of an SLE fault. -/
def SafBlk.inSleFault (cause : Nat) (b : SafBlk) : SafBlk :=
  { b with sleFault := true, sleCause := BitVec.ofNat 3 cause, startReq := false }

/-- SAF after an SLE fault, which is a cause of FAULT for each output. -/
def SafBlk.sleFaulted (cause : Nat) (b : SafBlk) : SafBlk := (b.inSleFault cause).eachSo fun _ => SoOut.faulted 6

theorem sleFault_eq {s : State} (h : s.saf.sleFault = false) (cause instr : Nat) : ∃ payload, sleFault s cause instr =
    raise (logLedger ((allFin 8).foldl (fun u k => soFault u k 6) { sleStopped s with saf := s.saf.inSleFault cause })
      0x3800 noSrc sevMajor payload) (safSrc 0) :=
  ⟨_, if_neg (by simp [h])⟩

theorem SoOut.inFault_spec (cause : Nat) (o : SoOut) :
    (o.inFault cause).state = 2 ∧ (o.inFault cause).hs = false ∧ (o.inFault cause).ls = false ∧ (o.inFault cause).dark = none ∧
    (o.inFault cause).latched = true ∧ cause ∈ (o.inFault cause).pend ∧ (o.inFault cause).tripCnt = o.tripCnt := by
  refine ⟨rfl, rfl, rfl, rfl, rfl, ?_, rfl⟩
  unfold inFault
  dsimp only
  split
  · next hc => simpa using hc
  · simp

section
variable {s t : State} {b : SafBlk} {l : List Nat}

theorem SafBecomes.soFault (h : SafBecomes s t b l) (k : Fin 8) (cause : Nat) :
    SafBecomes s (soFault t k cause) (b.onSo k (SoOut.faulted cause)) l := by
  obtain rfl := h.saf
  rw [soFault_eq]
  cases hu : t.saf.so[k].used
  · rwa [SafBlk.onSo_self (by rw [SoOut.faulted, hu]; rfl)]
  · rw [SafBlk.onSo_congr (f := SoOut.faulted cause) (g := SoOut.inFault cause) (if_pos hu)]
    have hset := h.modSo k (SoOut.inFault cause)
    rw [if_neg (by decide)]
    split
    · exact hset
    · exact (hset.raise (i := 4) (by decide)).subset (List.subset_cons_self ..)

theorem SafBecomes.soTrip (h : SafBecomes s t b l) (k : Fin 8) (cause : Nat) :
    SafBecomes s (soTrip t k cause) (b.onSo k SoOut.tripped) ((8 + k.val) :: l) :=
  ((h.modSo k SoOut.tripped).logLedger ..).raise (by omega)

theorem SafBecomes.sleStopped (h : SafBecomes s t b l) : SafBecomes (sleStopped s) (sleStopped t) b l where
  same x hx := by
    have hsame := h.same x hx
    cases x with
    | le =>
      intro e
      have he := hsame e
      simp only [Machine.sleStopped, vmod_get]
      split
      · next h16 => subst h16; exact Engine.SameBut.halted he
      · exact he
    | _ => exact hsame
  saf := h.saf
  now hn := (h.now (hn.congr rfl)).congr rfl
  raised hn i hi := (h.raised (hn.congr rfl) i hi).congr rfl

/-- An SLE fault where none stood stops the SLE and puts every used output into FAULT. -/
theorem SafBecomes.sleFault (h : SafBecomes s t b l) (hf : b.sleFault = false) (cause instr : Nat) :
    SafBecomes (Machine.sleStopped s) (sleFault t cause instr) (b.sleFaulted cause) (0 :: l) := by
  obtain ⟨payload, heq⟩ := sleFault_eq (h.saf ▸ hf) cause instr
  rw [heq]
  exact (((h.sleStopped.set (SafBlk.inSleFault cause)).outputs fun k h => h.soFault k 6).logLedger ..).raise (by decide)
end

end Sys2Proof.Machine
end

section
/-! SLE faults and the end of the SLE's watchdog (R240–R242). -/

namespace Sys2Proof.Machine
open Sys2Proof

/-- What an SLE fault leaves of the SLE: it has stopped, no scan and no output waits, and its words stay (R242). -/
theorem Engine.halted_spec {g h : Engine} (hb : g.halted.SameBut h) :
    h.running = false ∧ h.cyc.phase = .idle ∧ h.cyc.out = [] ∧ g.SameWords h := by
  unfold SameBut at hb
  rw [hb]
  exact ⟨rfl, rfl, rfl, rfl, rfl, rfl⟩

/-- SAF at the end of the watchdog: the test-pulse sources are off (R241, R242). -/
def SafBlk.watchdogExpired (b : SafBlk) : SafBlk :=
  { b with
    wdExpired := true, wdOn := false
    tp := b.tp.map fun t => { t with high := false, pulsing := false, retry := false } }

theorem outputsFaulted_sleFaulted {s t : State} {b : SafBlk} {cause : Nat} (hso : b.so = s.saf.so) (ht : t.saf = b.sleFaulted cause) :
    OutputsFaulted s t 6 := by
  intro k
  have hk : t.saf.so[k] = s.saf.so[k].faulted 6 := by
    rw [ht, SafBlk.sleFaulted, SafBlk.eachSo_get, ← hso]
    rfl
  rw [hk, SoOut.faulted]
  split
  · obtain ⟨hstate, hhs, hls, hdark, -, hpend, -⟩ := s.saf.so[k].inFault_spec 6
    exact ⟨hstate, hhs, hls, hdark, hpend⟩
  · rfl

/-- A command that stops the SLE, makes `b` of SAF and raises its events `l`. -/
theorem does_sleStopped {s : State} {c : Instr} {f : State → State} {P : State → Prop} {b : SafBlk} {l : List Nat}
    (hx : exec c s = .next { settle (f (freshCycle s)) with pending := s.pending })
    (h : SafBecomes (sleStopped (freshCycle s)) (f (freshCycle s)) b l)
    (hp : ∀ t : State, t.saf = b → s.le[(16 : Fin 17)].halted.SameBut t.le[(16 : Fin 17)] →
      (∀ e : Fin 17, e.val < 16 → s.le[e].SameBut t.le[e]) → (Settled s → ∀ i ∈ l, Raised t (safSrc i)) → P t) :
    Does c s [.saf, .le] P := by
  have hle (e : Fin 17) : (sleStopped (freshCycle s)).le[e].SameBut (settle (f (freshCycle s))).le[e] :=
    (h.same .le (by decide) e).trans (settle_le _ e)
  have hstop : (sleStopped (freshCycle s)).le[(16 : Fin 17)] = (freshCycle s).le[(16 : Fin 17)].halted := vmod_get_self ..
  refine does_of hx (fun x hx => ?_) (hp _ ((settle_saf _).trans h.saf) ?_ (fun e he => ?_) fun hs i hi => ?_)
  · obtain ⟨hsaf, hle⟩ : x ≠ .saf ∧ x ≠ .le := by simpa using hx
    exact (Block.same_le _ _ hle).trans (h.same x hsaf)
  · refine Engine.SameBut.trans ?_ (hstop ▸ hle 16)
    exact Engine.SameBut.halted (freshCycle_le s 16)
  · refine (freshCycle_le s e).trans (Eq.subst (motive := fun g => Engine.SameBut g _) ?_ (hle e))
    exact vmod_get_ne _ (Fin.ne_of_val_ne (by simp; omega)) _
  · exact (h.raised ((NowRaised.of_settled hs).freshCycle.congr rfl) i hi).settle.congr rfl

theorem SleCause.num_lt (c : SleCause) : c.num < 8 := by
  cases c <;> simp [num]

/-! ### The commands -/

/-- What SLE_WATCHDOG_EXPIRE makes of a state. -/
def watchdogEnd (s : State) : State := raise (sleFault { s with saf := s.saf.watchdogExpired } 5 0) (safSrc 1)

/-- What SLE_FAULT makes of a state. -/
def sleFails (c : SleCause) (s : State) : State := sleFault s c.num s.le[(16 : Fin 17)].cyc.pc

section
variable {s : State}

theorem exec_sleWatchdogExpire (ha : alive s = true) (hq : s.pwr.quiet.getLsbD 7 = false) (hon : s.saf.wdOn = true)
    (hexp : s.saf.wdExpired = false) :
    exec .sleWatchdogExpire s = .next { settle (watchdogEnd (freshCycle s)) with pending := s.pending } :=
  guarded_true (by rw [safUp, ha, hq, hon, hexp]; rfl) watchdogEnd

theorem exec_sleFault {c : SleCause} (ha : alive s = true) (hc : sleCan s c = true) :
    exec (.sleFault c) s = .next { settle (sleFails c (freshCycle s)) with pending := s.pending } :=
  guarded_true (by rw [ha, hc]; rfl) (sleFails c)

theorem SafBecomes.watchdogEnd (hf : s.saf.sleFault = false) : SafBecomes (Machine.sleStopped (freshCycle s))
    (watchdogEnd (freshCycle s)) (s.saf.watchdogExpired.sleFaulted 5) [1, 0] :=
  (((SafBecomes.fresh s).set SafBlk.watchdogExpired).sleFault hf 5 0).raise (by decide)
end

end Sys2Proof.Machine

open Sys2Proof Sys2Proof.Machine

/-- Settles O24: both commands are an SLE fault of SAF, the watchdog's on the state with the sources switched off. -/
theorem sleFaults : Obligations.SleFaults := by
  intro s ha hf stops
  have hstops {c : Instr} {f : State → State} {cause : Nat} {b : SafBlk} {l : List Nat} {P : State → Prop} (hcause : cause < 8)
      (hsi : b.si = s.saf.si) (hso : b.so = s.saf.so)
      (hx : exec c s = .next { settle (f (freshCycle s)) with pending := s.pending })
      (h : SafBecomes (sleStopped (freshCycle s)) (f (freshCycle s)) (b.sleFaulted cause) l) (hl : 0 ∈ l)
      (hP : ∀ t, t.saf = b.sleFaulted cause → (Settled s → ∀ i ∈ l, Raised t (safSrc i)) → P t) : stops c cause P := by
    refine does_sleStopped hx h fun t ht hsle hothers hr => ?_
    obtain ⟨hrun, hphase, hout, hwords⟩ := Engine.halted_spec hsle
    refine ⟨by rw [ht]; rfl, ?_, by rw [ht]; rfl, outputsFaulted_sleFaulted hso ht, by rw [ht]; exact hsi, hrun, hphase, hout, hwords,
      hothers, fun hs => hr hs 0 hl, hP t ht hr⟩
    rw [ht]
    exact Nat.mod_eq_of_lt hcause
  clear_value stops
  refine ⟨fun hq hon hexp => ?watchdog, fun c hrun hc => ?fault⟩
  case watchdog =>
    refine hstops (b := s.saf.watchdogExpired) (by decide) rfl rfl (exec_sleWatchdogExpire ha hq hon hexp) (.watchdogEnd hf) (by simp)
      fun t ht hr => ⟨congrArg (·.wdExpired) ht, congrArg (·.wdOn) ht, fun hs => hr hs 1 (by simp), fun k => ?_⟩
    have htp : t.saf.tp = s.saf.watchdogExpired.tp := congrArg (·.tp) ht
    rw [htp]
    simp [SafBlk.watchdogExpired]
  case fault =>
    have hcan : sleCan s c = true := by
      simp only [sleCan, hrun, hf]
      cases c with
      | checker main coded a => exact bne_iff_ne.2 (Ne.symm hc)
      | code v c a => exact bne_iff_ne.2 (Ne.symm hc)
      | overrun => simpa using hc
      | ecc => rfl
    have hfault : stops (.sleFault c) c.num fun t => t.saf.tp = s.saf.tp :=
      hstops c.num_lt rfl rfl (exec_sleFault ha hcan) ((SafBecomes.fresh s).sleFault hf _ _) (by simp)
        fun t ht _ => congrArg (·.tp) ht
    cases c <;> exact hfault
end

section
/-! The safety outputs: loss of their supply, dark tests, shut-off, and the writes of SAF.CTRL (R7, R249–R252). -/

namespace Sys2Proof.Machine
open Sys2Proof

/-! ### Loss of SL+ (R249, R252) -/

/-- SAF without SL+. -/
def SafBlk.supplyLost (b : SafBlk) : SafBlk := { b with lpGone := true }

/-- What SLPLUS_LOSS makes of a state. -/
def supplyLoss (s : State) : State :=
  (allFin 8).foldl (fun u k => if u.saf.so[k].state = 1 then soTrip u k 3 else u) { s with saf := s.saf.supplyLost }

/-- An output that the loss of SL+ trips where it is in ON. -/
def SoOut.lost (o : SoOut) : SoOut := if o.state = 1 then o.tripped else o

/-- The loss of SL+ trips each output in ON: an output that it has changed has raised its event. -/
theorem SafBecomes.supplyLoss {s t : State} {b : SafBlk} {l : List Nat} (h : SafBecomes s t b l) :
    ∃ m, SafBecomes s (supplyLoss t) (b.supplyLost.eachSo fun _ => SoOut.lost) m ∧
      ∀ k : Fin 8, b.so[k].lost = b.so[k] ∨ 8 + k.val ∈ m := by
  have hfold := List.foldl_rel (l := allFin 8) (f := fun u k => if u.saf.so[k].state = 1 then Machine.soTrip u k 3 else u)
    (g := fun c k => c.onSo k SoOut.lost)
    (r := fun u c => ∃ m, SafBecomes s u c m ∧ ∀ k : Fin 8, c.so[k] = b.so[k] ∨ 8 + k.val ∈ m)
    ⟨l, h.set SafBlk.supplyLost, fun _ => .inl rfl⟩ ?step
  case step =>
    rintro k - u c ⟨m, hu, hm⟩
    have hc := hu.saf
    by_cases hon : c.so[k].state = 1
    · refine ⟨(8 + k.val) :: m, ?_, fun j => ?_⟩
      · rw [hc, if_pos hon, SafBlk.onSo_congr (f := SoOut.lost) (g := SoOut.tripped) (if_pos hon)]
        exact hu.soTrip k 3
      · obtain rfl | hj := eq_or_ne j k
        · exact .inr List.mem_cons_self
        · exact (hm j).imp (vmod_get_ne _ hj.symm _).trans (List.mem_cons_of_mem _)
    · have hself : c.onSo k SoOut.lost = c := SafBlk.onSo_self (if_neg hon)
      rw [hc, if_neg hon, hself]
      exact ⟨m, hu, hm⟩
  obtain ⟨m, hu, hm⟩ := hfold
  rw [SafBlk.foldl_onSo] at hu hm
  exact ⟨m, hu, fun k => (SafBlk.eachSo_get b.supplyLost (fun _ => SoOut.lost) k) ▸ hm k⟩

/-! ### Dark tests (R250) -/

/-- An output with a switch off for its dark test. -/
def SoOut.darkened (ls : Bool) (o : SoOut) : SoOut :=
  { o with dark := some ls, hs := if ls then o.hs else false, ls := if ls then false else o.ls }

/-- An output whose dark test has ended. -/
def SoOut.lit (ls : Bool) (o : SoOut) : SoOut := { o with dark := none, hs := o.hs || !ls, ls := o.ls || ls }

/-! ### The commands -/

/-- SAF with a measurement of SL+. -/
def SafBlk.slPlus (mv : Nat) (b : SafBlk) : SafBlk :=
  let c := supplyClass 12000 16000 mv b.lp
  { b with lp := c, lpGone := b.lpGone && c == 0 }

/-- What SL_PLUS_CHANGE makes of a state. -/
def slPlusChanged (mv : Nat) (s : State) : State :=
  let c := supplyClass 12000 16000 mv s.saf.lp
  let t := { s with saf := s.saf.slPlus mv }
  if c ≠ s.saf.lp && c ≠ 2 then raise t (safSrc 7) else t

/-- An output with the causes ended that CLR_SO_FAULT may end (R251). -/
def SoOut.cleared (o : SoOut) : SoOut :=
  if o.state ≠ 2 then o else
  let l := o.pend.filter (fun c => !(c == 4 || (c == 5 && !o.foreign)))
  { o with pend := l, state := if l.isEmpty then 0 else 2 }

/-- SAF after CLR_SO_FAULT. -/
def SafBlk.soCleared (b : SafBlk) : SafBlk := { b with so := b.so.map SoOut.cleared }

/-- What CLR_SO_FAULT makes of an output in FAULT: causes 4 and 5 go, the latter unless the foreign voltage is there. -/
theorem SoOut.cleared_spec {o : SoOut} (h : o.state = 2) :
    (∀ c, c ∈ o.cleared.pend ↔ c ∈ o.pend ∧ c ≠ 4 ∧ (c = 5 → o.foreign = true)) ∧
    (o.cleared.state = if o.cleared.pend = [] then 0 else 2) ∧
    o.cleared = { o with pend := o.cleared.pend, state := o.cleared.state } := by
  rw [cleared, if_neg (not_not.2 h)]
  refine ⟨fun c => ?_, by simp only [List.isEmpty_iff], rfl⟩
  simp only [List.mem_filter, Bool.not_or, Bool.not_and, Bool.not_not, Bool.and_eq_true, Bool.or_eq_true, Bool.not_eq_true',
    beq_eq_false_iff_ne, imp_iff_not_or]

section
variable {s : State} {k : Fin 8}

theorem exec_slplusLoss (ha : alive s = true) (hl : s.saf.lp = 0) :
    exec .slplusLoss s = .next { settle (supplyLoss (freshCycle s)) with pending := s.pending } :=
  guarded_true (by rw [ha, hl]; rfl) supplyLoss

theorem exec_soShutoff (ha : alive s = true) (hon : s.saf.so[k].state = 1) :
    exec (.soShutoff k) s = .next { settle (soFault (freshCycle s) k 4) with pending := s.pending } :=
  guarded_true (by rw [ha, hon]; rfl) fun u => soFault u k 4

theorem exec_darkTest {ls : Bool} (ha : alive s = true) (hon : s.saf.so[k].state = 1) (hd : s.saf.so[k].dark = none)
    (hu : (if ls then usesLs s else usesHs s) = true) :
    exec (.darkTest k ls) s = .next { settle (modSo (freshCycle s) k (SoOut.darkened ls)) with pending := s.pending } :=
  guarded_true (by rw [ha, hon, hd, hu]; rfl) fun u => modSo u k (SoOut.darkened ls)

theorem exec_darkTestEnd {ls : Bool} (ha : alive s = true) (hd : s.saf.so[k].dark = some ls) :
    exec (.darkTestEnd k ls false) s = .next { settle (modSo (freshCycle s) k (SoOut.lit ls)) with pending := s.pending } :=
  guarded_true (by rw [ha, hd]; cases ls <;> rfl) fun u => modSo u k (SoOut.lit ls)

theorem exec_darkTestEnd_conducting {ls : Bool} (ha : alive s = true) (hd : s.saf.so[k].dark = some ls) :
    exec (.darkTestEnd k ls true) s =
      .next { settle (soFault (modSo (freshCycle s) k (SoOut.lit ls)) k (if ls then 2 else 1)) with pending := s.pending } :=
  guarded_true (by rw [ha, hd]; cases ls <;> rfl) fun u => soFault (modSo u k (SoOut.lit ls)) k (if ls then 2 else 1)

theorem exec_slPlusChange (ha : alive s = true) (mv : Nat) :
    exec (.slPlusChange mv) s = .next { settle (slPlusChanged mv (freshCycle s)) with pending := s.pending } :=
  guarded_true ha (slPlusChanged mv)

theorem SafBecomes.slPlusChanged (mv : Nat) : SafBecomes (freshCycle s) (slPlusChanged mv (freshCycle s)) (s.saf.slPlus mv) [] := by
  have hset := (SafBecomes.fresh s).set (SafBlk.slPlus mv)
  unfold Machine.slPlusChanged
  extract_lets c t
  split
  · exact (hset.raise (i := 7) (by decide)).subset (List.nil_subset _)
  · exact hset

theorem doesSilently_clrSoFault {sess : Fin 4} (hw : Windowed s sess 0xA001C) {P : State → Prop}
    (hp : ∀ t : State, t.saf = s.saf.soCleared → P t) : DoesSilently (.clrSoFault sess) s [.saf] P :=
  doesSilently_saf SafBlk.soCleared (keyedCmd_of hw rfl : exec (.clrSoFault sess) s = _) hp

/-- SAF after CLR_CNT (R7). -/
def SafBlk.cntCleared (b : SafBlk) : SafBlk :=
  { b with si := b.si.map (fun c => { c with cnt := 0 }), so := b.so.map (fun o => { o with tripCnt := 0, rejCnt := 0 }) }

theorem safClrCnt_le (u : State) (e : Fin 17) :
    (safClrCnt u).le[e] = if e.val = 16 then { u.le[e] with scanMax := 0 } else u.le[e] := by
  refine (vmod_get ..).trans ?_
  by_cases he : e = 16
  · subst he; rfl
  · rw [if_neg (Ne.symm he)]
    exact (if_neg fun h : e.val = 16 => he (Fin.ext h)).symm

/-- CLR_CNT clears the counts of SAF and the longest scan of the SLE (R7). -/
theorem doesSilently_safClrCnt {sess : Fin 4} (hw : Windowed s sess 0xA001C) : DoesSilently (.safClrCnt sess) s [.saf, .le] fun t =>
    t.saf = s.saf.cntCleared ∧
      ∀ e : Fin 17, Engine.SameBut (if e.val = 16 then { s.le[e] with scanMax := 0 } else s.le[e]) t.le[e] := by
  refine doesSilently_of (f := safClrCnt) (keyedCmd_of hw rfl) (fun x hx => ?_)
    (fun _ => ⟨rfl, rfl, rfl, fun e => ?_⟩) ⟨?_, fun e => ?_⟩
  · obtain ⟨hsaf, hle⟩ : x ≠ .saf ∧ x ≠ .le := by simpa using hx
    exact (Block.same_le _ (safClrCnt (freshCycle s)).le hle).trans (Block.same_saf _ (safClrCnt (freshCycle s)).saf hsaf)
  · rw [safClrCnt_le]
    split <;> rfl
  · exact (settle_saf _).trans (congrArg SafBlk.cntCleared (freshCycle_saf s))
  · refine Engine.SameBut.trans ?_ (settle_le (safClrCnt (freshCycle s)) e)
    have hfresh := freshCycle_le s e
    rw [safClrCnt_le]
    unfold Engine.SameBut at hfresh ⊢
    split
    · rw [hfresh]
    · exact hfresh
end

end Sys2Proof.Machine

open Sys2Proof Sys2Proof.Machine

/-- Settles O26: each command is a change of each output by itself. -/
theorem safetyOutputs : Obligations.SafetyOutputs := by
  intro s ha so faulted
  have hso {c : Instr} (f : State → State) {k : Fin 8} {g : SoOut → SoOut} {P : SoOut → Prop}
      (hx : exec c s = .next { settle (f (freshCycle s)) with pending := s.pending })
      (h : SafBecomes (freshCycle s) (f (freshCycle s)) (s.saf.onSo k g) []) (hP : P (g s.saf.so[k])) : so c k P := by
    refine does_safBecomes hx h fun t ht _ => ?_
    rw [ht]
    exact ⟨rfl, rfl, (vmod_get_self ..).symm ▸ hP, fun j hj => vmod_get_ne _ hj.symm _⟩
  have hfaulted {k : Fin 8} {cause : Nat} {o : SoOut} (hu : o.used = true) (hcnt : o.tripCnt = s.saf.so[k].tripCnt) :
      faulted k cause (o.faulted cause) := by
    obtain ⟨hstate, hhs, hls, hdark, hlatched, hpend, htrip⟩ := o.inFault_spec cause
    rw [SoOut.faulted, if_pos hu]
    exact ⟨hstate, hhs, hls, hdark, hlatched, hpend, htrip.trans hcnt⟩
  clear_value so
  have hfresh := SafBecomes.fresh s
  refine ⟨fun hlp => ?loss, fun k hon hu => ⟨?shutoff, fun ls hd huses => ?dark, fun ls hd => ⟨?light, ?stuck⟩⟩, fun mv => ?slPlus,
    fun sess hw => ⟨?clrFault, ?clrCnt⟩⟩
  case loss =>
    obtain ⟨m, hloss, hm⟩ := hfresh.supplyLoss
    refine does_safBecomes (f := supplyLoss) (exec_slplusLoss ha hlp) hloss fun t ht hr => ?_
    refine ⟨by rw [ht]; rfl, by rw [ht]; rfl, by rw [ht]; rfl, fun k => ⟨?_, fun hon hs => ?_⟩⟩
    · rw [ht, SafBlk.eachSo_get]
      rfl
    · rw [show 440 + k.val = safSrc (8 + k.val) by unfold safSrc; omega]
      refine hr hs _ ((hm k).resolve_left fun he => ?_)
      rw [SoOut.lost, if_pos hon] at he
      have hstate : (0 : BitVec 2) = s.saf.so[k].state := congrArg SoOut.state he
      rw [hon] at hstate
      exact absurd hstate (by decide)
  case shutoff => exact hso (fun u => soFault u k 4) (exec_soShutoff ha hon) (hfresh.soFault k 4) (hfaulted hu rfl)
  case dark =>
    refine hso (fun u => modSo u k (SoOut.darkened ls)) (exec_darkTest ha hon hd huses) (hfresh.modSo k _) ?_
    cases ls <;> simp [SoOut.darkened]
  case light => exact hso (fun u => modSo u k (SoOut.lit ls)) (exec_darkTestEnd ha hd) (hfresh.modSo k _) rfl
  case stuck =>
    have hstuck := (hfresh.modSo k (SoOut.lit ls)).soFault k (if ls then 2 else 1)
    rw [SafBlk.onSo_onSo] at hstuck
    exact hso (fun u => soFault (modSo u k (SoOut.lit ls)) k (if ls then 2 else 1)) (exec_darkTestEnd_conducting ha hd) hstuck
      (hfaulted hu rfl)
  case slPlus =>
    exact does_safBecomes (f := slPlusChanged mv) (exec_slPlusChange ha mv) (.slPlusChanged mv) fun t ht _ => ht
  case clrFault =>
    refine doesSilently_clrSoFault hw fun t ht => ⟨by rw [ht]; rfl, by rw [ht]; rfl, fun k => ?_⟩
    have hk : t.saf.so[k] = s.saf.so[k].cleared := by rw [ht]; exact Vector.getElem_map ..
    rw [hk]
    split
    · next h => exact SoOut.cleared_spec h
    · next h => exact if_pos h
  case clrCnt =>
    refine (doesSilently_safClrCnt hw).imp fun t ⟨ht, hle⟩ => ⟨by rw [ht]; rfl, fun n => ?_, fun k => ?_, hle⟩
    · rw [ht]; exact Vector.getElem_map ..
    · rw [ht]; exact Vector.getElem_map ..
end

section
/-! Test pulses, what they judge at the inputs, and the discrepancies of pairs (R244–R247). -/

namespace Sys2Proof.Machine
open Sys2Proof

/-! ### What a test pulse makes of an input (R245) -/

/-- A pulsed input that has noted its reading just before a pulse of source `k`. -/
def SiCh.noted (k : Fin 4) (x : Bool) (c : SiCh) : SiCh :=
  { c with before := if x then c.before ||| (1#4 <<< k.val) else c.before &&& ~~~(1#4 <<< k.val)
           offAt := c.offAt &&& ~~~(1#4 <<< k.val) }

/-- An input that holds its reading behind its mask. -/
def SiCh.mask (c : SiCh) : SiCh := { c with held := c.reading, masked := true }

/-- An input as the pulse of source `k` begins, just before which it read `x`. -/
def SiCh.pulsed (k : Fin 4) (x : Bool) (c : SiCh) : SiCh :=
  if c.mode ≠ 1 then c else if c.on k then (c.noted k x).mask else c.noted k x

/-- An input that has read ON at the end of its own pulse. -/
def SiCh.missed (c : SiCh) : SiCh := { c with stuck := c.stuck + 1, pend := c.pend.map fun p => { p with passes := 0 } }

/-- An input that has followed its own pulse: a cause that has passed two judgements goes. -/
def SiCh.followed (c : SiCh) : SiCh :=
  { c with
    stuck := 0
    pend := (c.pend.map fun p => if p.offSeen && p.cause ≠ 3 then { p with passes := p.passes + 1 } else p).filter fun p => p.passes < 2 }

/-- An input that the pulse of its own source `k` has judged to read `x`. -/
def SiCh.judged (k : Fin 4) (x : Bool) (c : SiCh) : SiCh :=
  if !c.before.getLsbD k.val then { c with stuck := 0 }
  else if x then (if c.stuck + 1 ≥ 2 then c.missed.faulted 1 else c.missed)
  else c.followed

/-- An input that has read OFF at a pulse of another source. -/
def SiCh.sawOff (k : Fin 4) (c : SiCh) : SiCh := { c with offAt := c.offAt ||| (1#4 <<< k.val) }

/-- An input that reads `x` as the pulse of source `k` ends. -/
def SiCh.pulseEnded (k : Fin 4) (x : Bool) (c : SiCh) : SiCh :=
  if c.on k then c.judged k x else if c.mode = 1 && c.before.getLsbD k.val && !x then c.sawOff k else c

/-- An input that no longer remembers having read OFF at a pulse of source `k`. -/
def SiCh.forgotOff (k : Fin 4) (c : SiCh) : SiCh := { c with offAt := c.offAt &&& ~~~(1#4 <<< k.val) }

/-- An input that has seen a pulse of source `k`. -/
def SiCh.sawPulse (k : Fin 4) (c : SiCh) : SiCh := { c with seenTp := BitVec.ofNat 2 k.val }

/-- An input that reads `x` as the mask of source `k` ends. -/
def SiCh.unmasked (k : Fin 4) (x : Bool) (c : SiCh) : SiCh :=
  if c.on k then { c with masked := false }
  else if c.offAt.getLsbD k.val && x then ((c.forgotOff k).sawPulse k).faulted 2
  else c.forgotOff k

theorem SiCh.mode_of_on {c : SiCh} {k : Fin 4} (h : c.on k = true) : c.mode = 1 := by
  simpa using (Bool.and_eq_true_iff.1 h).1

theorem getLsbD_setAt (m : BitVec 4) (j k : Fin 4) (x : Bool) :
    (if x then m ||| (1#4 <<< k.val) else m &&& ~~~(1#4 <<< k.val)).getLsbD j.val = if j = k then x else m.getLsbD j.val := by
  revert m j k x; decide

theorem SiCh.noted_spec (c : SiCh) (k : Fin 4) (x : Bool) :
    (c.noted k x).before.getLsbD k.val = x ∧ (c.noted k x).offAt.getLsbD k.val = false ∧
    ∀ j : Fin 4, j ≠ k → (c.noted k x).before.getLsbD j.val = c.before.getLsbD j.val :=
  ⟨(getLsbD_setAt ..).trans (if_pos rfl), (getLsbD_setAt c.offAt k k false).trans (if_pos rfl),
    fun _ hj => (getLsbD_setAt ..).trans (if_neg hj)⟩

theorem SiCh.pulsed_spec {c : SiCh} (h : c.mode = 1) (k : Fin 4) (x : Bool) :
    (c.pulsed k x).before.getLsbD k.val = x ∧ (c.pulsed k x).offAt.getLsbD k.val = false ∧
    (∀ j : Fin 4, j ≠ k → (c.pulsed k x).before.getLsbD j.val = c.before.getLsbD j.val) ∧
    (c.on k = true → (c.pulsed k x).masked = true ∧ (c.pulsed k x).held = c.reading) ∧
    (c.on k = false → (c.pulsed k x).masked = c.masked ∧ (c.pulsed k x).held = c.held) := by
  obtain ⟨hbefore, hoff, hothers⟩ := c.noted_spec k x
  rw [pulsed, if_neg (not_not.2 h)]
  cases hon : c.on k
  · exact ⟨hbefore, hoff, hothers, fun h => absurd h (by decide), fun _ => ⟨rfl, rfl⟩⟩
  · exact ⟨hbefore, hoff, hothers, fun _ => ⟨rfl, rfl⟩, fun h => absurd h (by decide)⟩

theorem SiCh.judged_spec (c : SiCh) (k : Fin 4) (x : Bool) :
    (c.before.getLsbD k.val = false → (c.judged k x).stuck = 0 ∧ (c.judged k x).pend = c.pend) ∧
    (c.before.getLsbD k.val = true → x = true →
      (c.judged k x).stuck = c.stuck + 1 ∧ (1 ≤ c.stuck → ∃ p ∈ (c.judged k x).pend, p.cause = 1)) ∧
    (c.before.getLsbD k.val = true → x = false → (c.judged k x).stuck = 0) := by
  unfold judged
  refine ⟨fun hb => ?_, fun hb hx => ?_, fun hb hx => ?_⟩
  · rw [hb]
    exact ⟨rfl, rfl⟩
  · rw [hb, hx, if_neg (by decide), if_pos rfl]
    split
    · exact ⟨faulted_stuck .., fun _ => cause_faulted ..⟩
    · next hs => exact ⟨rfl, fun h => absurd h (by omega)⟩
  · rw [hb, hx]
    rfl

/-- The end of a pulse leaves an input that is not pulsed. -/
theorem SiCh.pulseEnded_of_mode {c : SiCh} (h : c.mode ≠ 1) (k : Fin 4) (x : Bool) : c.pulseEnded k x = c := by
  rw [pulseEnded, if_neg fun hon => h (mode_of_on hon), if_neg (by simp [h])]

/-- An input of another source that read OFF at the pulse and reads ON again has seen a foreign pulse. -/
theorem SiCh.unmasked_foreign {c : SiCh} {k : Fin 4} (hon : c.on k = false) (hoff : c.offAt.getLsbD k.val = true) :
    (c.unmasked k true).seenTp.toNat = k.val ∧ ∃ p ∈ (c.unmasked k true).pend, p.cause = 2 := by
  rw [unmasked, hon, hoff, Bool.and_self, if_neg (by decide), if_pos rfl, faulted_seenTp]
  exact ⟨Nat.mod_eq_of_lt k.isLt, cause_faulted ..⟩

/-! ### The commands of a source (R244, R245) -/

/-- SAF as the pulse of source `k` begins, or its retry while its TP fault stands. -/
def SafBlk.pulseStarted (k : Fin 4) (reads : BitVec 16) (b : SafBlk) : SafBlk :=
  if b.tp[k].fault then b.onTp k fun t => { t with high := true, retry := true }
  else (b.onTp k fun t => { t with high := false, pulsing := true }).eachSi fun n => SiCh.pulsed k (reads.getLsbD n.val)

/-- What the end of a pulse of source `k` makes of input `n`. -/
def pulseEndAt (k : Fin 4) (reads : BitVec 16) (s : State) (n : Fin 16) : State :=
  if s.saf.si[n].on k then judgeOwn s n k (reads.getLsbD n.val)
  else if s.saf.si[n].mode = 1 && s.saf.si[n].before.getLsbD k.val && !reads.getLsbD n.val then modSi s n (SiCh.sawOff k)
  else s

/-- What TP_PULSE_END makes of a state. -/
def pulseEnd (k : Fin 4) (reads : BitVec 16) (s : State) : State :=
  (allFin 16).foldl (pulseEndAt k reads) (modTp s k fun t => { t with high := true, pulsing := false })

/-- What the end of the mask of source `k` makes of input `n`. -/
def maskEndAt (k : Fin 4) (reads : BitVec 16) (s : State) (n : Fin 16) : State :=
  if s.saf.si[n].on k then modSi s n fun c => { c with masked := false }
  else if s.saf.si[n].offAt.getLsbD k.val && reads.getLsbD n.val then
    chFault (modSi (modSi s n (SiCh.forgotOff k)) n (SiCh.sawPulse k)) n 2
  else modSi s n (SiCh.forgotOff k)

/-- A source in TP fault. -/
def TpSrc.failed (overload : Bool) (t : TpSrc) : TpSrc :=
  { t with
    high := false, pulsing := false, retry := false, fault := true, latched := true, freeNs := 0
    cause := if overload then 2 else 1 }

/-- An input whose source `k` is in TP fault. -/
def SiCh.sourceFailed (k : Fin 4) (c : SiCh) : SiCh := if c.on k then c.faulted 4 else c

/-- What TP_FAULT makes of a state. -/
def tpFails (k : Fin 4) (overload : Bool) (s : State) : State :=
  (allFin 16).foldl (fun u n => if u.saf.si[n].on k then chFault u n 4 else u) (raise (modTp s k (TpSrc.failed overload)) (safSrc 3))

/-- A source at the end of its retry. -/
def TpSrc.retried (limit conducted : Bool) (t : TpSrc) : TpSrc :=
  if limit || conducted then { t with high := false, retry := false }
  else { t with high := true, retry := false, fault := false, cause := 0, freeNs := 0 }

theorem judgeOwn_eq (s : State) (n : Fin 16) (k : Fin 4) (x : Bool) : judgeOwn s n k x =
    if !s.saf.si[n].before.getLsbD k.val then modSi s n fun c => { c with stuck := 0 }
    else if x then
      (if s.saf.si[n].stuck + 1 ≥ 2 then chFault (modSi s n SiCh.missed) n 1 else modSi s n SiCh.missed)
    else modSi s n SiCh.followed := rfl

section
variable {s t : State} {b : SafBlk} {l : List Nat} {k : Fin 4} {reads : BitVec 16}

theorem SafBecomes.judgeOwn (h : SafBecomes s t b l) (n : Fin 16) (k : Fin 4) (x : Bool) :
    SafBecomes s (judgeOwn t n k x) (b.onSi n (SiCh.judged k x)) l := by
  obtain rfl := h.saf
  rw [judgeOwn_eq]
  split_ifs with hb hx hs
  · exact (h.modSi n fun c => { c with stuck := 0 }).onSi_of (if_pos hb)
  · have hmissed := (h.modSi n SiCh.missed).chFaulted n 1
    rw [SafBlk.onSi_onSi] at hmissed
    exact hmissed.onSi_of ((if_neg hb).trans ((if_pos hx).trans (if_pos hs)))
  · exact (h.modSi n SiCh.missed).onSi_of ((if_neg hb).trans ((if_pos hx).trans (if_neg hs)))
  · exact (h.modSi n SiCh.followed).onSi_of ((if_neg hb).trans (if_neg hx))

theorem SafBecomes.pulseEndAt (h : SafBecomes s t b l) (n : Fin 16) :
    SafBecomes s (pulseEndAt k reads t n) (b.onSi n (SiCh.pulseEnded k (reads.getLsbD n.val))) l := by
  obtain rfl := h.saf
  unfold Machine.pulseEndAt
  split_ifs with hon hoff
  · exact (h.judgeOwn n k _).onSi_of (if_pos hon)
  · exact (h.modSi n (SiCh.sawOff k)).onSi_of ((if_neg hon).trans (if_pos hoff))
  · exact h.onSi_self ((if_neg hon).trans (if_neg hoff))

theorem SafBecomes.pulseEnd (h : SafBecomes s t b l) : SafBecomes s (pulseEnd k reads t)
    ((b.onTp k fun t => { t with high := true, pulsing := false }).eachSi fun n => SiCh.pulseEnded k (reads.getLsbD n.val)) l :=
  (h.modTp k _).inputs fun n h => h.pulseEndAt n

theorem SafBecomes.maskEndAt (h : SafBecomes s t b l) (n : Fin 16) :
    SafBecomes s (maskEndAt k reads t n) (b.onSi n (SiCh.unmasked k (reads.getLsbD n.val))) l := by
  obtain rfl := h.saf
  unfold Machine.maskEndAt
  split_ifs with hon hoff
  · exact (h.modSi n fun c => { c with masked := false }).onSi_of (if_pos hon)
  · have hsaw := ((h.modSi n (SiCh.forgotOff k)).modSi n (SiCh.sawPulse k)).chFaulted n 2
    rw [SafBlk.onSi_onSi, SafBlk.onSi_onSi] at hsaw
    exact hsaw.onSi_of ((if_neg hon).trans (if_pos hoff))
  · exact (h.modSi n (SiCh.forgotOff k)).onSi_of ((if_neg hon).trans (if_neg hoff))

theorem SafBecomes.tpFails (h : SafBecomes s t b l) (overload : Bool) : SafBecomes s (tpFails k overload t)
    ((b.onTp k (TpSrc.failed overload)).eachSi fun _ => SiCh.sourceFailed k) (3 :: l) := by
  refine ((h.modTp k (TpSrc.failed overload)).raise (i := 3) (by decide)).inputs fun {u c} n hu => ?_
  obtain rfl := hu.saf
  split_ifs with hon
  · exact (hu.chFaulted n 4).onSi_of (if_pos hon)
  · exact hu.onSi_self (if_neg hon)

theorem exec_tpPulseStart (ha : safUp s = true) (hu : tpUsed s k = true) (he : s.saf.wdExpired = false) :
    exec (.tpPulseStart k reads) s =
      .next { settle { freshCycle s with saf := (freshCycle s).saf.pulseStarted k reads } with pending := s.pending } := by
  rw [show exec (.tpPulseStart k reads) s = _ from guarded_true (by rw [ha, hu, he]; rfl) fun u =>
    if u.saf.tp[k].fault then modTp u k fun t => { t with high := true, retry := true } else pulseStart u k reads]
  unfold SafBlk.pulseStarted
  split <;> rfl

theorem exec_tpPulseEnd (ha : safUp s = true) (hp : s.saf.tp[k].pulsing = true) :
    exec (.tpPulseEnd k reads) s = .next { settle (pulseEnd k reads (freshCycle s)) with pending := s.pending } :=
  guarded_true (by rw [ha, hp]; rfl) (pulseEnd k reads)

theorem exec_tpMaskEnd (ha : safUp s = true) {n : Fin 16} (hon : s.saf.si[n].on k = true) (hm : s.saf.si[n].masked = true) :
    exec (.tpMaskEnd k reads) s =
      .next { settle ((allFin 16).foldl (maskEndAt k reads) (freshCycle s)) with pending := s.pending } := by
  have hany : (s.saf.si.toList.any fun c => (c.on k && c.masked) || c.offAt.getLsbD k.val) = true :=
    List.any_eq_true.2 ⟨s.saf.si[n], Vector.mem_toList_iff.2 (Vector.getElem_mem _), by rw [hon, hm]; rfl⟩
  exact guarded_true (by rw [ha, hany]; rfl) fun u => (allFin 16).foldl (maskEndAt k reads) u

theorem exec_tpFault (ha : safUp s = true) (hu : tpUsed s k = true) (hf : s.saf.tp[k].fault = false) {overload : Bool}
    (hc : overload = true ∨ s.saf.tp[k].pulsing = true) :
    exec (.tpFault k overload) s = .next { settle (tpFails k overload (freshCycle s)) with pending := s.pending } :=
  guarded_true (by rw [ha, hu, hf]; simpa using hc) (tpFails k overload)

theorem exec_tpRetryEnd (ha : safUp s = true) (hr : s.saf.tp[k].retry = true) (limit conducted : Bool) :
    exec (.tpRetryEnd k limit conducted) s = .next { settle { freshCycle s with
      saf := (freshCycle s).saf.onTp k (TpSrc.retried limit conducted) } with pending := s.pending } :=
  guarded_true (by rw [ha, hr]; rfl) fun u => modTp u k (TpSrc.retried limit conducted)

/-- A discrepancy of pair `p` of inputs `a` and `b`, of which `a` is the even one. -/
theorem exec_discrepancy (ha : safUp s = true) {p : Fin 8} {a b : Fin 16} (hpa : a.val = 2 * p.val) (hpb : b.val = 2 * p.val + 1)
    (hm : s.saf.si[a].mode ≠ 0) (hp : s.saf.si[a].paired = true) (hfa : s.saf.si[a].pend = []) (hfb : s.saf.si[b].pend = [])
    (hl : onLevel s a ≠ onLevel s b) :
    exec (.discrepancy p) s = .next { settle (chFault (chFault (freshCycle s) a 3) b 3) with pending := s.pending } := by
  have heven : 2 * p.val < 16 := by omega
  obtain rfl : a = ⟨2 * p.val, heven⟩ := Fin.ext hpa
  obtain rfl : b = mateOf ⟨2 * p.val, heven⟩ := Fin.ext (by simp [mateOf, hpb])
  refine guarded_true ?_ fun u => chFault (chFault u ⟨2 * p.val, heven⟩ 3) (mateOf ⟨2 * p.val, heven⟩) 3
  simp only [Bool.and_eq_true]
  exact ⟨⟨⟨⟨⟨ha, bne_iff_ne.2 hm⟩, hp⟩, by rw [SiCh.fault, hfa]; rfl⟩, by rw [SiCh.fault, hfb]; rfl⟩, bne_iff_ne.2 hl⟩
end

/-! ### The parts of SAF after a command -/

/-- SAF with one source and each input changed: the outputs and the other sources are as they were. -/
theorem SafBlk.eachSi_onTp {b c : SafBlk} {k : Fin 4} {f : TpSrc → TpSrc} {g : Fin 16 → SiCh → SiCh} (h : c = (b.onTp k f).eachSi g) :
    (c.so = b.so ∧ ∀ j : Fin 4, j ≠ k → c.tp[j] = b.tp[j]) ∧ c.tp[k] = f b.tp[k] ∧ ∀ n : Fin 16, c.si[n] = g n b.si[n] := by
  subst h
  exact ⟨⟨rfl, fun j hj => vmod_get_ne _ hj.symm _⟩, vmod_get_self .., fun n => eachSi_get ..⟩

/-- SAF with one source changed. -/
theorem SafBlk.onTp_spec {b c : SafBlk} {k : Fin 4} {f : TpSrc → TpSrc} (h : c = b.onTp k f) :
    (c.so = b.so ∧ ∀ j : Fin 4, j ≠ k → c.tp[j] = b.tp[j]) ∧ c.si = b.si ∧ c.tp[k] = f b.tp[k] := by
  subst h
  exact ⟨⟨rfl, fun j hj => vmod_get_ne _ hj.symm _⟩, rfl, vmod_get_self ..⟩

end Sys2Proof.Machine

open Sys2Proof Sys2Proof.Machine

/-- Settles O25: a pulse of a source and its end, its mask's end and its fault are changes of each input by itself. -/
theorem pulseJudgements : Obligations.PulseJudgements := by
  refine ⟨fun s k reads ha hq => ?source, fun s p a b ha hq hpa hpb hm hp hfa hfb hl => ?discrepancy⟩
  case source =>
    intro others src
    have hup : safUp s = true := by rw [safUp, ha, hq]; rfl
    have hfresh := SafBecomes.fresh s
    refine ⟨fun hu he => ⟨fun hf => ?retry, fun hf => ?start⟩, fun hp => ?ended, fun ⟨m, hon, hm⟩ => ?maskEnded,
      fun overload hu hf hc => ?fault, fun limit conducted hr => ?retryEnd⟩
    case retry =>
      refine doesSilently_saf (SafBlk.pulseStarted k reads) (exec_tpPulseStart hup hu he) fun t ht => ?_
      obtain ⟨hothers, hsi, htp⟩ := SafBlk.onTp_spec (ht.trans (if_pos hf))
      exact ⟨hothers, hsi, htp⟩
    case start =>
      refine doesSilently_saf (SafBlk.pulseStarted k reads) (exec_tpPulseStart hup hu he) fun t ht => ?_
      obtain ⟨hothers, htp, hsi⟩ := SafBlk.eachSi_onTp (ht.trans (if_neg (by rw [hf]; decide)))
      refine ⟨hothers, htp, fun n => ?_⟩
      rw [hsi n]
      split
      · next h => exact SiCh.pulsed_spec h ..
      · next h => exact if_pos h
    case ended =>
      refine does_safBecomes (f := pulseEnd k reads) (exec_tpPulseEnd hup hp) hfresh.pulseEnd fun t ht _ => ?_
      obtain ⟨hothers, htp, hsi⟩ := SafBlk.eachSi_onTp ht
      refine ⟨hothers, htp, fun n => ?_⟩
      have hjudged (hon : s.saf.si[n].on k = true) : t.saf.si[n] = s.saf.si[n].judged k (reads.getLsbD n.val) :=
        (hsi n).trans (if_pos hon)
      obtain ⟨hoff, hstuck, hpassed⟩ := s.saf.si[n].judged_spec k (reads.getLsbD n.val)
      exact ⟨fun hm => (hsi n).trans (SiCh.pulseEnded_of_mode hm ..), fun hon => hjudged hon ▸ hoff, fun hon => hjudged hon ▸ hstuck,
        fun hon => hjudged hon ▸ hpassed⟩
    case maskEnded =>
      refine does_safBecomes (f := fun u => (allFin 16).foldl (maskEndAt k reads) u) (exec_tpMaskEnd hup hon hm)
        (hfresh.inputs fun n h => h.maskEndAt n) fun t ht _ => ?_
      have hsi (n : Fin 16) : t.saf.si[n] = s.saf.si[n].unmasked k (reads.getLsbD n.val) := by rw [ht]; exact SafBlk.eachSi_get ..
      refine ⟨⟨by rw [ht]; rfl, fun j _ => by rw [ht]; rfl⟩, by rw [ht]; rfl, fun n => ⟨fun hon => (hsi n).trans (if_pos hon),
        fun hon hoff hx => ?_⟩⟩
      rw [hsi n, hx]
      exact SiCh.unmasked_foreign hon hoff
    case fault =>
      refine does_safBecomes (f := tpFails k overload) (exec_tpFault hup hu hf hc) (hfresh.tpFails overload) fun t ht hr => ?_
      obtain ⟨hothers, htp, hsi⟩ := SafBlk.eachSi_onTp ht
      refine ⟨hothers, fun hs => hr hs 3 List.mem_cons_self, htp, fun n => ?_⟩
      rw [hsi n, SiCh.sourceFailed]
      split
      · exact SiCh.cause_faulted ..
      · rfl
    case retryEnd =>
      refine doesSilently_saf (fun b => b.onTp k (TpSrc.retried limit conducted)) (exec_tpRetryEnd hup hr limit conducted) fun t ht => ?_
      obtain ⟨hothers, hsi, htp⟩ := SafBlk.onTp_spec ht
      exact ⟨hothers, hsi, htp⟩
  case discrepancy =>
    have hup : safUp s = true := by rw [safUp, ha, hq]; rfl
    have hab : a ≠ b := Fin.ne_of_val_ne (by omega)
    have hboth := ((SafBecomes.fresh s).chFault a 3).chFaulted b 3
    rw [if_neg (by rw [SiCh.fault, hfa]; decide)] at hboth
    refine does_safBecomes (f := fun u => chFault (chFault u a 3) b 3) (exec_discrepancy hup hpa hpb hm hp hfa hfb hl) hboth
      fun t ht hr => ⟨by rw [ht]; rfl, by rw [ht]; rfl, fun hs => hr hs 2 List.mem_cons_self, fun n => ?_⟩
    have hn : t.saf.si[n] = if n = a ∨ n = b then s.saf.si[n].faulted 3 else s.saf.si[n] := by
      rw [ht]
      simp only [SafBlk.onSi, vmod_get]
      obtain rfl | hna := eq_or_ne n a
      · simp [hab.symm]
      · obtain rfl | hnb := eq_or_ne n b
        · simp [hab]
        · simp [hna, hnb, hna.symm, hnb.symm]
    rw [hn]
    split
    · next h =>
      refine SiCh.faulted_of_nil ?_ 3
      obtain rfl | rfl := h
      · exact hfa
      · exact hfb
    · rfl
end

section
/-! What every command and the idle cycle keep: nothing is left over, and the queue loses its first command alone (O13, O15, O60). -/

namespace Sys2Proof.Machine
open Sys2Proof

/-- The command answers a next state with the queue it found, and leaves nothing over where nothing was left before it. -/
def KeepsSettled (s : State) (o : Host.Outcome State Fault Refusal) : Prop :=
  ∃ t, o = .next t ∧ t.pending = s.pending ∧ (Settled s → Settled t)

theorem keepsSettled_next (s : State) : KeepsSettled s (.next s) := ⟨s, rfl, rfl, id⟩

theorem keepsSettled_finish (s t : State) : KeepsSettled s (finish s t) :=
  ⟨_, rfl, rfl, fun _ => settle_settled t⟩

theorem keepsSettled_guarded (s : State) (b : Bool) (f : State → State) : KeepsSettled s (guarded s b f) := by
  cases b with
  | false => exact keepsSettled_next s
  | true => exact keepsSettled_finish s _

theorem telegramSend_keepsSettled (t : Fin 64) (s : State) : KeepsSettled s (execTelegramSend t s) := by
  unfold execTelegramSend
  split
  · split <;> exact keepsSettled_guarded ..
  · exact keepsSettled_guarded ..

theorem telegramWatchdog_keepsSettled (r : Fin 128) (s : State) : KeepsSettled s (execTelegramWatchdog r s) := by
  unfold execTelegramWatchdog
  split <;> exact keepsSettled_guarded ..

theorem placedFrameSend_keepsSettled (p : Fin 3) (s : State) : KeepsSettled s (execPlacedFrameSend p s) := by
  unfold execPlacedFrameSend
  split <;> exact keepsSettled_guarded ..

theorem feedChange_keepsSettled (b : Bool) (mv : Nat) (s : State) : KeepsSettled s (execFeedChange b mv s) := by
  unfold execFeedChange
  split
  · exact keepsSettled_next s
  · exact keepsSettled_next s
  · exact keepsSettled_finish ..
  · exact keepsSettled_guarded ..
  · exact keepsSettled_guarded ..

theorem holdupEnd_keepsSettled (s : State) : KeepsSettled s (execHoldupEnd s) := by
  unfold execHoldupEnd
  split
  · exact keepsSettled_finish ..
  · exact keepsSettled_next s

theorem wakeSource_keepsSettled (pins : BitVec 4) (can : BitVec 8) (nreset : Bool) (cnt : BitVec 64) (ok : Bool) (x : PowerIn)
    (s : State) : KeepsSettled s (execWakeSource pins can nreset cnt ok x s) := by
  unfold execWakeSource
  split
  · exact keepsSettled_finish ..
  · exact keepsSettled_next s

theorem selfCheckOutcome_keepsSettled (own partner : Bool) (s : State) : KeepsSettled s (execSelfCheckOutcome own partner s) := by
  unfold execSelfCheckOutcome
  split <;> exact keepsSettled_guarded ..


theorem keepsSettled_logicCmd (i : Instr) (s : State) (e : Fin 17) (k : Fin 5) (n : Nat) (ok : Bool) (f : LCtx → LCtx) :
    KeepsSettled s (logicCmd i s e k n ok f) := keepsSettled_guarded ..

theorem keepsSettled_keyedCmd (s : State) (q : Fin 4) (a : Nat) (f : State → State) : KeepsSettled s (keyedCmd s q a f) :=
  keepsSettled_guarded ..

theorem keepsSettled_openCmd (s : State) (q : Fin 4) (f : State → State) : KeepsSettled s (openCmd s q f) :=
  keepsSettled_guarded ..

theorem keepsSettled_requestCmd (s : State) (op : Byte) (d : Dgram) (need : Nat) (bad : Bool) (f : State → Fin 4 → Sess → OpRes) :
    KeepsSettled s (requestCmd s op d need bad f) := keepsSettled_guarded ..

theorem keepsSettled_ite (s : State) (p : Prop) [Decidable p] (x y : Host.Outcome State Fault Refusal)
    (hx : KeepsSettled s x) (hy : KeepsSettled s y) : KeepsSettled s (if p then x else y) := by split <;> assumption

theorem imgOpen_keepsSettled (d : Dgram) (s : State) : KeepsSettled s (execImgOpen d s) := by
  dsimp only [execImgOpen]
  exact keepsSettled_ite _ _ _ _ (keepsSettled_guarded ..) (keepsSettled_requestCmd ..)

theorem exec_keepsSettled (c : Instr) (s : State) : KeepsSettled s (exec c s) := by
  cases c with
  | telegramSend t => exact telegramSend_keepsSettled t s
  | telegramWatchdog r => exact telegramWatchdog_keepsSettled r s
  | placedFrameSend p => exact placedFrameSend_keepsSettled p s
  | feedChange b mv => exact feedChange_keepsSettled b mv s
  | holdupEnd => exact holdupEnd_keepsSettled s
  | wakeSource pins can nreset cnt ok x => exact wakeSource_keepsSettled pins can nreset cnt ok x s
  | selfCheckOutcome own partner => exact selfCheckOutcome_keepsSettled own partner s
  | imgOpen d => exact imgOpen_keepsSettled d s
  | nop | ld | ldn | and | andn | or | orn | xor | xorn | not | st | stn | set | rst | andOpen | orOpen | xorOpen
    | branchClose | lw | sw | swap | lxr | add | sub | mul | div | mod | neg | abs | addf | subf | mulf | divf | negf
    | absf | sqrtf | itof | ftoi | andw | orw | xorw | notw | shl | shr | sar | eq | ne | gt | ge | lt | le | eqf | nef
    | gtf | gef | ltf | lef | min | max | sel | ltag | qchk | setq | jmp | jc | jcn | loop | call | ret | end_ | evt
    | ton | tof | tp | ctu | ctd | crst | cld | redge | fedge =>
    dsimp only [exec]
    exact keepsSettled_logicCmd ..
  | stop | runCold | runWarm | runHot | release | breakpointSet | step | resume | freeze | leClrStat | engineRestart
    | prepare | commit | discard | forceSet | forceRemove | forceRemoveAll | loopRestart | loopClrCnt | coldReq
    | slotClrCnt | resync | evtCtrlWrite | safClrCnt | clrSoFault | switch | rejoin | pairClrCnt | stackReset | snapReq
    | stkClrCnt | barrierArrive | boffRec | canSleepReq | wakeReq | canClrCnt | swCmdReq | warmReset | sleepReq
    | pwrClrCnt =>
    dsimp only [exec]
    exact keepsSettled_keyedCmd ..
  | dataWrite | registerWrite | fabClrCnt | loopEngClrStat | qpClClrStat | angClrStat | clrDiag | fldClrCnt | netClrCnt
    | logFlush | logClrCnt | evrClrCnt =>
    dsimp only [exec]
    exact keepsSettled_openCmd ..
  | close | read | write | kwrite | imgData | imgEnd | modeOp | logRead | logClearChal | logClear | canCapture | keySet =>
    dsimp only [exec, execRead, execWrite, execKwrite, execImgData, execModeOp, execLogRead, execCanCapture, execKeySet]
    exact keepsSettled_requestCmd ..
  | scanStart | engineFault | loopOutput | loopStall | standstill | angleEventFire | diagDetect | shortCircuitShutoff
    | fieldSideFail | discrepancy | canFrameReceive | canFrameSent | canError | canReferenceSend | canWindowOpen
    | ttSyncLoss | canWake | telegramReceive | arbitrationLoss | canIntegrated =>
    dsimp only [exec, execScanStart, execEngineFault, execLoopOutput, execLoopStall, execStandstill, execAngleEventFire, execDiagDetect
,
      execShortCircuitShutoff, execFieldSideFail, execDiscrepancy, execCanFrameReceive, execCanFrameSent, execCanError,
      execCanReferenceSend, execCanWindowOpen, execTtSyncLoss, execCanWake, execTelegramReceive, execArbitrationLoss,
      execCanIntegrated]
    exact keepsSettled_guarded ..
  | _ =>
    dsimp only [exec]
    exact keepsSettled_guarded s _ _

theorem settled_withPending {s : State} (h : Settled s) (l : List Instr) : Settled { s with pending := l } := h

theorem idle_keepsSettled (s : State) : Settled s → Settled (idle s) := by
  intro h
  unfold idle
  split
  · exact settle_settled _
  · exact h

theorem idle_pending (s : State) : (idle s).pending = s.pending := by
  unfold idle
  split <;> rfl

/-- Settles O13: the step's own case split on the queue. -/
theorem frontCommandRuns : Obligations.FrontCommandRuns :=
  ⟨fun _ _ _ => rfl, fun s h => by unfold step; rw [h]⟩

/-- Settles O15: every command, and the idle cycle, keeps the state settled and finds and leaves the rest of the queue. -/
theorem stepKeepsSettled : Obligations.StepKeepsSettled := by
  intro s t hs hx
  unfold step at hx
  split at hx
  · next hp =>
    obtain rfl : idle s = t := by injection hx
    exact ⟨idle_keepsSettled s hs, by rw [idle_pending, hp]; rfl⟩
  · next c r hp =>
    obtain ⟨u, hu, hq, hk⟩ := exec_keepsSettled c { s with pending := r }
    obtain rfl : u = t := by rw [hx] at hu; injection hu with hu; exact hu.symm
    exact ⟨hk (settled_withPending hs r), by rw [hq, hp]; rfl⟩

/-- Settles O60: the record of the reset state, read field by field. -/
theorem resetStation : Obligations.ResetStation := by
  refine ⟨⟨rfl, rfl⟩, rfl, rfl, rfl, rfl, fun k => ?_, rfl, rfl, fun e => ?_, rfl, fun i => ?_, rfl, fun n => ?_, fun k => ?_,
    fun b => ?_, rfl⟩
  all_goals simp [State.reset, Stn.reset, NetBlk.reset, Evr.reset, CanBlk.reset, FldBlk.reset, CanCtl.reset, Bank.reset]
end Sys2Proof.Machine
end

section
/-! Time passing to the instants of the pair's, the stack's and SLEEP's commands, where the state carries the slew remainder of
`staleSlew` (R17, R23): a heartbeat, a due item, a presence telegram, the digests, the end of a barrier, and a slot of phase 2. -/

namespace Sys2Proof.Machine
open Sys2Proof

/-- STN after a command that comes about in a state in whose LOG nothing waits is that of its effect. -/
theorem stn_of_guarded {s t : State} {b : Bool} {f : State → State} (hb : b = true) (hi : s.log.intake = [])
    (hx : guarded s b f = .next t) : t.stn = (f s).stn := by
  rw [guarded_true hb, freshCycle_of_intake hi] at hx
  cases hx
  exact settle_stn _

@[simp] theorem sendLink_stn (s : State) (x : Sent) : (sendLink s x).stn = s.stn := rfl

@[simp] theorem stkMsg_stn (s : State) (outs : List (Option (Fin 3))) (p : TPkt) : (stkMsg s outs p).stn = s.stn := by
  unfold stkMsg
  split <;> simp

/-- The release of a barrier takes no time. -/
theorem barrierRelease_stn (s : State) (id : BitVec 16) (failed : Bool) : (barrierRelease s id failed).stn = s.stn := by
  unfold barrierRelease barrierEnd
  simp only [apply_ite State.stn, raise_stn, modStk_stn, stkMsg_stn, ite_self]

/-- BARRIER_TIMEOUT takes time to the end of the oldest barrier's 10 ms and nothing more. -/
theorem execBarrierTimeout_stn {s t : State} {c : Collect} {r : List Collect} (ha : alive s = true) (hm : isMaster s = true)
    (hc : s.stk.cols = c :: r) (hi : s.log.intake = []) (hx : exec .barrierTimeout s = .next t) :
    t.stn = (passTo s (c.t0 + 10000000)).stn := by
  change execBarrierTimeout s = _ at hx
  unfold execBarrierTimeout at hx
  rw [stn_of_guarded (by simp [ha, hm, hc]) hi hx]
  simp only [hc, List.head?_cons, barrierRelease_stn]

/-- `staleSlew` at instant `ref` of the tier reference, at a member of a pair in STATE `st`. -/
def stalePair (ref : BitVec 64) (st : BitVec 3) : State :=
  { staleSlew with
    stn := { staleSlew.stn with tierRef := ref }
    pair := { PairBlk.reset with member := true, state := st, hbT := 1000 } }

/-- A station of `stalePair` that runs an image, 4000 ns before a presence telegram is due. -/
def stalePresence : State := { stalePair 496000 0 with img := { Img.reset with running := some [] } }

/-- The master of a stack at which a barrier began at instant 0, 4000 ns before its time-out. -/
def staleBarrier : State :=
  { stalePair 9996000 0 with stk := { StkBlk.reset with role := 2, cols := [{ id := 0, bits := 0, t0 := 0 }] } }

/-- `staleSlew` in phase 2 of SLEEP entry, 4000 ns before its first slot. -/
def staleSlot : State := { staleSlew with pwr := { staleSlew.pwr with entry := .slots 0, bs := 4000 } }

end Sys2Proof.Machine

open Sys2Proof Sys2Proof.Machine

/-- Refutes O45: HEARTBEAT_SEND does not meet `PassedTo` in every running state. The statement bounds no slew remainder, and in `stalePair`
5000 ns pass to the grid instant 4000 ns ahead, more than the 500 ppm of R23 allow. No run reaches such a remainder (`Stn.pass` leaves one
below 2000): what fails is the claim over every state, for want of that bound. -/
theorem not_heartbeats : ¬ Obligations.Heartbeats := by
  intro h
  obtain ⟨⟨t, hx, -, -, hp, -⟩, -⟩ := h (stalePair 2000 0) (by decide) (by decide)
  refine not_passedTo_of_time (by rfl) (by decide) ?_ hp
  rw [stn_of_guarded (b := pairUp (stalePair 2000 0)) (f := heartbeatSend) (by decide) rfl hx]
  decide

/-- Refutes O46: DUE_MISS of a heartbeat does not meet `PassedTo` in every running state, by the slew remainder of `stalePair`: 5000 ns
pass to the due instant 4000 ns ahead, more than the 500 ppm of R23 allow. No run reaches such a remainder (`Stn.pass` leaves one below
2000): what fails is the claim over every state, for want of that bound. -/
theorem not_inputSets : ¬ Obligations.InputSets := by
  intro h
  obtain ⟨hmiss, -⟩ := h (stalePair 2000 0) (by decide) (by decide)
  obtain ⟨hfirst, -⟩ := hmiss 0 (fun _ => rfl) (fun hs => absurd hs (by decide))
  obtain ⟨t, hx, -, hp, -⟩ := hfirst (by decide)
  refine not_passedTo_of_time (by rfl) (by decide) ?_ hp
  rw [stn_of_guarded (b := pairUp (stalePair 2000 0)) (f := fun s => dueMissed s 0) (by decide) rfl hx]
  decide

/-- Refutes O47: PRESENCE_SEND does not meet `PassedTo` in every running state, by the slew remainder of `stalePresence`: 5000 ns pass to
its instant 4000 ns ahead, more than the 500 ppm of R23 allow. No run reaches such a remainder (`Stn.pass` leaves one below 2000): what
fails is the claim over every state, for want of that bound. -/
theorem not_pairRoles : ¬ Obligations.PairRoles := by
  intro h
  obtain ⟨-, -, -, hsend, -⟩ := h stalePresence (by decide)
  obtain ⟨t, hx, -, hp, -⟩ := hsend (by decide) (by decide) (by decide) (by decide)
  refine not_passedTo_of_time (by rfl) (by decide) ?_ hp
  change execPresenceSend stalePresence = _ at hx
  unfold execPresenceSend at hx
  rw [stn_of_guarded (by decide) rfl hx]
  decide

/-- Refutes O48: DIGEST_COMPUTED does not meet `PassedTo` in every running state, by the slew remainder of `stalePair`: 5000 ns pass to
its instant 4000 ns ahead, more than the 500 ppm of R23 allow. No run reaches such a remainder (`Stn.pass` leaves one below 2000): what
fails is the claim over every state, for want of that bound. -/
theorem not_digestsAndSync : ¬ Obligations.DigestsAndSync := by
  intro h
  obtain ⟨hdigest, -⟩ := h (stalePair 496000 4) (by decide) (by decide)
  obtain ⟨t, hx, -, hp, -⟩ := hdigest (.inr rfl)
  refine not_passedTo_of_time (by rfl) (by decide) ?_ hp
  change execDigestComputed (stalePair 496000 4) = _ at hx
  unfold execDigestComputed at hx
  rw [stn_of_guarded (by decide) rfl hx]
  decide

/-- Refutes O50: BARRIER_TIMEOUT does not meet `PassedTo` in every running state, by the slew remainder of `staleBarrier`: 5000 ns pass to
the time-out 4000 ns ahead, more than the 500 ppm of R23 allow. No run reaches such a remainder (`Stn.pass` leaves one below 2000): what
fails is the claim over every state, for want of that bound. -/
theorem not_stackCommands : ¬ Obligations.StackCommands := by
  intro h
  obtain ⟨-, hrun⟩ := h staleBarrier
  obtain ⟨-, htimeout, -⟩ := hrun (by decide)
  obtain ⟨t, hx, -, -, hp⟩ := htimeout _ _ rfl (.inl rfl)
  refine not_passedTo_of_time (by rfl) (by decide) ?_ hp
  rw [execBarrierTimeout_stn (by decide) (by decide) rfl rfl hx]
  decide

/-- Refutes O58: SLEEP_QUIESCE_SLOT does not meet `PassedTo` in every running state, by the slew remainder of `staleSlot`: 5000 ns pass to
the slot 4000 ns ahead, more than the 500 ppm of R23 allow. No run reaches such a remainder (`Stn.pass` leaves one below 2000): what
fails is the claim over every state, for want of that bound. -/
theorem not_sleep : ¬ Obligations.Sleep := by
  intro h
  obtain ⟨hrun, -⟩ := h staleSlot
  obtain ⟨-, hslots, -⟩ := hrun (by decide)
  obtain ⟨-, hquiet, -⟩ := hslots 0 rfl
  obtain ⟨t, hx, -, -, hp⟩ := hquiet (by decide) (by decide) (by decide)
  refine not_passedTo_of_time (by rfl) (by decide) ?_ hp
  change execSleepQuiesceSlot staleSlot = _ at hx
  unfold execSleepQuiesceSlot at hx
  rw [stn_of_guarded (by decide) rfl hx]
  decide
end

section
/-! A notice of the master's schedule ID at a station whose STK no image gives: a member of pair 0 in the role of a member below (R279, R284). -/

namespace Sys2Proof.Machine
open Sys2Proof

/-- STK after a command that comes about in a state in whose LOG nothing waits is that of its effect. -/
theorem stk_of_guarded {s t : State} {b : Bool} {f : State → State} (hb : b = true) (hi : s.log.intake = [])
    (hx : guarded s b f = .next t) : t.stk = (f s).stk := by
  rw [guarded_true hb, freshCycle_of_intake hi] at hx
  cases hx
  exact settle_stk _

/-- A sound packet on a port that is up does what `packetIn` says of it. -/
theorem exec_portPacket_stk {s t : State} {i : Fin 3} {p : TPkt} (ht : transomUp s = true) (hu : s.stk.up[i] = true)
    (hi : s.log.intake = []) (hx : exec (.transomPacketReceive (.port i) true p) s = .next t) :
    t.stk = (packetIn (packetGood s i) ⟨5 + i.val, by omega⟩ p).stk := by
  change execTransomPacketReceive (.port i) true p s = _ at hx
  exact stk_of_guarded (f := fun s => packetIn (packetGood s i) ⟨5 + i.val, by omega⟩ p) (by simp [ht, hu]) hi hx

/-- A running station of pair 0 whose stack role is 1, as below pair 0, with its upper port up. -/
def memberOfTop : State :=
  { State.reset with
    pwr := { PwrBlk.reset with power := .run }
    stn := { Stn.reset with refOk := true, pllLock := true }
    stk := { StkBlk.reset with member := true, role := 1, up := Vector.replicate 3 true } }

set_option maxRecDepth 8000 in
/-- It becomes the master in the same notice, and MASTER_SCHED reads its own schedule ID. -/
theorem exec_memberOfTop_masterSched {t : State}
    (hx : exec (.transomPacketReceive (.port 0) true (.members 0 1 none)) memberOfTop = .next t) : t.stk.masterSched = 0#16 := by
  rw [exec_portPacket_stk (by decide) (by decide) rfl hx]
  decide

end Sys2Proof.Machine

open Sys2Proof Sys2Proof.Machine

/-- Refutes O49: `NoticeTaken` claims the schedule ID that a notice carries for every member in role 1 whose parent is reachable. In
`memberOfTop`, of pair 0, the pair counts as its own parent, the notice makes the station the master (R279), and its own schedule ID
stands. No run gives a station of pair 0 the role 1: what fails is the claim over every state, for want of `pairNum ≠ 0`. -/
theorem not_stackPackets : ¬ Obligations.StackPackets := by
  intro h
  obtain ⟨-, hrun⟩ := h
  obtain ⟨-, -, -, -, halive⟩ := hrun memberOfTop (.port 0) (.members 0 1 none) (by decide) (by decide) (by simp)
  obtain ⟨-, -, hmembers, -⟩ := halive (by decide)
  obtain ⟨t, hx, -, -, -, -, -, htold⟩ := hmembers 0 1 none rfl
  obtain ⟨hsched, -⟩ := htold rfl rfl rfl (by decide)
  rw [exec_memberOfTop_masterSched hx] at hsched
  exact absurd hsched (by decide)
end

section
/-! IMG_OPEN while DRAM has no room for the transfer (R51, R333). -/

namespace Sys2Proof.Machine
open Sys2Proof

/-- IMG_OPEN for a transfer of one byte, in the session of ID 0, with SEQ 0 and the MAC of that session's empty key. -/
def openOneByte : Dgram :=
  let pl : List Byte := [0, 0, 0, 0, 1, 0, 0, 0]
  { port := 2, ip := 0, sess := 0, seq := 0, payload := pl, mac := kepMac [] 0x20 false 0 0 0 pl }

/-- A session of ID 0 that has answered SEQ 0. -/
def answeredOnce : Sess := { id := 0, keyId := 0, role := 2, key := [], last := some 0, resp := some (0x20, 0, []) }

theorem openOneByte_mac :
    openOneByte.mac = kepMac answeredOnce.key 0x20 false 0 openOneByte.sess openOneByte.seq openOneByte.payload := by
  simp only [openOneByte, answeredOnce]

/-- A running station with that session open, the service port linked, and no DRAM free. -/
def dramFull : State :=
  { State.reset with
    pwr := { PwrBlk.reset with power := .run }
    stn := { Stn.reset with dramFree := 0 }
    net := { NetBlk.reset factoryKeys with
      ports := Vector.replicate 3 { NetPort.reset with link := true }
      sess := (Vector.replicate 4 none).set 0 (some answeredOnce) } }

/-- The request waits for room, and the state stays. -/
theorem exec_imgOpen_dramFull : exec (.imgOpen openOneByte) dramFull = .next dramFull := by
  change execImgOpen openOneByte dramFull = _
  unfold execImgOpen
  dsimp only
  rw [if_pos (by decide), guarded_false rfl]

end Sys2Proof.Machine

open Sys2Proof Sys2Proof.Machine

/-- Refutes O41: an IMG_OPEN that repeats the last SEQ is not always answered again. While DRAM has no room for its transfer the request
waits (R51) whatever its SEQ, as in `dramFull`; the statement asks for room in its clause on STATUS 5, and not in the one on repeats. -/
theorem not_registerRequests : ¬ Obligations.RegisterRequests := by
  intro h
  obtain ⟨hreq, -⟩ := h
  obtain ⟨-, -, hrepeat, -⟩ := hreq dramFull openOneByte 0x20 (.imgOpen openOneByte) 0 answeredOnce (by simp) (by decide) (by decide)
  obtain ⟨t, hx, -, -, -, hport⟩ := hrepeat 0x20 0 [] openOneByte_mac rfl rfl
  rw [exec_imgOpen_dramFull] at hx
  cases hx
  have hlen := congrArg (fun n : NetPort => n.queue.length) (hport (by decide))
  simp at hlen
end

section
/-! What a command's work does beside its own block: the blocks it leaves alone, the raises it keeps, and the items it hands LOG. Each part
of a command has its rule here, and a command's effect is put together of its parts. -/

namespace Sys2Proof.Machine
open Sys2Proof

/-! ### Frames and raises -/

/-- The work from `s` to `t` leaves the blocks outside `l` alone, and what was raised stays raised. -/
structure Works (l : List Block) (s t : State) : Prop where
  same : ∀ b : Block, b ∉ l → b.Same s t
  now : NowRaised s → NowRaised t
  kept : ∀ n, Raised s n → Raised t n

theorem Works.refl (l : List Block) (s : State) : Works l s s := ⟨fun b _ => Block.Same.refl s b, id, fun _ => id⟩

theorem Works.trans {l : List Block} {s t u : State} (h : Works l s t) (k : Works l t u) : Works l s u :=
  ⟨fun b hb => (h.same b hb).trans (k.same b hb), k.now ∘ h.now, fun n => k.kept n ∘ h.kept n⟩

theorem Works.mono {l m : List Block} {s t : State} (h : Works l s t) (hlm : l ⊆ m) : Works m s t :=
  ⟨fun b hb => h.same b (fun hl => hb (hlm hl)), h.now, h.kept⟩

/-- Work that does not touch EVR. -/
theorem Works.of_same {l : List Block} {s t : State} (h : ∀ b : Block, b ∉ l → b.Same s t) (hv : t.evr = s.evr) : Works l s t :=
  ⟨h, fun hn => hn.congr hv, fun _ hn => hn.congr (by rw [hv])⟩

theorem same_logItem (s : State) (ledger own : Bool) (code source sev : Nat) (payload : List Byte) (b : Block) :
    b.Same s (logItem s ledger own code source sev payload) := by
  cases b <;> first | exact fun _ => Engine.SameBut.refl _ | rfl

theorem same_send (s : State) (x : Sent) (b : Block) : b.Same s (send s x) := by
  cases b <;> first | exact fun _ => Engine.SameBut.refl _ | rfl

theorem same_free (s : State) (n : Nat) (b : Block) : b.Same s { s with free := n } := by
  cases b <;> first | exact fun _ => Engine.SameBut.refl _ | rfl

theorem same_log (s : State) (g : LogBlk) (b : Block) : b.Same s { s with log := g } := by
  cases b <;> first | exact fun _ => Engine.SameBut.refl _ | rfl

section
variable {l : List Block} {s t : State} (h : Works l s t)
include h

theorem Works.raise (n : Nat) : Works l s (raise t n) :=
  h.trans ⟨fun b _ => same_raise t n b, fun hn => hn.raise n, fun _ hn => hn.raise n⟩

theorem Works.logItem (ledger own : Bool) (code source sev : Nat) (payload : List Byte) :
    Works l s (logItem t ledger own code source sev payload) :=
  h.trans (.of_same (fun b _ => same_logItem t ledger own code source sev payload b) rfl)

theorem Works.logEntry (code source sev : Nat) (payload : List Byte) : Works l s (logEntry t code source sev payload) :=
  h.logItem false false code source sev payload

theorem Works.logLedger (code source sev : Nat) (payload : List Byte) : Works l s (logLedger t code source sev payload) :=
  h.logItem true false code source sev payload

theorem Works.modLog (f : LogBlk → LogBlk) : Works l s (modLog t f) :=
  h.trans (.of_same (fun b _ => same_log t _ b) rfl)

theorem Works.send (x : Sent) : Works l s (send t x) := h.trans (.of_same (fun b _ => same_send t x b) rfl)

theorem Works.drawWord : Works l s (drawWord t).2 := h.trans (.of_same (fun b _ => same_free t _ b) rfl)

theorem Works.drawBool : Works l s (drawBool t).2 := h.trans (.of_same (fun b _ => same_free t _ b) rfl)

/-- What the work raises last reads 1. -/
theorem Works.raised (hn : NowRaised s) {n : Nat} (hlt : n < 512) : Raised (Machine.raise t n) n := raised_raise (h.now hn) hlt

end

theorem drawBytes_eq (n : Nat) (s : State) : ∃ k, (drawBytes n s).2 = { s with free := k } := by
  induction n generalizing s with
  | zero => exact ⟨s.free, rfl⟩
  | succ n ih =>
    obtain ⟨k, hk⟩ := ih (drawByte s).2
    exact ⟨k, hk⟩

theorem length_drawBytes (n : Nat) (s : State) : (drawBytes n s).1.length = n := by
  induction n generalizing s with
  | zero => rfl
  | succ n ih => exact congrArg Nat.succ (ih (drawByte s).2)

theorem Works.drawBytes {l : List Block} {s t : State} (h : Works l s t) (n : Nat) : Works l s (drawBytes n t).2 := by
  obtain ⟨k, hk⟩ := drawBytes_eq n t
  rw [hk]
  exact h.trans (.of_same (fun b _ => same_free t _ b) rfl)

/-- A raise of the command's work is seen after the command. -/
theorem Raised.ends {u : State} {n : Nat} (h : Raised u n) (p : List Instr) : Raised { Machine.settle u with pending := p } n :=
  h.settle.congr rfl

theorem Settled.nowRaised {s : State} (h : Settled s) : NowRaised (freshCycle s) := (NowRaised.of_settled h).freshCycle

/-- A command that comes about, by its work. -/
theorem does_of_works {c : Instr} {s : State} {b : Bool} {f : State → State} {l : List Block} {P : State → Prop}
    (hx : exec c s = guarded s b f) (hb : b = true) (hw : Works l (freshCycle s) (f (freshCycle s)))
    (hp : P { settle (f (freshCycle s)) with pending := s.pending }) : Does c s l P :=
  does_of (hx.trans (guarded_true hb f)) hw.same hp

/-- Likewise where it hands nothing to LOG or EVR and puts nothing out. -/
theorem doesSilently_of_works {c : Instr} {s : State} {b : Bool} {f : State → State} {l : List Block} {P : State → Prop}
    (hx : exec c s = guarded s b f) (hb : b = true) (hw : Works l (freshCycle s) (f (freshCycle s)))
    (hs : Quiet s → (f s).log = s.log ∧ (f s).evr = s.evr ∧ (f s).sent = s.sent ∧ ∀ e : Fin 17, (f s).le[e].pending = s.le[e].pending)
    (hp : P { settle (f (freshCycle s)) with pending := s.pending }) : DoesSilently c s l P :=
  doesSilently_of (hx.trans (guarded_true hb f)) hw.same hs hp

/-- What a command puts out without a raise is seen after it. -/
theorem sent_of {s u : State} (q : Settled u) : ({ settle u with pending := s.pending } : State).sent = u.sent := by
  show (settle u).sent = _
  rw [settle_of_settled q]

/-! ### What LOG is handed -/

/-- From `s` to `t` LOG has been handed at most `n` items, and nothing else of it has changed. -/
def Hands (n : Nat) (s t : State) : Prop := ∃ f : List LogItem, f.length ≤ n ∧ t.log = { s.log with fresh := s.log.fresh ++ f }

theorem Hands.of_eq {s t : State} (h : t.log = s.log) : Hands 0 s t := ⟨[], Nat.le_refl 0, by rw [h, List.append_nil]⟩

theorem Hands.refl (s : State) : Hands 0 s s := .of_eq rfl

theorem Hands.trans {n m : Nat} {s t u : State} (h : Hands n s t) (k : Hands m t u) : Hands (n + m) s u := by
  obtain ⟨f, hf, ht⟩ := h
  obtain ⟨g, hg, hu⟩ := k
  exact ⟨f ++ g, by rw [List.length_append]; omega, by rw [hu, ht, List.append_assoc]⟩

theorem Hands.congr {n : Nat} {s t u : State} (h : Hands n s t) (hl : u.log = t.log) : Hands n s u := h.trans (.of_eq hl)

theorem Hands.raise {n : Nat} {s t : State} (h : Hands n s t) (i : Nat) : Hands (n + 1) s (raise t i) := h.trans (raise_log t i)

/-- The item that LOG is handed. -/
def itemOf (s : State) (ledger own : Bool) (code source sev : Nat) (payload : List Byte) : LogItem :=
  { code := BitVec.ofNat 16 code, source := BitVec.ofNat 16 source, sev := BitVec.ofNat 3 sev
    ledger := ledger, payload := payload, stamp := s.stn.time, own := own }

theorem Hands.logItem {n : Nat} {s t : State} (h : Hands n s t) (ledger own : Bool) (code source sev : Nat) (payload : List Byte) :
    Hands (n + 1) s (logItem t ledger own code source sev payload) :=
  h.trans ⟨[itemOf t ledger own code source sev payload], Nat.le_refl 1, rfl⟩

/-- An item handed to LOG on the way waits there at the end of the work. -/
theorem Hands.mem_fresh {n m : Nat} {s u t : State} {ledger own : Bool} {code source sev : Nat} {payload : List Byte}
    (h : Hands n s u) (k : Hands m (Machine.logItem u ledger own code source sev payload) t) (hs : s.log.fresh = []) :
    itemOf u ledger own code source sev payload ∈ t.log.fresh ∧ t.log.fresh.length ≤ n + m + 1 ∧
      ∃ f, t.log = { s.log with fresh := f } := by
  obtain ⟨f, hf, hu⟩ := h
  obtain ⟨g, hg, ht⟩ := k
  have hfresh : t.log.fresh = f ++ [itemOf u ledger own code source sev payload] ++ g := by
    rw [ht]
    show u.log.fresh ++ _ ++ g = _
    rw [hu, hs]; rfl
  refine ⟨by rw [hfresh]; simp, by rw [hfresh]; simp; omega, t.log.fresh, ?_⟩
  rw [ht]
  show ({ u.log with fresh := _ } : LogBlk) = _
  rw [hu]

/-- A command that hands LOG an entry and at most three items more notes the entry. -/
theorem noted_of_hands {s : State} {f : State → State} {code source sev n m : Nat} {payload : List Byte}
    (hc : code < 65536) (hsr : source < 65536) (hv : sev < 8) (hnm : n + m ≤ 3)
    (h : Quiet s → ∃ u, Hands n s u ∧ Hands m (logEntry u code source sev payload) (f s) ∧ u.stn.time = (f s).stn.time) :
    Noted s { settle (f (freshCycle s)) with pending := s.pending } code source sev payload := by
  refine noted_of fun q => ?_
  obtain ⟨u, hu, ht, htime⟩ := h q
  obtain ⟨hmem, hlen, g, hg⟩ := hu.mem_fresh ht q.1.2
  refine ⟨_, hmem, ?_, ?_, ?_, rfl, htime, by omega, by rw [hg], by rw [hg], by rw [hg]⟩
  · simp [itemOf]; omega
  · simp [itemOf]; omega
  · simp [itemOf]; omega

/-! ### The Ledger's buffer -/

@[simp] theorem startFlush_buf (g : LogBlk) (k : FlushKind) (n : Nat) : (startFlush g k n).buf = g.buf := by
  unfold startFlush; split <;> rfl

/-- The record `x` is that of the item `it`, not copied from the Daybook. -/
def RecordOf (it : LogItem) (x : LgRec × Bool) : Prop :=
  x.1.code = it.code ∧ x.1.source = it.source ∧ x.1.sev = it.sev ∧ x.1.fromDaybook = false ∧ x.1.payload = fit 36 it.payload

/-- The record that LOG makes of an item (R371). -/
def ledgerRec (g : LogBlk) (standby : Bool) (it : LogItem) (fromDb : Bool) (payload : List Byte) : LgRec :=
  { seq := g.lgNext, pcyc := g.pcyc, acrossSleep := g.acrossSleep, fromDaybook := fromDb, lostBefore := g.lgLost, standby := standby
    unclean := g.unclean, opms := g.opms, sev := it.sev, code := it.code, source := it.source, payload := fit 36 payload
    stimeLo := it.stamp.truncate 32 }

/-- A record finds room in the buffer, and none is dropped. -/
theorem lgMake_of_room {g : LogBlk} (h : g.buf.length < 256) (b : Bool) (it : LogItem) (d : Bool) (p : List Byte) :
    (lgMake g b it d p).2 = false ∧ (lgMake g b it d p).1.buf = g.buf ++ [(ledgerRec g b it d p, it.own)] := by
  unfold lgMake
  dsimp only
  rw [if_pos h]
  refine ⟨rfl, ?_⟩
  dsimp only
  rw [apply_ite LogBlk.buf, startFlush_buf, ite_self, apply_ite LogBlk.buf, startFlush_buf, ite_self]
  rfl

/-- One item adds at most one record where the buffer has room, and none is dropped. -/
theorem logPut_of_room {g : LogBlk} (h : g.buf.length < 256) (b : Bool) (n : Nat) (it : LogItem) :
    (logPut g b n it).2.2 = false ∧ ∃ f : List (LgRec × Bool), f.length ≤ 1 ∧ (logPut g b n it).1.buf = g.buf ++ f ∧
      (it.ledger = true → ∃ x ∈ f, RecordOf it x) := by
  have hcopy (g1 : LogBlk) (hg : g1.buf = g.buf) (p : List Byte) : (lgMake g1 b it true p).2 = false ∧
      ∃ f : List (LgRec × Bool), f.length ≤ 1 ∧ (lgMake g1 b it true p).1.buf = g.buf ++ f := by
    obtain ⟨hd, hx⟩ := lgMake_of_room (g := g1) (by rw [hg]; exact h) b it true p
    exact ⟨hd, [_], Nat.le_refl 1, hx.trans (by rw [hg])⟩
  unfold logPut
  cases hl : it.ledger
  case true =>
    obtain ⟨hd, hx⟩ := lgMake_of_room h b it false it.payload
    have hbuf : ∃ f : List (LgRec × Bool), f.length ≤ 1 ∧ (lgMake g b it false it.payload).1.buf = g.buf ++ f ∧
        ∃ x ∈ f, RecordOf it x := ⟨[_], Nat.le_refl 1, hx, _, List.mem_singleton_self _, rfl, rfl, rfl, rfl, rfl⟩
    simp only [Bool.not_true, Bool.false_and, if_true, Bool.false_eq_true, if_false, true_imp_iff, hd]
    split
    · exact ⟨rfl, hbuf⟩
    · split
      · exact ⟨rfl, hbuf⟩
      · split <;> exact ⟨rfl, hbuf⟩
  case false =>
    have hnone {g1 : LogBlk} (hg : g1.buf = g.buf) : ∃ f : List (LgRec × Bool), f.length ≤ 1 ∧ g1.buf = g.buf ++ f :=
      ⟨[], Nat.zero_le 1, by rw [hg, List.append_nil]⟩
    simp only [Bool.not_false, Bool.true_and, Bool.false_eq_true, if_false, false_imp_iff, and_true, Bool.false_or]
    split
    · split
      · refine hcopy _ ?_ _; rfl
      · exact ⟨rfl, hnone rfl⟩
    · split
      · split
        · refine hcopy _ ?_ _; rfl
        · exact ⟨rfl, hnone rfl⟩
      · split
        · exact ⟨rfl, hnone rfl⟩
        · split
          · refine hcopy _ ?_ _; rfl
          · exact ⟨rfl, hnone rfl⟩

theorem foldl_logStep_of_room (b : Bool) (l : List LogItem) (a : LogBlk × Nat × Bool) (h : a.1.buf.length + l.length ≤ 256)
    (hd : a.2.2 = false) :
    (l.foldl (logStep b) a).2.2 = false ∧ ∃ f : List (LgRec × Bool), f.length ≤ l.length ∧
      (l.foldl (logStep b) a).1.buf = a.1.buf ++ f ∧ ∀ it ∈ l, it.ledger = true → ∃ x ∈ f, RecordOf it x := by
  induction l generalizing a with
  | nil => exact ⟨hd, [], Nat.le_refl 0, by simp, fun _ hm => absurd hm List.not_mem_nil⟩
  | cons i l ih =>
    simp only [List.length_cons] at h
    obtain ⟨hd1, f1, hf1, hb1, hr1⟩ := logPut_of_room (g := a.1) (by omega) b a.2.1 i
    have hbuf : (logStep b a i).1.buf = a.1.buf ++ f1 := hb1
    obtain ⟨hd2, f2, hf2, hb2, hr2⟩ := ih (logStep b a i) (by rw [hbuf, List.length_append]; omega)
      (by show (a.2.2 || (logPut a.1 b a.2.1 i).2.2) = false; rw [hd, hd1]; rfl)
    refine ⟨hd2, f1 ++ f2, by simp only [List.length_append, List.length_cons]; omega, ?_, fun it hm hl => ?_⟩
    · rw [List.foldl_cons, hb2, hbuf, List.append_assoc]
    · rcases List.mem_cons.mp hm with rfl | hm
      · obtain ⟨x, hx, hr⟩ := hr1 hl
        exact ⟨x, List.mem_append_left _ hx, hr⟩
      · obtain ⟨x, hx, hr⟩ := hr2 it hm hl
        exact ⟨x, List.mem_append_right _ hx, hr⟩

/-- A command whose items all find room in the Ledger's buffer leaves the records of those that ask for one there. -/
theorem settle_of_room {s : State} (h : s.log.buf.length + s.log.fresh.length ≤ 256) :
    ∃ f : List (LgRec × Bool), f.length ≤ s.log.fresh.length ∧ (settle s).log.buf = s.log.buf ++ f ∧
      ∀ it ∈ s.log.fresh, it.ledger = true → ∃ x ∈ f, RecordOf it x := by
  obtain ⟨hd, f, hf, hb, hr⟩ := foldl_logStep_of_room (lgStandby s) (s.log.fresh.mergeSort itemLe) ({ s.log with fresh := [] }, 4, false)
    (by rw [List.length_mergeSort]; exact h) rfl
  have hpass : logPass s = { s with log :=
      ((s.log.fresh.mergeSort itemLe).foldl (logStep (lgStandby s)) ({ s.log with fresh := [] }, 4, false)).1 } := by
    rw [logPass_def]
    simp only [hd, Bool.false_eq_true, if_false]
  have hfresh : (logPass s).log.fresh = [] := by rw [hpass]; exact foldl_logStep_fresh _ _ _
  refine ⟨f, by rw [List.length_mergeSort] at hf; exact hf, ?_, fun it hm => hr it (List.mem_mergeSort.2 hm)⟩
  unfold settle
  rw [logPass_of_fresh hfresh, logPass_of_fresh hfresh]
  obtain ⟨v, x, he, -, -⟩ := deliverRaises_eq (logPass s)
  rw [he, hpass]
  exact hb

/-- A command that hands LOG a required record and few items more leaves the record in the buffer. -/
theorem recorded_of_hands {s : State} {f : State → State} {own : Bool} {code source sev n m : Nat} {payload : List Byte}
    (hc : code < 65536) (hsr : source < 65536) (hv : sev < 8) (hnm : n + m ≤ 50)
    (h : Quiet s → ∃ u, Hands n s u ∧ Hands m (logItem u true own code source sev payload) (f s)) :
    Recorded s { settle (f (freshCycle s)) with pending := s.pending } code source sev payload := by
  intro q hlen
  obtain ⟨u, hu, ht⟩ := h q
  rw [freshCycle_of_intake q.2]
  obtain ⟨hmem, hfresh, g, hg⟩ := hu.mem_fresh ht q.1.2
  have hbuf : (f s).log.buf = s.log.buf := by rw [hg]
  obtain ⟨r, -, hb, hr⟩ := settle_of_room (s := f s) (by rw [hbuf]; omega)
  obtain ⟨x, hx, h1, h2, h3, h4, h5⟩ := hr _ hmem rfl
  refine ⟨x, ?_, ?_, ?_, ?_, h4, h5⟩
  · show x ∈ (settle (f s)).log.buf
    rw [hb]
    exact List.mem_append_right _ hx
  · rw [h1]; simp [itemOf]; omega
  · rw [h2]; simp [itemOf]; omega
  · rw [h3]; simp [itemOf]; omega

end Sys2Proof.Machine
end

section
/-! O52: frames received and sent at a CAN controller, and the windows of its matrix (R299–R307, R310). What a command does is put together
from `CanBecomes`, which says what one controller has become, the events of it that were raised, and that nothing else has changed. -/

namespace Sys2Proof.Machine
open Sys2Proof

/-- Controller `k` has become `d` with the events `l` of that controller raised, and nothing else has changed. -/
structure CanBecomes (s t : State) (k : Fin 8) (d : CanCtl) (l : List Nat) : Prop where
  works : Works [.can] s t
  ctl : ∀ j : Fin 8, t.can.ctl[j] = if j = k then d else s.can.ctl[j]
  raised : NowRaised s → ∀ i ∈ l, Raised t (canSrc k i)

theorem CanBecomes.refl {s : State} {k : Fin 8} {c : CanCtl} (hc : s.can.ctl[k] = c) : CanBecomes s s k c [] where
  works := .refl _ s
  ctl j := by
    split
    · next h => rw [h, hc]
    · rfl
  raised _ _ hi := absurd hi List.not_mem_nil

theorem same_can (s : State) (c : CanBlk) {b : Block} (h : b ∉ [Block.can]) : b.Same s { s with can := c } := by
  cases b <;> first | exact absurd (List.mem_singleton.2 rfl) h | exact fun _ => Engine.SameBut.refl _ | rfl

section
variable {s t : State} {k : Fin 8} {d : CanCtl} {l : List Nat}

theorem CanBecomes.self (h : CanBecomes s t k d l) : t.can.ctl[k] = d := (h.ctl k).trans (if_pos rfl)

/-- Work that leaves CAN alone keeps what the controller has become. -/
theorem CanBecomes.then (h : CanBecomes s t k d l) {u : State} (hw : Works [] t u) : CanBecomes s u k d l where
  works := h.works.trans (hw.mono (List.nil_subset _))
  ctl j := by
    have hc : u.can = t.can := hw.same .can List.not_mem_nil
    rw [hc]
    exact h.ctl j
  raised hn i hi := hw.kept _ (h.raised hn i hi)

theorem CanBecomes.modCan (h : CanBecomes s t k d l) (f : CanCtl → CanCtl) : CanBecomes s (modCan t k f) k (f d) l where
  works := h.works.trans (.of_same (fun _ hb => same_can t _ hb) rfl)
  ctl j := by
    simp only [Machine.modCan, vmod_get, h.self, h.ctl j, @eq_comm _ k j]
    split <;> rfl
  raised hn i hi := (h.raised hn i hi).congr rfl

theorem CanBecomes.raise (h : CanBecomes s t k d l) {i : Nat} (hi : i < 8) : CanBecomes s (raise t (canSrc k i)) k d (i :: l) where
  works := h.works.raise _
  ctl j := by rw [raise_can]; exact h.ctl j
  raised hn j hj := by
    obtain rfl | hj := List.mem_cons.1 hj
    · exact h.works.raised hn (by unfold canSrc; omega)
    · exact (h.raised hn j hj).raise _

theorem CanBecomes.congr {e : CanCtl} (h : CanBecomes s t k d l) (he : d = e) : CanBecomes s t k e l := he ▸ h
end

/-- A command at controller `k` that completes, by what the controller becomes. -/
theorem canDoes_next {cmd : Instr} {s : State} {f : State → State} {k : Fin 8} {d : CanCtl} {l : List Nat} {P : State → CanCtl → Prop}
    (hx : exec cmd s = .next { settle (f (freshCycle s)) with pending := s.pending })
    (h : CanBecomes (freshCycle s) (f (freshCycle s)) k d l)
    (hp : ∀ t, t = { settle (f (freshCycle s)) with pending := s.pending } → (Settled s → ∀ i ∈ l, Raised t (canSrc k i)) → P t d) :
    CanDoes cmd s k P := by
  refine does_of hx h.works.same ⟨fun j hj => ?_, ?_⟩
  · show (settle (f (freshCycle s))).can.ctl[j] = _
    rw [settle_can, h.ctl j, if_neg hj, freshCycle_can]
  · have hd : ({ settle (f (freshCycle s)) with pending := s.pending } : State).can.ctl[k] = d := by
      show (settle (f (freshCycle s))).can.ctl[k] = d
      rw [settle_can, h.self]
    rw [hd]
    exact hp _ rfl (fun hs i hi => (h.raised hs.nowRaised i hi).ends _)

/-- Likewise where it comes about. -/
theorem canDoes_of {cmd : Instr} {s : State} {b : Bool} {f : State → State} {k : Fin 8} {d : CanCtl} {l : List Nat}
    {P : State → CanCtl → Prop} (hx : exec cmd s = guarded s b f) (hb : b = true)
    (h : CanBecomes (freshCycle s) (f (freshCycle s)) k d l)
    (hp : ∀ t, t = { settle (f (freshCycle s)) with pending := s.pending } → (Settled s → ∀ i ∈ l, Raised t (canSrc k i)) → P t d) :
    CanDoes cmd s k P := canDoes_next (hx.trans (guarded_true hb f)) h hp

/-! ### Reception -/

/-- The controller once a valid frame has been heard, before an object or the FIFO takes it: matrix state, count, REC and requests
(R300, R305, R307, R310). -/
def CanCtl.hears (c : CanCtl) (sync : Bool) (cyc : BitVec 6) (n : Word) (r : BitVec 8) (q : List CanReq) : CanCtl :=
  { c with ttSync := sync, cycle := cyc, rxCnt := n, txdOff := false, recv := r, reqs := q }

theorem CanCtl.tt_eq (c : CanCtl) : c.tt = c.cfg.toNat / 4 % 4 := by
  unfold CanCtl.tt fld
  rw [Nat.shiftRight_eq_div_pow]
  rfl

/-- What `hears` takes of a frame. -/
structure CanCtl.Hears (c : CanCtl) (f : CanFrame) (sync : Bool) (cyc : BitVec 6) (r : BitVec 8) (q : List CanReq) : Prop where
  active : c.state = 2 → q = c.reqs ∧ (c.recv.toNat ≤ 127 → r = c.recv - (if c.recv = 0 then 0 else 1)) ∧
    (127 < c.recv.toNat → 119 ≤ r.toNat ∧ r.toNat ≤ 127)
  ref : c.tt ≠ 0 → c.ttMaster = false → c.isRef f = true → (f.data.getD 0 0).getLsbD 7 = false →
    sync = true ∧ cyc = (f.data.getD 0 0).truncate 6

/-- What an object that the frame suits, or the capture FIFO, makes of it, and the events raised (R300, R302, R310). -/
def CanCtl.filed (c : CanCtl) (f : CanFrame) (now : BitVec 64) : CanCtl × List Nat :=
  match c.objs.find? (fun o => o.selects f) with
  | some o =>
    if f.data.length < o.len then (if c.state == 3#3 then c else { c with lenErr := satInc c.lenErr }, [])
    else if c.state == 2#3 then
      let old := c.rx.any (fun x => x.1 == o.idx)
      ({ c with
        rx := c.rx.filter (fun x => x.1 ≠ o.idx) ++ [(o.idx, f.data)]
        overwrite := if old then satInc c.overwrite else c.overwrite
        missed := c.missed.filter (fun i => i ≠ o.idx)
        winHit := c.winHit || (match c.win.bind (fun w => c.wins[w]?) with | some w => w.kind == 1 && w.obj == o.idx | none => false) },
        if old then [5] else [])
    else (c, [])
  | none =>
    if !bit c.cfg 10 then (c, [])
    else if c.cap.length < 64 then ({ c with cap := c.cap ++ [(now, f)] }, [])
    else if c.state == 3#3 then (c, [])
    else ({ c with capOvf := satInc c.capOvf }, [5])

theorem CanCtl.takeRef_eq (c : CanCtl) (f : CanFrame) : ∃ sync cyc, c.takeRef f = { c with ttSync := sync, cycle := cyc } ∧
    (c.tt ≠ 0 → c.ttMaster = false → c.isRef f = true → (f.data.getD 0 0).getLsbD 7 = false →
      sync = true ∧ cyc = (f.data.getD 0 0).truncate 6) := by
  unfold CanCtl.takeRef
  split
  · exact ⟨_, _, rfl, fun _ _ _ _ => ⟨rfl, rfl⟩⟩
  · next h => exact ⟨_, _, rfl, fun ht hm hr h7 => absurd (by rw [hm, hr, h7]; simpa using ht) h⟩

/-- REC after a valid frame: one less, or a value that the standard leaves open (R305). -/
theorem canRecOk_becomes {s t : State} {k : Fin 8} {d : CanCtl} {l : List Nat} (h : CanBecomes s t k d l) :
    ∃ r : BitVec 8, CanBecomes s (canRecOk t k) k { d with recv := r } l ∧
      (d.recv.toNat ≤ 127 → r = d.recv - (if d.recv = 0 then 0 else 1)) ∧ (127 < d.recv.toNat → 119 ≤ r.toNat ∧ r.toNat ≤ 127) := by
  unfold canRecOk
  dsimp only
  rw [h.self]
  split
  · next hr =>
    refine ⟨_, (h.then ((Works.refl _ _).drawWord)).modCan _, fun hle => absurd hr (by omega), fun _ => ?_⟩
    have : (drawWord t).1.toNat % 9 < 9 := Nat.mod_lt _ (by decide)
    rw [BitVec.toNat_ofNat]
    omega
  · next hr => exact ⟨_, h.modCan _, fun _ => rfl, fun hlt => absurd hlt hr⟩

/-- The requests that the active station has not sent with this frame (R310). -/
def CanCtl.unsent (c : CanCtl) (f : CanFrame) : List CanReq :=
  c.reqs.filter (fun r => match c.obj? r.obj with
    | some o => !(o.ide == f.ide && o.id.toNat == f.id.toNat && !f.rtr && f.data.take o.len == r.data)
    | none => true)

/-- The first part of a reception: matrix state, counters, and in bus monitoring the requests that the active station has sent. -/
def canHeard (s : State) (k : Fin 8) (f : CanFrame) : State :=
  let c := s.can.ctl[k]
  let s1 := modCan s k (fun c => { c.takeRef f with rxCnt := if c.state == 3#3 then c.rxCnt else c.rxCnt + 1, txdOff := false })
  let s2 := if c.state == 2#3 then canRecOk s1 k else s1
  if c.state == 3#3 then modCan s2 k (fun c => { c with reqs := c.unsent f }) else s2

/-- The second part: an object, or the FIFO, takes the frame. -/
def canFile (c : CanCtl) (t : State) (k : Fin 8) (f : CanFrame) : State :=
  match c.objs.find? (fun o => o.selects f) with
  | some o =>
    if f.data.length < o.len then modCan t k (fun c => if c.state == 3#3 then c else { c with lenErr := satInc c.lenErr })
    else if c.state == 2#3 then canAccept t k o f else t
  | none => canCapture t k f

theorem canReceive_eq (s : State) (k : Fin 8) (f : CanFrame) : canReceive s k f = canFile s.can.ctl[k] (canHeard s k f) k f := rfl

@[simp] theorem canHeard_stn (s : State) (k : Fin 8) (f : CanFrame) : (canHeard s k f).stn = s.stn := by
  unfold canHeard canRecOk
  dsimp only
  split
  · rw [modCan_stn]
    split
    · split <;> rfl
    · rfl
  · split
    · split <;> rfl
    · rfl

theorem canHeard_becomes {s : State} {k : Fin 8} {c : CanCtl} (hc : s.can.ctl[k] = c) (hs : c.state = 2 ∨ c.state = 3) (f : CanFrame) :
    ∃ sync cyc r q, c.Hears f sync cyc r q ∧
      CanBecomes s (canHeard s k f) k (c.hears sync cyc (if c.state = 2 then c.rxCnt + 1 else c.rxCnt) r q) [] := by
  obtain ⟨sync, cyc, href, hsync⟩ := c.takeRef_eq f
  have hcount := (CanBecomes.refl hc).modCan (fun c =>
    { c.takeRef f with rxCnt := if c.state == 3#3 then c.rxCnt else c.rxCnt + 1, txdOff := false })
  unfold canHeard
  dsimp only
  rw [hc]
  rcases hs with h2 | h3
  · obtain ⟨r, hr, hlow, hhigh⟩ := canRecOk_becomes hcount
    rw [href] at hlow hhigh
    refine ⟨sync, cyc, r, c.reqs, ⟨fun _ => ⟨rfl, hlow, hhigh⟩, hsync⟩, ?_⟩
    rw [if_neg (by rw [h2]; decide), if_pos (by rw [h2]; decide)]
    exact hr.congr (by rw [href, if_neg (by rw [h2]; decide), if_pos h2]; rfl)
  · have hq := hcount.modCan (fun c => { c with reqs := c.unsent f })
    refine ⟨sync, cyc, c.recv, c.unsent f, ⟨fun h => absurd (h3.symm.trans h) (by decide), hsync⟩, ?_⟩
    rw [if_pos (by rw [h3]; decide), if_neg (by rw [h3]; decide)]
    exact hq.congr (by rw [href, if_pos (by rw [h3]; decide), if_neg (by rw [h3]; decide)]; rfl)

/-- What is filed of a frame once it has been heard. -/
theorem canFile_becomes {s t : State} {k : Fin 8} {c d : CanCtl} (h : CanBecomes s t k d []) (f : CanFrame) (htime : t.stn.time = s.stn.time)
    (hobjs : c.objs = d.objs) (hstate : c.state = d.state) :
    CanBecomes s (canFile c t k f) k (d.filed f s.stn.time).1 (d.filed f s.stn.time).2 := by
  unfold CanCtl.filed canFile
  rw [hobjs, hstate]
  cases d.objs.find? (fun o => o.selects f) with
  | some o =>
    dsimp only
    split
    · exact h.modCan _
    · split
      · unfold canAccept
        dsimp only
        rw [h.self]
        split
        · exact CanBecomes.raise (h.modCan _) (i := 5) (by decide)
        · exact h.modCan _
      · exact h
  | none =>
    dsimp only
    unfold canCapture
    dsimp only
    rw [h.self, htime]
    split
    · exact h
    · split
      · exact h.modCan _
      · split
        · exact h
        · exact CanBecomes.raise (h.modCan _) (i := 5) (by decide)

/-- A valid frame is heard by the controller, and then filed. -/
theorem canReceive_becomes {s : State} {k : Fin 8} {c : CanCtl} (hc : s.can.ctl[k] = c) (hs : c.state = 2 ∨ c.state = 3) (f : CanFrame) :
    ∃ sync cyc r q, c.Hears f sync cyc r q ∧
      let d := c.hears sync cyc (if c.state = 2 then c.rxCnt + 1 else c.rxCnt) r q
      CanBecomes s (canReceive s k f) k (d.filed f s.stn.time).1 (d.filed f s.stn.time).2 := by
  obtain ⟨sync, cyc, r, q, hh, hb⟩ := canHeard_becomes hc hs f
  refine ⟨sync, cyc, r, q, hh, ?_⟩
  rw [canReceive_eq, hc]
  exact canFile_becomes hb f (by rw [canHeard_stn]) rfl rfl

section
variable {s : State} {k : Fin 8} {f : CanFrame}

theorem canUp_of (ha : alive s = true) (hq : s.pwr.quiet.getLsbD 1 = false) : canUp s = true := by
  unfold canUp
  rw [ha, hq]
  rfl

/-- A frame that a working controller receives. -/
structure Heard (s : State) (k : Fin 8) (f : CanFrame) : Prop where
  alive : alive s = true
  quiet : s.pwr.quiet.getLsbD 1 = false
  state : s.can.ctl[k].state = 2 ∨ s.can.ctl[k].state = 3
  fd : f.fdf = true → s.can.ctl[k].cfg.getLsbD 1 = true
  len : f.data.length ≤ if f.fdf then 64 else 8

theorem Heard.guard (h : Heard s k f) : (canUp s && (s.can.ctl[k].state == 2#3 || s.can.ctl[k].state == 3#3) && (!f.fdf || bit s.can.ctl[k].cfg 1)
    && f.data.length ≤ (if f.fdf then 64 else 8)) = true := by
  obtain ⟨ha, hq, hs, hf, hl⟩ := h
  have hfd : (!f.fdf || bit s.can.ctl[k].cfg 1) = true := by
    cases hb : f.fdf with
    | true => exact hf hb
    | false => rfl
  have hst : (s.can.ctl[k].state == 2#3 || s.can.ctl[k].state == 3#3) = true := by rcases hs with hs | hs <;> rw [hs] <;> rfl
  rw [hfd, hst, canUp_of ha hq]
  simpa using hl

/-- A valid frame received, by what the controller has become. -/
theorem canFrameReceive_does {res : Bool} {P : State → CanCtl → Prop} (h : Heard s k f) (hres : ¬ (f.fdf = true ∧ res = true))
    (hp : ∀ sync cyc r q t, s.can.ctl[k].Hears f sync cyc r q →
      let c := s.can.ctl[k]
      let d := c.hears sync cyc (if c.state = 2 then c.rxCnt + 1 else c.rxCnt) r q
      (Settled s → ∀ i ∈ (d.filed f s.stn.time).2, Raised t (canSrc k i)) → P t (d.filed f s.stn.time).1) :
    CanDoes (.canFrameReceive k f res) s k P := by
  obtain ⟨sync, cyc, r, q, hh, hb⟩ := canReceive_becomes (s := freshCycle s) (k := k) (by rw [freshCycle_can]) h.state f
  rw [freshCycle_stn] at hb
  refine canDoes_of (f := fun s => if f.fdf && res then canPxe s k else canReceive s k f) rfl h.guard ?_
    (fun t _ hr => hp sync cyc r q t hh hr)
  rw [if_neg (by simpa using hres)]
  exact hb

/-- The fields that filing a frame leaves. -/
theorem CanCtl.filed_keeps (c : CanCtl) (f : CanFrame) (now : BitVec 64) :
    ∃ lenErr rx overwrite missed winHit cap capOvf, (c.filed f now).1 = { c with
      lenErr := lenErr, rx := rx, overwrite := overwrite, missed := missed, winHit := winHit, cap := cap, capOvf := capOvf } := by
  unfold CanCtl.filed
  split
  · split
    · split <;> exact ⟨_, _, _, _, _, _, _, rfl⟩
    · split <;> exact ⟨_, _, _, _, _, _, _, rfl⟩
  · split
    · exact ⟨_, _, _, _, _, _, _, rfl⟩
    · split
      · exact ⟨_, _, _, _, _, _, _, rfl⟩
      · split <;> exact ⟨_, _, _, _, _, _, _, rfl⟩

end

section
variable {s : State} {k : Fin 8} {f : CanFrame} {res : Bool} (h : Heard s k f)
include h

theorem canFrameReceive_pxe (hres : f.fdf = true ∧ res = true) : CanDoes (.canFrameReceive k f res) s k (fun _ d => d =
    let c := s.can.ctl[k]
    { c with pxe := true, pxeCnt := if c.state = 2 then satInc c.pxeCnt else c.pxeCnt, state := 1 }) := by
  have hcnt : (if s.can.ctl[k].state == 3#3 then s.can.ctl[k].pxeCnt else satInc s.can.ctl[k].pxeCnt) =
      if s.can.ctl[k].state = 2 then satInc s.can.ctl[k].pxeCnt else s.can.ctl[k].pxeCnt := by
    rcases h.state with hs | hs <;> rw [hs] <;> rfl
  refine canDoes_of (f := fun s => if f.fdf && res then canPxe s k else canReceive s k f) rfl h.guard
    (d := (fun c : CanCtl => { c with pxe := true, pxeCnt := if c.state == 3#3 then c.pxeCnt else satInc c.pxeCnt, state := 1 })
      s.can.ctl[k]) (l := []) ?_ (fun t _ _ => by simp only [hcnt])
  rw [if_pos (by simpa using hres)]
  exact (CanBecomes.refl (by rw [freshCycle_can])).modCan _

/-- What every valid frame does to the counters (R305). -/
theorem canFrameReceive_counts (hres : ¬ (f.fdf = true ∧ res = true)) : CanDoes (.canFrameReceive k f res) s k (fun _ d =>
    let c := s.can.ctl[k]
    d.rxCnt = c.rxCnt + (if c.state = 2 then 1 else 0) ∧ d.txdOff = false ∧ d.state = c.state ∧ d.tec = c.tec ∧ d.txCnt = c.txCnt ∧
      d.acks = c.acks ∧ (c.state = 2 → d.reqs = c.reqs ∧ (c.recv.toNat ≤ 127 → d.recv = c.recv - (if c.recv = 0 then 0 else 1)) ∧
        (127 < c.recv.toNat → 119 ≤ d.recv.toNat ∧ d.recv.toNat ≤ 127))) :=
  canFrameReceive_does h hres fun sync cyc r q t hh => by
    intro c d _
    obtain ⟨_, _, _, _, _, _, _, hd⟩ := d.filed_keeps f s.stn.time
    rw [hd]
    refine ⟨?_, rfl, rfl, rfl, rfl, rfl, hh.active⟩
    show (if c.state = 2 then c.rxCnt + 1 else c.rxCnt) = _
    split
    · rfl
    · exact (BitVec.add_zero _).symm

/-- A frame too short for its object counts, and no data are taken (R300, R310). -/
theorem canFrameReceive_short (hres : ¬ (f.fdf = true ∧ res = true)) {o : CanObj}
    (ho : s.can.ctl[k].objs.find? (fun o => o.selects f) = some o) (hl : f.data.length < o.len) :
    CanDoes (.canFrameReceive k f res) s k (fun _ d =>
      let c := s.can.ctl[k]
      d.lenErr = (if c.state = 2 then satInc c.lenErr else c.lenErr) ∧ d.rx = c.rx ∧ d.cap = c.cap) :=
  canFrameReceive_does h hres fun sync cyc r q t _ => by
    intro c d _
    have hd : d.filed f s.stn.time = (if d.state == 3#3 then d else { d with lenErr := satInc d.lenErr }, []) := by
      unfold CanCtl.filed
      rw [show d.objs.find? (fun o => o.selects f) = some o from ho]
      exact if_pos hl
    rw [hd]
    have hs : d.state = 2 ∨ d.state = 3 := h.state
    rcases hs with hs | hs
    · rw [if_neg (by rw [hs]; decide)]
      exact ⟨(if_pos hs).symm, rfl, rfl⟩
    · rw [if_pos (by rw [hs]; decide)]
      exact ⟨(if_neg (fun h2 : d.state = 2 => absurd (hs.symm.trans h2) (by decide))).symm, rfl, rfl⟩

/-- The object takes the frame's data (R302). -/
theorem canFrameReceive_taken (hres : ¬ (f.fdf = true ∧ res = true)) {o : CanObj}
    (ho : s.can.ctl[k].objs.find? (fun o => o.selects f) = some o) (hl : o.len ≤ f.data.length) (h2 : s.can.ctl[k].state = 2) :
    CanDoes (.canFrameReceive k f res) s k (fun t d =>
      let c := s.can.ctl[k]
      d.rx = c.rx.filter (fun x => x.1 ≠ o.idx) ++ [(o.idx, f.data)] ∧ d.lenErr = c.lenErr ∧ d.cap = c.cap ∧
      ((∃ x ∈ c.rx, x.1 = o.idx) → d.overwrite = satInc c.overwrite ∧ (Settled s → Raised t (128 + 8 * k.val + 5))) ∧
      ((∀ x ∈ c.rx, x.1 ≠ o.idx) → d.overwrite = c.overwrite)) :=
  canFrameReceive_does h hres fun sync cyc r q t _ => by
    intro c d hraised
    have hf : d.objs.find? (fun o => o.selects f) = some o := ho
    have hs : (d.state == 2#3) = true := beq_iff_eq.2 h2
    unfold CanCtl.filed at hraised ⊢
    simp only [hf, if_neg (Nat.not_lt.2 hl), hs, if_true] at hraised ⊢
    refine ⟨rfl, rfl, rfl, fun hold => ?_, fun hnew => ?_⟩
    · have hany : d.rx.any (fun x => x.1 == o.idx) = true := by
        obtain ⟨x, hx, he⟩ := hold
        exact List.any_eq_true.2 ⟨x, hx, beq_iff_eq.2 he⟩
      exact ⟨if_pos hany, fun hset => hraised hset 5 (by rw [if_pos hany]; exact List.mem_singleton_self 5)⟩
    · refine if_neg fun hany => ?_
      obtain ⟨x, hx, he⟩ := List.any_eq_true.1 hany
      exact hnew x hx (beq_iff_eq.1 he)

/-- In bus monitoring no data are taken (R310). -/
theorem canFrameReceive_monitored (hres : ¬ (f.fdf = true ∧ res = true)) {o : CanObj}
    (ho : s.can.ctl[k].objs.find? (fun o => o.selects f) = some o) (h3 : s.can.ctl[k].state = 3) :
    CanDoes (.canFrameReceive k f res) s k (fun _ d => d.rx = s.can.ctl[k].rx ∧ d.cap = s.can.ctl[k].cap) :=
  canFrameReceive_does h hres fun sync cyc r q t _ => by
    intro c d _
    have hf : d.objs.find? (fun o => o.selects f) = some o := ho
    have hs : d.state = 3 := h3
    unfold CanCtl.filed
    simp only [hf, hs]
    split <;> exact ⟨rfl, rfl⟩

/-- A frame that suits no object is not captured where the FIFO is off (R300). -/
theorem canFrameReceive_ignored (hres : ¬ (f.fdf = true ∧ res = true))
    (ho : s.can.ctl[k].objs.find? (fun o => o.selects f) = none) (hcap : s.can.ctl[k].cfg.getLsbD 10 = false) :
    CanDoes (.canFrameReceive k f res) s k (fun _ d => d.rx = s.can.ctl[k].rx ∧ d.cap = s.can.ctl[k].cap) :=
  canFrameReceive_does h hres fun sync cyc r q t _ => by
    intro c d _
    have hf : d.objs.find? (fun o => o.selects f) = none := ho
    have hb : bit d.cfg 10 = false := hcap
    unfold CanCtl.filed
    simp only [hf, hb, Bool.not_false, if_true]
    exact ⟨rfl, rfl⟩

/-- A frame that suits no object is captured while the FIFO has room (R300). -/
theorem canFrameReceive_captured (hres : ¬ (f.fdf = true ∧ res = true))
    (ho : s.can.ctl[k].objs.find? (fun o => o.selects f) = none) (hcap : s.can.ctl[k].cfg.getLsbD 10 = true)
    (hl : s.can.ctl[k].cap.length < 64) :
    CanDoes (.canFrameReceive k f res) s k (fun _ d =>
      d.rx = s.can.ctl[k].rx ∧ d.cap = s.can.ctl[k].cap ++ [(s.stn.time, f)]) :=
  canFrameReceive_does h hres fun sync cyc r q t _ => by
    intro c d _
    have hf : d.objs.find? (fun o => o.selects f) = none := ho
    have hb : bit d.cfg 10 = true := hcap
    have hd : d.cap.length < 64 := hl
    unfold CanCtl.filed
    simp only [hf, hb, Bool.not_true, Bool.false_eq_true, if_false, if_pos hd]
    exact ⟨rfl, rfl⟩

/-- A full FIFO counts the frame, but not in bus monitoring (R300, R310). -/
theorem canFrameReceive_overflow (hres : ¬ (f.fdf = true ∧ res = true))
    (ho : s.can.ctl[k].objs.find? (fun o => o.selects f) = none) (hcap : s.can.ctl[k].cfg.getLsbD 10 = true)
    (hl : 64 ≤ s.can.ctl[k].cap.length) :
    CanDoes (.canFrameReceive k f res) s k (fun t d =>
      let c := s.can.ctl[k]
      d.rx = c.rx ∧ d.cap = c.cap ∧
        if c.state = 2 then d.capOvf = satInc c.capOvf ∧ (Settled s → Raised t (128 + 8 * k.val + 5)) else d.capOvf = c.capOvf) :=
  canFrameReceive_does h hres fun sync cyc r q t _ => by
    intro c d hraised
    have hf : d.objs.find? (fun o => o.selects f) = none := ho
    have hb : bit d.cfg 10 = true := hcap
    have hd : ¬ d.cap.length < 64 := Nat.not_lt.2 hl
    have hs : d.state = 2 ∨ d.state = 3 := h.state
    unfold CanCtl.filed at hraised ⊢
    simp only [hf, hb, Bool.not_true, Bool.false_eq_true, if_false, if_neg hd] at hraised ⊢
    rcases hs with hs | hs
    · rw [if_neg (by rw [hs]; decide)] at hraised ⊢
      rw [if_pos (show c.state = 2 from hs)]
      exact ⟨rfl, rfl, rfl, fun hset => hraised hset 5 (List.mem_singleton_self 5)⟩
    · rw [if_pos (by rw [hs]; decide)]
      rw [if_neg (fun h2 : c.state = 2 => absurd ((show c.state = 3 from hs).symm.trans h2) (by decide))]
      exact ⟨rfl, rfl, rfl⟩

/-- A time slave synchronises to a reference message (R307). -/
theorem canFrameReceive_ref (hres : ¬ (f.fdf = true ∧ res = true)) (ht : s.can.ctl[k].tt ≠ 0) (hm : s.can.ctl[k].ttMaster = false)
    (hr : s.can.ctl[k].isRef f = true) (h7 : (f.data.getD 0 0).getLsbD 7 = false) :
    CanDoes (.canFrameReceive k f res) s k (fun _ d => d.ttSync = true ∧ d.cycle = (f.data.getD 0 0).truncate 6) :=
  canFrameReceive_does h hres fun sync cyc r q t hh => by
    intro c d _
    obtain ⟨_, _, _, _, _, _, _, hd⟩ := d.filed_keeps f s.stn.time
    rw [hd]
    exact hh.ref ht hm hr h7

end

/-! ### Sending -/

/-- The loop delay measured with a frame touches TDCV and its errors alone (R299). -/
theorem canTdc_eq (s : State) (k : Fin 8) (o : CanObj) (x : Nat) : ∃ b n, canTdc s k o x = { s with can := b, free := n } := by
  unfold canTdc
  dsimp only
  split
  · exact ⟨_, _, rfl⟩
  · split <;> exact ⟨_, _, rfl⟩

theorem CanBecomes.tdc {s t : State} {k : Fin 8} {d : CanCtl} {l : List Nat} (h : CanBecomes s t k d l) (o : CanObj) (x : Nat) :
    ∃ v n, CanBecomes s (canTdc t k o x) k { d with tdcv := v, tdcErr := n } l ∧
      (d.sendsFd o = true → d.dbt.getLsbD 19 = true → x ≤ 127 → v.toNat = x ∧ n = d.tdcErr) ∧
      (d.sendsFd o = true → d.dbt.getLsbD 19 = true → 127 < x → n = satInc d.tdcErr) := by
  unfold canTdc
  dsimp only
  rw [h.self]
  split
  · next hno =>
    have hno : ¬ (d.sendsFd o = true ∧ d.dbt.getLsbD 19 = true) := fun ⟨h1, h2⟩ => by
      rw [h1, show bit d.dbt 19 = true from h2] at hno
      exact absurd hno (by decide)
    exact ⟨d.tdcv, d.tdcErr, h, fun h1 h2 => absurd ⟨h1, h2⟩ hno, fun h1 h2 => absurd ⟨h1, h2⟩ hno⟩
  · split
    · next hle => exact ⟨_, d.tdcErr, h.modCan _, fun _ _ _ => ⟨by simp; omega, rfl⟩, fun _ _ hlt => absurd hle (by omega)⟩
    · next hgt =>
      exact ⟨_, _, (h.then ((Works.refl _ _).drawWord)).modCan _, fun _ _ hle => absurd hle hgt, fun _ _ _ => rfl⟩

/-- The counters once a frame has been sent (R303, R305). -/
def CanCtl.sentOne (c : CanCtl) : CanCtl := { c with txCnt := c.txCnt + 1, tec := c.tec - (if c.tec = 0 then 0 else 1), txdOff := false }

/-- The frame of an object's request (R295, R299, R303). -/
def CanCtl.frameOf (c : CanCtl) (o : CanObj) (tdcv : Nat) : CanFrame :=
  let fd := c.sendsFd o
  { id := o.id.truncate 29, ide := o.ide, fdf := fd, rtr := false
    brs := fd && o.brs && !(bit c.dbt 19 && tdcv > 127), esi := fd && c.errState == 1, dlc := dlcOf o.len
    data := fit (dlcLen o.len) (((c.reqs.find? (fun r => r.obj == o.idx)).map (fun r => r.data)).getD []) }

/-- The request is gone, and the transmission is counted where a variable asks for it (R303). -/
def CanCtl.acked (c : CanCtl) (o : CanObj) (n : Word) : CanCtl :=
  let d := c.drop o.idx
  if bindVar o.ack = none then d
  else { d with acks := aset d.acks o.idx n, ackNew := if d.ackNew.contains o.idx then d.ackNew else d.ackNew ++ [o.idx] }

/-- The transmissions counted for an object's variable (R303). -/
theorem CanCtl.acked_acks (c : CanCtl) (o : CanObj) (n : Word) : (bindVar o.ack = none → (c.acked o n).acks = c.acks) ∧
    (bindVar o.ack ≠ none → aget (c.acked o n).acks o.idx = some n ∧ o.idx ∈ (c.acked o n).ackNew) := by
  unfold CanCtl.acked
  refine ⟨fun h => by rw [if_pos h]; rfl, fun h => ?_⟩
  rw [if_neg h]
  refine ⟨aget_aset_self _ _ _, ?_⟩
  dsimp only
  split
  · next hc => exact List.contains_iff_mem.1 hc
  · exact List.mem_append_right _ (List.mem_singleton_self _)

/-- Nothing else of the controller is changed but the requests. -/
theorem CanCtl.acked_eq (c : CanCtl) (o : CanObj) (n : Word) :
    ∃ a b, c.acked o n = { c.drop o.idx with acks := a, ackNew := b } := by
  unfold CanCtl.acked
  split <;> exact ⟨_, _, rfl⟩

/-- A frame carries the data of its request (R303). -/
theorem take_fit {l : List Byte} {n : Nat} (h : l.length ≤ (fit n l).length) : (fit n l).take l.length = l := by
  unfold fit at h ⊢
  simp only [List.length_take, List.length_append, List.length_replicate] at h
  rw [List.take_take, Nat.min_eq_left (by omega), List.take_left]

/-- The frame that leaves is the object's, with the data of its request (R295, R299, R303). -/
theorem CanCtl.frameOf_fields {c : CanCtl} (h2 : c.state = 2) (o : CanObj) (x : Nat) :
    let f := c.frameOf o x
    f.id = o.id.truncate 29 ∧ f.ide = o.ide ∧ f.fdf = c.sendsFd o ∧ f.esi = (f.fdf && (127 < c.tec.toNat || 127 < c.recv.toNat)) ∧
      f.brs = (f.fdf && o.brs && !(c.dbt.getLsbD 19 && 127 < x)) ∧
      ∀ r, c.reqs.find? (fun r => r.obj == o.idx) = some r → r.data.length ≤ f.data.length → f.data.take r.data.length = r.data := by
  have herr : (c.errState == 1) = (127 < c.tec.toNat || 127 < c.recv.toNat) := by
    unfold CanCtl.errState
    rw [h2]
    by_cases h : c.tec.toNat > 127 || c.recv.toNat > 127
    · rw [if_neg (by decide), if_pos h]
      exact h.symm
    · rw [if_neg (by decide), if_neg h]
      exact (Bool.not_eq_true _ ▸ h : (c.tec.toNat > 127 || c.recv.toNat > 127) = false).symm
  refine ⟨rfl, rfl, rfl, ?_, rfl, fun r hr hl => ?_⟩
  · show (c.sendsFd o && _) = _
    rw [herr]
    rfl
  · unfold CanCtl.frameOf at hl ⊢
    dsimp only at hl ⊢
    rw [hr] at hl ⊢
    exact take_fit hl

theorem canSent_some {s : State} {k : Fin 8} {i : Fin 64} {o : CanObj} (ho : s.can.ctl[k].obj? (128 + i.val) = some o) (tdcv : Nat) :
    canSent s k (some i) tdcv =
      modCan (send (canTdc (modCan s k CanCtl.sentOne) k o tdcv) (.canFrame k.val (s.can.ctl[k].frameOf o tdcv))) k
        (fun c => c.acked o ((aget s.can.ctl[k].acks o.idx).getD 0 + 1)) := by
  unfold canSent
  simp only [Option.bind_some, show s.can.ctl[k].obj? (txIdx i) = some o from ho]
  rfl

theorem CanCtl.asked_of_maySend {c : CanCtl} {i now : Nat} (h : c.maySend i now = true) : c.asked i = true := by
  unfold CanCtl.maySend at h
  dsimp only at h
  split at h
  · exact (Bool.and_eq_true_iff.1 h).1
  · obtain ⟨r, hr, hb⟩ := List.any_eq_true.1 (Bool.and_eq_true_iff.1 (Bool.and_eq_true_iff.1 h).1).1
    exact List.any_eq_true.2 ⟨r, hr, (Bool.and_eq_true_iff.1 hb).1⟩

theorem CanCtl.obj?_idx {c : CanCtl} {i : Nat} {o : CanObj} (h : c.obj? i = some o) : o.idx = i :=
  beq_iff_eq.1 (List.find?_some (p := fun o : CanObj => o.idx == i) h)

section
variable {s : State} {k : Fin 8} (ha : alive s = true) (hq : s.pwr.quiet.getLsbD 1 = false) (h2 : s.can.ctl[k].state = 2)
include ha hq h2

theorem canActive_guard {b : Bool} (hb : b = true) : (canUp s && s.can.ctl[k].state == 2#3 && b) = true := by
  rw [canUp_of ha hq, h2, hb]
  rfl

theorem canFrameSent_reference (hm : s.can.ctl[k].ttMaster = true) (tdcv : Nat) :
    CanDoes (.canFrameSent k none tdcv) s k (fun _ d => d = s.can.ctl[k].sentOne) :=
  canDoes_of (f := fun s => canSent s k none tdcv) rfl (canActive_guard ha hq h2 hm)
    ((CanBecomes.refl (by rw [freshCycle_can])).modCan _) (fun _ _ _ => rfl)

/-- An object's frame is sent: the counters, the request, the count of transmissions, the loop delay, and the frame itself
(R299, R303, R305). -/
theorem canFrameSent_object {i : Fin 64} {o : CanObj} {tdcv : Nat} {P : State → CanCtl → Prop}
    (hm : s.can.ctl[k].maySend (128 + i.val) s.stn.tierRef.toNat = true) (ho : s.can.ctl[k].obj? (128 + i.val) = some o)
    (hp : ∀ t v n, (Quiet s → t.sent = .canFrame k.val (s.can.ctl[k].frameOf o tdcv) :: s.sent) →
      let c := s.can.ctl[k]
      (c.sendsFd o = true → c.dbt.getLsbD 19 = true → tdcv ≤ 127 → v.toNat = tdcv ∧ n = c.tdcErr) →
      (c.sendsFd o = true → c.dbt.getLsbD 19 = true → 127 < tdcv → n = satInc c.tdcErr) →
      P t ({ c.sentOne with tdcv := v, tdcErr := n }.acked o ((aget c.acks o.idx).getD 0 + 1))) :
    CanDoes (.canFrameSent k (some i) tdcv) s k P := by
  have hf : (freshCycle s).can.ctl[k] = s.can.ctl[k] := by rw [freshCycle_can]
  obtain ⟨v, n, hb, hlow, hhigh⟩ := ((CanBecomes.refl hf).modCan CanCtl.sentOne).tdc o tdcv
  refine canDoes_of (f := fun s => canSent s k (some i) tdcv) rfl (canActive_guard ha hq h2 hm) (l := []) ?_
    (fun t ht _ => hp t v n (fun hquiet => ?_) hlow hhigh)
  · rw [canSent_some (by rw [hf]; exact ho), hf]
    exact (hb.then ((Works.refl _ _).send _)).modCan _
  · rw [ht, freshCycle_of_intake hquiet.2, canSent_some ho]
    obtain ⟨b, m, htdc⟩ := canTdc_eq (modCan s k CanCtl.sentOne) k o tdcv
    rw [htdc]
    exact sent_of (s := s) ⟨hquiet.1.1, hquiet.1.2⟩

/-- An object's frame is sent, field by field. -/
theorem canFrameSent_fields {i : Fin 64} {o : CanObj} {tdcv : Nat}
    (hm : s.can.ctl[k].maySend (128 + i.val) s.stn.tierRef.toNat = true) (ho : s.can.ctl[k].obj? (128 + i.val) = some o) :
    CanDoes (.canFrameSent k (some i) tdcv) s k (fun t d =>
      let c := s.can.ctl[k]
      d.txCnt = c.txCnt + 1 ∧ d.tec = c.tec - (if c.tec = 0 then 0 else 1) ∧
      d.reqs = c.reqs.filter (fun r => r.obj ≠ o.idx) ∧ d.state = 2 ∧ d.txdOff = false ∧
      (bindVar o.ack = none → d.acks = c.acks) ∧
      (bindVar o.ack ≠ none → aget d.acks o.idx = some ((aget c.acks o.idx).getD 0 + 1) ∧ o.idx ∈ d.ackNew) ∧
      (Quiet s → ∃ f, .canFrame k.val f ∈ t.sent.take 1 ∧ f.id = o.id.truncate 29 ∧ f.ide = o.ide ∧
        f.fdf = c.sendsFd o ∧ f.esi = (f.fdf && (127 < c.tec.toNat || 127 < c.recv.toNat)) ∧
        f.brs = (f.fdf && o.brs && !(c.dbt.getLsbD 19 && 127 < tdcv)) ∧
        ∀ r, c.reqs.find? (fun r => r.obj == o.idx) = some r → r.data.length ≤ f.data.length → f.data.take r.data.length = r.data) ∧
      (c.sendsFd o = true → c.dbt.getLsbD 19 = true → tdcv ≤ 127 → d.tdcv.toNat = tdcv ∧ d.tdcErr = c.tdcErr) ∧
      (c.sendsFd o = true → c.dbt.getLsbD 19 = true → 127 < tdcv → d.tdcErr = satInc c.tdcErr)) :=
  canFrameSent_object ha hq h2 hm ho fun t v n hsent hlow hhigh => by
    intro c
    obtain ⟨hnone, hsome⟩ := CanCtl.acked_acks { c.sentOne with tdcv := v, tdcErr := n } o ((aget c.acks o.idx).getD 0 + 1)
    obtain ⟨a, b, he⟩ := CanCtl.acked_eq { c.sentOne with tdcv := v, tdcErr := n } o ((aget c.acks o.idx).getD 0 + 1)
    rw [he] at hnone hsome ⊢
    refine ⟨rfl, rfl, rfl, h2, rfl, hnone, hsome, fun hquiet => ⟨c.frameOf o tdcv, ?_, CanCtl.frameOf_fields h2 o tdcv⟩, hlow, hhigh⟩
    rw [hsent hquiet]
    exact List.mem_singleton_self _

/-- A one-shot object that loses arbitration gives up its request (R304). -/
theorem arbitrationLoss_object {i : Fin 64} {o : CanObj}
    (hm : s.can.ctl[k].maySend (128 + i.val) s.stn.tierRef.toNat = true) (ho : s.can.ctl[k].obj? (128 + i.val) = some o) :
    CanDoes (.arbitrationLoss k (.object i)) s k (fun t d =>
      let c := s.can.ctl[k]
      if c.once o then d = { c with reqs := c.reqs.filter (fun r => r.obj ≠ 128 + i.val), oneshot := satInc c.oneshot } ∧
        (Settled s → Raised t (128 + 8 * k.val + 4)) else d = c) := by
  have hf : (freshCycle s).can.ctl[k] = s.can.ctl[k] := by rw [freshCycle_can]
  have heq : canOneShot (freshCycle s) k (128 + i.val) = if s.can.ctl[k].once o then
      raise (modCan (freshCycle s) k (fun c => { c.drop (128 + i.val) with oneshot := satInc c.oneshot })) (canSrc k 4) else freshCycle s := by
    unfold canOneShot
    rw [hf, ho]
    simp only [CanCtl.asked_of_maySend hm, Bool.and_true]
  cases honce : s.can.ctl[k].once o with
  | true =>
    refine canDoes_of (f := fun s => canOneShot s k (128 + i.val)) rfl (canActive_guard ha hq h2 hm)
      (l := [4]) (d := (fun c : CanCtl => { c.drop (128 + i.val) with oneshot := satInc c.oneshot }) s.can.ctl[k]) ?_
      (fun t _ hr => (if_pos honce).mpr ⟨rfl, fun hset => hr hset 4 (List.mem_singleton_self 4)⟩)
    rw [heq, if_pos honce]
    exact ((CanBecomes.refl hf).modCan _).raise (by decide)
  | false =>
    refine canDoes_of (f := fun s => canOneShot s k (128 + i.val)) rfl (canActive_guard ha hq h2 hm) (l := []) ?_
      (fun t _ _ => (if_neg (by rw [honce]; exact Bool.false_ne_true)).mpr rfl)
    rw [heq, if_neg (by rw [honce]; exact Bool.false_ne_true)]
    exact CanBecomes.refl hf

/-- A reference message that loses to another one's ends the place of time master (R306). -/
theorem arbitrationLoss_master (hm : s.can.ctl[k].ttMaster = true) : CanDoes (.arbitrationLoss k (.reference true)) s k (fun t d =>
    d = { s.can.ctl[k] with conflict := true, demoted := true, ttMaster := false } ∧ (Settled s → Raised t (128 + 8 * k.val + 7))) :=
  canDoes_of (f := fun s => raise (modCan s k (fun c => { c with conflict := true, demoted := true, ttMaster := false })) (canSrc k 7)) rfl
    (canActive_guard ha hq h2 hm) (((CanBecomes.refl (by rw [freshCycle_can])).modCan _).raise (by decide))
    (fun _ _ hr => ⟨rfl, fun hset => hr hset 7 (List.mem_singleton_self 7)⟩)

theorem arbitrationLoss_other (hm : s.can.ctl[k].ttMaster = true) :
    CanDoes (.arbitrationLoss k (.reference false)) s k (fun _ d => d = s.can.ctl[k]) :=
  canDoes_of (f := fun s => s) rfl (canActive_guard ha hq h2 hm) (CanBecomes.refl (by rw [freshCycle_can])) (fun _ _ _ => rfl)

end

/-! ### Reference messages and windows (R306, R302) -/

section
variable {s : State} {k : Fin 8} (ha : alive s = true) (hq : s.pwr.quiet.getLsbD 1 = false)
include ha hq

theorem canReference_guard {n : Fin 64} (hst : s.can.ctl[k].state = 2 ∨ s.can.ctl[k].state = 3) (ht : s.can.ctl[k].tt = 1)
    (hb : s.can.ctl[k].bound = true) (hd : s.can.ctl[k].demoted = false) (hn : n.val < s.can.ctl[k].nbc) :
    (canUp s && (s.can.ctl[k].state == 2#3 || s.can.ctl[k].state == 3#3) && s.can.ctl[k].tt == 1 && s.can.ctl[k].bound &&
      !s.can.ctl[k].demoted && n.val < s.can.ctl[k].nbc) = true := by
  have hs : (s.can.ctl[k].state == 2#3 || s.can.ctl[k].state == 3#3) = true := by rcases hst with hs | hs <;> rw [hs] <;> rfl
  rw [canUp_of ha hq, hs, ht, hb, hd]
  simpa using hn

/-- The time master sends its reference message (R306). -/
theorem canReferenceSend_active {n : Fin 64} (late : Bool) (h2 : s.can.ctl[k].state = 2) (ht : s.can.ctl[k].tt = 1)
    (hb : s.can.ctl[k].bound = true) (hd : s.can.ctl[k].demoted = false) (hn : n.val < s.can.ctl[k].nbc) :
    CanDoes (.canReferenceSend k n late) s k (fun t d =>
      let c := s.can.ctl[k]
      d = { c with ttMaster := true, ttSync := true, cycle := BitVec.ofNat 6 n.val, rfLate := if late then satInc c.rfLate else c.rfLate } ∧
        Sends s t (.canFrame k.val (refFrame c n.val))) := by
  have hf : (freshCycle s).can.ctl[k] = s.can.ctl[k] := by rw [freshCycle_can]
  have heq (u : State) (hu : u.can.ctl[k] = s.can.ctl[k]) : canRefStart u k n.val late =
      send (modCan (modCan u k (fun x => { x with ttSync := true, cycle := BitVec.ofNat 6 n.val })) k
        (fun x => { x with ttMaster := true, rfLate := if late then satInc x.rfLate else x.rfLate }))
        (.canFrame k.val (refFrame s.can.ctl[k] n.val)) := by
    unfold canRefStart
    rw [hu]
    exact if_neg (by rw [h2]; decide)
  refine canDoes_of (f := fun s => canRefStart s k n.val late) rfl (canReference_guard ha hq (.inl h2) ht hb hd hn) (l := [])
    (d := (fun x : CanCtl => { x with ttMaster := true, rfLate := if late then satInc x.rfLate else x.rfLate })
      { s.can.ctl[k] with ttSync := true, cycle := BitVec.ofNat 6 n.val }) ?_ (fun t ht _ => ⟨rfl, ?_⟩)
  · rw [heq _ hf]
    exact (((CanBecomes.refl hf).modCan _).modCan _).then ((Works.refl _ _).send _)
  · rw [ht]
    exact sends_of (f := fun s => canRefStart s k n.val late) (fun _ => by rw [heq s rfl]; exact ⟨rfl, rfl, rfl⟩)

/-- In bus monitoring the matrix keeps step (R310). -/
theorem canReferenceSend_monitoring {n : Fin 64} (late : Bool) (h3 : s.can.ctl[k].state = 3) (ht : s.can.ctl[k].tt = 1)
    (hb : s.can.ctl[k].bound = true) (hd : s.can.ctl[k].demoted = false) (hn : n.val < s.can.ctl[k].nbc) :
    CanDoes (.canReferenceSend k n late) s k (fun _ d => d = { s.can.ctl[k] with ttSync := true, cycle := BitVec.ofNat 6 n.val }) := by
  have hf : (freshCycle s).can.ctl[k] = s.can.ctl[k] := by rw [freshCycle_can]
  refine canDoes_of (f := fun s => canRefStart s k n.val late) rfl (canReference_guard ha hq (.inr h3) ht hb hd hn) (l := [])
    (d := (fun x : CanCtl => { x with ttSync := true, cycle := BitVec.ofNat 6 n.val }) s.can.ctl[k]) ?_ (fun _ _ _ => rfl)
  unfold canRefStart
  rw [hf, if_pos (by rw [h3]; decide)]
  exact (CanBecomes.refl hf).modCan _

theorem canWindowOpen_does {w : Nat} (hst : s.can.ctl[k].state = 2 ∨ s.can.ctl[k].state = 3) (ht : s.can.ctl[k].tt ≠ 0)
    (hsync : s.can.ctl[k].ttSync = true) (hw : w < s.can.ctl[k].wins.length) :
    CanDoes (.canWindowOpen k w) s k (fun _ d => d = { s.can.ctl[k] with win := some w, winHit := false }) := by
  have hs : (s.can.ctl[k].state == 2#3 || s.can.ctl[k].state == 3#3) = true := by rcases hst with hs | hs <;> rw [hs] <;> rfl
  refine canDoes_of (f := fun s => modCan s k (fun c => { c with win := some w, winHit := false })) rfl ?_
    ((CanBecomes.refl (by rw [freshCycle_can])).modCan _) (fun _ _ _ => rfl)
  rw [canUp_of ha hq, hs, hsync]
  simpa using ⟨ht, hw⟩

/-- The controller once its window has closed. -/
def CanCtl.shut (c : CanCtl) : CanCtl := { c with win := none, winHit := false }

/-- A window's end, by what the controller becomes. -/
theorem canWindowClose_does {w : Nat} {d : CanCtl} {l : List Nat} (hw : s.can.ctl[k].win = some w)
    (h : CanBecomes (freshCycle s) (canWindowClose (freshCycle s) k w) k d l) :
    CanDoes (.canWindowClose k w) s k (fun t e => e = d ∧ (Settled s → ∀ i ∈ l, Raised t (canSrc k i))) :=
  canDoes_of (f := fun s => canWindowClose s k w) rfl (by rw [canUp_of ha hq, hw]; simp) h (fun _ _ hr => ⟨rfl, hr⟩)

end

/-- A reception window of a bound matrix in which no valid frame has come. -/
def CanCtl.Misses (c : CanCtl) (x : CanWin) : Prop := x.kind = 1 ∧ x.obj < 128 ∧ c.winHit = false ∧ c.bound = true ∧ c.state ≠ 3

/-- A transmit window that has passed in bus monitoring. -/
def CanCtl.Passes (c : CanCtl) (x : CanWin) : Prop := x.kind = 1 ∧ 128 ≤ x.obj ∧ c.state = 3

section
variable {s : State} {k : Fin 8} {w : Nat} {c : CanCtl} {x : CanWin} (hc : s.can.ctl[k] = c)
include hc

theorem canWindowClose_missed (hx : c.wins[w]? = some x) (hm : c.Misses x) : CanBecomes s (canWindowClose s k w) k
    { c.shut with winMiss := satInc c.winMiss, missed := if !c.missed.contains x.obj then c.missed ++ [x.obj] else c.missed } [3] := by
  obtain ⟨hkind, hobj, hhit, hbound, hstate⟩ := hm
  have hno : ¬ (c.winHit || !c.bound || c.state == 3#3) = true := by
    rw [hhit, hbound]
    simpa using hstate
  unfold canWindowClose
  dsimp only
  rw [hc, hx]
  dsimp only
  rw [if_neg (not_not.2 hkind), if_pos hobj, if_neg hno]
  exact CanBecomes.raise (((CanBecomes.refl hc).modCan CanCtl.shut).modCan _) (i := 3) (by decide)

theorem canWindowClose_passed (hx : c.wins[w]? = some x) (hp : c.Passes x) :
    CanBecomes s (canWindowClose s k w) k { c.shut with reqs := c.reqs.filter (fun r => r.obj ≠ x.obj) } [] := by
  obtain ⟨hkind, hobj, hstate⟩ := hp
  unfold canWindowClose
  dsimp only
  rw [hc, hx]
  dsimp only
  rw [if_neg (not_not.2 hkind), if_neg (Nat.not_lt.2 hobj), if_pos (by rw [hstate]; rfl)]
  exact ((CanBecomes.refl hc).modCan CanCtl.shut).modCan (fun c => c.drop x.obj)

theorem canWindowClose_shut (h : ∀ x, c.wins[w]? = some x → ¬ c.Misses x ∧ ¬ c.Passes x) :
    CanBecomes s (canWindowClose s k w) k c.shut [] := by
  have hshut := (CanBecomes.refl hc).modCan CanCtl.shut
  unfold canWindowClose
  rw [hc]
  dsimp only
  cases hx : c.wins[w]? with
  | none => exact hshut
  | some x =>
    obtain ⟨hmiss, hpass⟩ := h x hx
    dsimp only
    split
    · exact hshut
    · next hkind =>
      have hkind : x.kind = 1 := not_not.1 hkind
      split
      · next hobj =>
        split
        · exact hshut
        · next hno =>
          simp only [Bool.or_eq_true, Bool.not_eq_true', beq_iff_eq, not_or, Bool.not_eq_true, Bool.not_eq_false] at hno
          exact absurd ⟨hkind, hobj, hno.1.1, hno.1.2, hno.2⟩ hmiss
      · next hobj =>
        split
        · next hst => exact absurd ⟨hkind, Nat.not_lt.1 hobj, beq_iff_eq.1 hst⟩ hpass
        · exact hshut
end

end Sys2Proof.Machine

open Sys2Proof Sys2Proof.Machine

/-- Settles O52: each clause is the rule of its command, with what the controller has become. -/
theorem canTraffic : Obligations.CanTraffic := by
  unfold Obligations.CanTraffic
  intro s k ha hq
  refine ⟨fun f res hs hfd hlen => ?_, fun h2 => ⟨?_, ?_, ?_, ?_, ?_, ?_⟩, ?_, ?_, ?_⟩
  · have h : Heard s k f := ⟨ha, hq, hs, hfd, hlen⟩
    refine ⟨fun h1 hr => canFrameReceive_pxe h ⟨h1, hr⟩, fun hres => ?_⟩
    exact ⟨canFrameReceive_counts h hres, fun o ho hl => canFrameReceive_short h hres ho hl,
      fun o ho hl h2 => canFrameReceive_taken h hres ho hl h2, fun o ho h3 => canFrameReceive_monitored h hres ho h3,
      fun ho hc => canFrameReceive_ignored h hres ho hc, fun ho hc hl => canFrameReceive_captured h hres ho hc hl,
      fun ho hc hl => canFrameReceive_overflow h hres ho hc hl, fun ht hm hr h7 => canFrameReceive_ref h hres (by rw [CanCtl.tt_eq]; exact ht) hm hr h7⟩
  · exact fun i o tdcv hm ho => canFrameSent_fields ha hq h2 hm ho
  · exact fun tdcv hm => canFrameSent_reference ha hq h2 hm tdcv
  · exact fun i o hm ho => arbitrationLoss_object ha hq h2 hm ho
  · exact arbitrationLoss_master ha hq h2
  · exact arbitrationLoss_other ha hq h2
  · exact fun n late ht hb hd hn => canReferenceSend_active ha hq late h2 ht hb hd hn
  · exact fun h3 n late ht hb hd hn => canReferenceSend_monitoring ha hq late h3 ht hb hd hn
  · exact fun w hst ht hsync hw => canWindowOpen_does ha hq hst ht hsync hw
  · intro w hw
    have hc : (freshCycle s).can.ctl[k] = s.can.ctl[k] := by rw [freshCycle_can]
    refine ⟨fun x hx hm => ?_, fun x hx hp => ?_, fun h => ?_⟩
    · refine (canWindowClose_does ha hq hw (canWindowClose_missed hc hx hm)).imp fun t ⟨hj, he, hr⟩ =>
        ⟨hj, he.trans ?_, fun hset => hr hset 3 (List.mem_singleton_self 3)⟩
      simp [CanCtl.shut]
    · exact (canWindowClose_does ha hq hw (canWindowClose_passed hc hx hp)).imp fun t ⟨hj, he, _⟩ => ⟨hj, he⟩
    · exact (canWindowClose_does ha hq hw (canWindowClose_shut hc h)).imp fun t ⟨hj, he, _⟩ => ⟨hj, he⟩
end

section
/-! O53: errors on a CAN bus, bus-off and its end, wake-up, and what a session asks of a controller (R296, R305, R307, R310–R312). -/

namespace Sys2Proof.Machine
open Sys2Proof

theorem CanBecomes.forget {s t : State} {k : Fin 8} {d : CanCtl} {l : List Nat} (h : CanBecomes s t k d l) : CanBecomes s t k d [] :=
  ⟨h.works, h.ctl, fun _ _ hi => absurd hi List.not_mem_nil⟩

/-! ### Errors (R305) -/

/-- The controller once an error of this kind has moved its counters (R305). -/
def CanCtl.erred (c : CanCtl) (kind : BitVec 3) (dp : Bool) (e : ErrStep) : CanCtl :=
  { c with
    lec := if dp then c.lec else kind, dlec := if dp then kind else c.dlec
    tec := if c.state == 2#3 then BitVec.ofNat 9 (min (if e = .tx8 then c.tec.toNat + 8 else c.tec.toNat) 511) else c.tec
    recv := if c.state == 2#3 then BitVec.ofNat 8 (min 255 (c.recv.toNat + (if e = .rx1 then 1 else if e = .rx8 then 8 else 0))) else c.recv
    txdOff := false }

/-- The work of an error before its outcome: the counters, the measured loop delay, and the one-shot object's request. -/
def canErred (s : State) (k : Fin 8) (kind : BitVec 3) (dp : Bool) (e : ErrStep) (obj : Option Nat) : State :=
  let s1 := modCan s k (fun c => { c with
    lec := if dp then c.lec else kind, dlec := if dp then kind else c.dlec
    tec := if c.state == 2#3 then BitVec.ofNat 9 (min (if e = .tx8 then s.can.ctl[k].tec.toNat + 8 else s.can.ctl[k].tec.toNat) 511)
      else c.tec
    recv := if c.state == 2#3 then
        BitVec.ofNat 8 (min 255 (s.can.ctl[k].recv.toNat + (if e = .rx1 then 1 else if e = .rx8 then 8 else 0))) else c.recv
    txdOff := false })
  match obj with
  | some i => canOneShot (canErrorTdc s1 k i dp) k i
  | none => s1

/-- The transmitter's counter after an error (R305). -/
def CanCtl.tecAfter (c : CanCtl) (e : ErrStep) : Nat := c.tec.toNat + if e = .tx8 then 8 else 0

/-- The receiver's counter after an error (R305). -/
def CanCtl.recAfter (c : CanCtl) (e : ErrStep) : Nat := c.recv.toNat + match e with | .rx1 => 1 | .rx8 => 8 | _ => 0

theorem CanCtl.tecAfter_eq (c : CanCtl) (e : ErrStep) :
    (if e = .tx8 then c.tec.toNat + 8 else c.tec.toNat) = c.tecAfter e := by
  unfold tecAfter
  split <;> rfl

theorem CanCtl.recAfter_eq (c : CanCtl) (e : ErrStep) :
    c.recv.toNat + (if e = .rx1 then 1 else if e = .rx8 then 8 else 0) = c.recAfter e := by
  unfold recAfter
  cases e <;> rfl

theorem CanCtl.errState_low {c : CanCtl} (h2 : c.state = 2) (ht : c.tec.toNat ≤ 127) (hr : c.recv.toNat ≤ 127) : c.errState = 0 := by
  unfold errState
  rw [h2, if_neg (by decide), if_neg (by simp; omega)]

theorem CanCtl.errState_high {c : CanCtl} (h2 : c.state = 2) (h : 127 < c.tec.toNat ∨ 127 < c.recv.toNat) : c.errState = 1 := by
  unfold errState
  rw [h2, if_neg (by decide), if_pos (by simpa using h)]

theorem canError_eq {s : State} {k : Fin 8} {c : CanCtl} (hc : s.can.ctl[k] = c) (kind : BitVec 3) (dp : Bool) (e : ErrStep)
    (obj : Option Nat) : canError s k kind dp e obj =
      if c.state ≠ 2#3 then canErred s k kind dp e obj
      else if c.tecAfter e > 255 then canBusOff (canErred s k kind dp e obj) k
      else if c.errState = 0 && (canErred s k kind dp e obj).can.ctl[k].errState = 1 then
        raise (canErred s k kind dp e obj) (canSrc k 0)
      else canErred s k kind dp e obj := by
  rw [← c.tecAfter_eq]
  subst hc
  rfl

/-- What the object whose frame met the error leaves: LOG has been handed a raise at most. -/
structure ErrorDetail (s t : State) (k : Fin 8) (d : CanCtl) : Prop where
  becomes : ∃ v n r o, CanBecomes s t k { d with tdcv := v, tdcErr := n, reqs := r, oneshot := o } []
  hands : Hands 1 s t
  time : t.stn.time = s.stn.time

theorem canErrorTdc_detail {s t : State} {k : Fin 8} {d : CanCtl} (h : CanBecomes s t k d []) (i : Nat) (dp : Bool) :
    (∃ v n, CanBecomes s (canErrorTdc t k i dp) k { d with tdcv := v, tdcErr := n } []) ∧ (canErrorTdc t k i dp).log = t.log ∧
      (canErrorTdc t k i dp).stn = t.stn := by
  have hw := h.then ((Works.refl _ t).drawWord)
  unfold canErrorTdc
  split
  · next o _ =>
    dsimp only
    split
    · obtain ⟨v, n, hb, -, -⟩ := hw.tdc o ((drawWord t).1.toNat % 256)
      obtain ⟨b, m, he⟩ := canTdc_eq (drawWord t).2 k o ((drawWord t).1.toNat % 256)
      exact ⟨⟨v, n, hb⟩, by rw [he]; exact ⟨rfl, rfl⟩⟩
    · exact ⟨⟨_, _, hw⟩, rfl, rfl⟩
  · exact ⟨⟨_, _, h⟩, rfl, rfl⟩

theorem canOneShot_detail {s t : State} {k : Fin 8} {d : CanCtl} (h : CanBecomes s t k d []) (i : Nat) :
    (∃ r o, CanBecomes s (canOneShot t k i) k { d with reqs := r, oneshot := o } []) ∧ Hands 1 t (canOneShot t k i) ∧
      (canOneShot t k i).stn = t.stn := by
  unfold canOneShot
  split
  · split
    · refine ⟨⟨_, _, ((h.modCan (fun c => { c.drop i with oneshot := satInc c.oneshot })).raise (i := 4) (by decide)).forget⟩, ?_, ?_⟩
      · exact (Hands.of_eq (s := t) (t := modCan t k _) rfl).raise _
      · rw [raise_stn]; rfl
    · exact ⟨⟨_, _, h⟩, (Hands.refl t).trans ⟨[], Nat.zero_le 1, by rw [List.append_nil]⟩, rfl⟩
  · exact ⟨⟨_, _, h⟩, (Hands.refl t).trans ⟨[], Nat.zero_le 1, by rw [List.append_nil]⟩, rfl⟩

/-- Without an object the error moves the counters alone. -/
theorem canErred_none {s : State} {k : Fin 8} {c : CanCtl} (hc : s.can.ctl[k] = c) (kind : BitVec 3) (dp : Bool) (e : ErrStep) :
    CanBecomes s (canErred s k kind dp e none) k (c.erred kind dp e) [] := by
  subst hc
  exact (CanBecomes.refl rfl).modCan _

theorem canErred_detail {s : State} {k : Fin 8} {c : CanCtl} (hc : s.can.ctl[k] = c) (kind : BitVec 3) (dp : Bool) (e : ErrStep)
    (obj : Option Nat) : ErrorDetail s (canErred s k kind dp e obj) k (c.erred kind dp e) := by
  have h := canErred_none hc kind dp e
  cases obj with
  | none => exact ⟨⟨_, _, _, _, h⟩, ⟨[], Nat.zero_le 1, by rw [List.append_nil]; rfl⟩, rfl⟩
  | some i =>
    obtain ⟨⟨v, n, ht⟩, hlog, hstn⟩ := canErrorTdc_detail h i dp
    obtain ⟨⟨r, o, hs⟩, hands, hstn'⟩ := canOneShot_detail ht i
    refine ⟨⟨v, n, r, o, hs⟩, ?_, ?_⟩
    · have h0 : Hands 0 s (canErrorTdc (canErred s k kind dp e none) k i dp) := .of_eq hlog
      exact h0.trans hands
    · exact (congrArg Stn.time hstn').trans (congrArg Stn.time hstn)

/-- In bus monitoring the counters stand (R310). -/
theorem CanCtl.erred_monitoring {c : CanCtl} (h : c.state = 3) (kind : BitVec 3) (dp : Bool) (e : ErrStep) :
    (c.erred kind dp e).tec = c.tec ∧ (c.erred kind dp e).recv = c.recv ∧ (c.erred kind dp e).state = 3 := by
  have hno : ¬ (c.state == 2#3) = true := by rw [h]; decide
  exact ⟨if_neg hno, if_neg hno, h⟩

theorem CanCtl.erred_active {c : CanCtl} {e : ErrStep} (h : c.state = 2) (kind : BitVec 3) (dp : Bool) (hle : c.tecAfter e ≤ 255) :
    (c.erred kind dp e).tec.toNat = c.tecAfter e ∧ (c.erred kind dp e).state = 2 ∧
      (c.erred kind dp e).recv.toNat = min 255 (c.recAfter e) := by
  have h2 : (c.state == 2#3) = true := by rw [h]; rfl
  have ht : (c.erred kind dp e).tec = BitVec.ofNat 9 (min (c.tecAfter e) 511) := by
    rw [← c.tecAfter_eq]
    exact if_pos h2
  have hr : (c.erred kind dp e).recv = BitVec.ofNat 8 (min 255 (c.recAfter e)) := by
    rw [← c.recAfter_eq]
    exact if_pos h2
  refine ⟨?_, h, ?_⟩
  · rw [ht, BitVec.toNat_ofNat]; omega
  · rw [hr, BitVec.toNat_ofNat]; omega

theorem canBusy_guard {s : State} {k : Fin 8} (ha : alive s = true) (hq : s.pwr.quiet.getLsbD 1 = false)
    (hs : s.can.ctl[k].state = 2 ∨ s.can.ctl[k].state = 3) :
    (canUp s && (s.can.ctl[k].state == 2#3 || s.can.ctl[k].state == 3#3)) = true := by
  rw [canUp_of ha hq]
  rcases hs with hs | hs <;> rw [hs] <;> rfl

/-- The controller in bus-off (R305). -/
def CanCtl.off (c : CanCtl) : CanCtl := { c with state := 5, reqs := [], ttMaster := false, boffCnt := satInc c.boffCnt }

/-- What the entry of a bus-off carries. -/
def CanCtl.offPayload (c : CanCtl) : List Byte :=
  leN 2 c.tec.toNat ++ [BitVec.ofNat 8 c.lec.toNat, BitVec.ofNat 8 c.dlec.toNat]

theorem canBusOff_eq (s : State) (k : Fin 8) : canBusOff s k =
    raise (logEntry (modCan s k CanCtl.off) 0x0800 k.val 3 (modCan s k CanCtl.off).can.ctl[k].offPayload) (canSrc k 1) := rfl

section
variable {s : State} {k : Fin 8} {c : CanCtl} (hc : s.can.ctl[k] = c) (ha : alive s = true) (hq : s.pwr.quiet.getLsbD 1 = false)
  (kind : Fin 6) (dp : Bool) (e : ErrStep) (obj : Option (Fin 64))
include hc ha hq

/-- An error that does not end in bus-off, by what the controller becomes. -/
theorem canError_does {P : CanCtl → Prop} (hs : c.state = 3 ∨ (c.state = 2 ∧ c.tecAfter e ≤ 255))
    (hp : ∀ v n r o, P { c.erred (BitVec.ofNat 3 (kind.val + 1)) dp e with tdcv := v, tdcErr := n, reqs := r, oneshot := o }) :
    CanDoes (.canError k kind dp e obj) s k (fun _ d => P d) := by
  have hf : (freshCycle s).can.ctl[k] = c := by rw [freshCycle_can, hc]
  obtain ⟨⟨v, n, r, o, hb⟩, -, -⟩ := canErred_detail hf (BitVec.ofNat 3 (kind.val + 1)) dp e (obj.map txIdx)
  refine canDoes_of (f := fun s => canError s k (BitVec.ofNat 3 (kind.val + 1)) dp e (obj.map txIdx)) (l := []) rfl
    (canBusy_guard ha hq (hc.symm ▸ hs.symm.imp_left And.left)) ?_ (fun _ _ _ => hp v n r o)
  rw [canError_eq hf]
  split
  · exact hb
  · next h2 =>
    obtain h3 | ⟨-, hle⟩ := hs
    · exact absurd (h3.symm.trans (not_not.1 h2)) (by decide)
    · rw [if_neg (Nat.not_lt.2 hle)]
      split
      · exact (hb.raise (i := 0) (by decide)).forget
      · exact hb

/-- A transmitter whose counter passes 255 enters bus-off (R305). -/
theorem canError_busOff (h2 : c.state = 2) (hgt : 255 < c.tecAfter e) :
    CanDoes (.canError k kind dp e obj) s k (fun t d =>
      (d.lec = (if dp then c.lec else BitVec.ofNat 3 (kind.val + 1)) ∧ d.dlec = (if dp then BitVec.ofNat 3 (kind.val + 1) else c.dlec) ∧
        d.txdOff = false) ∧ d.state = 5 ∧ d.reqs = [] ∧ d.ttMaster = false ∧ d.boffCnt = satInc c.boffCnt ∧
      (Settled s → Raised t (128 + 8 * k.val + 1)) ∧ ∃ p, Noted s t 0x0800 k.val 3 p) := by
  have heq {u : State} (hu : u.can.ctl[k] = c) (kd : BitVec 3) (i : Option Nat) :
      canError u k kd dp e i = canBusOff (canErred u k kd dp e i) k := by
    rw [canError_eq hu, if_neg (by rw [h2]; decide), if_pos hgt]
  have hf : (freshCycle s).can.ctl[k] = c := by rw [freshCycle_can, hc]
  obtain ⟨⟨v, n, r, o, hb⟩, -, -⟩ := canErred_detail hf (BitVec.ofNat 3 (kind.val + 1)) dp e (obj.map txIdx)
  refine canDoes_of (f := fun s => canError s k (BitVec.ofNat 3 (kind.val + 1)) dp e (obj.map txIdx)) (l := [1])
    (d := CanCtl.off { c.erred (BitVec.ofNat 3 (kind.val + 1)) dp e with tdcv := v, tdcErr := n, reqs := r, oneshot := o })
    rfl (canBusy_guard ha hq (.inl (hc.symm ▸ h2))) ?_
    (fun t ht hr => ⟨⟨rfl, rfl, rfl⟩, rfl, rfl, rfl, rfl, fun hset => hr hset 1 (List.mem_singleton_self 1), ?_⟩)
  · rw [heq hf, canBusOff_eq]
    exact ((hb.modCan CanCtl.off).then ((Works.refl _ _).logEntry _ _ _ _)).raise (by decide)
  · subst ht
    obtain ⟨-, hands, -⟩ := canErred_detail hc (BitVec.ofNat 3 (kind.val + 1)) dp e (obj.map txIdx)
    refine ⟨(modCan (canErred s k (BitVec.ofNat 3 (kind.val + 1)) dp e (obj.map txIdx)) k CanCtl.off).can.ctl[k].offPayload,
      noted_of_hands (f := fun s => canError s k (BitVec.ofNat 3 (kind.val + 1)) dp e (obj.map txIdx)) (n := 1) (m := 1)
        (by decide) (by omega) (by decide) (by decide) fun _ => ⟨_, hands.congr rfl, ?_, ?_⟩⟩
    · rw [heq hc, canBusOff_eq]
      exact (Hands.refl _).raise _
    · rw [heq hc, canBusOff_eq, raise_stn]
      rfl

/-- A controller that becomes error passive raises its event (R305). -/
theorem canError_passive (h2 : c.state = 2) (hle : c.tecAfter e ≤ 255) (ht : c.tec.toNat ≤ 127)
    (hr : c.recv.toNat ≤ 127) (hlt : 127 < c.tecAfter e ∨ 127 < c.recAfter e) :
    CanDoes (.canError k kind dp e none) s k (fun t _ => Settled s → Raised t (128 + 8 * k.val + 0)) := by
  have hf : (freshCycle s).can.ctl[k] = c := by rw [freshCycle_can, hc]
  have hb := canErred_none hf (BitVec.ofNat 3 (kind.val + 1)) dp e
  obtain ⟨htec, hstate, hrecv⟩ := CanCtl.erred_active h2 (BitVec.ofNat 3 (kind.val + 1)) dp hle
  have his := CanCtl.errState_high hstate (by rw [htec, hrecv]; omega)
  refine canDoes_of (f := fun s => canError s k (BitVec.ofNat 3 (kind.val + 1)) dp e none) (l := [0])
    (d := c.erred (BitVec.ofNat 3 (kind.val + 1)) dp e) rfl
    (canBusy_guard ha hq (.inl (hc.symm ▸ h2))) ?_ (fun t _ hr hset => hr hset 0 (List.mem_singleton_self 0))
  rw [canError_eq hf, if_neg (by rw [h2]; decide), if_neg (Nat.not_lt.2 hle), hb.self, CanCtl.errState_low h2 ht hr, his]
  exact hb.raise (by decide)

end

/-! ### Bus-off, wake-up and integration -/

/-- The state that the station's role gives a controller. -/
def roleOf (s : State) : BitVec 3 := if s.pair.state ∈ [0, 2, 3] then 2 else if s.pair.state = 6 ∨ s.pair.state = 7 then 7 else 3

theorem canRole_eq (s : State) : canRole s = roleOf s := by
  unfold canRole roleOf
  simp [or_assoc]

theorem canRole_freshCycle (s : State) : canRole (freshCycle s) = roleOf s := by
  rw [canRole_eq]
  unfold roleOf
  rw [freshCycle_pair]

theorem canUp_guard {s : State} (ha : alive s = true) (hq : s.pwr.quiet.getLsbD 1 = false) {b : Bool} (hb : b = true) :
    (canUp s && b) = true := by rw [canUp_of ha hq, hb]; rfl

section
variable {s : State} {k : Fin 8} {c : CanCtl} (hc : s.can.ctl[k] = c)
include hc

/-- A command that changes one controller and nothing else. -/
theorem canDoes_sets {cmd : Instr} {b : Bool} {g : State → CanCtl → CanCtl} {d : CanCtl}
    (hx : exec cmd s = guarded s b (fun s => modCan s k (g s))) (hb : b = true) (hd : g (freshCycle s) c = d) :
    CanDoes cmd s k (fun _ e => e = d) :=
  canDoes_of (f := fun s => modCan s k (g s)) (l := []) hx hb ((CanBecomes.refl (by rw [freshCycle_can, hc])).modCan _) (fun _ _ _ => hd)

variable (ha : alive s = true) (hq : s.pwr.quiet.getLsbD 1 = false)
include ha hq

/-- The end of bus-off (R305). -/
theorem boffRecovered_does (h6 : c.state = 6) : CanDoes (.boffRecovered k) s k (fun t d =>
    d = { c with state := roleOf s, tec := 0, recv := 0, lec := 0, dlec := 0 } ∧ (Settled s → Raised t (128 + 8 * k.val + 2))) :=
  canDoes_of (f := fun s => raise (modCan s k (fun c => { c with state := canRole s, tec := 0, recv := 0, lec := 0, dlec := 0 })) (canSrc k 2))
    (l := [2]) rfl (canUp_guard ha hq (by rw [hc, h6]; rfl)) (((CanBecomes.refl (by rw [freshCycle_can, hc])).modCan _).raise (by decide))
    (fun _ _ hr => ⟨by rw [canRole_freshCycle], fun hset => hr hset 2 (List.mem_singleton_self 2)⟩)

theorem ttSyncLoss_does (h1 : c.ttSync = true) (hm : c.ttMaster = false) : CanDoes (.ttSyncLoss k) s k (fun t d =>
    d = { c with ttSync := false, win := none } ∧ (Settled s → Raised t (128 + 8 * k.val + 7))) :=
  canDoes_of (f := fun s => raise (modCan s k (fun c => { c with ttSync := false, win := none })) (canSrc k 7)) (l := [7]) rfl
    (by rw [hc, canUp_of ha hq, h1, hm]; rfl) (((CanBecomes.refl (by rw [freshCycle_can, hc])).modCan _).raise (by decide))
    (fun _ _ hr => ⟨rfl, fun hset => hr hset 7 (List.mem_singleton_self 7)⟩)

/-- What a sleeping bus detects (R311). -/
def canWoken (s : State) (k : Fin 8) (f : Option CanFrame) (u : State) : State :=
  if wakeSeen s.can.ctl[k] f then canWake u k else modCan u k (fun c => { c with xcvErr := c.xcvErr + 1 })

/-- A wake-up pattern or frame wakes a sleeping controller (R311). -/
theorem canWake_wakes {f : Option CanFrame} (h4 : c.state = 4) (hw : wakeSeen c f = true) :
    CanDoes (.canWake k f) s k (fun t d => d = { c with state := 1, waking := true, integ := false, wakeReq := false } ∧
      (Settled s → Raised t (128 + 8 * k.val + 6))) := by
  subst hc
  refine canDoes_of (f := canWoken s k f) (l := [6]) rfl (by rw [canUp_of ha hq, h4, hw]; rfl) ?_
    (fun _ _ hr => ⟨rfl, fun hset => hr hset 6 (List.mem_singleton_self 6)⟩)
  unfold canWoken
  rw [if_pos hw]
  exact CanBecomes.raise ((CanBecomes.refl (by rw [freshCycle_can])).modCan
    (fun c => { c with state := 1, waking := true, integ := false, wakeReq := false })) (by decide)

/-- An FD frame is an error to a transceiver that waits for a wake-up frame (R311). -/
theorem canWake_counts {f : CanFrame} (h4 : c.state = 4) (hk : c.wakeKind = 2) (hfd : f.fdf = true)
    (htol : c.wakeCfg.getLsbD 8 = false) :
    CanDoes (.canWake k (some f)) s k (fun _ d => d = { c with xcvErr := c.xcvErr + 1 }) := by
  have hseen : wakeSeen c (some f) = false := by
    have hno : c.wakes f = false := by
      unfold CanCtl.wakes
      rw [hfd]
      rfl
    show (c.wakeKind == 2 && c.wakes f) = false
    rw [hno, Bool.and_false]
  have hcounts : xcvCounts c (some f) = true := by
    unfold xcvCounts
    rw [hk, show bit c.wakeCfg 8 = false from htol]
    simpa using hfd
  subst hc
  refine canDoes_of (f := canWoken s k (some f)) (l := []) rfl (by rw [canUp_of ha hq, h4, hseen, hcounts]; rfl)
    (d := (fun c : CanCtl => { c with xcvErr := c.xcvErr + 1 }) s.can.ctl[k]) ?_ (fun _ _ _ => rfl)
  unfold canWoken
  rw [if_neg (by rw [hseen]; exact Bool.false_ne_true)]
  exact (CanBecomes.refl (by rw [freshCycle_can])).modCan _

theorem txdTimeout_does (h2 : c.state = 2) : CanDoes (.txdTimeout k) s k (fun _ d => d = { c with txdOff := true }) :=
  canDoes_sets hc (g := fun _ c => { c with txdOff := true }) rfl (canUp_guard ha hq (by rw [hc, h2]; rfl)) rfl

theorem canIntegrated_does (hs : c.state = 1 ∨ (c.state = 3 ∧ roleOf s = 2)) :
    CanDoes (.canIntegrated k) s k (fun _ d => d =
      if c.waking then { c with integ := true, txdOff := false } else { c with state := roleOf s, txdOff := false }) := by
  have hg : (c.state == 1#3 || (c.state == 3#3 && canRole s == 2#3)) = true := by
    rw [canRole_eq]
    rcases hs with h1 | ⟨h3, hr⟩
    · rw [h1]; rfl
    · rw [h3, hr]; rfl
  exact canDoes_sets hc (g := fun s c => if c.waking then { c with integ := true, txdOff := false } else { c with state := canRole s, txdOff := false })
    rfl (canUp_guard ha hq (by rw [hc]; exact hg)) (by rw [canRole_freshCycle])

end

/-! ### Requests of a session (R305, R311) -/

theorem blockKey_canCtrlAddr (k : Fin 8) : blockKey (canCtrlAddr k) = some (0xE001C + 0x1000 * k.val) := by
  unfold blockKey canCtrlAddr
  iterate 15 rw [if_neg (by omega)]
  rw [if_pos (by omega), Option.some.injEq]
  omega

theorem isStandby_of_pair {s u : State} (hu : u.pair = s.pair) (h : s.pair.state ≠ 4) : isStandby u = false := by
  rw [isStandby_eq_false_iff, hu]
  exact h

section
variable {s : State} {k : Fin 8} {cmd : Instr} {sess : Fin 4} {f : State → State} (hw : Windowed s sess (0xE001C + 0x1000 * k.val))
  (hx : exec cmd s = keyedCmd s sess (canCtrlAddr k) f)
include hw hx

/-- A request that is accepted waits for the next T1 boundary. -/
theorem canAsk_accepted {g : CanCtl → CanCtl} {x : DistCmd}
    (hf : ∀ u, u.can = s.can → u.pair = s.pair → f u = accept (modCan u k g) x) :
    DoesSilently cmd s [.can, .stn] (fun t => t.stn = { s.stn with accepted := s.stn.accepted ++ [x] } ∧
      ∀ j : Fin 8, t.can.ctl[j] = if j = k then g s.can.ctl[k] else s.can.ctl[j]) := by
  have h1 := hf (freshCycle s) (by rw [freshCycle_can]) (by rw [freshCycle_pair])
  have h0 := hf s rfl rfl
  refine doesSilently_of (hx.trans (keyedCmd_of hw (blockKey_canCtrlAddr k))) (fun b hb => ?_) (fun _ => ?_) ⟨?_, fun j => ?_⟩
  · rw [h1]
    obtain ⟨hc, hs⟩ := not_or.1 (fun h => hb (List.mem_cons.2 (h.imp_right List.mem_singleton.2)))
    cases b <;> first | exact absurd rfl hc | exact absurd rfl hs | exact fun _ => Engine.SameBut.refl _ | rfl
  · rw [h0]
    exact ⟨rfl, rfl, rfl, fun _ => rfl⟩
  · show (settle (f (freshCycle s))).stn = _
    rw [settle_stn, h1]
    show ({ (freshCycle s).stn with accepted := (freshCycle s).stn.accepted ++ [x] } : Stn) = _
    rw [freshCycle_stn]
  · show (settle (f (freshCycle s))).can.ctl[j] = _
    rw [settle_can, h1]
    show (modCan (freshCycle s) k g).can.ctl[j] = _
    simp only [modCan, vmod_get, freshCycle_can, @eq_comm _ k j]

/-- A request that is refused is noted. -/
theorem canAsk_refused {r : Nat} (hf : ∀ u, u.can = s.can → u.pair = s.pair → f u = canRefused u k r) :
    Does cmd s [] (fun t => Noted s t 0x0801 k.val 1 [BitVec.ofNat 8 r, s.can.ctl[k].state.zeroExtend 8]) := by
  have hstate : BitVec.ofNat 8 s.can.ctl[k].state.toNat = s.can.ctl[k].state.zeroExtend 8 := BitVec.ofNat_toNat 8 _
  refine does_of (hx.trans (keyedCmd_of hw (blockKey_canCtrlAddr k))) ?_ ?_
  · rw [hf (freshCycle s) (by rw [freshCycle_can]) (by rw [freshCycle_pair])]
    exact ((Works.refl [] _).logEntry _ _ _ _).same
  · refine noted_entry (by decide) (by omega) (by decide) fun _ => ⟨s, ?_, rfl⟩
    rw [hf s rfl rfl, canRefused, hstate]
    rfl

end

end Sys2Proof.Machine

open Sys2Proof Sys2Proof.Machine

/-- Settles O53: the counters, the end of bus-off, wake-up and integration by their rules, and a session's requests by what the state allows. -/
theorem canControl : Obligations.CanControl := by
  unfold Obligations.CanControl
  intro s k c src role exact'
  refine ⟨fun ha hq => ⟨fun kind dp e obj => ⟨fun h3 => ?_, fun h2 hle => ?_, fun h2 hgt => canError_busOff rfl ha hq kind dp e obj h2 hgt, ?_⟩,
    fun h6 => boffRecovered_does rfl ha hq h6, fun h1 hm => ttSyncLoss_does rfl ha hq h1 hm, fun f h4 hf => canWake_wakes rfl ha hq h4 ?_,
    fun f h4 hk hfd htol => canWake_counts rfl ha hq h4 hk hfd htol, fun h2 => txdTimeout_does rfl ha hq h2,
    fun hs => canIntegrated_does rfl ha hq hs⟩, fun sess hw => ?_⟩
  · obtain ⟨ht, hr, hst⟩ := CanCtl.erred_monitoring h3 (BitVec.ofNat 3 (kind.val + 1)) dp e
    exact canError_does rfl ha hq kind dp e obj (.inl h3) fun v n r o => ⟨⟨rfl, rfl, rfl⟩, ht, hr, hst⟩
  · obtain ⟨ht, hst, hr⟩ := CanCtl.erred_active h2 (BitVec.ofNat 3 (kind.val + 1)) dp hle
    exact canError_does rfl ha hq kind dp e obj (.inr ⟨h2, hle⟩) fun v n r o => ⟨⟨rfl, rfl, rfl⟩, ht, hst, hr⟩
  · rintro h2 rfl hle ht hr hlt
    exact canError_passive rfl ha hq kind dp e h2 hle ht hr hlt
  · cases f with
    | none => exact beq_iff_eq.2 hf
    | some f =>
      show (c.wakeKind == 2 && c.wakes f) = true
      rw [hf.1, hf.2]
      rfl
  · refine ⟨⟨fun h5 hp => canAsk_accepted (g := fun c => { c with boffReq := true }) hw rfl fun u hu hv => if_pos ?_, fun h => canAsk_refused hw rfl fun u hu hv => if_neg ?_⟩,
      ⟨fun hb hp => canAsk_accepted (g := fun c => { c with sleepReq := true }) hw rfl fun u hu hv => if_pos ?_, fun h => canAsk_refused hw rfl fun u hu hv => if_neg ?_⟩,
      ⟨fun hk hp => canAsk_accepted (g := fun c => { c with wakeReq := true }) hw rfl fun u hu hv => if_pos ?_, fun h => canAsk_refused hw rfl fun u hu hv => if_neg ?_⟩,
      canDoes_next (f := fun s => canClr s k) (l := []) (keyedCmd_of hw (blockKey_canCtrlAddr k))
        ((CanBecomes.refl (by rw [freshCycle_can])).modCan _) (fun _ _ _ => rfl)⟩
    · rw [hu]
      show (c.state == 5#3 && !isStandby u) = true
      rw [isStandby_of_pair hv hp]
      simpa using h5
    · rw [hu]
      show ¬ (c.state == 5#3 && !isStandby u) = true
      simpa [isStandby, hv] using h
    · rw [hu]
      show (!c.bound && !isStandby u) = true
      rw [isStandby_of_pair hv hp]
      simpa using hb
    · rw [hu]
      show ¬ (!c.bound && !isStandby u) = true
      simpa [isStandby, hv] using h
    · rw [hu]
      show ((c.state == 4#3 || c.sleepReq) && !isStandby u) = true
      rw [isStandby_of_pair hv hp]
      simpa using hk
    · rw [hu]
      show ¬ ((c.state == 4#3 || c.sleepReq) && !isStandby u) = true
      simpa [isStandby, hv] using h
end

section
/-! O54: telegrams leave, are judged copy by copy, and time out (R315–R323). What a command of NET does is put together from `NetBecomes`,
which says what NET has become, the events that were raised, and that nothing else has changed. -/

namespace Sys2Proof.Machine
open Sys2Proof

/-- NET has become `n` with the events `l` raised, and nothing else has changed. -/
structure NetBecomes (s t : State) (n : NetBlk) (l : List Nat) : Prop where
  works : Works [.net] s t
  net : t.net = n
  raised : NowRaised s → ∀ i ∈ l, Raised t i

theorem NetBecomes.refl {s : State} {n : NetBlk} (hn : s.net = n) : NetBecomes s s n [] :=
  ⟨.refl _ s, hn, fun _ _ hi => absurd hi List.not_mem_nil⟩

theorem same_net (s : State) (n : NetBlk) {b : Block} (h : b ∉ [Block.net]) : b.Same s { s with net := n } := by
  cases b <;> first | exact absurd (List.mem_singleton.2 rfl) h | exact fun _ => Engine.SameBut.refl _ | rfl

section
variable {s t : State} {n : NetBlk} {l : List Nat}

/-- Work that leaves NET alone keeps what NET has become. -/
theorem NetBecomes.then (h : NetBecomes s t n l) {u : State} (hw : Works [] t u) : NetBecomes s u n l where
  works := h.works.trans (hw.mono (List.nil_subset _))
  net := by
    have hn : u.net = t.net := hw.same .net List.not_mem_nil
    rw [hn, h.net]
  raised hn i hi := hw.kept _ (h.raised hn i hi)

theorem NetBecomes.modNet (h : NetBecomes s t n l) (f : NetBlk → NetBlk) : NetBecomes s (modNet t f) (f n) l where
  works := h.works.trans (.of_same (fun _ hb => same_net t _ hb) rfl)
  net := congrArg f h.net
  raised hn i hi := (h.raised hn i hi).congr rfl

theorem NetBecomes.raise (h : NetBecomes s t n l) {i : Nat} (hi : i < 512) : NetBecomes s (raise t i) n (i :: l) where
  works := h.works.raise _
  net := (raise_net t i).trans h.net
  raised hn j hj := by
    obtain rfl | hj := List.mem_cons.1 hj
    · exact h.works.raised hn hi
    · exact (h.raised hn j hj).raise _

theorem NetBecomes.congr {m : NetBlk} (h : NetBecomes s t n l) (he : n = m) : NetBecomes s t m l := he ▸ h

/-- A change of a port. -/
theorem NetBecomes.modPort {v : Vector NetPort 3} {p : Fin 3} {m : NetPort} (h : NetBecomes s t { n with ports := v.set p m } l)
    (f : NetPort → NetPort) : NetBecomes s (modPort t p f) { n with ports := v.set p (f m) } l :=
  (h.modNet _).congr (by simp [vmod])

/-- A change of a receive telegram. -/
theorem NetBecomes.modRx {v : Vector (Option RxTel) 128} {r : Fin 128} {x : RxTel}
    (h : NetBecomes s t { n with rx := v.set r (some x) } l) (f : RxTel → RxTel) :
    NetBecomes s (modRx t r f) { n with rx := v.set r (some (f x)) } l :=
  (h.modNet _).congr (by simp [vmod])
end

/-- A command of NET that completes, by what NET becomes. -/
theorem netDoes_next {cmd : Instr} {s : State} {f : State → State} {n : NetBlk} {l : List Nat} {P : State → Prop}
    (hx : exec cmd s = .next { settle (f (freshCycle s)) with pending := s.pending }) (h : NetBecomes (freshCycle s) (f (freshCycle s)) n l)
    (hp : ∀ t, t = { settle (f (freshCycle s)) with pending := s.pending } → (Settled s → ∀ i ∈ l, Raised t i) → P t) :
    Does cmd s [.net] (fun t => t.net = n ∧ P t) :=
  does_of hx h.works.same ⟨(settle_net _).trans h.net, hp _ rfl (fun hs i hi => (h.raised hs.nowRaised i hi).ends _)⟩

/-- Likewise where it comes about. -/
theorem netDoes_of {cmd : Instr} {s : State} {b : Bool} {f : State → State} {n : NetBlk} {l : List Nat} {P : State → Prop}
    (hx : exec cmd s = guarded s b f) (hb : b = true) (h : NetBecomes (freshCycle s) (f (freshCycle s)) n l)
    (hp : ∀ t, t = { settle (f (freshCycle s)) with pending := s.pending } → (Settled s → ∀ i ∈ l, Raised t i) → P t) :
    Does cmd s [.net] (fun t => t.net = n ∧ P t) := netDoes_next (hx.trans (guarded_true hb f)) h hp

/-- What a command puts out among the last eight, where it hands LOG and EVR nothing. -/
theorem sends_of_mem {s : State} {f : State → State} {x : Sent}
    (h : Quiet s → x ∈ (f s).sent.take 8 ∧ (f s).evr.now = s.evr.now ∧ (f s).log.fresh = s.log.fresh) :
    Sends s { settle (f (freshCycle s)) with pending := s.pending } x := by
  intro q
  obtain ⟨hx, hn, hf⟩ := h q
  show x ∈ (settle (f (freshCycle s))).sent.take 8
  rw [freshCycle_of_intake q.2, settle_of_settled ⟨hn.trans q.1.1, hf.trans q.1.2⟩]
  exact hx

theorem netUp_of {s : State} (ha : alive s = true) (hq : s.pwr.quiet.getLsbD 0 = false) : netUp s = true := by
  unfold netUp
  rw [ha, hq]
  rfl

/-! ### Sending (R315–R317) -/

theorem telSends_iff (s : State) : telSends s = true ↔ s.pair.state ∈ [0, 2, 3] := by
  unfold telSends
  simp [or_assoc]

section
variable {s : State} {n : Fin 64} {x : TxTel} {ws : List TWord} (hx : s.net.tx[n] = some x)
include hx

/-- The request is gone, and the SEQ counts (R317). -/
theorem telSend_becomes : NetBecomes s (modTx s n (fun y => { y with seq := y.seq + 1, due := none }))
    { s.net with tx := s.net.tx.set n (some { x with seq := x.seq + 1, due := none }) } [] := by
  refine ((NetBecomes.refl rfl).modNet _).congr ?_
  simp only [vmod, hx, Option.map_some]

theorem exec_telegramSend (hd : x.due = some ws) : exec (.telegramSend n) s =
    guarded s (netUp s && !s.pwr.pf && (telSends s || isStandby s)) (fun s => telSend s n x ws) := by
  show execTelegramSend n s = _
  unfold execTelegramSend
  rw [hx]
  dsimp only
  rw [hd]

variable (ha : alive s = true) (hq : s.pwr.quiet.getLsbD 0 = false) (hd : x.due = some ws) (hpf : s.pwr.pf = false)
include ha hq hd hpf

/-- A telegram that is due leaves on both leaves (R317). -/
theorem telegramSend_active (hs : s.pair.state ∈ [0, 2, 3]) : Does (.telegramSend n) s [.net] (fun t =>
    t.net = { s.net with tx := s.net.tx.set n (some { x with seq := x.seq + 1, due := none }) } ∧
    ∀ leafB : Bool, Sends s t (.telegram leafB (telOn s.net leafB x.mac (telMade s.net.stnId x.kind x.telId x.dst (x.seq + 1) ws)))) := by
  have hup := (telSends_iff s).2 hs
  have hup' : telSends (freshCycle s) = true := (telSends_iff _).2 (by rw [freshCycle_pair]; exact hs)
  have hf : (freshCycle s).net.tx[n] = some x := by rw [freshCycle_net, hx]
  refine netDoes_of (f := fun s => telSend s n x ws) (l := []) (exec_telegramSend hx hd)
    (by rw [netUp_of ha hq, hpf, hup]; rfl) ?_ (fun t ht _ leafB => ?_)
  · have h := telSend_becomes hf
    rw [freshCycle_net] at h
    unfold telSend
    rw [if_pos hup']
    exact (h.then ((Works.refl _ _).send _)).then ((Works.refl _ _).send _)
  · subst ht
    refine sends_of_mem (f := fun s => telSend s n x ws) fun _ => ?_
    unfold telSend
    rw [if_pos hup]
    cases leafB
    · exact ⟨List.mem_cons_of_mem _ List.mem_cons_self, rfl, rfl⟩
    · exact ⟨List.mem_cons_self, rfl, rfl⟩

/-- A standby only counts (R317). -/
theorem telegramSend_standby (hs : s.pair.state = 4) : DoesSilently (.telegramSend n) s [.net] (fun t =>
    t.net = { s.net with tx := s.net.tx.set n (some { x with seq := x.seq + 1, due := none }) }) := by
  have hno {u : State} (hu : u.pair = s.pair) : ¬ telSends u = true := by rw [telSends_iff, hu, hs]; decide
  have hf : (freshCycle s).net.tx[n] = some x := by rw [freshCycle_net, hx]
  have h := telSend_becomes hf
  rw [freshCycle_net] at h
  refine doesSilently_of_works (f := fun s => telSend s n x ws) (exec_telegramSend hx hd)
    (by rw [netUp_of ha hq, hpf, isStandby, hs]; simp) ?_ (fun _ => ?_) ?_
  · unfold telSend
    rw [if_neg (hno (freshCycle_pair s))]
    exact h.works
  · unfold telSend
    rw [if_neg (hno rfl)]
    exact ⟨rfl, rfl, rfl, fun _ => rfl⟩
  · show (settle (telSend (freshCycle s) n x ws)).net = _
    unfold telSend
    rw [settle_net, if_neg (hno (freshCycle_pair s))]
    exact h.net

end

/-! ### One copy (R316–R320) -/

/-- A frame is a telegram of this station: sent to its port's address, to all or to a group of it, with the EtherType of R316. -/
def Mine (s : State) (leafB : Bool) (f : TelFrame) : Prop :=
  (f.mac = Config.mac + (if leafB then 1 else 0) ∨ f.mac = BitVec.allOnes 48 ∨ f.mac.toNat ∈ s.net.groups) ∧ f.etype = s.net.etype

/-- What R318 asks of a copy beside its SEQ. -/
def Fits (s : State) (x : RxTel) (f : TelFrame) : Prop :=
  f.crc = telCrc f.tel f.leaf ∧ f.tel.ver = 1 ∧ f.tel.kind.toNat = x.kind ∧ f.tel.len.toNat = x.len ∧
    (f.tel.dst.toNat = s.net.stnId.toNat ∨ f.tel.dst.toNat = 4095)

/-- SEQ `a` comes after `b` (R318). -/
def Newer (a b : Word) : Prop := 1 ≤ (a - b).toNat ∧ (a - b).toNat ≤ 2 ^ 31 - 1

theorem mine_iff (s : State) (leafB : Bool) (f : TelFrame) :
    (macTaken s (if leafB then 1 else 0) f.mac && f.etype == s.net.etype) = true ↔ Mine s leafB f := by
  have hmac : portMac (if leafB then 1 else 0) = Config.mac + (if leafB then 1 else 0) := by cases leafB <;> rfl
  unfold macTaken Mine
  rw [hmac]
  simp [or_assoc]

theorem telFits_iff (s : State) (x : RxTel) (f : TelFrame) : telFits s x f = true ↔ Fits s x f := by
  unfold telFits Fits
  simp [and_assoc]

theorem seqNewer_iff (a b : Word) : seqNewer a b = true ↔ Newer a b := by
  unfold seqNewer Newer
  simp

/-- The one-copy acceptance that a copy of the other leaf joins (R320). -/
def RxTel.before (x : RxTel) (leafB : Bool) (c : TelCopy) : Option (Word × Bool × TelCopy) :=
  x.ones.find? (fun o => o.1 == c.seq && o.2.1 != leafB)

/-- SEQ `q` comes after the last that has been decided (R318). -/
def RxTel.afterLast (x : RxTel) (q : Word) : Bool := match x.last with | some l => seqNewer q l | none => true

/-- SEQ `q` comes after the newest that is held (R318). -/
def RxTel.afterHeld (x : RxTel) (q : Word) : Bool := match x.held.getLast? with | some h => seqNewer q h.seq | none => true

/-- Between SEQ `q` and the newest before it there is a gap (R318). -/
def RxTel.gapBefore (x : RxTel) (q : Word) : Bool :=
  match (x.held.getLast?.map (fun h => h.seq)).or x.last with | some l => q != l + 1 | none => false

/-- With four SEQs held the oldest is decided (R319). -/
def RxTel.roomMade (s : State) (r : Fin 128) (x : RxTel) : State :=
  match x.held with
  | o :: rest => if x.held.length ≥ 4 then
      (match o.decision true with
        | some d => modRx (decideHeld s r x o d) r (fun y => { y with held := rest })
        | none => s)
    else s
  | [] => s

theorem RxTel.roomMade_of_lt {x : RxTel} (h : x.held.length < 4) (s : State) (r : Fin 128) : RxTel.roomMade s r x = s := by
  unfold roomMade
  split
  · exact if_neg (Nat.not_le.2 h)
  · rfl

/-- The SEQ that a copy opens (R319). -/
def newHeld (s : State) (leafB : Bool) (c : TelCopy) : HeldSeq :=
  { seq := c.seq, a := if leafB then none else some c, b := if leafB then some c else none, at_ := s.stn.time }

theorem put_empty (s : State) (leafB : Bool) (c : TelCopy) :
    HeldSeq.put { seq := c.seq, a := none, b := none, at_ := s.stn.time } leafB c = newHeld s leafB c := by
  cases leafB <;> rfl

section
variable {s : State} {r : Fin 128} {x : RxTel} {leafB : Bool} {f : TelFrame}

theorem telCopy_unfit (h : ¬ Fits s x f) : telCopy s r x leafB f = modRx s r (fun y => y.err leafB) := by
  rw [← telFits_iff, Bool.not_eq_true] at h
  unfold telCopy
  rw [h]
  rfl

theorem find_before (x : RxTel) (leafB : Bool) (c : TelCopy) :
    x.ones.find? (fun o => o.1 == c.seq && decide (o.2.1 ≠ leafB)) = x.before leafB c := by
  unfold RxTel.before
  congr 1
  funext o
  cases o.2.1 <;> cases leafB <;> rfl

theorem afterLast_of_newer (hl : ∀ l, x.last = some l → Newer f.tel.seq l) : ¬ (!x.afterLast f.tel.seq) = true := by
  have h : x.afterLast f.tel.seq = true := by
    unfold RxTel.afterLast
    split
    · next l h => exact (seqNewer_iff _ _).2 (hl l h)
    · rfl
  rw [h]
  exact Bool.false_ne_true

theorem not_held (hne : ∀ y ∈ x.held, y.seq ≠ f.tel.seq) : ¬ x.held.any (fun h => h.seq == f.tel.seq) = true := fun hany => by
  obtain ⟨y, hy, he⟩ := List.any_eq_true.1 hany
  exact hne y hy (beq_iff_eq.1 he)

variable (hf : Fits s x f)
include hf

/-- A copy of a SEQ that one copy has decided is compared with it (R320). -/
theorem telCopy_before {o : Word × Bool × TelCopy} (hb : x.before leafB f.tel = some o) : telCopy s r x leafB f =
    modRx s r (fun y => { y with
      ones := y.ones.filter (fun z => z ≠ o), late := if o.2.2 = f.tel then satInc y.late else y.late
      lateDiff := if o.2.2 = f.tel then y.lateDiff else true }) := by
  have hcomp (g h : RxTel → RxTel) : modRx (modRx s r g) r h = modRx s r (fun y => h (g y)) := by
    simp only [modRx, modNet, vmod_vmod, Option.map_map]
    rfl
  unfold telCopy
  dsimp only
  rw [if_neg (by rw [(telFits_iff s x f).2 hf]; decide), find_before, hb]
  dsimp only
  split
  · exact hcomp _ _
  · exact hcomp _ _

variable (hb : x.before leafB f.tel = none)
include hb

/-- A copy whose SEQ has not been decided by one copy. -/
theorem telCopy_none : telCopy s r x leafB f =
    if !x.afterLast f.tel.seq then modRx s r (fun y => y.err leafB)
    else if x.held.any (fun h => h.seq == f.tel.seq) then
      modRx s r (fun y => { y with held := y.held.map (fun h => if h.seq = f.tel.seq then h.put leafB f.tel else h) })
    else if !x.afterHeld f.tel.seq then modRx s r (fun y => y.err leafB)
    else
      modRx (RxTel.roomMade (if x.gapBefore f.tel.seq then raise (modRx s r (fun y => { y with gap := satInc y.gap })) (netSrc 9) else s) r x)
        r (fun y => { y with held := y.held ++ [newHeld s leafB f.tel] }) := by
  unfold telCopy
  dsimp only
  rw [if_neg (by rw [(telFits_iff s x f).2 hf]; decide), find_before, hb, put_empty]
  rfl

/-- A SEQ that is not newer than the last one decided is an error of the leaf (R318). -/
theorem telCopy_old {l : Word} (hl : x.last = some l) (hn : ¬ Newer f.tel.seq l) :
    telCopy s r x leafB f = modRx s r (fun y => y.err leafB) := by
  have hno : x.afterLast f.tel.seq = false := by
    unfold RxTel.afterLast
    rw [hl]
    exact Bool.eq_false_iff.2 (mt (seqNewer_iff _ _).1 hn)
  rw [telCopy_none hf hb, hno]
  rfl

variable (hl : ∀ l, x.last = some l → Newer f.tel.seq l)
include hl

/-- A copy of a held SEQ joins it (R319). -/
theorem telCopy_joins (hh : ∃ h ∈ x.held, h.seq = f.tel.seq) : telCopy s r x leafB f =
    modRx s r (fun y => { y with held := y.held.map (fun h => if h.seq = f.tel.seq then h.put leafB f.tel else h) }) := by
  obtain ⟨h, hm, he⟩ := hh
  have hany : x.held.any (fun h => h.seq == f.tel.seq) = true := List.any_eq_true.2 ⟨h, hm, beq_iff_eq.2 he⟩
  rw [telCopy_none hf hb, if_neg (afterLast_of_newer hl), if_pos hany]

variable (hne : ∀ y ∈ x.held, y.seq ≠ f.tel.seq)
include hne

/-- A SEQ that comes after the last decided, but not after the newest held, is an error of the leaf (R318). -/
theorem telCopy_behind {h : HeldSeq} (hh : x.held.getLast? = some h) (hn : ¬ Newer f.tel.seq h.seq) :
    telCopy s r x leafB f = modRx s r (fun y => y.err leafB) := by
  have hno : x.afterHeld f.tel.seq = false := by
    unfold RxTel.afterHeld
    rw [hh]
    exact Bool.eq_false_iff.2 (mt (seqNewer_iff _ _).1 hn)
  rw [telCopy_none hf hb, if_neg (afterLast_of_newer hl), if_neg (not_held hne), hno]
  rfl

/-- A newer SEQ is held, and a gap before it counts (R318, R319). -/
theorem telCopy_opens (hh : ∀ h, x.held.getLast? = some h → Newer f.tel.seq h.seq) (hlen : x.held.length < 4) :
    telCopy s r x leafB f =
      modRx (if x.gapBefore f.tel.seq then raise (modRx s r (fun y => { y with gap := satInc y.gap })) (netSrc 9) else s) r
        (fun y => { y with held := y.held ++ [newHeld s leafB f.tel] }) := by
  have hnew : x.afterHeld f.tel.seq = true := by
    unfold RxTel.afterHeld
    split
    · next y h => exact (seqNewer_iff _ _).2 (hh y h)
    · rfl
  rw [telCopy_none hf hb, if_neg (afterLast_of_newer hl), if_neg (not_held hne),
    if_neg (by rw [hnew]; exact Bool.false_ne_true), RxTel.roomMade_of_lt hlen]

end

/-! ### What a copy does to NET -/

section
variable {s : State} {r : Fin 128} {x : RxTel} (hx : s.net.rx[r] = some x) {leafB : Bool} {f : TelFrame} 

/-- NET with receive telegram `r` become `y`. -/
def rxNet (s : State) (r : Fin 128) (y : RxTel) : NetBlk := { s.net with rx := s.net.rx.set r (some y) }

include hx

theorem rxNet_same : s.net = rxNet s r x := by
  unfold rxNet
  rw [← hx]
  simp

theorem rx_refl : NetBecomes s s (rxNet s r x) [] := .refl (rxNet_same hx)

/-- One change of the receive telegram. -/
theorem rx_changes (g : RxTel → RxTel) : NetBecomes s (modRx s r g) (rxNet s r (g x)) [] := (rx_refl hx).modRx g

/-- A SEQ opened, with the gap before it (R318, R319). -/
theorem rx_opens (q : Word) (h : HeldSeq) :
    NetBecomes s (modRx (if x.gapBefore q then raise (modRx s r (fun y => { y with gap := satInc y.gap })) (netSrc 9) else s) r
      (fun y => { y with held := y.held ++ [h] }))
      (rxNet s r { x with held := x.held ++ [h], gap := if x.gapBefore q then satInc x.gap else x.gap })
      (if x.gapBefore q then [473] else []) := by
  split
  · exact (((rx_changes hx (fun y => { y with gap := satInc y.gap })).raise (i := 473) (by decide)).modRx
      (fun y => { y with held := y.held ++ [h] }))
  · exact rx_changes hx _

end

/-- What TELEGRAM_RECEIVE does with a telegram of this station. -/
def telReceived (leafB : Bool) (f : TelFrame) (s : State) : State :=
  match telFor s f.tel with
  | none => s
  | some r => match s.net.rx[r] with
    | some x => if isStandby s then telListen s r x leafB f else telCopy s r x leafB f
    | none => s

theorem exec_telegramReceive (leafB : Bool) (f : TelFrame) (s : State) : exec (.telegramReceive leafB f) s =
    guarded s (netUp s && portUp s (if leafB then 1 else 0) && macTaken s (if leafB then 1 else 0) f.mac && f.etype == s.net.etype)
      (telReceived leafB f) := rfl

theorem telFor_congr {s u : State} (h : u.net = s.net) (c : TelCopy) : telFor u c = telFor s c := by
  unfold telFor
  rw [h]

theorem Fits.congr {s u : State} {x : RxTel} {f : TelFrame} (h : Fits s x f) (hu : u.net = s.net) : Fits u x f := by
  unfold Fits
  rw [hu]
  exact h

section
variable {s : State} {leafB : Bool} {f : TelFrame} (ha : alive s = true) (hq : s.pwr.quiet.getLsbD 0 = false)
  (hp : portUp s (if leafB then 1 else 0) = true)
include ha hq hp

/-- A frame for another address, or a telegram that none of the station's names, does nothing (R316, R318). -/
theorem telegramReceive_ignored (h : ¬ Mine s leafB f ∨ telFor s f.tel = none) :
    DoesSilently (.telegramReceive leafB f) s [] (fun _ => True) := by
  by_cases hm : Mine s leafB f
  · have hnone := h.resolve_left (not_not.2 hm)
    have hrec {u : State} (hu : u.net = s.net) : telReceived leafB f u = u := by
      unfold telReceived
      rw [telFor_congr hu, hnone]
    refine doesSilently_of_works (exec_telegramReceive leafB f s) ?_ ?_ (fun _ => ?_) trivial
    · rw [netUp_of ha hq, hp, Bool.and_assoc, (mine_iff s leafB f).2 hm]
      rfl
    · rw [hrec (freshCycle_net s)]
      exact .refl _ _
    · rw [hrec rfl]
      exact ⟨rfl, rfl, rfl, fun _ => rfl⟩
  · have hfalse : (netUp s && portUp s (if leafB then 1 else 0) && macTaken s (if leafB then 1 else 0) f.mac && f.etype == s.net.etype) = false := by
      rw [Bool.and_assoc, Bool.eq_false_iff.2 (mt (mine_iff s leafB f).1 hm), Bool.and_false]
    exact ⟨s, (exec_telegramReceive leafB f s).trans (guarded_false hfalse _), ⟨rfl, fun b _ => Block.Same.refl s b⟩,
      fun _ => ⟨rfl, rfl, rfl, fun _ => rfl⟩, trivial⟩

variable {r : Fin 128} {x : RxTel} (hm : Mine s leafB f) (hfor : telFor s f.tel = some r) (hx : s.net.rx[r] = some x)
include hm hfor hx

/-- A telegram of this station, by what its receive telegram becomes. -/
theorem telegramReceive_does {y : RxTel} {l : List Nat} {P : State → Prop}
    (hb : ∀ u, u.net = s.net → u.pair = s.pair → u.stn = s.stn →
      NetBecomes u (if isStandby u then telListen u r x leafB f else telCopy u r x leafB f) (rxNet u r y) l)
    (hP : ∀ t, (Settled s → ∀ i ∈ l, Raised t i) → P t) :
    Does (.telegramReceive leafB f) s [.net] (fun t => t.net = rxNet s r y ∧ P t) := by
  have hnet : rxNet (freshCycle s) r y = rxNet s r y := by unfold rxNet; rw [freshCycle_net]
  refine netDoes_of (exec_telegramReceive leafB f s) ?_ (l := l) ?_ (fun t _ hr => hP t hr)
  · rw [netUp_of ha hq, hp, Bool.and_assoc, (mine_iff s leafB f).2 hm]
    rfl
  · have h := hb (freshCycle s) (freshCycle_net s) (freshCycle_pair s) (freshCycle_stn s)
    rw [hnet] at h
    unfold telReceived
    rw [telFor_congr (freshCycle_net s), hfor]
    dsimp only
    rw [show (freshCycle s).net.rx[r] = some x by rw [freshCycle_net, hx]]
    exact h

/-- A copy that does not fit counts for its leaf (R318). -/
theorem telegramReceive_unfit (h : ¬ Fits s x f) :
    Does (.telegramReceive leafB f) s [.net] (fun t => t.net = rxNet s r (x.err leafB) ∧ True) := by
  refine telegramReceive_does ha hq hp hm hfor hx (l := []) (fun u hu _ _ => ?_) (fun _ _ => trivial)
  have hn : ¬ Fits u x f := fun hf => h (hf.congr hu.symm)
  have hc := rx_changes (s := u) (by rw [hu, hx]) (fun y => y.err leafB)
  split
  · unfold telListen
    rw [if_neg (mt (telFits_iff u x f).1 hn)]
    exact hc
  · rw [telCopy_unfit hn]
    exact hc

/-- At a standby a copy that fits does nothing (R323). -/
theorem telegramReceive_standby (h : Fits s x f) (h4 : s.pair.state = 4) :
    Does (.telegramReceive leafB f) s [.net] (fun t => t.net = rxNet s r x ∧ True) := by
  refine telegramReceive_does ha hq hp hm hfor hx (l := []) (fun u hu hv _ => ?_) (fun _ _ => trivial)
  unfold telListen
  rw [if_pos (show isStandby u = true by rw [isStandby, hv, h4]; rfl), if_pos ((telFits_iff u x f).2 (h.congr hu))]
  exact rx_refl (by rw [hu, hx])

/-- Elsewhere it is judged (R318–R320). -/
theorem telegramReceive_judged {y : RxTel} {l : List Nat} {P : State → Prop} (h : Fits s x f) (h4 : s.pair.state ≠ 4)
    (hb : ∀ u, u.net.rx[r] = some x → u.stn = s.stn → Fits u x f → NetBecomes u (telCopy u r x leafB f) (rxNet u r y) l)
    (hP : ∀ t, (Settled s → ∀ i ∈ l, Raised t i) → P t) :
    Does (.telegramReceive leafB f) s [.net] (fun t => t.net = rxNet s r y ∧ P t) := by
  refine telegramReceive_does ha hq hp hm hfor hx (fun u hu hv hs => ?_) hP
  rw [if_neg (by rw [isStandby_of_pair hv h4]; exact Bool.false_ne_true)]
  exact hb u (by rw [hu, hx]) hs (h.congr hu)

/-- A SEQ that a copy opens, with the gap before it raised (R318, R319). -/
theorem telegramReceive_opens {gap : Prop} [Decidable gap] (h : Fits s x f) (h4 : s.pair.state ≠ 4) (hb : x.before leafB f.tel = none)
    (hl : ∀ l, x.last = some l → Newer f.tel.seq l) (hne : ∀ y ∈ x.held, y.seq ≠ f.tel.seq)
    (hh : ∀ h, x.held.getLast? = some h → Newer f.tel.seq h.seq) (hlen : x.held.length < 4) (hgap : x.gapBefore f.tel.seq = true ↔ gap) :
    Does (.telegramReceive leafB f) s [.net] (fun t =>
      t.net = rxNet s r { x with held := x.held ++ [newHeld s leafB f.tel], gap := if gap then satInc x.gap else x.gap } ∧
      (gap → Settled s → Raised t 473)) := by
  refine telegramReceive_judged ha hq hp hm hfor hx h h4 (l := if x.gapBefore f.tel.seq then [473] else [])
    (fun u hu hs hf => ?_) (fun t hr hg hset => hr hset 473 ?_)
  · have hnew : newHeld u leafB f.tel = newHeld s leafB f.tel := by unfold newHeld; rw [hs]
    rw [telCopy_opens hf hb hl hne hh hlen, hnew]
    refine (rx_opens hu f.tel.seq _).congr ?_
    rw [if_congr hgap rfl rfl]
  · rw [if_pos (hgap.2 hg)]
    exact List.mem_singleton_self _

end

/-! ### The watchdog (R321) -/

section
variable {s : State} {r : Fin 128} {x : RxTel} (hx : s.net.rx[r] = some x)
include hx

theorem telExpire_becomes : NetBecomes s (modRx (telExpire s r x) r (fun y => { y with left := 1 }))
    (rxNet s r { x with wdgExp := true, left := 1, expCnt := satInc x.expCnt }) (if x.kind = 1 then [438, 471] else [471]) := by
  have h := (rx_changes hx (fun y => { y with wdgExp := true, left := 0, expCnt := satInc y.expCnt })).raise (i := 471) (by decide)
  unfold telExpire safTel
  split
  · exact (h.raise (i := 438) (by decide)).modRx (fun y => { y with left := 1 })
  · exact h.modRx (fun y => { y with left := 1 })

theorem telegramWatchdog_does (ha : alive s = true) (hq : s.pwr.quiet.getLsbD 0 = false) (h4 : s.pair.state ≠ 4) (he : x.wdgExp = false)
    (hl : x.left = 1) (hw : telWillAccept x s.stn.time.toNat = false) : Does (.telegramWatchdog r) s [.net] (fun t =>
      t.net = rxNet s r { x with wdgExp := true, expCnt := satInc x.expCnt } ∧ (Settled s → Raised t 471 ∧ (x.kind = 1 → Raised t 438))) := by
  have hexec : exec (.telegramWatchdog r) s = guarded s
      (netUp s && !isStandby s && !x.wdgExp && x.left == 1#16 && !telWillAccept x s.stn.time.toNat)
      (fun s => modRx (telExpire s r x) r (fun y => { y with left := 1 })) := by
    show execTelegramWatchdog r s = _
    unfold execTelegramWatchdog
    rw [hx]
  have h := telExpire_becomes (s := freshCycle s) (r := r) (x := x) (by rw [freshCycle_net, hx])
  have hnet : rxNet (freshCycle s) r { x with wdgExp := true, left := 1, expCnt := satInc x.expCnt } =
      rxNet s r { x with wdgExp := true, expCnt := satInc x.expCnt } := by
    unfold rxNet
    rw [freshCycle_net, ← hl]
  rw [hnet] at h
  refine netDoes_of hexec ?_ h (fun t _ hr hset => ⟨hr hset 471 ?_, fun hk => hr hset 438 ?_⟩)
  · rw [netUp_of ha hq, isStandby_of_pair rfl h4, he, hl, hw]
    rfl
  · split
    · exact List.mem_cons_of_mem _ List.mem_cons_self
    · exact List.mem_cons_self
  · rw [if_pos hk]
    exact List.mem_cons_self

end

end Sys2Proof.Machine

open Sys2Proof Sys2Proof.Machine

/-- Settles O54: a telegram's copies by R318's cases in order, each what the receive telegram becomes. -/
theorem telegrams : Obligations.Telegrams := by
  unfold Obligations.Telegrams
  intro s ha hq
  refine ⟨fun n x ws hx hd hpf => ⟨fun hs => ?_, fun hs => telegramSend_standby hx ha hq hd hpf hs⟩,
    fun leafB f hp => ⟨fun h => telegramReceive_ignored ha hq hp h, fun r x hm hfor hx => ?_⟩,
    fun r x hx h4 he hl hw => telegramWatchdog_does hx ha hq h4 he hl hw⟩
  · refine (telegramSend_active hx ha hq hd hpf hs).imp fun t ⟨hn, hsent⟩ => ⟨hn, fun leafB => ?_⟩
    cases leafB
    · exact hsent false
    · exact hsent true
  · intro standby listens takes fits bad before newer put new
    have herr (hf : Fits s x f) (h4 : s.pair.state ≠ 4)
        (h : ∀ u, Fits u x f → telCopy u r x leafB f = modRx u r (fun y => y.err leafB)) : bad :=
      telegramReceive_judged ha hq hp hm hfor hx hf h4 (l := []) (fun u hu _ hf => by rw [h u hf]; exact rx_changes hu _) (fun _ _ => trivial)
    refine ⟨fun hf => telegramReceive_unfit ha hq hp hm hfor hx hf, fun hf h4 => telegramReceive_standby ha hq hp hm hfor hx hf h4,
      fun o hf hb h4 => ?_, fun hf h4 hb ⟨l, hl, hn⟩ => herr hf h4 fun u hf => telCopy_old hf hb hl hn, fun hf hb hl hh h4 => ?_,
      fun hf hb hh hl h4 => ?_, fun l hf hb hh hl hn h4 => ?_, fun l h hf hb hl hne hh hlen => ⟨fun hn h4 => ?_, fun hn h4 => ?_⟩⟩
    · exact telegramReceive_judged ha hq hp hm hfor hx hf h4 (l := [])
        (fun u hu _ hf => by rw [telCopy_before hf hb]; exact rx_changes hu _) (fun _ _ => trivial)
    · exact telegramReceive_judged ha hq hp hm hfor hx hf h4 (l := [])
        (fun u hu _ hf => by rw [telCopy_joins hf hb hl hh]; exact rx_changes hu _) (fun _ _ => trivial)
    · have hgap : x.gapBefore f.tel.seq = true ↔ False := by
        unfold RxTel.gapBefore
        rw [hh, hl]
        exact ⟨Bool.false_ne_true, False.elim⟩
      refine (telegramReceive_opens ha hq hp hm hfor hx hf h4 hb (by rw [hl]; exact fun _ h => nomatch h) (by rw [hh]; exact fun _ h => nomatch h)
        (by rw [hh]; exact fun _ h => nomatch h) (by rw [hh]; decide) hgap).imp fun t ⟨hn, _⟩ => ⟨hn.trans ?_, trivial⟩
      rw [hh]
      rfl
    · have hgap : x.gapBefore f.tel.seq = true ↔ f.tel.seq ≠ l + 1 := by
        unfold RxTel.gapBefore
        rw [hh, hl]
        exact bne_iff_ne
      refine (telegramReceive_opens ha hq hp hm hfor hx hf h4 hb (fun k hk => Option.some.inj (hl.symm.trans hk) ▸ hn)
        (by rw [hh]; exact fun _ h => nomatch h) (by rw [hh]; exact fun _ h => nomatch h) (by rw [hh]; decide) hgap).imp
        fun t ⟨hn, hr⟩ => ⟨hn.trans ?_, hr⟩
      rw [hh, ite_not]
      rfl
    · exact herr hf h4 fun u hf => telCopy_behind hf hb hl hne (by rw [hh, List.getLast?_concat]) hn
    · have hlast : x.held.getLast? = some h := by rw [hh, List.getLast?_concat]
      have hgap : x.gapBefore f.tel.seq = true ↔ f.tel.seq ≠ h.seq + 1 := by
        unfold RxTel.gapBefore
        rw [hlast]
        exact bne_iff_ne
      refine (telegramReceive_opens ha hq hp hm hfor hx hf h4 hb hl hne (fun y hy => Option.some.inj (hlast.symm.trans hy) ▸ hn)
        (by rw [hh, List.length_append, List.length_singleton]; omega) hgap).imp fun t ⟨hn, hr⟩ => ⟨hn.trans ?_, hr⟩
      rw [ite_not]
      rfl
end

section
/-! O55: what a port answers, its link and its placed frames (R313–R315). -/

namespace Sys2Proof.Machine
open Sys2Proof

section
variable {s t : State} {p : Fin 3}

/-- NET with port `p` become `m`. -/
def portNet (s : State) (p : Fin 3) (m : NetPort) : NetBlk := { s.net with ports := s.net.ports.set p m }

theorem portNet_congr {u : State} (h : u.net = s.net) (m : NetPort) : portNet u p m = portNet s p m := by
  unfold portNet
  rw [h]

theorem port_refl {n : NetPort} (hn : s.net.ports[p] = n) : NetBecomes s s (portNet s p n) [] := by
  refine .refl ?_
  unfold portNet
  rw [← hn]
  simp

theorem NetBecomes.port_self {m : NetPort} {l : List Nat} (h : NetBecomes s t (portNet s p m) l) : t.net.ports[p] = m := by
  rw [h.net]
  simp [portNet]

/-- A frame joins the queue of a port while there is room. -/
theorem NetBecomes.enqueue_room {m : NetPort} {l : List Nat} (h : NetBecomes s t (portNet s p m) l) (f : NetFrame)
    (hr : m.queue.length < 64) : NetBecomes s (enqueue t p f) (portNet s p { m with queue := m.queue ++ [f] }) l := by
  unfold enqueue
  rw [h.port_self, if_pos hr]
  exact h.modPort _

/-- A full queue drops it. -/
theorem NetBecomes.enqueue_full {m : NetPort} {l : List Nat} (h : NetBecomes s t (portNet s p m) l) (f : NetFrame)
    (hr : ¬ m.queue.length < 64) : NetBecomes s (enqueue t p f) (portNet s p { m with qdrop := satInc m.qdrop }) (478 :: l) := by
  unfold enqueue
  rw [h.port_self, if_neg hr]
  exact (h.modPort _).raise (by decide)

end

theorem linkSrc_eq : ∀ (p : Fin 3) (up : Bool), (if p = 2 then netSrc 4 else netSrc (2 * p.val + b2n up)) =
    if p.val = 2 then 468 else 464 + 2 * p.val + if up then 1 else 0 := by decide

section
variable {s : State} {p : Fin 3} {n : NetPort} (hn : s.net.ports[p] = n)
include hn

/-- A command at a port, by what the port becomes. -/
theorem portDoes_of {cmd : Instr} {b : Bool} {f : State → State} {m : NetPort} {l : List Nat} {P : State → Prop}
    (hx : exec cmd s = guarded s b f) (hb : b = true)
    (h : ∀ u, u.net.ports[p] = n → u.stn = s.stn → NetBecomes u (f u) (portNet u p m) l)
    (hp : ∀ t, t = { settle (f (freshCycle s)) with pending := s.pending } → (Settled s → ∀ i ∈ l, Raised t i) → P t) :
    Does cmd s [.net] (fun t => t.net = portNet s p m ∧ P t) := by
  have h := h (freshCycle s) (by rw [freshCycle_net, hn]) (freshCycle_stn s)
  rw [portNet_congr (freshCycle_net s)] at h
  exact netDoes_of hx hb h hp

section
variable (ha : alive s = true) (hq : s.pwr.quiet.getLsbD 0 = false) (hup : portUp s p = true)
include ha hq hup

omit hn in
theorem portUp_guard : (netUp s && portUp s p) = true := by rw [netUp_of ha hq, hup]; rfl

/-- A request to the port's address is answered by a placed frame (R314). -/
theorem arpRequest_room (hr : n.queue.length < 64) :
    Does (.arpRequest p) s [.net] (fun t => t.net = portNet s p { n with queue := n.queue ++ [.arp] } ∧ True) :=
  portDoes_of hn (f := fun s => enqueue s p .arp) (l := []) rfl (portUp_guard ha hq hup)
    (fun _ hu _ => (port_refl hu).enqueue_room _ hr) (fun _ _ _ => trivial)

theorem arpRequest_full (hr : ¬ n.queue.length < 64) : Does (.arpRequest p) s [.net] (fun t =>
    t.net = portNet s p { n with qdrop := satInc n.qdrop } ∧ (Settled s → Raised t 478)) :=
  portDoes_of hn (f := fun s => enqueue s p .arp) rfl (portUp_guard ha hq hup)
    (fun _ hu _ => (port_refl hu).enqueue_full _ hr) (fun _ _ hr hset => hr hset 478 List.mem_cons_self)

/-- The echoes of the last second (R314). -/
def NetPort.recent (n : NetPort) (s : State) : List (BitVec 64) := n.echoes.filter (fun t => s.stn.time.toNat < t.toNat + 1000000000)

/-- What an echo request does. -/
def echoed (p : Fin 3) (s : State) : State :=
  if (s.net.ports[p].recent s).length < 10 then enqueue (modPort s p (fun n => { n with echoes := s.stn.time :: s.net.ports[p].recent s })) p .echo
  else modPort s p (fun n => { n with echoes := s.net.ports[p].recent s })

omit hn ha hq hup in
theorem exec_icmpEcho : exec (.icmpEcho p) s = guarded s (netUp s && portUp s p) (echoed p) := rfl

omit hn ha hq hup in
theorem echoed_answers {u : State} (hu : u.net.ports[p] = n) (hs : u.stn = s.stn) (hl : (n.recent s).length < 10) :
    echoed p u = enqueue (modPort u p (fun n' => { n' with echoes := s.stn.time :: n.recent s })) p .echo := by
  have hrec : n.recent u = n.recent s := by unfold NetPort.recent; rw [hs]
  unfold echoed
  rw [hu, hrec, if_pos hl, hs]

/-- An echo request is answered (R314). -/
theorem icmpEcho_room (hl : (n.recent s).length < 10) (hr : n.queue.length < 64) : Does (.icmpEcho p) s [.net] (fun t =>
    t.net = portNet s p { n with echoes := s.stn.time :: n.recent s, queue := n.queue ++ [.echo] } ∧ True) := by
  refine portDoes_of hn (l := []) exec_icmpEcho (portUp_guard ha hq hup) (fun u hu hs => ?_) (fun _ _ _ => trivial)
  rw [echoed_answers hu hs hl]
  exact ((port_refl hu).modPort (fun n' => { n' with echoes := s.stn.time :: n.recent s })).enqueue_room .echo hr

theorem icmpEcho_full (hl : (n.recent s).length < 10) (hr : ¬ n.queue.length < 64) : Does (.icmpEcho p) s [.net] (fun t =>
    t.net = portNet s p { n with echoes := s.stn.time :: n.recent s, qdrop := satInc n.qdrop } ∧ (Settled s → Raised t 478)) := by
  refine portDoes_of hn (l := [478]) exec_icmpEcho (portUp_guard ha hq hup) (fun u hu hs => ?_)
    (fun _ _ hr hset => hr hset 478 List.mem_cons_self)
  rw [echoed_answers hu hs hl]
  exact ((port_refl hu).modPort (fun n' => { n' with echoes := s.stn.time :: n.recent s })).enqueue_full .echo hr

/-- At most ten a second (R314). -/
theorem icmpEcho_limited (hl : 10 ≤ (n.recent s).length) : Does (.icmpEcho p) s [.net] (fun t =>
    t.net = portNet s p { n with echoes := n.recent s } ∧ True) := by
  refine portDoes_of hn (l := []) exec_icmpEcho (portUp_guard ha hq hup) (fun u hu hs => ?_) (fun _ _ _ => trivial)
  have hrec : n.recent u = n.recent s := by unfold NetPort.recent; rw [hs]
  unfold echoed
  rw [hu, hrec, if_neg (Nat.not_lt.2 hl)]
  exact (port_refl hu).modPort _

end

/-- A link changes (R313). -/
theorem netLinkChange_does (ha : alive s = true) {up : Bool} (hne : n.link ≠ up) : Does (.netLinkChange p up) s [.net] (fun t =>
    t.net = portNet s p { n with link := up, downCnt := if up then n.downCnt else satInc n.downCnt } ∧
    (Settled s → Raised t (if p.val = 2 then 468 else 464 + 2 * p.val + if up then 1 else 0))) := by
  have hsrc := linkSrc_eq p up
  have hlt : (if p = 2 then netSrc 4 else netSrc (2 * p.val + b2n up)) < 512 := by
    rw [hsrc]
    split <;> (try split) <;> omega
  refine portDoes_of hn (f := fun s => raise (modPort s p (fun n => { n with link := up, downCnt := if up then n.downCnt else satInc n.downCnt }))
    (if p = 2 then netSrc 4 else netSrc (2 * p.val + b2n up))) rfl ?_
    (fun u hu _ => ((port_refl hu).modPort (fun n => { n with link := up, downCnt := if up then n.downCnt else satInc n.downCnt })).raise hlt)
    (fun t _ hr hset => hsrc ▸ hr hset _ List.mem_cons_self)
  rw [ha, hn]
  exact bne_iff_ne.2 hne

/-- The oldest placed frame leaves (R315). -/
theorem placedFrameSend_does (ha : alive s = true) {f : NetFrame} {rest : List NetFrame} (hqueue : n.queue = f :: rest) (hl : n.link = true)
    (hfit : frameFits s p f = true) : Does (.placedFrameSend p) s [.net] (fun t =>
    t.net = portNet s p { n with queue := rest } ∧ Sends s t (.netFrame p.val f)) := by
  have hexec : exec (.placedFrameSend p) s = guarded s (alive s && s.net.ports[p].link && frameFits s p f)
      (fun s => send (modPort s p (fun n => { n with queue := rest })) (.netFrame p.val f)) := by
    show execPlacedFrameSend p s = _
    unfold execPlacedFrameSend
    rw [hn, hqueue]
  refine portDoes_of hn (l := []) hexec (by rw [ha, hn, hl, hfit]; rfl)
    (fun u hu _ => ((port_refl hu).modPort (fun n => { n with queue := rest })).then ((Works.refl _ _).send _)) (fun t ht _ => ?_)
  subst ht
  exact sends_of (f := fun s => send (modPort s p (fun n => { n with queue := rest })) (.netFrame p.val f)) fun _ => ⟨rfl, rfl, rfl⟩

/-- A frame that a port drops counts (R313, R314). -/
theorem droppedFrame_does (ha : alive s = true) (hq : s.pwr.quiet.getLsbD 0 = false) (hl : n.link = true) {why : DropWhy}
    (hw : ∀ k, why = .length k → 1522 < k) : Does (.droppedFrame { port := p, why := why }) s [.net] (fun t =>
    t.net = { s.net with drop := s.net.drop + 1 } ∧ (Settled s → Raised t 478)) := by
  have hc : why.counted = true := by
    unfold DropWhy.counted
    split
    · next k => exact decide_eq_true (hw k rfl)
    · rfl
  exact netDoes_of (f := fun s => raise (modNet s (fun n => { n with drop := n.drop + 1 })) (netSrc 14)) rfl
    (by rw [netUp_of ha hq, hn, hl, hc]; rfl) (((NetBecomes.refl (freshCycle_net s)).modNet _).raise (by decide))
    (fun _ _ hr hset => hr hset 478 List.mem_cons_self)

end

/-- CLR_CNT of NET (R7). -/
theorem netClrCnt_does {s : State} {sess : Fin 4} (hs : Opened s sess) : DoesSilently (.netClrCnt sess) s [.net] (fun t =>
    t.net = { s.net with drop := 0, authFail := 0, ports := t.net.ports, rx := t.net.rx } ∧
    (∀ p : Fin 3, t.net.ports[p] = { s.net.ports[p] with downCnt := 0, qdrop := 0 }) ∧
    ∀ r : Fin 128, t.net.rx[r] = (s.net.rx[r]).map (fun y => { y with
      missA := 0, missB := 0, errA := 0, errB := 0, late := 0, gap := 0, diffCnt := 0, expCnt := 0 })) := by
  refine doesSilently_of (openCmd_of hs netClr) (fun b hb => same_net _ _ hb) (fun _ => ⟨rfl, rfl, rfl, fun _ => rfl⟩) ?_
  have hnet : ({ settle (netClr (freshCycle s)) with pending := s.pending } : State).net = (netClr s).net := by
    show (settle (netClr (freshCycle s))).net = _
    rw [settle_net, netClr, netClr, modNet, modNet, freshCycle_net]
  rw [hnet]
  exact ⟨rfl, fun p => by simp [netClr, modNet], fun r => by simp [netClr, modNet]⟩

end Sys2Proof.Machine

open Sys2Proof Sys2Proof.Machine

/-- Settles O55: each clause is the rule of its command, with what the port has become. -/
theorem netPorts : Obligations.NetPorts := by
  unfold Obligations.NetPorts
  intro s
  refine ⟨fun ha p => ⟨fun hq hup => ⟨fun hr => arpRequest_room rfl ha hq hup hr, fun hr => arpRequest_full rfl ha hq hup hr,
    fun hl hr => icmpEcho_room rfl ha hq hup hl hr, fun hl hr => icmpEcho_full rfl ha hq hup hl hr,
    fun hl => icmpEcho_limited rfl ha hq hup hl⟩, fun up hne => netLinkChange_does rfl ha hne,
    fun f rest hqueue hl hfit => placedFrameSend_does rfl ha hqueue hl hfit,
    fun why hq hl hw => droppedFrame_does rfl ha hq hl hw⟩, fun sess hs => netClrCnt_does hs⟩
end

section
/-! The engineering protocol: how a request of an open session is served and answered (R327–R330, R334, R335). An operation's proof says what
its work leaves, and takes the rest from here. -/

namespace Sys2Proof.Machine
open Sys2Proof

/-! ### Responses -/

section
variable {l : List Block} {s t : State} (h : Works l s t)
include h

theorem Works.net_eq (hl : Block.net ∉ l) : t.net = s.net := h.same .net hl
theorem Works.pwr_eq (hl : Block.pwr ∉ l) : t.pwr = s.pwr := h.same .pwr hl
theorem Works.pair_eq (hl : Block.pair ∉ l) : t.pair = s.pair := h.same .pair hl
theorem Works.stn_eq (hl : Block.stn ∉ l) : t.stn = s.stn := h.same .stn hl
theorem Works.img_eq (hl : Block.img ∉ l) : t.img = s.img := h.same .img hl

end

theorem Responded.congr {t u : State} {n : NetBlk} {d : Dgram} {op : Byte} {st : Nat} {sess : Word} {pl mac : List Byte}
    (h : Responded t n d op st sess pl mac) (hu : u.net = t.net) : Responded u n d op st sess pl mac := by
  unfold Responded
  rw [hu]
  exact h

/-- The MAC of a response: under the session's key, zeros without one (R327). -/
def respMac (key : Option (List Byte)) (op : Byte) (st : Nat) (sess seq : Word) (pl : List Byte) : List Byte :=
  match key with
  | some k => kepMac k op true st sess seq pl
  | none => List.replicate 16 0

section
variable {v : State} (ha : alive v = true) (d : Dgram) (key : Option (List Byte)) (op : Byte) (st : Nat) (sess : Word) (pl : List Byte)
include ha

theorem respond_eq : respond v d key op st sess pl =
    enqueue v d.port (.resp d.ip op st sess d.seq pl (respMac key op st sess d.seq pl)) := by
  unfold respond
  rw [ha]
  rfl

/-- The station answers, and does nothing else but drop the answer where the queue is full (R315). -/
theorem works_respond : Works [.net] v (respond v d key op st sess pl) := by
  rw [respond_eq ha]
  by_cases hr : v.net.ports[d.port].queue.length < 64
  · exact ((port_refl rfl).enqueue_room _ hr).works
  · exact ((port_refl rfl).enqueue_full _ hr).works

theorem responded_respond : Responded (respond v d key op st sess pl) v.net d op st sess pl (respMac key op st sess d.seq pl) := by
  rw [respond_eq ha]
  by_cases hr : v.net.ports[d.port].queue.length < 64
  · have h := ((port_refl (s := v) rfl).enqueue_room (.resp d.ip op st sess d.seq pl (respMac key op st sess d.seq pl)) hr).net
    unfold Responded
    rw [h]
    exact ⟨rfl, fun p hp => by simp [portNet, Fin.val_ne_of_ne hp.symm], fun _ => by simp [portNet]⟩
  · have h := ((port_refl (s := v) rfl).enqueue_full (.resp d.ip op st sess d.seq pl (respMac key op st sess d.seq pl)) hr).net
    unfold Responded
    rw [h]
    exact ⟨rfl, fun p hp => by simp [portNet, Fin.val_ne_of_ne hp.symm], fun hlt => absurd hlt hr⟩

/-- LOG is handed at most the entry of a dropped answer. -/
theorem hands_respond : Hands 1 v (respond v d key op st sess pl) := by
  rw [respond_eq ha]
  unfold enqueue
  split
  · exact ⟨[], Nat.zero_le 1, by rw [List.append_nil]; rfl⟩
  · exact (Hands.of_eq (s := v) (t := modPort v d.port _) rfl).raise _

end

/-! ### Requests -/

/-- NET once session `i`, which is `x`, has taken the request of `d`. -/
def seenNet (n : NetBlk) (d : Dgram) (i : Fin 4) (x : Sess) : NetBlk := { n with sess := n.sess.set i (some { x with last := some d.seq }) }

/-- The state once the work of a request has left `v`, with the response stored (R328). -/
def stored (v : State) (i : Fin 4) (op : Byte) (st : Nat) (pl : List Byte) : State :=
  modSess v i (fun y => { y with resp := some (op, st, pl) })

/-- The state once the response is sent, too. -/
def answer (v : State) (d : Dgram) (i : Fin 4) (x : Sess) (op : Byte) (st : Nat) (pl : List Byte) : State :=
  respond (stored v i op st pl) d (some x.key) op st x.id pl

theorem works_stored (v : State) (i : Fin 4) (op : Byte) (st : Nat) (pl : List Byte) : Works [.net] v (stored v i op st pl) :=
  .of_same (fun _ hb => same_net v (stored v i op st pl).net hb) rfl

/-- What a request's work is, by its form, the session's role and its operation (R330, R334). -/
def served (u : State) (i : Fin 4) (x : Sess) (need : Nat) (bad : Bool) (f : State → Fin 4 → Sess → OpRes) : OpRes :=
  if bad then (u, 3, []) else if x.role < need then (u, 2, []) else f u i x

theorem sessOf_some {s : State} {d : Dgram} {i : Fin 4} {x : Sess} (h : sessOf s d = some (i, x)) :
    s.net.sess[i] = some x ∧ x.id = d.sess := by
  have hm := List.mem_of_find?_eq_some h
  have hid := List.find?_some h
  obtain ⟨j, -, hj⟩ := List.mem_filterMap.1 hm
  obtain ⟨y, hy, he⟩ := Option.map_eq_some_iff.1 hj
  obtain ⟨rfl, rfl⟩ := Prod.mk.inj he
  exact ⟨hy, beq_iff_eq.1 hid⟩

theorem sessOf_congr {s u : State} (h : u.net = s.net) (d : Dgram) : sessOf u d = sessOf s d := by
  unfold sessOf
  rw [h]

theorem executing_congr {s u : State} (h : u.net = s.net) (x : Sess) : executing u x = executing s x := by
  unfold executing
  rw [h]

theorem alive_congr {s u : State} (h : u.pwr = s.pwr) : alive u = alive s := by
  unfold alive
  rw [h]

theorem dgramHere_alive {s : State} {d : Dgram} (h : dgramHere s d = true) : alive s = true := by
  unfold dgramHere at h
  exact (Bool.and_eq_true_iff.1 (Bool.and_eq_true_iff.1 h).1).1

theorem alive_freshCycle {s : State} (h : alive s = true) : alive (freshCycle s) = true := by rw [alive_congr (freshCycle_pwr s), h]

theorem works_seenBy (s : State) (d : Dgram) (i : Fin 4) : Works [.net] (freshCycle s) (seenBy s d i) :=
  .of_same (fun _ hb => same_net (freshCycle s) (seenBy s d i).net hb) rfl

section
variable {s : State} {op out : Byte} {d : Dgram} {i : Fin 4} {x : Sess} (h : Requested s op d i x)
include h

theorem Requested.sess : s.net.sess[i] = some x := (sessOf_some h.2.1).1

theorem Requested.id : x.id = d.sess := (sessOf_some h.2.1).2

theorem Requested.alive : Machine.alive s = true := dgramHere_alive h.1

theorem seenBy_net : (seenBy s d i).net = seenNet s.net d i x := by
  have hx := h.sess
  unfold seenBy modSess modNet vmod seenNet
  simp only [freshCycle_net]
  rw [hx]
  rfl

theorem seenBy_sess : (seenBy s d i).net.sess[i] = some { x with last := some d.seq } := by
  rw [seenBy_net h]
  simp [seenNet]

theorem seenBy_alive : Machine.alive (seenBy s d i) = true := (alive_congr rfl).trans (alive_freshCycle h.alive)

/-- A new request of an open session is served and answered (R327–R330). -/
theorem requestAs_eq (need : Nat) (bad : Bool) (f : State → Fin 4 → Sess → OpRes) : requestAs (freshCycle s) op out d need bad f =
    let r := served (seenBy s d i) i x need bad f
    answer r.1 d i x out r.2.1 r.2.2 := by
  obtain ⟨-, hsess, hmac, hseq, hquiet, hexe⟩ := h
  have hlast : ¬ x.last = some d.seq := fun hl => (hseq _ hl).1 rfl
  have hbusy : ¬ (quietAt (freshCycle s) 0 || executing (freshCycle s) x) = true := by
    rw [executing_congr (freshCycle_net s), hexe, quietAt, freshCycle_pwr, hquiet]
    exact Bool.false_ne_true
  unfold requestAs
  rw [sessOf_congr (freshCycle_net s), hsess]
  dsimp only
  rw [if_neg (not_not.2 hmac), if_neg hlast]
  split
  · next l hl =>
    rw [if_neg (by rw [(hseq l hl).2]; exact Bool.false_ne_true), if_neg hbusy]
    rfl
  · rw [if_neg Bool.false_ne_true, if_neg hbusy]
    rfl

/-- A command that carries a request, by the state that its answer leaves. -/
theorem exec_request {c : Instr} {need : Nat} {bad : Bool} {f : State → Fin 4 → Sess → OpRes} (hx : exec c s = requestCmd s op d need bad f) :
    exec c s = .next { settle ((fun u => request u op d need bad f) (freshCycle s)) with pending := s.pending } :=
  hx.trans (guarded_true h.1 _)

end

/-! ### What an answer leaves -/

section
variable {v : State} {n : NetBlk} {d : Dgram} {i : Fin 4} {x : Sess} (ha : alive v = true) (hn : v.net = seenNet n d i x) (op : Byte) (st : Nat)
  (pl : List Byte)
include ha

theorem works_answer : Works [.net] v (answer v d i x op st pl) :=
  (works_stored v i op st pl).trans (works_respond (v := stored v i op st pl) ((alive_congr rfl).trans ha) d (some x.key) op st x.id pl)

theorem hands_answer : Hands 1 v (answer v d i x op st pl) :=
  (Hands.of_eq (s := v) (t := stored v i op st pl) rfl).trans
    (hands_respond (v := stored v i op st pl) ((alive_congr rfl).trans ha) d (some x.key) op st x.id pl)

include hn

theorem responded_answer : Responded (answer v d i x op st pl) (answeredNet n d i x op st pl) d op st x.id pl
    (kepMac x.key op true st x.id d.seq pl) := by
  have hnet : (stored v i op st pl).net = answeredNet n d i x op st pl := by
    unfold stored modSess modNet vmod
    rw [hn]
    simp [seenNet, answeredNet]
  have h := responded_respond (v := stored v i op st pl) ((alive_congr rfl).trans ha) d (some x.key) op st x.id pl
  rw [hnet] at h
  exact h

end

section
variable {c : Instr} {s : State} {op : Byte} {d : Dgram} {i : Fin 4} {x : Sess} {need : Nat} {b : Bool} {f : State → Fin 4 → Sess → OpRes}
  (hx : exec c s = requestCmd s op d need b f) (h : Requested s op d i x)
include hx h

/-- A request's answer, by what the work leaves and answers. -/
theorem replies_of_served {v : State} {l : List Block} {n : NetBlk} {st : Nat} {pl : List Byte} {P : State → Prop}
    (hr : served (seenBy s d i) i x need b f = (v, st, pl)) (hw : Works (.net :: l) (seenBy s d i) v) (hl : Block.pwr ∉ l)
    (hn : v.net = seenNet n d i x)
    (hp : ∀ t, t = { settle (answer v d i x op st pl) with pending := s.pending } → alive v = true → P t) :
    Replies c s op d i x l n st pl P := by
  have hpwr : v.pwr = (seenBy s d i).pwr := hw.same .pwr (by
    rw [List.mem_cons]
    exact not_or.2 ⟨by decide, hl⟩)
  have ha : alive v = true := (alive_congr hpwr).trans (seenBy_alive h)
  have heq : request (freshCycle s) op d need b f = answer v d i x op st pl := by
    unfold request
    rw [requestAs_eq h, hr]
  refine does_of (f := fun u => request u op d need b f) (exec_request h hx) ?_ ?_
  · rw [heq]
    exact (((works_seenBy s d i).mono (List.cons_subset_cons _ (List.nil_subset _))).trans
      (hw.trans ((works_answer ha op st pl).mono (List.cons_subset_cons _ (List.nil_subset _))))).same
  · rw [heq]
    refine ⟨?_, hp _ rfl ha⟩
    rw [← h.id]
    exact (responded_answer ha hn op st pl).congr (settle_net _)

/-- The answer of an operation's work. -/
theorem replies_of {v : State} {l : List Block} {n : NetBlk} {st : Nat} {pl : List Byte} {P : State → Prop} (hb : b = false)
    (hrole : need ≤ x.role) (hr : f (seenBy s d i) i x = (v, st, pl)) (hw : Works (.net :: l) (seenBy s d i) v) (hl : Block.pwr ∉ l)
    (hn : v.net = seenNet n d i x)
    (hp : ∀ t, t = { settle (answer v d i x op st pl) with pending := s.pending } → alive v = true → P t) :
    Replies c s op d i x l n st pl P := by
  refine replies_of_served hx h ?_ hw hl hn hp
  unfold served
  rw [hb, if_neg Bool.false_ne_true, if_neg (Nat.not_lt.2 hrole), hr]

/-- An operation that answers and does nothing. -/
theorem replies_only {st : Nat} {pl : List Byte} (hb : b = false) (hrole : need ≤ x.role)
    (hr : f (seenBy s d i) i x = (seenBy s d i, st, pl)) : Replies c s op d i x [] s.net st pl (fun _ => True) :=
  replies_of hx h hb hrole hr (.refl _ _) List.not_mem_nil (seenBy_net h) (fun _ _ _ => trivial)

/-- A request is served: a malformed one and one above the session's role are answered, and do nothing (R330, R334). -/
theorem served_of {bad Q : Prop} (hb : b = true ↔ bad) (hq : b = false → need ≤ x.role → Q) : Served c s op d i x need bad Q := by
  have honly {st : Nat} (hr : served (seenBy s d i) i x need b f = (seenBy s d i, st, [])) :
      Replies c s op d i x [] s.net st [] (fun _ => True) :=
    replies_of_served hx h hr (.refl _ _) List.not_mem_nil (seenBy_net h) (fun _ _ _ => trivial)
  refine ⟨fun hbad => honly ?_, fun hbad hlt => honly ?_, fun hbad hle => hq (Bool.eq_false_iff.2 (mt hb.1 hbad)) hle⟩
  · unfold served
    rw [if_pos (hb.2 hbad)]
  · unfold served
    rw [if_neg (mt hb.1 hbad), if_pos hlt]

end

/-! ### What is seen of the work after the answer -/

section
variable {s v : State} {d : Dgram} {i : Fin 4} {x : Sess} {op : Byte} {st : Nat} {pl : List Byte} {p : List Instr} (ha : alive v = true)
include ha

/-- The blocks but NET stand as the work has left them. -/
theorem answered_same {b : Block} (hb : b ≠ .net) : b.Same v { settle (answer v d i x op st pl) with pending := p } :=
  ((works_answer ha op st pl).same b (fun hm => hb (List.mem_singleton.1 hm))).trans (same_settle _ b)

theorem Raised.answered {m : Nat} (h : Raised v m) : Raised { Machine.settle (answer v d i x op st pl) with pending := p } m :=
  ((works_answer ha op st pl).kept m h).ends p

end

end Sys2Proof.Machine
end

section
/-! O40: sessions open, close, lapse and refuse (R328–R330, R334). -/

namespace Sys2Proof.Machine
open Sys2Proof

/-! ### Commands that answer, and commands that change NET alone -/

/-- A command that ends in an answer to its datagram, by the state that its work leaves. -/
theorem does_respond {c : Instr} {s v : State} {b : Bool} {f : State → State} {d : Dgram} {key : Option (List Byte)} {op : Byte} {st : Nat}
    {sess : Word} {pl : List Byte} {P : State → Prop} (hx : exec c s = guarded s b f) (hb : b = true)
    (hf : f (freshCycle s) = respond v d key op st sess pl) (hw : Works [.net] (freshCycle s) v) (ha : alive s = true)
    (hp : ∀ t, t = { settle (f (freshCycle s)) with pending := s.pending } →
      Responded t v.net d op st sess pl (respMac key op st sess d.seq pl) → alive v = true → P t) : Does c s [.net] P := by
  have hpwr : v.pwr = (freshCycle s).pwr := hw.same .pwr (by decide)
  have hv : alive v = true := (alive_congr hpwr).trans (alive_freshCycle ha)
  refine does_of_works hx hb (by rw [hf]; exact hw.trans (works_respond hv d key op st sess pl)) (hp _ rfl ?_ hv)
  exact (responded_respond hv d key op st sess pl).congr ((settle_net _).trans (by rw [hf]))

/-- A command that changes NET alone, and silently. -/
theorem netSilently_of {c : Instr} {s : State} {b : Bool} {f : NetBlk → NetBlk} (hx : exec c s = guarded s b (fun s => modNet s f))
    (hb : b = true) : DoesSilently c s [.net] (fun t => t.net = f s.net) :=
  doesSilently_of_works hx hb ((NetBecomes.refl rfl).modNet f).works (fun _ => ⟨rfl, rfl, rfl, fun _ => rfl⟩)
    ((settle_net _).trans (congrArg f (freshCycle_net s)))

/-! ### HELLO (R328, R329) -/

theorem keyEnt_congr {s u : State} (h : u.net = s.net) (id : Byte) : keyEnt u id = keyEnt s id := by
  unfold keyEnt
  rw [h]

theorem all_isSome_iff (s : State) : s.net.sess.toList.all Option.isSome = true ↔ ∀ i : Fin 4, s.net.sess[i] ≠ none := by
  rw [List.all_eq_true]
  constructor
  · intro h i hi
    exact absurd (h _ (Vector.mem_toList_iff.2 (Vector.getElem_mem i.isLt))) (by rw [show s.net.sess[i.val] = none from hi]; decide)
  · intro h y hy
    obtain ⟨n, hn, rfl⟩ := Vector.mem_iff_getElem.1 (Vector.mem_toList_iff.1 hy)
    exact Option.isSome_iff_ne_none.2 (h ⟨n, hn⟩)

section
variable {s : State} {d : Dgram} (hd : dgramHere s d = true)
include hd

theorem hello_locked (ho : d.ip ∈ s.net.lockouts) : DoesSilently (.hello d) s [] (fun _ => True) := by
  have hh {u : State} (hu : u.net = s.net) : hello u d = u := by
    unfold hello
    rw [if_pos (by rw [hu]; exact List.contains_iff_mem.2 ho)]
  refine doesSilently_of_works (f := fun s => hello s d) rfl hd ?_ (fun _ => ?_) trivial
  · rw [hh (freshCycle_net s)]
    exact .refl _ _
  · rw [hh rfl]
    exact ⟨rfl, rfl, rfl, fun _ => rfl⟩

/-- A HELLO that is refused, by its STATUS. -/
theorem hello_refused {st : Nat} (hh : hello (freshCycle s) d = respond (freshCycle s) d none 2 st 0 []) :
    Does (.hello d) s [.net] (fun t => Responded t s.net d 2 st 0 [] (List.replicate 16 0)) :=
  does_respond (f := fun s => hello s d) rfl hd hh (.refl _ _) (dgramHere_alive hd) fun t _ hr _ => by
    rw [freshCycle_net] at hr
    exact hr

variable (ho : d.ip ∉ s.net.lockouts)
include ho

omit hd in
theorem not_locked : ¬ (freshCycle s).net.lockouts.contains d.ip = true := by
  rw [freshCycle_net]
  exact mt List.contains_iff_mem.1 ho

theorem hello_quiet (hq : s.pwr.quiet.getLsbD 0 = true) :
    Does (.hello d) s [.net] (fun t => Responded t s.net d 2 5 0 [] (List.replicate 16 0)) := by
  refine hello_refused hd ?_
  unfold hello
  rw [if_neg (not_locked ho), if_pos (by rw [quietAt, freshCycle_pwr]; exact hq)]

variable (hq : ¬ s.pwr.quiet.getLsbD 0 = true)
include hq

omit hd ho in
theorem not_quiet : ¬ quietAt (freshCycle s) 0 = true := by
  rw [quietAt, freshCycle_pwr]
  exact hq

theorem hello_malformed (hl : d.payload.length ≠ 17) :
    Does (.hello d) s [.net] (fun t => Responded t s.net d 2 3 0 [] (List.replicate 16 0)) := by
  refine hello_refused hd ?_
  unfold hello
  rw [if_neg (not_locked ho), if_neg (not_quiet hq), if_pos hl]

variable (hl : d.payload.length = 17)
include hl

theorem hello_full (hf : ∀ i : Fin 4, s.net.sess[i] ≠ none) :
    Does (.hello d) s [.net] (fun t => Responded t s.net d 2 6 0 [] (List.replicate 16 0)) := by
  refine hello_refused hd ?_
  unfold hello
  rw [if_neg (not_locked ho), if_neg (not_quiet hq), if_neg (not_not.2 hl), freshCycle_net, if_pos ((all_isSome_iff s).2 hf)]

variable (hf : ¬ ∀ i : Fin 4, s.net.sess[i] ≠ none)
include hf

theorem hello_unknown (hk : ¬ ∃ k, keyEnt s (d.payload.headD 0) = some k) :
    Does (.hello d) s [.net] (fun t => Responded t s.net d 2 1 0 [] (List.replicate 16 0)) := by
  refine hello_refused hd ?_
  have hnone : keyEnt (freshCycle s) (d.payload.headD 0) = none := by
    rw [keyEnt_congr (freshCycle_net s)]
    exact Option.eq_none_iff_forall_ne_some.2 fun k he => hk ⟨k, he⟩
  unfold hello
  rw [if_neg (not_locked ho), if_neg (not_quiet hq), if_neg (not_not.2 hl), freshCycle_net, if_neg (mt (all_isSome_iff s).1 hf)]
  dsimp only
  rw [hnone]

/-- The challenge that a HELLO opens (R328). -/
def chalOf (d : Dgram) (id : Word) (ns : List Byte) : Chal :=
  { id := id, ip := d.ip, keyId := d.payload.headD 0, nc := d.payload.drop 1, ns := ns }

omit hd ho hq hl hf in
/-- The session ID that a HELLO is given, its nonce, and the state once both are drawn (R328). -/
theorem works_chal (u : State) : Works [] u (drawBytes 16 (drawWord u).2).2 := ((Works.refl _ _).drawWord).drawBytes 16

theorem hello_opens {k : KeyEnt} (hk : keyEnt s (d.payload.headD 0) = some k) : Does (.hello d) s [.net] (fun t => ∃ id ns,
    ns.length = 16 ∧ Responded t { s.net with chals := s.net.chals ++ [chalOf d id ns] } d 2 0 id (ns ++ leN 8 Config.serial.toNat)
      (List.replicate 16 0)) := by
  have hw := works_chal (freshCycle s)
  have hlen := length_drawBytes 16 (drawWord (freshCycle s)).2
  have heq : hello (freshCycle s) d =
      respond (modNet (drawBytes 16 (drawWord (freshCycle s)).2).2 (fun n => { n with
        chals := n.chals ++ [chalOf d (drawWord (freshCycle s)).1 (drawBytes 16 (drawWord (freshCycle s)).2).1] })) d none 2 0
        (drawWord (freshCycle s)).1 ((drawBytes 16 (drawWord (freshCycle s)).2).1 ++ leN 8 Config.serial.toNat) := by
    unfold hello
    rw [if_neg (not_locked ho), if_neg (not_quiet hq), if_neg (not_not.2 hl), freshCycle_net, if_neg (mt (all_isSome_iff s).1 hf)]
    dsimp only
    rw [keyEnt_congr (freshCycle_net s), hk]
    rfl
  generalize (drawWord (freshCycle s)).1 = id at heq
  generalize (drawBytes 16 (drawWord (freshCycle s)).2).1 = ns at heq hlen
  generalize (drawBytes 16 (drawWord (freshCycle s)).2).2 = v at heq hw
  have hnet : v.net = s.net := (hw.net_eq List.not_mem_nil).trans (freshCycle_net s)
  refine does_respond (f := fun s => hello s d) rfl hd heq ((NetBecomes.refl rfl).then hw |>.modNet _).works (dgramHere_alive hd)
    fun t _ hr _ => ⟨id, ns, hlen, ?_⟩
  unfold modNet at hr
  dsimp only at hr
  rw [hnet] at hr
  exact hr

end

/-! ### PROOF (R328, R329) -/

/-- NET without the challenge `c`. -/
def chalGone (n : NetBlk) (c : Chal) : NetBlk := { n with chals := n.chals.filter (fun x => x.id ≠ c.id) }

/-- The session key that a challenge gives (R328). -/
def sessKey (c : Chal) (k : KeyEnt) : List Byte := hmac k.secret (keps ++ c.nc ++ c.ns)

/-- What NET counts and keeps of a failed proof (R329). -/
structure ProofFailed (s t : State) (d : Dgram) (kid : Byte) : Prop where
  works : Works [.net] s t
  net : t.net = { s.net with authFail := satInc s.net.authFail, fails := t.net.fails, lockouts := t.net.lockouts }
  raised : NowRaised s → Raised t 476
  noted : ∃ u, Hands 0 s u ∧ Hands 1 (logEntry u 0x1000 d.port.val 1 ([kid, 0, 0, 0] ++ leN 4 d.ip.toNat)) t ∧ u.stn.time = t.stn.time

theorem proofFails_failed (s : State) (d : Dgram) (kid : Byte) : ProofFailed s (proofFails s d kid) d kid := by
  have hw (n : NetBlk) : Works [.net] s { s with net := n } := .of_same (fun _ hb => same_net s n hb) rfl
  refine ⟨((hw _).logEntry _ _ _ _).raise _, ?_, fun hn => ((hw _).logEntry _ _ _ _).raised hn (by decide),
    ⟨{ s with net := (proofFails s d kid).net }, .of_eq rfl, ?_, ?_⟩⟩
  · unfold proofFails
    simp only [raise_net]
    rfl
  · have he : (proofFails s d kid) = raise (logEntry { s with net := (proofFails s d kid).net } 0x1000 d.port.val 1
        ([kid, 0, 0, 0] ++ leN 4 d.ip.toNat)) 476 := by
      unfold proofFails
      simp only [raise_net]
      rfl
    rw [he]
    exact (Hands.refl _).raise _
  · unfold proofFails
    rw [raise_stn]
    rfl

/-- What a failed proof leaves (R329). -/
def FailedProof (s t : State) (d : Dgram) (c : Chal) : Prop :=
  t.net.authFail = satInc s.net.authFail ∧ t.net.chals = s.net.chals.filter (fun x => x.id ≠ c.id) ∧ t.net.sess = s.net.sess ∧
    t.net.keys = s.net.keys ∧ (Settled s → Raised t 476) ∧ Noted s t 0x1000 d.port.val 1 ([c.keyId, 0, 0, 0] ++ leN 4 d.ip.toNat)

/-- NET once the PROOF of `d` for `c` has failed. -/
theorem FailedProof.of_state {s u v t : State} {d : Dgram} {c : Chal} (hf : ProofFailed u v d c.keyId) (hu : u.net = chalGone s.net c)
    (hn : ∃ ports, t.net = { v.net with ports := ports }) (hr : Settled s → Raised t 476)
    (hnoted : Noted s t 0x1000 d.port.val 1 ([c.keyId, 0, 0, 0] ++ leN 4 d.ip.toNat)) : FailedProof s t d c := by
  obtain ⟨ports, hn⟩ := hn
  have hv := hf.net
  rw [hu] at hv
  refine ⟨?_, ?_, ?_, ?_, hr, hnoted⟩ <;> rw [hn, hv] <;> rfl

/-- The challenge is used up. -/
theorem chal_gone (u : State) (c : Chal) : Works [.net] u (modNet u (fun n => chalGone n c)) ∧ Hands 0 u (modNet u (fun n => chalGone n c)) :=
  ⟨((NetBecomes.refl rfl).modNet _).works, .of_eq rfl⟩

section
variable {s : State} {d : Dgram} {c : Chal} {k : KeyEnt} (hd : dgramHere s d = true) (hs : sessOf s d = none)
  (hc : s.net.chals.find? (fun c => c.id == d.sess) = some c) (hk : keyEnt s c.keyId = some k)
include hd hs hc hk

omit hd in
/-- A PROOF for a standing challenge. -/
theorem proof_takes {u : State} (hu : u.net = s.net) : proof u d = proofTake u d c k := by
  unfold proof
  rw [sessOf_congr hu, hs, hu]
  dsimp only
  rw [hc]
  dsimp only
  rw [keyEnt_congr hu, hk]

/-- A PROOF whose MAC is wrong (R329). -/
theorem proof_forged (hm : d.mac ≠ kepMac (sessKey c k) 3 false 0 d.sess d.seq d.payload) :
    Does (.proof d) s [.net] (fun t => FailedProof s t d c ∧ t.net.ports = s.net.ports) := by
  have heq {u : State} (hu : u.net = s.net) : proof u d = proofFails (modNet u (fun n => chalGone n c)) d c.keyId := by
    have hno : (d.mac == kepMac (sessKey c k) 3 false 0 d.sess d.seq d.payload) = false := beq_false_of_ne hm
    rw [proof_takes hs hc hk hu]
    unfold proofTake
    unfold sessKey at hno
    dsimp only
    rw [hno]
    rfl
  obtain ⟨hw1, -⟩ := chal_gone (freshCycle s) c
  have hf := proofFails_failed (modNet (freshCycle s) (fun n => chalGone n c)) d c.keyId
  have hnet : (settle (proof (freshCycle s) d)).net = (proofFails (modNet (freshCycle s) (fun n => chalGone n c)) d c.keyId).net := by
    rw [settle_net, heq (freshCycle_net s)]
  refine does_of_works (f := fun s => proof s d) rfl hd ?_ ⟨.of_state hf ?_ ⟨_, hnet⟩ (fun hset => ?_) ?_, ?_⟩
  · rw [heq (freshCycle_net s)]
    exact hw1.trans hf.works
  · show chalGone (freshCycle s).net c = _
    rw [freshCycle_net]
  · rw [heq (freshCycle_net s)]
    exact (hf.raised (hw1.now hset.nowRaised)).ends _
  · refine noted_of_hands (f := fun s => proof s d) (n := 0) (m := 1) (by decide) (by omega) (by decide) (by decide) fun _ => ?_
    obtain ⟨u, h0, h1, ht⟩ := (proofFails_failed (modNet s (fun n => chalGone n c)) d c.keyId).noted
    rw [heq rfl]
    exact ⟨u, (chal_gone s c).2.trans h0, h1, ht⟩
  · refine (congrArg NetBlk.ports (hnet.trans hf.net)).trans ?_
    show (freshCycle s).net.ports = _
    rw [freshCycle_net]

variable (hm : d.mac = kepMac (sessKey c k) 3 false 0 d.sess d.seq d.payload)
include hm

/-- While NET is quiesced the challenge stands (R394). -/
theorem proof_quiet (hq : s.pwr.quiet.getLsbD 0 = true) : Does (.proof d) s [.net] (fun t =>
    Responded t s.net d 4 5 c.id [] (kepMac (sessKey c k) 4 true 5 c.id d.seq [])) := by
  have heq : proof (freshCycle s) d = respond (freshCycle s) d (some (sessKey c k)) 4 5 c.id [] := by
    have hyes : (d.mac == kepMac (sessKey c k) 3 false 0 d.sess d.seq d.payload && quietAt (freshCycle s) 0) = true := by
      rw [quietAt, freshCycle_pwr, hq, Bool.and_true]
      exact beq_iff_eq.2 hm
    rw [proof_takes hs hc hk (freshCycle_net s)]
    unfold proofTake
    exact if_pos hyes
  refine does_respond (f := fun s => proof s d) rfl hd heq (.refl _ _) (dgramHere_alive hd) fun t _ hr _ => ?_
  rw [freshCycle_net] at hr
  exact hr

variable (hq : ¬ s.pwr.quiet.getLsbD 0 = true)
include hq

omit hd in
/-- A PROOF whose MAC holds. -/
theorem proof_taken {u : State} (hu : u.net = s.net) (hp : u.pwr = s.pwr) : proof u d =
    if d.payload ≠ hmac k.secret (kepp ++ c.nc ++ c.ns ++ wB c.id) then
      respond (proofFails (modNet u (fun n => chalGone n c)) d c.keyId) d (some (sessKey c k)) 4 1 c.id []
    else match freeSess (modNet u (fun n => chalGone n c)) with
      | none => respond (modNet u (fun n => chalGone n c)) d (some (sessKey c k)) 4 6 c.id []
      | some i =>
        let pl := hmac k.secret (kepa ++ c.ns ++ c.nc ++ wB c.id) ++ [BitVec.ofNat 8 k.role]
        respond (raise (modNet (modNet u (fun n => chalGone n c)) (fun n => { n with sess := n.sess.set i (some { id := c.id, keyId := c.keyId, role := k.role, key := sessKey c k, last := some d.seq, resp := some (4, 0, pl) }) })) 474) d
          (some (sessKey c k)) 4 0 c.id pl := by
  have hyes : (d.mac == kepMac (sessKey c k) 3 false 0 d.sess d.seq d.payload) = true := beq_iff_eq.2 hm
  have hno : quietAt u 0 = false := by
    rw [quietAt, hp]
    exact Bool.eq_false_iff.2 hq
  rw [proof_takes hs hc hk hu]
  unfold proofTake
  unfold sessKey at hyes
  dsimp only
  rw [hyes, hno]
  rfl

/-- A PROOF of another secret (R329). -/
theorem proof_wrong (hg : d.payload ≠ hmac k.secret (kepp ++ c.nc ++ c.ns ++ wB c.id)) : Does (.proof d) s [.net] (fun t =>
    FailedProof s t d c ∧ Responded t { t.net with ports := s.net.ports } d 4 1 c.id [] (kepMac (sessKey c k) 4 true 1 c.id d.seq [])) := by
  have heq {u : State} (hu : u.net = s.net) (hp : u.pwr = s.pwr) : proof u d =
      respond (proofFails (modNet u (fun n => chalGone n c)) d c.keyId) d (some (sessKey c k)) 4 1 c.id [] := by
    rw [proof_taken hs hc hk hm hq hu hp, if_pos hg]
  obtain ⟨hw1, -⟩ := chal_gone (freshCycle s) c
  have hf := proofFails_failed (modNet (freshCycle s) (fun n => chalGone n c)) d c.keyId
  have hports : (proofFails (modNet (freshCycle s) (fun n => chalGone n c)) d c.keyId).net.ports = s.net.ports := by
    rw [hf.net]
    show (freshCycle s).net.ports = _
    rw [freshCycle_net]
  refine does_respond (f := fun s => proof s d) rfl hd (heq (freshCycle_net s) (freshCycle_pwr s)) (hw1.trans hf.works)
    (dgramHere_alive hd) fun t ht hr ha => ?_
  subst ht
  refine ⟨.of_state hf ?_ ⟨_, hr.1⟩ (fun hset => ?_) ?_, ?_, ?_, ?_⟩
  · show chalGone (freshCycle s).net c = _
    rw [freshCycle_net]
  · rw [heq (freshCycle_net s) (freshCycle_pwr s)]
    exact ((works_respond ha _ _ _ _ _ _).kept _ (hf.raised (hw1.now hset.nowRaised))).ends _
  · refine noted_of_hands (f := fun s => proof s d) (n := 0) (m := 2) (by decide) (by omega) (by decide) (by decide) fun _ => ?_
    have hf := proofFails_failed (modNet s (fun n => chalGone n c)) d c.keyId
    obtain ⟨u, h0, h1, ht⟩ := hf.noted
    have hv : alive (proofFails (modNet s (fun n => chalGone n c)) d c.keyId) = true :=
      (alive_congr (((chal_gone s c).1.trans hf.works).pwr_eq (by decide))).trans (dgramHere_alive hd)
    rw [heq rfl rfl]
    exact ⟨u, (chal_gone s c).2.trans h0, h1.trans (hands_respond hv _ _ _ _ _ _),
      ht.trans (congrArg Stn.time ((works_respond hv _ _ _ _ _ _).stn_eq (by decide)).symm)⟩
  · exact congrArg (fun p => { settle (proof (freshCycle s) d) |>.net with ports := p }) rfl
  · exact fun p hp => (hr.2.1 p hp).trans (by rw [hports])
  · intro hl
    rw [← hports] at hl ⊢
    exact hr.2.2 hl

variable (hg : d.payload = hmac k.secret (kepp ++ c.nc ++ c.ns ++ wB c.id))
include hg

/-- No session is free (R328). -/
theorem proof_full (hf : ∀ i : Fin 4, s.net.sess[i] ≠ none) : Does (.proof d) s [.net] (fun t =>
    Responded t (chalGone s.net c) d 4 6 c.id [] (kepMac (sessKey c k) 4 true 6 c.id d.seq [])) := by
  have hfree : freeSess (modNet (freshCycle s) (fun n => chalGone n c)) = none := by
    refine List.find?_eq_none.2 fun i _ => ?_
    show ¬ ((freshCycle s).net.sess[i]).isNone = true
    rw [freshCycle_net]
    exact fun h => hf i (Option.isNone_iff_eq_none.1 h)
  have heq : proof (freshCycle s) d = respond (modNet (freshCycle s) (fun n => chalGone n c)) d (some (sessKey c k)) 4 6 c.id [] := by
    rw [proof_taken hs hc hk hm hq (freshCycle_net s) (freshCycle_pwr s), if_neg (not_not.2 hg), hfree]
  refine does_respond (f := fun s => proof s d) rfl hd heq (chal_gone _ c).1 (dgramHere_alive hd) fun t _ hr _ => ?_
  have hnet : (modNet (freshCycle s) (fun n => chalGone n c)).net = chalGone s.net c := by
    show chalGone (freshCycle s).net c = _
    rw [freshCycle_net]
  rw [hnet] at hr
  exact hr

/-- The session that a PROOF opens (R328). -/
def openedSess (d : Dgram) (c : Chal) (k : KeyEnt) : Sess :=
  { id := c.id, keyId := c.keyId, role := k.role, key := sessKey c k, last := some d.seq
    resp := some (4, 0, hmac k.secret (kepa ++ c.ns ++ c.nc ++ wB c.id) ++ [BitVec.ofNat 8 k.role]) }

omit hd hs hc hk hm hq hg in
theorem freeSess_eq {i : Fin 4} {u : State} (hi : u.net.sess[i] = none) (hlt : ∀ j : Fin 4, j < i → u.net.sess[j] ≠ none) :
    freeSess u = some i := by
  unfold freeSess allFin
  rw [List.find?_eq_some_iff_getElem]
  refine ⟨by rw [hi]; rfl, i.val, by simp, by simp, fun j hj => ?_⟩
  have := hlt ⟨j, by omega⟩ hj
  simpa [Option.isSome_iff_ne_none] using this

/-- A session opens at the first number that is free (R328). -/
theorem proof_opens {i : Fin 4} (hi : s.net.sess[i] = none) (hlt : ∀ j : Fin 4, j < i → s.net.sess[j] ≠ none) :
    Does (.proof d) s [.net] (fun t => (Settled s → Raised t 474) ∧
      Responded t { chalGone s.net c with sess := s.net.sess.set i (some (openedSess d c k)) } d 4 0 c.id
        (hmac k.secret (kepa ++ c.ns ++ c.nc ++ wB c.id) ++ [BitVec.ofNat 8 k.role])
        (kepMac (sessKey c k) 4 true 0 c.id d.seq (hmac k.secret (kepa ++ c.ns ++ c.nc ++ wB c.id) ++ [BitVec.ofNat 8 k.role]))) := by
  have hfree : freeSess (modNet (freshCycle s) (fun n => chalGone n c)) = some i :=
    freeSess_eq (u := modNet (freshCycle s) (fun n => chalGone n c)) (by show (freshCycle s).net.sess[i] = _; rw [freshCycle_net, hi])
      (fun j hj => by show (freshCycle s).net.sess[j] ≠ _; rw [freshCycle_net]; exact hlt j hj)
  have hb : NetBecomes (freshCycle s) (raise (modNet (modNet (freshCycle s) (fun n => chalGone n c))
      (fun n => { n with sess := n.sess.set i (some (openedSess d c k)) })) 474)
      { chalGone s.net c with sess := s.net.sess.set i (some (openedSess d c k)) } [474] :=
    (((NetBecomes.refl (freshCycle_net s)).modNet (fun n => chalGone n c)).modNet
      (fun n => { n with sess := n.sess.set i (some (openedSess d c k)) })).raise (by decide)
  have heq : proof (freshCycle s) d = respond (raise (modNet (modNet (freshCycle s) (fun n => chalGone n c))
      (fun n => { n with sess := n.sess.set i (some (openedSess d c k)) })) 474) d (some (sessKey c k)) 4 0 c.id
      (hmac k.secret (kepa ++ c.ns ++ c.nc ++ wB c.id) ++ [BitVec.ofNat 8 k.role]) := by
    rw [proof_taken hs hc hk hm hq (freshCycle_net s) (freshCycle_pwr s), if_neg (not_not.2 hg), hfree]
    rfl
  refine does_respond (f := fun s => proof s d) rfl hd heq hb.works (dgramHere_alive hd) fun t ht hr ha => ⟨fun hset => ?_, ?_⟩
  · subst ht
    rw [heq]
    exact ((works_respond ha _ _ _ _ _ _).kept _ (hb.raised hset.nowRaised 474 List.mem_cons_self)).ends _
  · rw [hb.net] at hr
    exact hr

end

/-! ### The end of a session (R329, R335) -/

/-- NET without session `i`. -/
def sessGone (n : NetBlk) (i : Fin 4) : NetBlk :=
  { n with sess := n.sess.set i none, clearNonce := n.clearNonce.filter (fun c => c.sess ≠ i.val) }

/-- Session `i` is gone from `s` to `t` with its keyed windows and latches (R9, R329). -/
structure SessionEnded (s t : State) (i : Fin 4) : Prop where
  works : Works [.net, .windows, .armed, .latch] s t
  net : t.net = sessGone s.net i
  windows : ∀ w, w ∈ t.windows ↔ w ∈ s.windows ∧ w.1 ≠ i.val
  armed : ∀ w, w ∈ t.armed ↔ w ∈ s.armed ∧ w.1 ≠ i.val
  latch : ∀ r : Fin 21, t.latch[r] = if r.val = i.val + 1 then .empty else s.latch[r]
  raised : NowRaised s → Raised t 475

/-- The state without session `i`, before the event is raised. -/
def sessionless (s : State) (i : Fin 4) : State :=
  { s with
    net := sessGone s.net i, windows := s.windows.filter (fun w => w.1 ≠ i.val), armed := s.armed.filter (fun w => w.1 ≠ i.val)
    latch := vmodN s.latch (i.val + 1) (fun _ => .empty) }

theorem closeSession_eq {s : State} {i : Fin 4} (h : s.net.sess[i] ≠ none) : closeSession s i = raise (sessionless s i) 475 := by
  unfold closeSession
  rw [if_neg (mt Option.isNone_iff_eq_none.1 h)]
  rfl

theorem works_sessionless (s : State) (i : Fin 4) : Works [.net, .windows, .armed, .latch] s (sessionless s i) := by
  refine .of_same (fun b hb => ?_) rfl
  simp only [List.mem_cons, List.not_mem_nil, or_false, not_or] at hb
  obtain ⟨h1, h2, h3, h4⟩ := hb
  cases b <;> first | exact absurd rfl h1 | exact absurd rfl h2 | exact absurd rfl h3 | exact absurd rfl h4 |
    exact fun _ => Engine.SameBut.refl _ | rfl

theorem closeSession_ended {s : State} {i : Fin 4} (h : s.net.sess[i] ≠ none) : SessionEnded s (closeSession s i) i := by
  rw [closeSession_eq h]
  refine ⟨(works_sessionless s i).raise _, raise_net _ _, fun w => ?_, fun w => ?_, fun r => ?_,
    fun hn => (works_sessionless s i).raised hn (by decide)⟩
  · rw [raise_windows]
    simp [sessionless]
  · rw [raise_armed]
    simp [sessionless]
  · rw [raise_latch]
    simp only [sessionless, vmodN_get, @eq_comm _ (i.val + 1)]

/-- What a session's end leaves of windows, latches and events. -/
def Closed (s t : State) (i : Fin 4) : Prop :=
  (∀ w, w ∈ t.windows ↔ w ∈ s.windows ∧ w.1 ≠ i.val) ∧ (∀ w, w ∈ t.armed ↔ w ∈ s.armed ∧ w.1 ≠ i.val) ∧
    (∀ r : Fin 21, t.latch[r] = if r.val = i.val + 1 then .empty else s.latch[r]) ∧ (Settled s → Raised t 475)

theorem SessionEnded.closed {s u v w : State} {i : Fin 4} {p : List Instr} (h : SessionEnded u v i) (hw : Works [.net] v w)
    (hwin : u.windows = s.windows) (harm : u.armed = s.armed) (hlat : u.latch = s.latch) (hn : Settled s → NowRaised u) :
    Closed s { settle w with pending := p } i := by
  have h1 : ({ settle w with pending := p } : State).windows = v.windows := (settle_windows w).trans (hw.same .windows (by decide))
  have h2 : ({ settle w with pending := p } : State).armed = v.armed := (settle_armed w).trans (hw.same .armed (by decide))
  have h3 : ({ settle w with pending := p } : State).latch = v.latch := (settle_latch w).trans (hw.same .latch (by decide))
  refine ⟨fun y => ?_, fun y => ?_, fun r => ?_, fun hset => (hw.kept _ (h.raised (hn hset))).ends p⟩
  · rw [h1, ← hwin]
    exact h.windows y
  · rw [h2, ← harm]
    exact h.armed y
  · rw [h3, ← hlat]
    exact h.latch r

/-- Thirty seconds without a datagram (R329). -/
theorem sessionTimeout_does {s : State} {i : Fin 4} (ha : alive s = true) (hi : s.net.sess[i] ≠ none) :
    Does (.sessionTimeout i) s [.net, .windows, .armed, .latch] (fun t => Closed s t i ∧ t.net = sessGone s.net i) := by
  have h := closeSession_ended (s := freshCycle s) (i := i) (by rw [freshCycle_net]; exact hi)
  refine does_of_works (f := fun s => closeSession s i) rfl
    (by rw [ha, Option.isSome_iff_ne_none.2 hi]; rfl) h.works ⟨?_, ?_⟩
  · exact h.closed (.refl _ _) (freshCycle_windows s) (freshCycle_armed s) (freshCycle_latch s) (fun hs => hs.nowRaised)
  · refine (settle_net _).trans (h.net.trans ?_)
    rw [freshCycle_net]

theorem exec_close (s : State) (d : Dgram) :
    exec (.close d) s = requestCmd s 5 d roleRead (d.payload ≠ []) (fun s i _ => (closeSession s i, 0, [])) := rfl

/-- CLOSE ends the session with its response (R329, R335). -/
theorem close_does {s : State} {d : Dgram} {i : Fin 4} {x : Sess} (h : Requested s 5 d i x) (hb : d.payload = []) :
    Does (.close d) s [.net, .windows, .armed, .latch] (fun t => Closed s t i ∧
      Responded t (sessGone s.net i) d 5 0 d.sess [] (kepMac x.key 5 true 0 d.sess d.seq [])) := by
  have hend := closeSession_ended (s := seenBy s d i) (i := i) (by rw [seenBy_sess h]; exact Option.some_ne_none _)
  have hv : alive (closeSession (seenBy s d i) i) = true :=
    (alive_congr (hend.works.pwr_eq (by decide))).trans (seenBy_alive h)
  have hrole : ¬ x.role < roleRead := Nat.not_lt_zero _
  have heq : request (freshCycle s) 5 d roleRead (d.payload ≠ []) (fun s i _ => (closeSession s i, 0, [])) =
      answer (closeSession (seenBy s d i) i) d i x 5 0 [] := by
    unfold request
    rw [requestAs_eq h]
    unfold served
    rw [if_neg (by rw [hb]; decide), if_neg hrole]
  have hnet : (stored (closeSession (seenBy s d i) i) i 5 0 []).net = sessGone s.net i := by
    show ({ (closeSession (seenBy s d i) i).net with sess := _ } : NetBlk) = _
    rw [hend.net, seenBy_net h]
    simp [sessGone, seenNet, vmod]
  have hresp := responded_respond (v := stored (closeSession (seenBy s d i) i) i 5 0 []) ((alive_congr rfl).trans hv) d (some x.key) 5 0 x.id []
  rw [hnet] at hresp
  refine does_of (f := fun u => request u 5 d roleRead (d.payload ≠ []) (fun s i _ => (closeSession s i, 0, []))) 
    (exec_request h (exec_close s d)) ?_ ⟨?_, ?_⟩
  · rw [heq]
    exact (((works_seenBy s d i).mono (by simp)).trans (hend.works.trans ((works_answer hv 5 0 []).mono (by simp)))).same
  · rw [heq]
    exact hend.closed (works_answer hv 5 0 []) (freshCycle_windows s) (freshCycle_armed s) (freshCycle_latch s)
      (fun hs => (works_seenBy s d i).now hs.nowRaised)
  · rw [heq, ← h.id]
    exact hresp.congr (settle_net _)

theorem exec_unknownOperation (s : State) (op : Byte) (d : Dgram) : exec (.unknownOperation op d) s =
    guarded s (dgramHere s d && opUnknown op) (fun s => request s op d roleRead false (fun s _ _ => (s, 7, []))) := rfl

/-- An operation that the protocol does not know (R334). -/
theorem unknownOperation_replies {s : State} {op : Byte} {d : Dgram} {i : Fin 4} {x : Sess} (ho : opUnknown op = true)
    (h : Requested s op d i x) : Replies (.unknownOperation op d) s op d i x [] s.net 7 [] (fun _ => True) := by
  have hx : exec (.unknownOperation op d) s = requestCmd s op d roleRead false (fun s _ _ => (s, 7, [])) := by
    rw [exec_unknownOperation, ho, Bool.and_true]
    rfl
  exact replies_only hx h rfl (Nat.zero_le _) rfl

end Sys2Proof.Machine

open Sys2Proof Sys2Proof.Machine

/-- Settles O40: HELLO and PROOF by the first of their conditions that holds, CLOSE and the lapses by what they leave of a session. -/
theorem sessions : Obligations.Sessions := by
  unfold Obligations.Sessions
  intro s d hd
  have ha := dgramHere_alive hd
  refine ⟨hello_locked hd, hello_quiet hd, hello_malformed hd, hello_full hd, hello_unknown hd,
    fun ho hq hl hf ⟨k, hk⟩ => hello_opens hd ho hq hl hf hk, fun c k hs hc hk => ?_, fun i x h => ?_,
    fun op i x ho h => unknownOperation_replies ho h, fun i hi => sessionTimeout_does ha hi, fun c hc => ?_, fun ip hip => ?_⟩
  · exact ⟨proof_forged hd hs hc hk, proof_quiet hd hs hc hk, proof_wrong hd hs hc hk, proof_full hd hs hc hk,
      fun hm hq hg i hi hlt => proof_opens hd hs hc hk hm hq hg hi hlt⟩
  · exact served_of (exec_close s d) h decide_eq_true_iff fun hb _ => close_does h (not_not.1 (of_decide_eq_false hb))
  · exact netSilently_of (f := fun n => { n with chals := n.chals.filter (fun x => x.id ≠ c.id) }) rfl
      (by rw [ha]; exact List.any_eq_true.2 ⟨c, hc, beq_self_eq_true _⟩)
  · exact netSilently_of (f := fun n => { n with lockouts := n.lockouts.filter (fun x => x ≠ ip) }) rfl
      (by rw [ha]; exact List.contains_iff_mem.2 hip)
end

section
/-! O42: image transfers (R333, R352, R356), and what IMG's checks and writes leave (R344, R355), which O39 uses too. -/

namespace Sys2Proof.Machine
open Sys2Proof

/-! ### Checks and writes of images (R344, R355) -/

theorem works_modImg (s : State) (f : Img → Img) : Works [.img] s (modImg s f) :=
  .of_same (fun b hb => by
    have h : b ≠ .img := fun he => hb (List.mem_singleton.2 he)
    cases b <;> first | exact absurd rfl h | exact fun _ => Engine.SameBut.refl _ | rfl) rfl

theorem works_modStn (s : State) (f : Stn → Stn) : Works [.stn] s (modStn s f) :=
  .of_same (fun b hb => by
    have h : b ≠ .stn := fun he => hb (List.mem_singleton.2 he)
    cases b <;> first | exact absurd rfl h | exact fun _ => Engine.SameBut.refl _ | rfl) rfl

/-- IMG once a check or a write has reported this result (R344). -/
def Img.reported (i : Img) (c : Nat × Nat) (prof : BitVec 2) (flash : Bool) : Img :=
  { i with loadCode := BitVec.ofNat 4 c.1, loadSect := BitVec.ofNat 4 c.2, loadProf := prof, fromFlash := flash }

section
variable (s : State) (c : Nat × Nat) (prof : BitVec 2) (flash : Bool)

@[simp] theorem setLoad_img : (setLoad s c prof flash).img = s.img.reported c prof flash := by
  unfold setLoad
  split
  · rfl
  · rw [raise_img]
    rfl

theorem works_setLoad : Works [.img] s (setLoad s c prof flash) := by
  unfold setLoad
  dsimp only
  split
  · exact works_modImg s _
  · exact (works_modImg s _).raise _

@[simp] theorem setLoad_stn : (setLoad s c prof flash).stn = s.stn := (works_setLoad s c prof flash).stn_eq (by decide)

/-- A failed check raises its event. -/
theorem setLoad_raised (hc : c.1 ≠ 0) (hn : NowRaised s) : Raised (setLoad s c prof flash) 501 := by
  unfold setLoad
  rw [if_neg hc]
  exact (works_modImg s _).raised hn (by decide)

end

/-- Whether a check passes depends on the keys and the stack's root strap alone. -/
theorem checkImage_congr {s u : State} (hi : u.img = s.img) (hs : u.stn = s.stn) (n : Nat) (b : List Byte) :
    checkImage u n b = checkImage s n b := by
  unfold checkImage
  rw [hi, hs]

/-- A check of R344: its code, what it reports, and what it leaves. -/
structure Checked (s t : State) (p : BitVec 2) (flash : Bool) (b : List Byte) : Prop where
  works : Works [.stn, .img] s t
  img : t.img = s.img.reported (checkImage s p.toNat b).1 p flash
  stn : t.stn = s.stn ∨ t.stn = (setAdmit s (checkImage s p.toNat b).2).stn
  raised : (checkImage s p.toNat b).1.1 ≠ 0 → NowRaised s → Raised t 501

theorem Checked.staged {s t : State} {p : BitVec 2} {flash : Bool} {b : List Byte} (h : Checked s t p flash b) :
    t.stn.staged = s.stn.staged := h.stn.elim (congrArg Stn.staged) (congrArg Stn.staged)

theorem runCheck_checked (s : State) (p : BitVec 2) (flash : Bool) (b : List Byte) :
    (runCheck s p flash b).1 = (checkImage s p.toNat b).1.1 ∧ Checked s (runCheck s p flash b).2 p flash b := by
  have hadm : Works [.stn, .img] s (setAdmit s (checkImage s p.toNat b).2) :=
    (works_modStn s (fun _ => (setAdmit s (checkImage s p.toNat b).2).stn)).mono (by simp)
  have h (u : State) (hu : Works [.stn, .img] s u) (hi : u.img = s.img)
      (hs : u.stn = s.stn ∨ u.stn = (setAdmit s (checkImage s p.toNat b).2).stn) :
      Checked s (setLoad u (checkImage s p.toNat b).1 p flash) p flash b :=
    ⟨hu.trans ((works_setLoad _ _ _ _).mono (by simp)), by rw [setLoad_img, hi], by rw [setLoad_stn]; exact hs,
      fun hc hn => setLoad_raised _ _ _ _ hc (hu.now hn)⟩
  refine ⟨rfl, ?_⟩
  unfold runCheck
  dsimp only
  split
  · exact h _ hadm rfl (.inr rfl)
  · exact h _ (.refl _ _) rfl (.inl rfl)

theorem startWrite_idle {i : Img} (h : i.wState = 0) (p : BitVec 2) (olc : Bool) (b : List Byte) :
    (i.startWrite p olc b).wState = 2 ∧ (i.startWrite p olc b).wProf = p ∧ (i.startWrite p olc b).wBytes = b ∧
      (i.startWrite p olc b).wOlc = olc := by
  unfold Img.startWrite
  rw [if_neg (not_not.2 h)]
  exact ⟨rfl, rfl, rfl, rfl⟩

theorem startWrite_busy {i : Img} (h : i.wState ≠ 0) (p : BitVec 2) (olc : Bool) (b : List Byte) :
    i.startWrite p olc b = { i with wWait := i.wWait ++ [(p, olc, b)] } := by
  unfold Img.startWrite
  rw [if_pos h]

/-- What the start of a write leaves alone. -/
theorem startWrite_keeps (i : Img) (p : BitVec 2) (olc : Bool) (b : List Byte) :
    let j := i.startWrite p olc b
    j.running = i.running ∧ j.banks = i.banks ∧ j.commits = i.commits ∧ j.loadCode = i.loadCode ∧ j.loadProf = i.loadProf ∧
      j.fromFlash = i.fromFlash ∧ j.same = i.same := by
  unfold Img.startWrite
  dsimp only
  split <;> exact ⟨rfl, rfl, rfl, rfl, rfl, rfl, rfl⟩

/-! ### An image that a transfer has brought (R344, R356) -/

theorem notTaking_iff (s : State) : notTaking s = true ↔ s.pair.state ∈ [1, 4, 5] := by
  unfold notTaking
  simp only [Bool.or_eq_true, beq_iff_eq, List.mem_cons, List.not_mem_nil, or_false]
  exact or_assoc.trans or_left_comm

theorem flashBusy_congr {s u : State} (hi : u.img = s.img) (hs : u.stn = s.stn) (p : BitVec 2) : flashBusy u p = flashBusy s p := by
  unfold flashBusy
  rw [hi, hs]

/-- LOAD_RESULT of a transferred image. -/
def Loads (t : State) (p : BitVec 2) (code : Nat) : Prop :=
  t.img.loadCode = BitVec.ofNat 4 code ∧ t.img.loadProf = p ∧ t.img.fromFlash = false

/-- What a full image that a transfer has brought leaves (R344, R355, R356). -/
structure ImageArrived (s t : State) (p : BitVec 2) (b : List Byte) : Prop where
  works : Works [.stn, .img] s t
  keeps : t.img.running = s.img.running ∧ t.img.banks = s.img.banks ∧ t.img.commits = s.img.commits ∧ t.stn.staged = s.stn.staged
  fails : (checkImage s p.toNat b).1.1 ≠ 0 → Loads t p (checkImage s p.toNat b).1.1 ∧ t.img.wState = s.img.wState ∧ (NowRaised s → Raised t 501)
  busy : (checkImage s p.toNat b).1.1 = 0 → flashBusy s p = true → Loads t p 13 ∧ t.img.wState = s.img.wState ∧ (NowRaised s → Raised t 501)
  refused : (checkImage s p.toNat b).1.1 = 0 → flashBusy s p = false → s.pair.state ∈ [1, 4, 5] →
    Loads t p 15 ∧ t.img.wState = s.img.wState ∧ (NowRaised s → Raised t 501)
  written : (checkImage s p.toNat b).1.1 = 0 → flashBusy s p = false → s.pair.state ∉ [1, 4, 5] → Loads t p 0 ∧
    (s.img.wState = 0 → t.img.wState = 2 ∧ t.img.wProf = p ∧ t.img.wBytes = b) ∧ (s.img.wState ≠ 0 → t.img.wWait = s.img.wWait ++ [(p, false, b)])

/-- The same of a command whose work began at `u` and ended at `v`. -/
theorem ImageArrived.seen {s t u v : State} {p : BitVec 2} {b : List Byte} (h : ImageArrived u v p b) (hi : u.img = s.img) (hs : u.stn = s.stn)
    (hp : u.pair = s.pair) (hn : Settled s → NowRaised u) (himg : t.img = v.img) (hstn : t.stn = v.stn) (hr : ∀ m, Raised v m → Raised t m) :
    let c := (checkImage s p.toNat b).1.1
    t.img.running = s.img.running ∧ t.img.banks = s.img.banks ∧ t.img.commits = s.img.commits ∧ t.stn.staged = s.stn.staged ∧
      (c ≠ 0 → Loads t p c ∧ t.img.wState = s.img.wState ∧ (Settled s → Raised t 501)) ∧
      (c = 0 → flashBusy s p = true → Loads t p 13 ∧ t.img.wState = s.img.wState ∧ (Settled s → Raised t 501)) ∧
      (c = 0 → flashBusy s p = false → s.pair.state ∈ [1, 4, 5] → Loads t p 15 ∧ t.img.wState = s.img.wState ∧ (Settled s → Raised t 501)) ∧
      (c = 0 → flashBusy s p = false → s.pair.state ∉ [1, 4, 5] → Loads t p 0 ∧
        (s.img.wState = 0 → t.img.wState = 2 ∧ t.img.wProf = p ∧ t.img.wBytes = b) ∧
        (s.img.wState ≠ 0 → t.img.wWait = s.img.wWait ++ [(p, false, b)])) := by
  obtain ⟨-, ⟨k1, k2, k3, k4⟩, hf, hb, href, hw⟩ := h
  rw [checkImage_congr hi hs] at hf hb href hw
  rw [flashBusy_congr hi hs] at hb href hw
  rw [hi] at k1 k2 k3 hf hb href hw
  rw [hs] at k4
  rw [hp] at href hw
  have hraise (h : NowRaised u → Raised v 501) : Settled s → Raised t 501 := fun hset => hr _ (h (hn hset))
  have hloads {n : Nat} (h : Loads v p n) : Loads t p n := by
    unfold Loads
    rw [himg]
    exact h
  rw [himg, hstn]
  refine ⟨k1, k2, k3, k4, fun hc => ?_, fun hc hz => ?_, fun hc hz hp => ?_, fun hc hz hp => ?_⟩
  · obtain ⟨hl, hst, hra⟩ := hf hc
    exact ⟨hloads hl, hst, hraise hra⟩
  · obtain ⟨hl, hst, hra⟩ := hb hc hz
    exact ⟨hloads hl, hst, hraise hra⟩
  · obtain ⟨hl, hst, hra⟩ := href hc hz hp
    exact ⟨hloads hl, hst, hraise hra⟩
  · obtain ⟨hl, hrest⟩ := hw hc hz hp
    exact ⟨hloads hl, hrest⟩

theorem imageArrives_eq (s : State) (p : BitVec 2) (b : List Byte) : imageArrives s p b =
    if (runCheck s p false b).1 ≠ 0 then (runCheck s p false b).2
    else if flashBusy s p then setLoad (runCheck s p false b).2 (13, 0) p false
    else if notTaking s then setLoad (runCheck s p false b).2 (15, 0) p false
    else modImg (runCheck s p false b).2 (fun i => i.startWrite p false b) := rfl

theorem imageArrives_arrived (s : State) (p : BitVec 2) (b : List Byte) : ImageArrived s (imageArrives s p b) p b := by
  obtain ⟨hcode, hck⟩ := runCheck_checked s p false b
  rw [imageArrives_eq, hcode]
  generalize (runCheck s p false b).2 = v at hck
  -- a refusal, by its code
  have hset (code : Nat) (h0 : code ≠ 0) : let t := setLoad v (code, 0) p false
      Works [.stn, .img] s t ∧ (t.img.running = s.img.running ∧ t.img.banks = s.img.banks ∧ t.img.commits = s.img.commits ∧
        t.stn.staged = s.stn.staged) ∧ Loads t p code ∧ t.img.wState = s.img.wState ∧ (NowRaised s → Raised t 501) := by
    refine ⟨hck.works.trans ((works_setLoad _ _ _ _).mono (by simp)), ?_, ?_, ?_, fun hn => setLoad_raised _ _ _ _ h0 (hck.works.now hn)⟩
    · rw [setLoad_img, setLoad_stn, hck.img, hck.staged]
      exact ⟨rfl, rfl, rfl, rfl⟩
    · unfold Loads
      rw [setLoad_img]
      exact ⟨rfl, rfl, rfl⟩
    · rw [setLoad_img, hck.img]
      rfl
  by_cases hc : (checkImage s p.toNat b).1.1 = 0
  · rw [if_neg (not_not.2 hc)]
    have hno {P : Prop} : (checkImage s p.toNat b).1.1 ≠ 0 → P := fun h => absurd hc h
    cases hb : flashBusy s p with
    | true =>
      rw [if_pos rfl]
      obtain ⟨hw, hk, hl⟩ := hset 13 (by decide)
      exact ⟨hw, hk, hno, fun _ _ => hl, fun _ hf => absurd (hb.symm.trans hf) (by decide), fun _ hf => absurd (hb.symm.trans hf) (by decide)⟩
    | false =>
      rw [if_neg Bool.false_ne_true]
      by_cases hr : s.pair.state ∈ [1, 4, 5]
      · rw [if_pos ((notTaking_iff s).2 hr)]
        obtain ⟨hw, hk, hl⟩ := hset 15 (by decide)
        exact ⟨hw, hk, hno, fun _ hf => absurd (hb.symm.trans hf) (by decide), fun _ _ _ => hl, fun _ _ hn => absurd hr hn⟩
      · rw [if_neg (mt (notTaking_iff s).1 hr)]
        have himg : (modImg v (fun i => i.startWrite p false b)).img = (s.img.reported (checkImage s p.toNat b).1 p false).startWrite p false b :=
          congrArg (fun i : Img => i.startWrite p false b) hck.img
        obtain ⟨k1, k2, k3, k4, k5, k6, -⟩ := startWrite_keeps (s.img.reported (checkImage s p.toNat b).1 p false) p false b
        refine ⟨hck.works.trans ((works_modImg _ _).mono (by simp)), ?_, hno, fun _ hf => absurd (hb.symm.trans hf) (by decide),
          fun _ _ hn => absurd hn hr, fun _ _ _ => ⟨?_, fun h0 => ?_, fun h0 => ?_⟩⟩
        · rw [himg]
          exact ⟨k1, k2, k3, hck.staged⟩
        · unfold Loads
          rw [himg]
          refine ⟨k4.trans ?_, k5, k6⟩
          show BitVec.ofNat 4 (checkImage s p.toNat b).1.1 = _
          rw [hc]
        · rw [himg]
          obtain ⟨h1, h2, h3, -⟩ := startWrite_idle (i := s.img.reported (checkImage s p.toNat b).1 p false) h0 p false b
          exact ⟨h1, h2, h3⟩
        · rw [himg, startWrite_busy (i := s.img.reported (checkImage s p.toNat b).1 p false) h0]
          rfl
  · rw [if_pos hc]
    have hno {P : Prop} : (checkImage s p.toNat b).1.1 = 0 → P := fun h => absurd h hc
    refine ⟨hck.works, ?_, fun _ => ⟨?_, ?_, hck.raised hc⟩, hno, hno, hno⟩
    · rw [hck.img, hck.staged]
      exact ⟨rfl, rfl, rfl, rfl⟩
    · unfold Loads
      rw [hck.img]
      exact ⟨rfl, rfl, rfl⟩
    · rw [hck.img]
      rfl

/-! ### The transfer of an image (R333) -/

section
variable {s : State} {d : Dgram} {i : Fin 4} {x : Sess}

/-- The size of a transfer's target (R333). -/
def targetRoom (target : Nat) : Nat := if target = 4 then 0x1000000 else 0x10000000

/-- IMG_OPEN's operation (R333). -/
def imgOpen (d : Dgram) (s : State) : OpRes :=
  if s.net.transfer.isSome then (s, 5, [])
  else (modNet s (fun x => { x with transfer := some { target := rd d.payload 0 1, total := rd d.payload 4 4, chunks := [] } }), 0, [])

theorem exec_imgOpen (s : State) (d : Dgram) : exec (.imgOpen d) s =
    if s.net.transfer.isNone && d.payload.length == 8 && rd d.payload 0 1 ≤ 4 && rd d.payload 4 4 ≤ targetRoom (rd d.payload 0 1) &&
        !dramRoom s (rd d.payload 4 4) then guarded s false (fun s => s)
    else requestCmd s 0x20 d 2 (d.payload.length ≠ 8 || rd d.payload 0 1 > 4 || rd d.payload 4 4 = 0 ||
      rd d.payload 4 4 > targetRoom (rd d.payload 0 1)) (fun s _ _ => imgOpen d s) := rfl

/-- A request that DRAM has no room for waits (R51). -/
theorem imgOpen_waits (h0 : s.net.transfer = none) (hl : d.payload.length = 8) (ht : rd d.payload 0 1 ≤ 4)
    (hn : rd d.payload 4 4 ≤ targetRoom (rd d.payload 0 1)) (hr : dramRoom s (rd d.payload 4 4) = false) :
    DoesSilently (.imgOpen d) s [] (fun _ => True) := by
  have hx : exec (.imgOpen d) s = .next s := by
    rw [exec_imgOpen, if_pos (by rw [h0, hl, hr, decide_eq_true ht, decide_eq_true hn]; rfl)]
    exact guarded_false rfl _
  exact ⟨s, hx, ⟨rfl, fun b _ => Block.Same.refl s b⟩, fun _ => ⟨rfl, rfl, rfl, fun _ => rfl⟩, trivial⟩

/-- NET of a seen request, with its transfer. -/
theorem seenBy_transfer {op : Byte} (h : Requested s op d i x) : (seenBy s d i).net.transfer = s.net.transfer := by
  rw [seenBy_net h]
  rfl

/-- A request that changes the transfer. -/
theorem replies_transfer {c : Instr} {op : Byte} {need : Nat} {b : Bool} {f : State → Fin 4 → Sess → OpRes} {tr : Option Transfer}
    (hx : exec c s = requestCmd s op d need b f) (h : Requested s op d i x) (hb : b = false) (hrole : need ≤ x.role)
    (hr : f (seenBy s d i) i x = (modNet (seenBy s d i) (fun n => { n with transfer := tr }), 0, [])) :
    Replies c s op d i x [] { s.net with transfer := tr } 0 [] (fun _ => True) := by
  have hb1 := (NetBecomes.refl (seenBy_net h)).modNet (fun n => { n with transfer := tr })
  exact replies_of hx h hb hrole hr hb1.works List.not_mem_nil hb1.net (fun _ _ _ => trivial)

theorem imgOpen_served (h : Requested s 0x20 d i x) (hroom : s.net.transfer = none → dramRoom s (rd d.payload 4 4) = true) :
    Served (.imgOpen d) s 0x20 d i x 2
      (d.payload.length ≠ 8 ∨ 4 < rd d.payload 0 1 ∨ rd d.payload 4 4 = 0 ∨ targetRoom (rd d.payload 0 1) < rd d.payload 4 4)
      ((s.net.transfer ≠ none → Replies (.imgOpen d) s 0x20 d i x [] s.net 5 [] (fun _ => True)) ∧
       (s.net.transfer = none → Replies (.imgOpen d) s 0x20 d i x []
         { s.net with transfer := some { target := rd d.payload 0 1, total := rd d.payload 4 4, chunks := [] } } 0 [] (fun _ => True))) := by
  have hx : exec (.imgOpen d) s = requestCmd s 0x20 d 2 (d.payload.length ≠ 8 || rd d.payload 0 1 > 4 || rd d.payload 4 4 = 0 ||
      rd d.payload 4 4 > targetRoom (rd d.payload 0 1)) (fun s _ _ => imgOpen d s) := by
    refine (exec_imgOpen s d).trans (if_neg fun hw => ?_)
    simp only [Bool.and_eq_true, Option.isNone_iff_eq_none, Bool.not_eq_true'] at hw
    exact absurd ((hroom hw.1.1.1.1).symm.trans hw.2) (by decide)
  refine served_of hx h (by simp [or_assoc]) fun hb hrole => ⟨fun hne => replies_only hx h hb hrole ?_,
    fun h0 => replies_transfer hx h hb hrole ?_⟩
  · unfold imgOpen
    rw [seenBy_transfer h, if_pos (Option.isSome_iff_ne_none.2 hne)]
  · unfold imgOpen
    rw [seenBy_transfer h, h0]
    rfl

/-- IMG_DATA's operation (R333). -/
def imgData (d : Dgram) (s : State) : OpRes :=
  match s.net.transfer with
  | none => (s, 4, [])
  | some t =>
    if rd d.payload 0 4 + rd d.payload 4 2 > t.total then (s, 3, [])
    else (modNet s (fun x => { x with transfer := some { t with chunks := t.chunks ++ [(rd d.payload 0 4, d.payload.drop 8)] } }), 0, [])

theorem exec_imgData (s : State) (d : Dgram) : exec (.imgData d) s =
    requestCmd s 0x21 d 2 (rd d.payload 4 2 = 0 || rd d.payload 4 2 > 1024 || d.payload.length ≠ 8 + rd d.payload 4 2)
      (fun s _ _ => imgData d s) := rfl

theorem imgData_served (h : Requested s 0x21 d i x) : Served (.imgData d) s 0x21 d i x 2
    (rd d.payload 4 2 = 0 ∨ 1024 < rd d.payload 4 2 ∨ d.payload.length ≠ 8 + rd d.payload 4 2)
    ((s.net.transfer = none → Replies (.imgData d) s 0x21 d i x [] s.net 4 [] (fun _ => True)) ∧
     ∀ f, s.net.transfer = some f →
       (f.total < rd d.payload 0 4 + rd d.payload 4 2 → Replies (.imgData d) s 0x21 d i x [] s.net 3 [] (fun _ => True)) ∧
       (rd d.payload 0 4 + rd d.payload 4 2 ≤ f.total → Replies (.imgData d) s 0x21 d i x []
         { s.net with transfer := some { f with chunks := f.chunks ++ [(rd d.payload 0 4, d.payload.drop 8)] } } 0 [] (fun _ => True))) := by
  have hx := exec_imgData s d
  refine served_of hx h (by simp [or_assoc]) fun hb hrole => ⟨fun h0 => replies_only hx h hb hrole ?_, fun f hf =>
    ⟨fun hlt => replies_only hx h hb hrole ?_, fun hle => replies_transfer hx h hb hrole ?_⟩⟩
  · unfold imgData
    rw [seenBy_transfer h, h0]
  · unfold imgData
    rw [seenBy_transfer h, hf]
    exact if_pos hlt
  · unfold imgData
    rw [seenBy_transfer h, hf]
    exact if_neg (Nat.not_lt.2 hle)

end

/-! ### The end of a transfer (R333, R352, R356) -/

/-- A change is being checked, or awaits its commit or its persistence. -/
def ChangeBusy (s : State) : Prop := s.stn.olcState ∈ [2, 4, 5] ∨ commitPending s = true

theorem changeBusy_iff (s : State) :
    (s.stn.olcState == 2#3 || s.stn.olcState == 4#3 || s.stn.olcState == 5#3 || commitPending s) = true ↔ ChangeBusy s := by
  unfold ChangeBusy
  simp [or_assoc]

/-- The state once a change package is staged (R115). -/
def packageStaged (s : State) (b : List Byte) : State := modStn s (fun n => { n with staged := b, olcState := 1, olcCmd := 0 })

theorem packageArrives_eq (s : State) (b : List Byte) : packageArrives s b =
    if !packageOk b then (s, 3)
    else if s.stn.olcState == 2#3 || s.stn.olcState == 4#3 || s.stn.olcState == 5#3 || commitPending s then (s, 4)
    else (packageStaged s b, 0) := rfl

/-- The state once a full transfer is closed, its event raised. -/
def transferClosed (s : State) : State :=
  raise (modNet (drawWord s).2 (fun x => { x with transfer := none })) 477

theorem imgEnd_full {s : State} {f : Transfer} (hf : s.net.transfer = some f) (hm : f.missing = []) : imgEnd s =
    let r := if f.target = 4 then packageArrives (transferClosed s) f.bytes
      else (imageArrives (transferClosed s) (BitVec.ofNat 2 f.target) f.bytes, if notTaking s then 4 else 0)
    (r.1, r.2, if r.2 = 4 then [] else wB (drawWord s).1 ++ leN 4 0) := by
  unfold imgEnd
  rw [hf]
  dsimp only
  rw [hm]
  rfl

theorem transferClosed_becomes {s : State} {n : NetBlk} (hn : s.net = n) :
    NetBecomes s (transferClosed s) { n with transfer := none } [477] :=
  (((NetBecomes.refl hn).then ((Works.refl _ _).drawWord)).modNet (fun x => { x with transfer := none })).raise (by decide)

section
variable {s : State} {d : Dgram} {i : Fin 4} {x : Sess}

theorem exec_imgEnd (s : State) (d : Dgram) :
    exec (.imgEnd d) s = requestCmd s 0x22 d 2 (d.payload ≠ []) (fun s _ _ => imgEnd s) := rfl

variable (h : Requested s 0x22 d i x) (hb : decide (d.payload ≠ []) = false) (hrole : 2 ≤ x.role) {f : Transfer}
  (hf : s.net.transfer = some f) (hm : f.missing = [])
include h hb hrole hf hm

/-- The answer of a full transfer, by what the arrival leaves. -/
theorem imgEnd_replies {v : State} {l : List Block} {st : Nat} {P : State → Prop}
    (hr : (if f.target = 4 then packageArrives (transferClosed (seenBy s d i)) f.bytes
      else (imageArrives (transferClosed (seenBy s d i)) (BitVec.ofNat 2 f.target) f.bytes, if notTaking (seenBy s d i) then 4 else 0)) = (v, st))
    (hw : Works l (transferClosed (seenBy s d i)) v) (hnet : Block.net ∉ l) (hpwr : Block.pwr ∉ l)
    (hp : ∀ t, (∀ b : Block, b ≠ .net → b.Same v t) → (∀ m, Raised v m → Raised t m) → P t) :
    ∃ w, Replies (.imgEnd d) s 0x22 d i x l { s.net with transfer := none } st (if st = 4 then [] else leN 4 w ++ leN 4 0)
      (fun t => (Settled s → Raised t 477) ∧ P t) := by
  have hc := transferClosed_becomes (seenBy_net h)
  refine ⟨(drawWord (seenBy s d i)).1.toNat, replies_of (exec_imgEnd s d) h hb hrole (v := v) ?_ ?_ hpwr ?_ fun t ht ha => ⟨fun hs => ?_, ?_⟩⟩
  · rw [imgEnd_full (f := f) (by rw [seenBy_transfer h, hf]) hm, hr]
    rfl
  · exact (hc.works.mono (List.cons_subset_cons _ (List.nil_subset _))).trans (hw.mono (List.subset_cons_self _ _))
  · rw [hw.net_eq hnet, hc.net]
    rfl
  · subst ht
    exact (hw.kept _ (hc.raised ((works_seenBy s d i).now hs.nowRaised) 477 List.mem_cons_self)).answered ha
  · subst ht
    exact hp _ (fun b hb => answered_same ha hb) (fun m hm => hm.answered ha)

/-- A change package arrives (R115, R352). -/
theorem imgEnd_package (h4 : f.target = 4) :
    let done := fun (l : List Block) (st : Nat) (P : State → Prop) => ∃ w, Replies (.imgEnd d) s 0x22 d i x l
      { s.net with transfer := none } st (if st = 4 then [] else leN 4 w ++ leN 4 0) (fun t => (Settled s → Raised t 477) ∧ P t)
    (packageOk f.bytes = false → done [] 3 (fun _ => True)) ∧ (packageOk f.bytes = true → ChangeBusy s → done [] 4 (fun _ => True)) ∧
      (packageOk f.bytes = true → ¬ ChangeBusy s → done [.stn] 0 (fun t => t.stn = { s.stn with staged := f.bytes, olcState := 1, olcCmd := 0 })) := by
  have hstn : (transferClosed (seenBy s d i)).stn = s.stn :=
    ((transferClosed_becomes (seenBy_net h)).works.stn_eq (by decide)).trans (freshCycle_stn s)
  have hbusy : ChangeBusy (transferClosed (seenBy s d i)) ↔ ChangeBusy s := by
    unfold ChangeBusy commitPending
    rw [hstn]
  refine ⟨fun hok => imgEnd_replies h hb hrole hf hm (v := transferClosed (seenBy s d i)) ?_ (.refl _ _) List.not_mem_nil List.not_mem_nil
      (fun _ _ _ => trivial),
    fun hok hbz => imgEnd_replies h hb hrole hf hm (v := transferClosed (seenBy s d i)) ?_ (.refl _ _) List.not_mem_nil List.not_mem_nil
      (fun _ _ _ => trivial),
    fun hok hbz => imgEnd_replies h hb hrole hf hm (v := packageStaged (transferClosed (seenBy s d i)) f.bytes) ?_ (works_modStn _ _)
      (by decide) (by decide) fun t ht _ => ?_⟩
  · rw [if_pos h4, packageArrives_eq, hok]
    rfl
  · rw [if_pos h4, packageArrives_eq, hok, if_neg (by decide), if_pos ((changeBusy_iff _).2 (hbusy.2 hbz))]
  · rw [if_pos h4, packageArrives_eq, hok, if_neg (by decide), if_neg (mt (changeBusy_iff _).1 (mt hbusy.1 hbz))]
  · have he : t.stn = (packageStaged (transferClosed (seenBy s d i)) f.bytes).stn := ht .stn (by decide)
    rw [he]
    show ({ (transferClosed (seenBy s d i)).stn with staged := _, olcState := _, olcCmd := _ } : Stn) = _
    rw [hstn]

/-- A full image arrives (R356). -/
theorem imgEnd_image (h4 : f.target ≠ 4) : ∃ w, Replies (.imgEnd d) s 0x22 d i x [.stn, .img] { s.net with transfer := none }
    (if s.pair.state ∈ [1, 4, 5] then 4 else 0) (if (if s.pair.state ∈ [1, 4, 5] then 4 else 0) = 4 then [] else leN 4 w ++ leN 4 0)
    (fun t => (Settled s → Raised t 477) ∧ ∃ u v, u.img = s.img ∧ u.stn = s.stn ∧ u.pair = s.pair ∧ (Settled s → NowRaised u) ∧
      ImageArrived u v (BitVec.ofNat 2 f.target) f.bytes ∧ t.img = v.img ∧ t.stn = v.stn ∧ ∀ m, Raised v m → Raised t m) := by
  have hc := transferClosed_becomes (seenBy_net h)
  have hv := imageArrives_arrived (transferClosed (seenBy s d i)) (BitVec.ofNat 2 f.target) f.bytes
  have hst : (if notTaking (seenBy s d i) then 4 else 0) = if s.pair.state ∈ [1, 4, 5] then 4 else 0 := by
    have hpair : (seenBy s d i).pair = s.pair := freshCycle_pair s
    have hiff : notTaking (seenBy s d i) = true ↔ s.pair.state ∈ [1, 4, 5] := by rw [notTaking_iff, hpair]
    exact if_congr hiff rfl rfl
  refine imgEnd_replies h hb hrole hf hm (by rw [if_neg h4, hst]) hv.works (by decide) (by decide) fun t ht hr =>
    ⟨_, _, (hc.works.img_eq (by decide)).trans (freshCycle_img s), (hc.works.stn_eq (by decide)).trans (freshCycle_stn s),
      (hc.works.pair_eq (by decide)).trans (freshCycle_pair s), fun hs => hc.works.now ((works_seenBy s d i).now hs.nowRaised),
      hv, ht .img (by decide), ht .stn (by decide), hr⟩

end

end Sys2Proof.Machine

open Sys2Proof Sys2Proof.Machine

/-- Settles O42: the transfer's operations by their conditions, and its end by what the package or the image that arrived leaves. -/
theorem transfers : Obligations.Transfers := by
  unfold Obligations.Transfers
  intro s d i x
  refine ⟨fun h0 hl ht hn hr => imgOpen_waits h0 hl ht hn hr, fun h hroom => imgOpen_served h hroom, fun h => imgData_served h, fun h => ?_,
    fun ha hne => netSilently_of (f := fun n => { n with transfer := none }) rfl (by rw [ha, Option.isSome_iff_ne_none.2 hne]; rfl)⟩
  refine served_of (exec_imgEnd s d) h decide_eq_true_iff fun hb hrole => ⟨fun h0 => ?_, fun f hf => ⟨fun m r hm => ?_,
    fun hm h4 => imgEnd_package h hb hrole hf hm h4, fun hm hlt => ?_⟩⟩
  · refine replies_only (exec_imgEnd s d) h hb hrole ?_
    unfold imgEnd
    rw [seenBy_transfer h, h0]
  · refine replies_only (exec_imgEnd s d) h hb hrole ?_
    unfold imgEnd
    rw [seenBy_transfer h, hf]
    dsimp only
    rw [hm]
  · obtain ⟨w, hw⟩ := imgEnd_image h hb hrole hf hm (Nat.ne_of_lt hlt)
    refine ⟨w, hw.imp fun t ⟨hresp, hraise, u, v, hi, hs, hp, hn, hv, himg, hstn, hr⟩ => ⟨hresp, hraise, hv.seen hi hs hp hn himg hstn hr⟩⟩
end

section
/-! O39: the ends of flash writes, loads at a start, and requests for a profile (R344, R355–R361). -/

namespace Sys2Proof.Machine
open Sys2Proof

/-! ### The ends of flash writes (R355, R356) -/

/-- What the end of a write leaves alone, and where no image waits, what it leaves. -/
theorem nextWrite_keeps (i : Img) :
    let j := i.nextWrite
    j.running = i.running ∧ j.banks = i.banks ∧ j.commits = i.commits ∧ j.loadCode = i.loadCode ∧ j.loadProf = i.loadProf ∧
      j.same = i.same ∧ (i.wWait = [] → j.wState = 0 ∧ j.marker = i.marker) := by
  unfold Img.nextWrite
  dsimp only
  split
  · exact ⟨rfl, rfl, rfl, rfl, rfl, rfl, fun _ => ⟨rfl, rfl⟩⟩
  · next p olc b r hw =>
    obtain ⟨h1, h2, h3, h4, h5, -, h7⟩ := startWrite_keeps
      { i with wState := 0, wBytes := [], wOwnDone := false, wOlc := false, wWait := r } p olc b
    exact ⟨h1, h2, h3, h4, h5, h7, fun h => absurd (hw.symm.trans h) (List.cons_ne_nil _ _)⟩

/-- A command of IMG that comes about, by what IMG becomes and the event that it raises. -/
theorem imgDoes_of {c : Instr} {s : State} {b : Bool} {f : State → State} {l : List Block} {P : State → Prop} (hx : exec c s = guarded s b f)
    (hb : b = true) (hw : Works l (freshCycle s) (f (freshCycle s)))
    (hp : ∀ t, t.img = (f (freshCycle s)).img → t.stn = (f (freshCycle s)).stn →
      (∀ n, (NowRaised (freshCycle s) → Raised (f (freshCycle s)) n) → Settled s → Raised t n) → P t) : Does c s l P :=
  does_of_works hx hb hw (hp _ (settle_img _) (settle_stn _) fun _ h hs => (h hs.nowRaised).ends _)

theorem writesChange_of {s : State} (h : s.img.wOlc = false) : writesChange s = false := by
  unfold writesChange
  rw [h, Bool.and_false]

section
variable {s : State} (ha : alive s = true) (ho : s.img.wOlc = false)

theorem exec_imageWriteDone (s : State) (ok : Bool) : exec (.imageWriteDone ok) s =
    guarded s (alive s && s.img.wState == 2#3 && !writesChange s) (fun s => imageWritten s ok) := rfl

include ha ho

theorem imageWriteDone_guard (h2 : s.img.wState = 2) : (alive s && s.img.wState == 2#3 && !writesChange s) = true := by
  rw [ha, h2, writesChange_of ho]
  rfl

omit ha ho in
theorem writeFails_img {u : State} {i : Img} (hu : u.img = i) :
    (writeFails u).img = ({ i with marker := none } : Img).nextWrite.reported (12, 0) i.wProf false := by
  subst hu
  unfold writeFails
  rw [setLoad_img]
  rfl

omit ha ho in
theorem works_writeFails (u : State) : Works [.img] u (writeFails u) :=
  (works_modImg u _).trans (works_setLoad _ (12, 0) u.img.wProf false)

/-- A write that fails is reported (R355). -/
theorem imageWriteDone_fails (h2 : s.img.wState = 2) : Does (.imageWriteDone false) s [.img] (fun t =>
    t.img.banks = s.img.banks ∧ t.img.commits = s.img.commits ∧ t.img.loadCode = 12 ∧ t.img.loadProf = s.img.wProf ∧
      (s.img.wWait = [] → t.img.marker = none ∧ t.img.wState = 0) ∧ (Settled s → Raised t 501)) := by
  refine imgDoes_of (f := writeFails) (exec_imageWriteDone s false) (imageWriteDone_guard ha ho h2) (works_writeFails _) fun t ht _ hr => ?_
  obtain ⟨-, h2, h3, -, -, -, h7⟩ := nextWrite_keeps { s.img with marker := none }
  rw [ht, writeFails_img (freshCycle_img s)]
  exact ⟨h2, h3, rfl, rfl, fun h => ⟨(h7 h).2, (h7 h).1⟩,
    hr 501 fun hn => setLoad_raised _ _ _ _ (by decide) ((works_modImg _ _).now hn)⟩

omit ha ho in
theorem hasStandby_iff (s : State) : hasStandby s = true ↔ s.pair.state = 2 := beq_iff_eq

/-- The commit record of `b` in a bank (R353, R354). -/
def CommitOf (c : Commit) (bank : Bool) (b : List Byte) : Prop := c.imageId = imageId b ∧ c.bank = bank ∧ c.totalLen = b.length

omit ha ho in
theorem commitRecord_of (s : State) (p : BitVec 2) (bank : Bool) (b : List Byte) :
    CommitOf (commitRecord s p bank b).1 bank b ∧ Works [] s (commitRecord s p bank b).2 := by
  unfold commitRecord
  dsimp only
  split
  · exact ⟨⟨rfl, rfl, rfl⟩, (Works.refl _ _).drawWord⟩
  · split <;> exact ⟨⟨rfl, rfl, rfl⟩, .refl _ _⟩

/-- IMG once the image of the write stands in its bank with the commit record `c` (R355). -/
def Img.committedWith (i : Img) (c : Commit) : Img :=
  { i with
    banks := vmodN i.banks (2 * i.wProf.toNat + b2n i.wBank) (fun _ => i.wBytes)
    commits := vmodN i.commits i.wProf.toNat (fun _ => some c)
    same := i.same &&& ~~~(1#4 <<< i.wProf.toNat)
    marker := none, wProgress := 100, wBytes := [] }

omit ha ho in
theorem commitWrite_spec {u : State} {i : Img} (hu : u.img = i) : ∃ c, CommitOf c i.wBank i.wBytes ∧
    (commitWrite u).img = i.committedWith c ∧ Works [.img] u (commitWrite u) := by
  obtain ⟨hc, hw⟩ := commitRecord_of u u.img.wProf u.img.wBank u.img.wBytes
  have hi := hw.img_eq List.not_mem_nil
  refine ⟨(commitRecord u u.img.wProf u.img.wBank u.img.wBytes).1, by rw [← hu]; exact hc, ?_, ?_⟩
  · unfold commitWrite
    dsimp only [modImg]
    rw [hi, hu]
    rfl
  · unfold commitWrite
    exact (hw.mono (List.nil_subset _)).trans (works_modImg _ _)

/-- The bank holds the image, and its commit record stands (R355). -/
def Written (i : Img) (j : Img) : Prop :=
  vget j.banks (2 * i.wProf.toNat + if i.wBank then 1 else 0) [] = i.wBytes ∧
    ∃ c, j.commits[i.wProf.toFin] = some c ∧ c.imageId = imageId i.wBytes ∧ c.bank = i.wBank ∧ c.totalLen = i.wBytes.length

omit ha ho in
theorem committedWith_written {i : Img} {c : Commit} (h : CommitOf c i.wBank i.wBytes) : Written i (i.committedWith c) := by
  have hp := i.wProf.isLt
  refine ⟨?_, c, ?_, h⟩
  · have hb : b2n i.wBank = if i.wBank then 1 else 0 := rfl
    have hlt : 2 * i.wProf.toNat + b2n i.wBank < 8 := by
      rw [hb]
      split <;> omega
    unfold Img.committedWith vget
    rw [← hb, dif_pos hlt]
    exact (vmodN_get i.banks _ ⟨_, hlt⟩ _).trans (if_pos rfl)
  · exact (vmodN_get i.commits _ i.wProf.toFin _).trans (if_pos rfl)

omit ha ho in
theorem Written.congr {i j k : Img} (h : Written i j) (hb : k.banks = j.banks) (hc : k.commits = j.commits) : Written i k := by
  unfold Written
  rw [hb, hc]
  exact h

/-- A write that succeeds (R355, R356). -/
theorem imageWriteDone_done (h2 : s.img.wState = 2) : Does (.imageWriteDone true) s [.img] (fun t =>
    Written s.img t.img ∧
    (s.pair.state = 2 → s.img.wOwnDone = false → t.img.wState = 5 ∧ t.img.wOwnDone = true ∧ t.img.loadCode = s.img.loadCode) ∧
    (¬ (s.pair.state = 2 ∧ s.img.wOwnDone = false) → (s.img.loadCode ≠ 14 → t.img.loadCode = 0 ∧ t.img.loadProf = s.img.wProf) ∧
      (s.img.wWait = [] → t.img.wState = 0 ∧ t.img.marker = none))) := by
  obtain ⟨c, hc, himg, hw⟩ := commitWrite_spec (freshCycle_img s)
  have hwr := committedWith_written hc
  have heq : imageWritten (freshCycle s) true =
      if hasStandby s && !s.img.wOwnDone then modImg (commitWrite (freshCycle s)) (fun i => { i with wState := 5, wOwnDone := true })
      else if s.img.loadCode = 14 then modImg (commitWrite (freshCycle s)) Img.nextWrite
      else setLoad (modImg (commitWrite (freshCycle s)) Img.nextWrite) (0, 0) s.img.wProf false := by
    have hst : hasStandby (freshCycle s) = hasStandby s := by unfold hasStandby; rw [freshCycle_pair]
    rw [← freshCycle_img s, ← hst]
    rfl
  obtain ⟨-, k2, k3, k4, k5, -, k7⟩ := nextWrite_keeps (s.img.committedWith c)
  have hnext : (modImg (commitWrite (freshCycle s)) Img.nextWrite).img = (s.img.committedWith c).nextWrite := congrArg Img.nextWrite himg
  have hwait : s.img.wWait = [] → (s.img.committedWith c).nextWrite.wState = 0 ∧ (s.img.committedWith c).nextWrite.marker = none := k7
  have hworks : Works [.img] (freshCycle s) (imageWritten (freshCycle s) true) := by
    rw [heq]
    split
    · exact hw.trans (works_modImg _ _)
    · split
      · exact hw.trans (works_modImg _ _)
      · exact (hw.trans (works_modImg _ _)).trans (works_setLoad _ _ _ _)
  refine imgDoes_of (f := fun s => imageWritten s true) (exec_imageWriteDone s true) (imageWriteDone_guard ha ho h2) hworks fun t ht _ _ => ?_
  rw [ht, heq]
  by_cases hboth : s.pair.state = 2 ∧ s.img.wOwnDone = false
  · have hg : (hasStandby s && !s.img.wOwnDone) = true := by rw [(hasStandby_iff s).2 hboth.1, hboth.2]; rfl
    rw [if_pos hg]
    have h5 : (modImg (commitWrite (freshCycle s)) (fun i => { i with wState := 5, wOwnDone := true })).img =
        { s.img.committedWith c with wState := 5, wOwnDone := true } := congrArg (fun i : Img => { i with wState := 5, wOwnDone := true }) himg
    rw [h5]
    exact ⟨hwr.congr rfl rfl, fun _ _ => ⟨rfl, rfl, rfl⟩, fun hn => absurd hboth hn⟩
  · have hg : ¬ (hasStandby s && !s.img.wOwnDone) = true := by
      rw [Bool.and_eq_true, hasStandby_iff, Bool.not_eq_true']
      exact hboth
    rw [if_neg hg]
    refine ⟨?_, fun hp hown => absurd ⟨hp, hown⟩ hboth, fun _ => ⟨fun h14 => ?_, fun hz => ?_⟩⟩
    · split
      · rw [hnext]
        exact hwr.congr k2 k3
      · rw [setLoad_img, hnext]
        exact hwr.congr k2 k3
    · rw [if_neg h14, setLoad_img]
      exact ⟨rfl, rfl⟩
    · split
      · rw [hnext]
        exact hwait hz
      · rw [setLoad_img, hnext]
        exact hwait hz

omit ha ho in
theorem exec_partnerWriteDone (s : State) (ok : Bool) : exec (.partnerWriteDone ok) s =
    guarded s (alive s && s.img.wState != 0#3 && s.pair.member) (fun s => partnerWritten s ok) := rfl

/-- IMG once the partner's write has ended (R356). -/
def Img.partnerDone (i : Img) (ok : Bool) : Img :=
  let j := if ok then { i with same := i.same ||| (1#4 <<< i.wProf.toNat) } else i
  if i.wState = 5#3 then j.nextWrite.reported (if ok then 0 else 14, 0) i.wProf false
  else
    let k := { j with wOwnDone := true }
    if ok then k else k.reported (14, 0) i.wProf false

/-- The state once the partner's bank is known to hold the same image. -/
def partnerSame (u : State) (ok : Bool) : State :=
  modImg u (fun i => if ok then { i with same := i.same ||| (1#4 <<< u.img.wProf.toNat) } else i)

omit ha ho in
theorem partnerWritten_eq {u : State} (h : u.img.wOlc = false) (ok : Bool) : partnerWritten u ok =
    if u.img.wState = 5#3 then setLoad (modImg (partnerSame u ok) Img.nextWrite) (if ok then 0 else 14, 0) u.img.wProf false
    else if ok then modImg (partnerSame u ok) (fun i => { i with wOwnDone := true })
    else setLoad (modImg (partnerSame u ok) (fun i => { i with wOwnDone := true })) (14, 0) u.img.wProf false := by
  unfold partnerWritten
  dsimp only
  rw [if_neg (by rw [h]; exact Bool.false_ne_true)]
  rfl

omit ha ho in
theorem partnerWritten_spec {u : State} {i : Img} (hu : u.img = i) (hi : i.wOlc = false) (ok : Bool) :
    (partnerWritten u ok).img = i.partnerDone ok ∧ Works [.img] u (partnerWritten u ok) ∧
      (ok = false → NowRaised u → Raised (partnerWritten u ok) 501) := by
  subst hu
  have hw : Works [.img] u (partnerSame u ok) := works_modImg u _
  rw [partnerWritten_eq hi]
  unfold Img.partnerDone
  dsimp only
  split
  · have hw2 := hw.trans (works_modImg _ Img.nextWrite)
    refine ⟨by rw [setLoad_img]; rfl, hw2.trans (works_setLoad _ _ _ _), fun hok hn => setLoad_raised _ _ _ _ ?_ (hw2.now hn)⟩
    rw [hok]
    decide
  · have hw2 := hw.trans (works_modImg _ (fun i => { i with wOwnDone := true }))
    cases ok with
    | true => exact ⟨rfl, hw2, fun h => absurd h (by decide)⟩
    | false =>
      simp only [Bool.false_eq_true, if_false]
      exact ⟨setLoad_img _ _ _ _, hw2.trans (works_setLoad _ _ _ _), fun _ hn => setLoad_raised _ _ _ _ (by decide) (hw2.now hn)⟩

omit ha ho in
theorem Img.partnerDone_fields (i : Img) (ok : Bool) :
    let j := i.partnerDone ok
    j.banks = i.banks ∧ j.commits = i.commits ∧ j.same = (if ok then i.same ||| (1#4 <<< i.wProf.toNat) else i.same) ∧
      (ok = false → j.loadCode = 14 ∧ j.loadProf = i.wProf) ∧ (i.wState = 5 → ok = true → j.loadCode = 0 ∧ j.loadProf = i.wProf) ∧
      (i.wState = 5 → i.wWait = [] → j.wState = 0) ∧ (i.wState ≠ 5 → j.wOwnDone = true ∧ j.wState = i.wState) := by
  obtain ⟨-, k2, k3, -, -, k6, k7⟩ := nextWrite_keeps (if ok then { i with same := i.same ||| (1#4 <<< i.wProf.toNat) } else i)
  unfold Img.partnerDone
  dsimp only
  by_cases h5 : i.wState = 5#3
  · rw [if_pos h5]
    cases ok with
    | true => exact ⟨k2, k3, k6, fun h => absurd h (by decide), fun _ _ => ⟨rfl, rfl⟩, fun _ hz => (k7 hz).1, fun hn => absurd h5 hn⟩
    | false => exact ⟨k2, k3, k6, fun _ => ⟨rfl, rfl⟩, fun _ h => absurd h (by decide), fun _ hz => (k7 hz).1, fun hn => absurd h5 hn⟩
  · rw [if_neg h5]
    cases ok with
    | true => exact ⟨rfl, rfl, rfl, fun h => absurd h (by decide), fun h => absurd h h5, fun h => absurd h h5, fun _ => ⟨rfl, rfl⟩⟩
    | false => exact ⟨rfl, rfl, rfl, fun _ => ⟨rfl, rfl⟩, fun h => absurd h h5, fun h => absurd h h5, fun _ => ⟨rfl, rfl⟩⟩

/-- The end of the partner's write (R356). -/
theorem partnerWriteDone_does (ok : Bool) (h0 : s.img.wState ≠ 0) (hm : s.pair.member = true) :
    Does (.partnerWriteDone ok) s [.img] (fun t =>
      let i := s.img
      t.img.banks = i.banks ∧ t.img.commits = i.commits ∧
        t.img.same = (if ok then i.same ||| (1#4 <<< i.wProf.toNat) else i.same) ∧
        (ok = false → t.img.loadCode = 14 ∧ t.img.loadProf = i.wProf ∧ (Settled s → Raised t 501)) ∧
        (i.wState = 5 → ok = true → t.img.loadCode = 0 ∧ t.img.loadProf = i.wProf) ∧
        (i.wState = 5 → i.wWait = [] → t.img.wState = 0) ∧ (i.wState ≠ 5 → t.img.wOwnDone = true ∧ t.img.wState = i.wState)) := by
  obtain ⟨himg, hw, hr⟩ := partnerWritten_spec (freshCycle_img s) ho ok
  refine imgDoes_of (f := fun s => partnerWritten s ok) (exec_partnerWriteDone s ok) (by rw [ha, hm, Bool.and_true]; exact bne_iff_ne.2 h0) hw
    fun t ht _ hra => ?_
  rw [ht, himg]
  obtain ⟨k1, k2, k3, k4, k5, k6, k7⟩ := s.img.partnerDone_fields ok
  exact ⟨k1, k2, k3, fun h => ⟨(k4 h).1, (k4 h).2, hra 501 (hr h)⟩, k5, k6, k7⟩

end

/-! ### Requests for a profile (R359) -/

theorem drivesBanks_iff (s : State) : drivesBanks s = true ↔ s.pair.state ∈ [0, 2, 3] := by
  unfold drivesBanks
  simp [or_assoc]

/-- The station takes requests for a profile. -/
def TakesProfiles (s : State) : Prop := s.pair.state ∈ [0, 2, 3] ∧ s.pwr.quiet.getLsbD 11 = false

theorem takesProfiles_iff (s : State) : (drivesBanks s && !quietAt s 11) = true ↔ TakesProfiles s := by
  unfold TakesProfiles
  rw [Bool.and_eq_true, drivesBanks_iff, Bool.not_eq_true', quietAt]

theorem TakesProfiles.congr {s u : State} (hp : u.pair = s.pair) (hw : u.pwr = s.pwr) : TakesProfiles u ↔ TakesProfiles s := by
  unfold TakesProfiles
  rw [hp, hw]

/-- STN once a request for profile `p` waits, and has replaced one not carried yet. -/
def Stn.profileAsked (n : Stn) (p : BitVec 2) (byCmd : Bool) : Stn :=
  { n with accepted := n.accepted.filter (fun c => !c.isProfile) ++ [.profile p byCmd] }

/-- IMG once a request for a profile waits. -/
def Img.profileAsked (i : Img) (n : Stn) (byCmd : Bool) : Img :=
  { i with swReq := byCmd, swResult := if n.accepted.any DistCmd.isProfile then 6 else i.swResult }

theorem works_profileRequest (u : State) (p : BitVec 2) (byCmd : Bool) : Works [.stn, .img] u (profileRequest u p byCmd) :=
  (((works_modStn u (fun n => { n with accepted := n.accepted.filter (fun c => !c.isProfile) })).mono (by simp)).trans
    ((works_modImg _ (fun i => { i with swReq := byCmd, swResult := if u.stn.accepted.any DistCmd.isProfile then 6 else i.swResult })).mono
      (by simp))).trans ((works_modStn _ (fun n => { n with accepted := n.accepted ++ [.profile p byCmd] })).mono (by simp))

section
variable {c : Instr} {s : State} {f : State → State} {g : Img → Img}
  (hx : exec c s = .next { settle (f (freshCycle s)) with pending := s.pending })
include hx

/-- A command that ends in a request for a profile. -/
theorem profileAsked_silently {p : BitVec 2} {byCmd : Bool}
    (heq : ∀ u, u.img = s.img → u.pair = s.pair → u.pwr = s.pwr → f u = profileRequest (modImg u g) p byCmd) :
    DoesSilently c s [.stn, .img] (fun t => t.stn = s.stn.profileAsked p byCmd ∧ t.img = (g s.img).profileAsked s.stn byCmd) := by
  have h1 := heq (freshCycle s) (freshCycle_img s) (freshCycle_pair s) (freshCycle_pwr s)
  have h0 := heq s rfl rfl rfl
  refine doesSilently_of hx ?_ (fun _ => ?_) ⟨?_, ?_⟩
  · rw [h1]
    exact (((works_modImg _ g).mono (by simp)).trans (works_profileRequest _ p byCmd)).same
  · rw [h0]
    exact ⟨rfl, rfl, rfl, fun _ => rfl⟩
  · refine (settle_stn _).trans ?_
    rw [h1]
    show (freshCycle s).stn.profileAsked p byCmd = _
    rw [freshCycle_stn]
  · refine (settle_img _).trans ?_
    rw [h1]
    show (g (freshCycle s).img).profileAsked (freshCycle s).stn byCmd = _
    rw [freshCycle_stn, freshCycle_img]

/-- A command that changes IMG alone, and silently. -/
theorem imgSilently_of (heq : ∀ u, u.img = s.img → u.pair = s.pair → u.pwr = s.pwr → f u = modImg u g) :
    DoesSilently c s [.img] (fun t => t.img = g s.img) := by
  have h1 := heq (freshCycle s) (freshCycle_img s) (freshCycle_pair s) (freshCycle_pwr s)
  have h0 := heq s rfl rfl rfl
  refine doesSilently_of hx ?_ (fun _ => ?_) ?_
  · rw [h1]
    exact (works_modImg _ g).same
  · rw [h0]
    exact ⟨rfl, rfl, rfl, fun _ => rfl⟩
  · refine (settle_img _).trans ?_
    rw [h1]
    exact congrArg g (freshCycle_img s)

end

section
variable {s : State}

/-- PROF_SEL_CHANGE's work. -/
def pinsChanged (pins : BitVec 2) (s : State) : State :=
  let s1 := modImg s (fun i => { i with pinProf := pins })
  if s.img.running.isSome && drivesBanks s && !quietAt s 11 then profileRequest s1 pins false else s1

theorem exec_profSelChange (s : State) (pins : BitVec 2) :
    exec (.profSelChange pins) s = guarded s (alive s && s.img.pinProf != pins) (pinsChanged pins) := rfl

theorem pinsChanged_iff (u : State) :
    (u.img.running.isSome && drivesBanks u && !quietAt u 11) = true ↔ u.img.running ≠ none ∧ TakesProfiles u := by
  rw [Bool.and_assoc, Bool.and_eq_true, Option.isSome_iff_ne_none, takesProfiles_iff]

section
variable {pins : BitVec 2} (ha : alive s = true) (hne : s.img.pinProf ≠ pins)
include ha hne

theorem profSelChange_next : exec (.profSelChange pins) s = .next { settle (pinsChanged pins (freshCycle s)) with pending := s.pending } :=
  (exec_profSelChange s pins).trans (guarded_true (by rw [ha]; exact bne_iff_ne.2 hne) _)

/-- The pins change where requests are taken (R359). -/
theorem profSelChange_asks (h : s.img.running ≠ none ∧ TakesProfiles s) : DoesSilently (.profSelChange pins) s [.stn, .img] (fun t =>
    t.stn = s.stn.profileAsked pins false ∧ t.img = ({ s.img with pinProf := pins } : Img).profileAsked s.stn false) :=
  profileAsked_silently (g := fun i => { i with pinProf := pins }) (profSelChange_next ha hne) fun u hi hp hw =>
    if_pos ((pinsChanged_iff u).2 ⟨by rw [hi]; exact h.1, (TakesProfiles.congr hp hw).2 h.2⟩)

/-- Elsewhere they are seen. -/
theorem profSelChange_seen (h : ¬ (s.img.running ≠ none ∧ TakesProfiles s)) :
    DoesSilently (.profSelChange pins) s [.img] (fun t => t.img = { s.img with pinProf := pins }) :=
  imgSilently_of (g := fun i => { i with pinProf := pins }) (profSelChange_next ha hne) fun u hi hp hw =>
    if_neg fun hu => h (by
      obtain ⟨h1, h2⟩ := (pinsChanged_iff u).1 hu
      exact ⟨hi ▸ h1, (TakesProfiles.congr hp hw).1 h2⟩)

end

section
variable {sess : Fin 4} {p : BitVec 2} (hw : Windowed s sess 0x1001C)
include hw

theorem swCmdReq_next : exec (.swCmdReq sess p) s = .next { settle (swCmdWrite (freshCycle s) p true) with pending := s.pending } :=
  (show exec (.swCmdReq sess p) s = keyedCmd s sess 0x10014 (fun s => swCmdWrite s p true) from rfl).trans (keyedCmd_of hw (by decide))

/-- SW_CMD where requests are taken (R359). -/
theorem swCmdReq_asks (h : TakesProfiles s) : DoesSilently (.swCmdReq sess p) s [.stn, .img] (fun t =>
    t.stn = s.stn.profileAsked p true ∧ t.img = ({ s.img with swCmdProf := p } : Img).profileAsked s.stn true) :=
  profileAsked_silently (f := fun s => swCmdWrite s p true) (g := fun i => { i with swCmdProf := p }) (swCmdReq_next hw) fun u _ hp hw =>
    if_pos ((takesProfiles_iff u).2 ((TakesProfiles.congr hp hw).2 h))

theorem swCmdReq_seen (h : ¬ TakesProfiles s) :
    DoesSilently (.swCmdReq sess p) s [.img] (fun t => t.img = { s.img with swCmdProf := p }) :=
  imgSilently_of (f := fun s => swCmdWrite s p true) (g := fun i => { i with swCmdProf := p }) (swCmdReq_next hw) fun u _ hp hw =>
    if_neg fun hu => h ((TakesProfiles.congr hp hw).1 ((takesProfiles_iff u).1 hu))

end
end

/-! ### The end of a preparation (R360, R361) -/

theorem committed_congr {s u : State} (hb : u.img.banks = s.img.banks) (hc : u.img.commits = s.img.commits) (p : BitVec 2) :
    committed u p = committed s p := by
  unfold committed
  rw [hb, hc]

/-- What a preparation's checks leave. -/
structure Prepared (s t : State) : Prop where
  works : Works [.stn, .img] s t
  img : t.img = s.img ∨ ∃ c p, t.img = s.img.reported c p true
  accepted : t.stn.accepted = s.stn.accepted

theorem Checked.prepared {s t : State} {p : BitVec 2} {b : List Byte} (h : Checked s t p true b) : Prepared s t :=
  ⟨h.works, .inr ⟨_, _, h.img⟩, h.stn.elim (congrArg Stn.accepted) (congrArg Stn.accepted)⟩

theorem prepareSwitch_prepared (s : State) : Prepared s (prepareSwitch s).2 ∧
    ((prepareSwitch s).1 = 0 → ∃ b, committed s s.img.swTarget = some b) := by
  have hrefl : Prepared s s := ⟨.refl _ _, .inl rfl, rfl⟩
  unfold prepareSwitch
  dsimp only
  split
  · exact ⟨hrefl, fun h => absurd h Nat.one_ne_zero⟩
  · next b old hb _ =>
    have hck := (runCheck_checked s s.img.swTarget true b).2.prepared
    split
    · exact ⟨hck, fun _ => ⟨b, hb⟩⟩
    · split
      · exact ⟨hck, fun _ => ⟨b, hb⟩⟩
      · split
        · exact ⟨hck, fun _ => ⟨b, hb⟩⟩
        · split <;> exact ⟨hck, fun _ => ⟨b, hb⟩⟩
  · exact ⟨hrefl, fun h => absurd h (Nat.succ_ne_zero 1)⟩

theorem runCheck_congr {s u : State} (hi : u.img = s.img) (hs : u.stn = s.stn) (p : BitVec 2) (flash : Bool) (b : List Byte) :
    (runCheck u p flash b).1 = (runCheck s p flash b).1 := by
  rw [(runCheck_checked u p flash b).1, (runCheck_checked s p flash b).1, checkImage_congr hi hs]

theorem prepareSwitch_congr {s u : State} (hi : u.img = s.img) (hs : u.stn = s.stn) : (prepareSwitch u).1 = (prepareSwitch s).1 := by
  have hcode := runCheck_congr hi hs s.img.swTarget true
  unfold prepareSwitch
  dsimp only
  rw [committed_congr (congrArg Img.banks hi) (congrArg Img.commits hi), hi]
  split
  · rfl
  · next b old _ _ =>
    rw [hcode b]
    split
    · rfl
    · split
      · rfl
      · split
        · rfl
        · split <;> rfl
  · rfl

/-- The state once the prepared image is known. -/
def switchHeld (s : State) : State := modImg (prepareSwitch s).2 (fun i => { i with prepared := committed (prepareSwitch s).2 i.swTarget })

theorem switchPrepared_eq (s : State) : switchPrepared s =
    if (prepareSwitch s).1 ≠ 0 then switchRefused (prepareSwitch s).2 (prepareSwitch s).1
    else match hasStandby s, (switchHeld s).img.prepared with
      | true, some b => accept (switchHeld s) (.prepared (imageId b))
      | _, _ => modImg (switchHeld s) (fun i => { i with swState := 2 }) := rfl

/-- What every preparation's checks leave of IMG. -/
theorem Prepared.keeps {s t : State} (h : Prepared s t) : t.img.running = s.img.running ∧ t.img.actProf = s.img.actProf ∧
    t.img.swState = s.img.swState ∧ t.img.swTarget = s.img.swTarget ∧ t.img.banks = s.img.banks ∧ t.img.commits = s.img.commits ∧
    t.img.swRefused = s.img.swRefused := by
  rcases h.img with he | ⟨c, p, he⟩ <;> rw [he] <;> exact ⟨rfl, rfl, rfl, rfl, rfl, rfl, rfl⟩

theorem switchHeld_prepared (s : State) : (switchHeld s).img.prepared = committed s s.img.swTarget := by
  obtain ⟨-, -, -, h4, h5, h6, -⟩ := (prepareSwitch_prepared s).1.keeps
  show committed (prepareSwitch s).2 (prepareSwitch s).2.img.swTarget = _
  rw [h4, committed_congr h5 h6]

/-- What the end of a preparation leaves (R360, R361). -/
structure SwitchEnded (s t : State) : Prop where
  works : Works [.stn, .img] s t
  running : t.img.running = s.img.running ∧ t.img.actProf = s.img.actProf
  alone : (prepareSwitch s).1 = 0 → s.pair.state ≠ 2 →
    t.img.swState = 2 ∧ t.img.prepared = committed s s.img.swTarget ∧ t.stn.accepted = s.stn.accepted
  paired : (prepareSwitch s).1 = 0 → s.pair.state = 2 → t.img.swState = s.img.swState ∧
    ∀ b, committed s s.img.swTarget = some b → t.stn.accepted = s.stn.accepted ++ [.prepared (imageId b)]
  refused : (prepareSwitch s).1 ≠ 0 → t.img.swState = 0 ∧ t.img.swPending = false ∧ t.img.swReq = false ∧
    t.img.swResult = BitVec.ofNat 4 (prepareSwitch s).1 ∧ t.img.swRefused = satInc s.img.swRefused ∧ t.stn.accepted = s.stn.accepted ∧
    (NowRaised s → Raised t 500)

theorem switchRefused_ended {s : State} (h0 : (prepareSwitch s).1 ≠ 0) :
    SwitchEnded s (switchRefused (prepareSwitch s).2 (prepareSwitch s).1) := by
  obtain ⟨hp, -⟩ := prepareSwitch_prepared s
  obtain ⟨h1, h2, -, -, -, -, h7⟩ := hp.keeps
  have hw := hp.works.trans ((works_modImg _ (fun i => { i with
    swState := 0, swPending := false, swReq := false, prepared := none, swResult := BitVec.ofNat 4 (prepareSwitch s).1
    swRefused := satInc i.swRefused })).mono (by simp))
  refine ⟨hw.raise 500, ?_, fun h => absurd h h0, fun h => absurd h h0, fun _ => ?_⟩
  · unfold switchRefused
    rw [raise_img]
    exact ⟨h1, h2⟩
  · unfold switchRefused
    rw [raise_img, raise_stn]
    refine ⟨rfl, rfl, rfl, rfl, ?_, hp.accepted, fun hn => hw.raised hn (by decide)⟩
    rw [← h7]
    rfl

theorem switchPrepared_ended (s : State) : SwitchEnded s (switchPrepared s) := by
  obtain ⟨hp, hsome⟩ := prepareSwitch_prepared s
  obtain ⟨h1, h2, h3, -, -, -, -⟩ := hp.keeps
  have hheld := switchHeld_prepared s
  have hw : Works [.stn, .img] s (switchHeld s) := hp.works.trans ((works_modImg _ _).mono (by simp))
  rw [switchPrepared_eq]
  by_cases h0 : (prepareSwitch s).1 = 0
  · rw [if_neg (not_not.2 h0)]
    obtain ⟨b, hb⟩ := hsome h0
    rw [hheld, hb]
    cases hst : hasStandby s with
    | true =>
      have h2' := (hasStandby_iff s).1 hst
      refine ⟨hw.trans ((works_modStn (switchHeld s) (fun n => { n with accepted := n.accepted ++ [.prepared (imageId b)] })).mono (by simp)),
        ⟨h1, h2⟩, fun _ h => absurd h2' h, fun _ _ => ⟨h3, fun b' hb' => ?_⟩, fun h => absurd h0 h⟩
      obtain rfl : b = b' := Option.some.inj (hb.symm.trans hb')
      show (prepareSwitch s).2.stn.accepted ++ _ = _
      rw [hp.accepted]
    | false =>
      have h2' : s.pair.state ≠ 2 := mt (hasStandby_iff s).2 (by rw [hst]; exact Bool.false_ne_true)
      exact ⟨hw.trans ((works_modImg _ _).mono (by simp)), ⟨h1, h2⟩, fun _ _ => ⟨rfl, hheld, hp.accepted⟩, fun _ h => absurd h h2',
        fun h => absurd h0 h⟩
  · rw [if_pos h0]
    exact switchRefused_ended h0

theorem exec_switchPrepared (s : State) : exec .switchPrepared s =
    guarded s (alive s && s.img.swState == 1#3 && !isStandby s && s.img.prepared.isNone) switchPrepared := rfl

theorem switchPrepared_does {s : State} (ha : alive s = true) (h1 : s.img.swState = 1) (h4 : s.pair.state ≠ 4) (hn : s.img.prepared = none) :
    Does .switchPrepared s [.stn, .img] (fun t => t.img.running = s.img.running ∧ t.img.actProf = s.img.actProf ∧
      ((prepareSwitch s).1 = 0 → s.pair.state ≠ 2 →
        t.img.swState = 2 ∧ t.img.prepared = committed s s.img.swTarget ∧ t.stn.accepted = s.stn.accepted) ∧
      ((prepareSwitch s).1 = 0 → s.pair.state = 2 → t.img.swState = 1 ∧
        ∀ b, committed s s.img.swTarget = some b → t.stn.accepted = s.stn.accepted ++ [.prepared (imageId b)]) ∧
      ((prepareSwitch s).1 ≠ 0 → t.img.swState = 0 ∧ t.img.swPending = false ∧ t.img.swReq = false ∧
        t.img.swResult = BitVec.ofNat 4 (prepareSwitch s).1 ∧ t.img.swRefused = satInc s.img.swRefused ∧
        t.stn.accepted = s.stn.accepted ∧ (Settled s → Raised t 500))) := by
  obtain ⟨hw, hrun, ha1, hp1, hr1⟩ := switchPrepared_ended (freshCycle s)
  rw [prepareSwitch_congr (freshCycle_img s) (freshCycle_stn s)] at ha1 hp1 hr1
  rw [committed_congr (congrArg Img.banks (freshCycle_img s)) (congrArg Img.commits (freshCycle_img s))] at ha1 hp1
  rw [freshCycle_img] at hrun ha1 hp1 hr1
  rw [freshCycle_pair] at ha1 hp1
  rw [freshCycle_stn] at ha1 hp1 hr1
  rw [h1] at hp1
  refine imgDoes_of (exec_switchPrepared s) (by rw [ha, h1, isStandby_of_pair rfl h4, hn]; rfl) hw fun t hi hs hra => ?_
  rw [hi, hs]
  refine ⟨hrun.1, hrun.2, ha1, hp1, fun h => ?_⟩
  obtain ⟨k1, k2, k3, k4, k5, k6, k7⟩ := hr1 h
  exact ⟨k1, k2, k3, k4, k5, k6, hra 500 k7⟩

end Sys2Proof.Machine
end

section
/-! O39: the load that follows a reset or a wake (R357), and the obligation put together. -/

namespace Sys2Proof.Machine
open Sys2Proof

/-- What the station's joining of its pair and its stack leaves alone at a load: IMG, the mode, the variables and the routes. -/
structure Stays (s t : State) : Prop where
  img : t.img = s.img
  mode : t.stn.mode = s.stn.mode
  vars : t.vars = s.vars
  routes : t.evr.routes = s.evr.routes

theorem Stays.refl (s : State) : Stays s s := ⟨rfl, rfl, rfl, rfl⟩

theorem Stays.trans {s t u : State} (h : Stays s t) (k : Stays t u) : Stays s u :=
  ⟨k.img.trans h.img, k.mode.trans h.mode, k.vars.trans h.vars, k.routes.trans h.routes⟩

theorem Stays.ite {s t u : State} {c : Prop} [Decidable c] (h : Stays s t) (k : Stays s u) : Stays s (if c then t else u) := by
  split
  · exact h
  · exact k

theorem stays_raise (s : State) (n : Nat) : Stays s (raise s n) :=
  ⟨raise_img s n, by rw [raise_stn], same_raise s n .vars, raise_routes s n⟩

theorem stays_modStk (s : State) (f : StkBlk → StkBlk) : Stays s (modStk s f) := ⟨rfl, rfl, rfl, rfl⟩

theorem stays_slewBy (s : State) (off : Int) : Stays s (slewBy s off) := by
  unfold slewBy
  split <;> exact ⟨rfl, rfl, rfl, rfl⟩

theorem stays_slewToOwn (s : State) : Stays s (slewToOwn s) := by
  unfold slewToOwn
  exact .ite (.refl s) (stays_slewBy s _)

theorem stays_slewFrom (src : Nat) (s : State) : Stays s (slewFrom src s) := by
  unfold slewFrom slewToStack
  exact .ite (.ite (.refl s) (stays_slewBy s _)) (.refl s)

theorem stays_pairAdmit (s : State) (member : Bool) : Stays s (pairAdmit s member) := by
  have h (p : PairBlk) : Stays s { s with pair := p } := ⟨rfl, rfl, rfl, rfl⟩
  unfold pairAdmit
  exact .ite (h _) (.ite (h _) (.ite (h _) (h _)))

theorem stays_newMaster (s : State) : Stays s (newMaster s) := (stays_modStk s _).trans (stays_raise _ _)

theorem stays_stkRoles (s : State) : Stays s (stkRoles s) := by
  have h (f : StkBlk → StkBlk) : Stays s (newMaster (modStk s f)) := (stays_modStk s f).trans (stays_newMaster _)
  unfold stkRoles
  exact .ite (.refl s) (.ite
    (.ite (.ite (.refl s) (.ite (h _) (stays_modStk s _))) (.ite (stays_modStk s _) (stays_modStk s _)))
    (.ite ((h _).trans (stays_raise _ _)) (.ite (stays_modStk s _) (.refl s))))

theorem stays_stkMsg (s : State) (outs : List (Option (Fin 3))) (p : TPkt) : Stays s (stkMsg s outs p) := by
  unfold stkMsg
  split <;> exact ⟨rfl, rfl, rfl, rfl⟩

theorem stays_barrierEnd (s : State) (id : BitVec 16) (failed : Bool) : Stays s (barrierEnd s id failed) := by
  unfold barrierEnd
  exact .ite (stays_modStk s _) (((stays_modStk s _).trans (stays_modStk _ _)).trans (stays_raise _ _))

theorem stays_barrierRelease (s : State) (id : BitVec 16) (failed : Bool) : Stays s (barrierRelease s id failed) :=
  (stays_stkMsg s _ _).trans (stays_barrierEnd _ id failed)

theorem stays_barriersDue (s : State) : Stays s (barriersDue s) :=
  List.foldlRecOn (motive := Stays s) _ _ (.refl s) fun u hu _ _ => .ite (hu.trans (stays_barrierRelease u _ _)) hu

theorem stays_replaceProblems (s : State) (which : PPlace → Bool) : Stays s (replaceProblems s which) := ⟨rfl, rfl, rfl, rfl⟩

theorem stays_membersNow (s : State) : Stays s (membersNow s) := by
  unfold membersNow
  refine .ite (.refl s) ?_
  dsimp only
  generalize hv : stkRoles _ = v
  have h : Stays s v := by
    rw [← hv]
    refine Stays.trans ?_ (stays_stkRoles _)
    have h1 (w : PPlace → Bool) (c : Bool) (f : StkBlk → StkBlk) :
        Stays s (if c then modStk s f else raise (replaceProblems (modStk s f) w) (psSrc 10)) :=
      .ite (stays_modStk s f) (((stays_modStk s f).trans (stays_replaceProblems _ w)).trans (stays_raise _ _))
    exact .ite (h1 _ _ _) ((h1 _ _ _).trans (stays_raise _ _))
  exact .ite (h.trans (stays_barriersDue v)) h

theorem stays_joinStack (s : State) : Stays s (joinStack s) := by
  unfold joinStack
  exact .ite ((stays_membersNow s).trans (stays_stkMsg _ _ _)) (stays_membersNow s)

theorem stays_retainDirectory (s : State) (id : Nat) : Stays s (retainDirectory s id) := by
  have h (n : Stn) (hn : n.mode = s.stn.mode) : Stays s { s with stn := n } := ⟨rfl, hn, rfl, rfl⟩
  have hr (u : State) (hu : Stays s u) (k : BitVec 17) : Stays s { u with stn := { u.stn with retainVars := k } } :=
    ⟨hu.img, hu.mode, hu.vars, hu.routes⟩
  unfold retainDirectory
  refine hr _ ?_ _
  exact .ite (h _ rfl) (h _ rfl)

/-! ### The image taken up -/

@[simp] theorem varInit_idx (v : Var) : (varInit v).idx = v.idx := by
  unfold varInit
  dsimp only
  split <;> rfl

@[simp] theorem varRestore_idx (n : Stn) (v : Var) : (varRestore n v).idx = v.idx := by
  unfold varRestore
  split
  · split <;> rfl
  · exact varInit_idx v

theorem withWriter_idx (b : List Byte) (ts : List (Nat × Nat × Bool)) (si : List Nat) (v : Var) : (withWriter b ts si v).idx = v.idx := rfl

/-- The variables of an image, restored or not, are those of its table, in its order. -/
theorem idx_imageVars (b : List Byte) (f : Var → Var) (hf : ∀ v, (f v).idx = v.idx) :
    ((imageVars b).map f).map (fun v => v.idx) = (varsOf (recs b 1)).map (fun v => v.idx) := by
  unfold imageVars
  rw [List.map_map, List.map_map]
  exact List.map_congr_left fun v _ => (hf _).trans (withWriter_idx ..)

theorem loadImage_loaded (s : State) (b : List Byte) :
    (loadImage s b).img = { s.img with running := some b } ∧ (loadImage s b).stn.mode = s.stn.mode ∧
      (loadImage s b).vars.map (fun v => v.idx) = (varsOf (recs b 1)).map (fun v => v.idx) ∧
      (loadImage s b).evr.routes = routesOf (recs b 1) := by
  unfold loadImage
  dsimp only
  generalize hu : ({ imageSettings s b with vars := _, le := _, lp := _, qp := _, ang := _, fld := _, saf := _, net := _, stk := _, img := _ } : State) = u
  have h1 : u.img = { s.img with running := some b } := by rw [← hu]; rfl
  have h2 : u.stn.mode = s.stn.mode := by rw [← hu]; rfl
  have h3 : u.vars.map (fun v => v.idx) = (varsOf (recs b 1)).map (fun v => v.idx) := by
    rw [← hu]
    exact idx_imageVars b _ fun v => by split <;> simp
  have h4 : u.evr.routes = routesOf (recs b 1) := by rw [← hu]; rfl
  have hj : Stays u (slewFrom 0 (joinStack (stkRoles (pairAdmit u (pairMember b))))) :=
    (((stays_pairAdmit u _).trans (stays_stkRoles _)).trans (stays_joinStack _)).trans (stays_slewFrom 0 _)
  have hk (c : CanBlk) (f : Stn → Stn) (hf : ∀ n, (f n).mode = n.mode) (v : State) (hv : Stays u v) :
      Stays u (retainDirectory (modStn (slewToOwn { v with can := c }) f) (imageId b)) := by
    have hc : Stays u { v with can := c } := ⟨hv.img, hv.mode, hv.vars, hv.routes⟩
    have hd := hc.trans (stays_slewToOwn _)
    have he : Stays u (modStn (slewToOwn { v with can := c }) f) := ⟨hd.img, (hf _).trans hd.mode, hd.vars, hd.routes⟩
    exact he.trans (stays_retainDirectory _ _)
  obtain ⟨k1, k2, k3, k4⟩ := hk (canLoad (recs b 8) (canRole _) (slewFrom 0 (joinStack (stkRoles (pairAdmit u (pairMember b))))).can)
    (fun n => { n with stopCause := if n.faultStop then n.stopCause else 1, autoStart := if n.faultStop then 0 else (globalOf (recs b 3)).1 })
    (fun _ => rfl) _ hj
  exact ⟨k1.trans h1, k2.trans h2, (congrArg _ k3).trans h3, k4.trans h4⟩

/-! ### No image taken up (R69, R72, R230) -/

theorem unloaded_spec (p : Pt) : p.unloaded.eff = none ∧ p.unloaded.isOut = false ∧ p.unloaded.count = p.count ∧ p.unloaded.diagL = p.diagL := by
  unfold Pt.unloaded
  cases h : p.isOut with
  | true => exact ⟨rfl, rfl, rfl, rfl⟩
  | false => exact ⟨rfl, h, rfl, rfl⟩

/-- The station is in STOP without an image, its outputs de-energised. -/
structure Unloaded (s t : State) : Prop where
  mode : t.stn.mode = .stop
  faultStop : t.stn.faultStop = false
  stopCause : t.stn.stopCause = 7
  vars : t.vars = s.vars
  banks : t.fld.banks = s.fld.banks
  pts : ∀ n : Fin 96, t.fld.pts[n].eff = none ∧ t.fld.pts[n].isOut = false ∧ t.fld.pts[n].count = s.fld.pts[n].count ∧
    t.fld.pts[n].diagL = s.fld.pts[n].diagL

theorem slewToOwn_eq (s : State) : ∃ n, slewToOwn s = { s with stn := n } := by
  unfold slewToOwn slewBy
  split
  · exact ⟨s.stn, rfl⟩
  · split <;> exact ⟨_, rfl⟩

theorem loadFails_unloaded (s : State) : Unloaded s (loadFails s) ∧ (loadFails s).img = s.img ∧ (loadFails s).evr = s.evr := by
  obtain ⟨n, hn⟩ := slewToOwn_eq { s with fld := { s.fld with pts := s.fld.pts.map Pt.unloaded } }
  unfold loadFails
  rw [hn]
  refine ⟨⟨rfl, rfl, rfl, rfl, rfl, fun n => ?_⟩, rfl, rfl⟩
  have h : (s.fld.pts.map Pt.unloaded)[n] = Pt.unloaded s.fld.pts[n] := by simp
  show (s.fld.pts.map Pt.unloaded)[n].eff = _ ∧ (s.fld.pts.map Pt.unloaded)[n].isOut = _ ∧ (s.fld.pts.map Pt.unloaded)[n].count = _ ∧
    (s.fld.pts.map Pt.unloaded)[n].diagL = _
  rw [h]
  exact unloaded_spec _

theorem markerFound_none {s : State} (hm : s.img.marker = none) (hw : s.img.wWait = []) : markerFound s = s := by
  unfold markerFound
  rw [hm]
  dsimp only
  rw [hw]
  show { s with img := { s.img with wWait := [] } } = s
  rw [← hw]

theorem selectProfile_congr {s u : State} (h : u.img = s.img) : selectProfile u = selectProfile s := by
  unfold selectProfile
  rw [h]

/-- What the load leaves, for the committed image `c` of the selected profile. -/
structure LoadedFrom (s t : State) (c : Option (List Byte)) : Prop where
  prof : t.img.loadProf = selectProfile s ∧ t.img.fromFlash = true
  absent : c = none → t.img.loadCode = 1
  code : ∀ b, c = some b → t.img.loadCode = BitVec.ofNat 4 (checkImage s (selectProfile s).toNat b).1.1
  fails : (∀ b, c = some b → (checkImage s (selectProfile s).toNat b).1.1 ≠ 0) →
    t.img.running = s.img.running ∧ Unloaded s t ∧ (NowRaised s → Raised t 501)
  runs : ∀ b, c = some b → (checkImage s (selectProfile s).toNat b).1.1 = 0 → t.img.running = some b ∧ t.img.actProf = selectProfile s ∧
    t.stn.mode = s.stn.mode ∧ t.vars.map (fun v => v.idx) = (varsOf (recs b 1)).map (fun v => v.idx) ∧ t.evr.routes = routesOf (recs b 1)

theorem imageLoad_loadedFrom {s : State} (hm : s.img.marker = none) (hw : s.img.wWait = []) :
    LoadedFrom s (imageLoad s) (committed s (selectProfile s)) := by
  have hno (w : State) (c : Nat × Nat) (hs : Works [.stn, .img] s w) (hi : w.img = s.img.reported c (selectProfile s) true)
      (hr : NowRaised s → Raised w 501) : (loadFails w).img = s.img.reported c (selectProfile s) true ∧ Unloaded s (loadFails w) ∧
        (NowRaised s → Raised (loadFails w) 501) := by
    obtain ⟨hu, h1, h2⟩ := loadFails_unloaded w
    have hv : w.vars = s.vars := hs.same .vars (by decide)
    have hf : w.fld = s.fld := hs.same .fld (by decide)
    refine ⟨h1.trans hi, ⟨hu.mode, hu.faultStop, hu.stopCause, hu.vars.trans hv, hu.banks.trans (congrArg _ hf), fun n => ?_⟩,
      fun h => (hr h).congr (by rw [h2])⟩
    rw [← hf]
    exact hu.pts n
  unfold imageLoad
  rw [markerFound_none hm hw]
  dsimp only
  cases hc : committed s (selectProfile s) with
  | none =>
    dsimp only
    obtain ⟨h1, h2, h3⟩ := hno _ (1, 0) ((works_setLoad s (1, 0) (selectProfile s) true).mono (by simp)) (setLoad_img ..)
      (setLoad_raised s (1, 0) _ true (by decide))
    refine ⟨?_, fun _ => ?_, nofun, fun _ => ⟨?_, h2, h3⟩, nofun⟩ <;> rw [h1]
    · exact ⟨rfl, rfl⟩
    · rfl
    · rfl
  | some b =>
    dsimp only
    obtain ⟨hcode, hck⟩ := runCheck_checked s (selectProfile s) true b
    rw [hcode]
    by_cases h0 : (checkImage s (selectProfile s).toNat b).1.1 = 0
    · rw [if_neg (not_not.2 h0)]
      generalize hg : modImg (runCheck s (selectProfile s) true b).2 _ = w
      obtain ⟨sel, hi⟩ : ∃ sel, w.img = { s.img.reported (checkImage s (selectProfile s).toNat b).1 (selectProfile s) true with
          actProf := selectProfile s, selCmd := sel } := by
        rw [← hg, ← hck.img]
        exact ⟨_, rfl⟩
      have hmode : w.stn.mode = s.stn.mode := by
        rw [← hg]
        exact hck.stn.elim (congrArg Stn.mode) (congrArg Stn.mode)
      obtain ⟨h1, h2, h3, h4⟩ := loadImage_loaded w b
      rw [hi] at h1
      refine ⟨?_, nofun, fun b' hb => ?_, fun h => absurd h0 (h b rfl), fun b' hb _ => ?_⟩
      · rw [h1]
        exact ⟨rfl, rfl⟩
      · cases hb
        rw [h1]
        rfl
      · cases hb
        rw [h1]
        exact ⟨rfl, rfl, h2.trans hmode, h3, h4⟩
    · rw [if_pos h0]
      obtain ⟨h1, h2, h3⟩ := hno _ (checkImage s (selectProfile s).toNat b).1 hck.works hck.img (hck.raised h0)
      refine ⟨?_, nofun, fun b' hb => ?_, fun _ => ⟨?_, h2, h3⟩, fun b' hb h => absurd h (by cases hb; exact h0)⟩
      · rw [h1]
        exact ⟨rfl, rfl⟩
      · cases hb
        rw [h1]
        rfl
      · rw [h1]
        rfl

theorem exec_imageLoad (s : State) : exec .imageLoad s = guarded s (alive s && s.img.running.isNone && s.stn.stopCause != 7#4) imageLoad := rfl

/-- The station is in STOP for want of an image, at the end of a load, and its event is raised. -/
def FailsToLoad (s t : State) : Prop :=
  t.img.running = none ∧ t.stn.mode = .stop ∧ t.stn.faultStop = false ∧ t.stn.stopCause = 7 ∧ t.vars = s.vars ∧
    t.fld.banks = s.fld.banks ∧ (∀ n : Fin 96, t.fld.pts[n].eff = none ∧ t.fld.pts[n].isOut = false ∧
      t.fld.pts[n].count = s.fld.pts[n].count ∧ t.fld.pts[n].diagL = s.fld.pts[n].diagL) ∧ (Settled s → Raised t 501)

theorem Unloaded.fails {s v : State} {p : List Instr} (h : Unloaded (freshCycle s) v) (hr : v.img.running = none)
    (he : Settled s → Raised v 501) : FailsToLoad s { settle v with pending := p } := by
  refine ⟨?_, ?_, ?_, ?_, ?_, ?_, ?_, fun hs => (he hs).ends p⟩
  · rw [← hr]; exact congrArg Img.running (settle_img v)
  · rw [← h.mode]; exact congrArg Stn.mode (settle_stn v)
  · rw [← h.faultStop]; exact congrArg Stn.faultStop (settle_stn v)
  · rw [← h.stopCause]; exact congrArg Stn.stopCause (settle_stn v)
  · exact (settle_vars v).trans (h.vars.trans (freshCycle_vars s))
  · exact (congrArg FldBlk.banks (settle_fld v)).trans (h.banks.trans (congrArg FldBlk.banks (freshCycle_fld s)))
  · intro n
    have hf : ({ settle v with pending := p } : State).fld = v.fld := settle_fld v
    rw [hf, ← freshCycle_fld s]
    exact h.pts n

theorem imageLoad_does {s : State} (ha : alive s = true) (hr : s.img.running = none) (h7 : s.stn.stopCause ≠ 7) (hm : s.img.marker = none)
    (hw : s.img.wWait = []) : ∃ t, exec .imageLoad s = .next t ∧ t.pending = s.pending ∧
      (committed s (selectProfile s) = none →
        t.img.loadCode = 1 ∧ t.img.loadProf = selectProfile s ∧ t.img.fromFlash = true ∧ FailsToLoad s t) ∧
      ∀ b, committed s (selectProfile s) = some b →
        t.img.loadProf = selectProfile s ∧ t.img.fromFlash = true ∧
        t.img.loadCode = BitVec.ofNat 4 (checkImage s (selectProfile s).toNat b).1.1 ∧
        ((checkImage s (selectProfile s).toNat b).1.1 ≠ 0 → FailsToLoad s t) ∧
        ((checkImage s (selectProfile s).toNat b).1.1 = 0 → t.img.running = some b ∧ t.img.actProf = selectProfile s ∧
          t.stn.mode = s.stn.mode ∧ t.vars.map (fun v => v.idx) = (varsOf (recs b 1)).map (fun v => v.idx) ∧
          t.evr.routes = routesOf (recs b 1)) := by
  have hx : exec .imageLoad s = .next { settle (imageLoad (freshCycle s)) with pending := s.pending } := by
    have hb : (alive s && s.img.running.isNone && s.stn.stopCause != 7#4) = true := by simpa [ha, hr] using h7
    rw [exec_imageLoad, guarded_true hb]
  refine ⟨_, hx, rfl, ?_⟩
  have hi := freshCycle_img s
  have h := imageLoad_loadedFrom (s := freshCycle s) (by rw [hi]; exact hm) (by rw [hi]; exact hw)
  generalize imageLoad (freshCycle s) = v at h
  rw [selectProfile_congr hi, committed_congr (congrArg _ hi) (congrArg _ hi)] at h
  have hcheck (b : List Byte) : checkImage (freshCycle s) (selectProfile (freshCycle s)).toNat b = checkImage s (selectProfile s).toNat b := by
    rw [selectProfile_congr hi]
    exact checkImage_congr hi (freshCycle_stn s) _ b
  have hv : ({ settle v with pending := s.pending } : State).img = v.img := settle_img v
  rw [hv]
  obtain ⟨hp, hf⟩ := h.prof
  rw [selectProfile_congr hi] at hp
  refine ⟨fun hc => ⟨h.absent hc, hp, hf, ?_⟩, fun b hc => ⟨hp, hf, ?_, fun h0 => ?_, fun h0 => ?_⟩⟩
  · obtain ⟨k1, k2, k3⟩ := h.fails (fun b hb => nomatch hc.symm.trans hb)
    exact k2.fails (k1.trans (hi ▸ hr)) (fun hs => k3 hs.nowRaised)
  · rw [← hcheck]
    exact h.code b hc
  · obtain ⟨k1, k2, k3⟩ := h.fails (fun b' hb => by
      rw [hcheck]
      rwa [← Option.some.inj (hc.symm.trans hb)])
    exact k2.fails (k1.trans (hi ▸ hr)) (fun hs => k3 hs.nowRaised)
  · obtain ⟨k1, k2, k3, k4, k5⟩ := h.runs b hc (by rw [hcheck]; exact h0)
    refine ⟨k1, by rw [k2, selectProfile_congr hi], ?_, ?_, (settle_routes v).trans k5⟩
    · exact (congrArg Stn.mode (settle_stn v)).trans (k3.trans (congrArg Stn.mode (freshCycle_stn s)))
    · rw [← k4]
      exact congrArg _ (settle_vars v)

/-! ### The answer of a request for a profile -/

/-- Requests for a profile among the commands, as the statement picks them out. -/
theorem profileAsked_iff {isProfile : DistCmd → Bool} (hf : isProfile = DistCmd.isProfile) {s t : State} {p : BitVec 2} {byCmd : Bool} {i : Img}
    (hs : t.stn = s.stn.profileAsked p byCmd) (hi : t.img = i.profileAsked s.stn byCmd) (hr : i.swResult = s.img.swResult) :
    (t.stn = { s.stn with accepted := s.stn.accepted.filter (fun c => !isProfile c) ++ [.profile p byCmd] } ∧
      t.img.swReq = byCmd ∧ ((∃ c ∈ s.stn.accepted, isProfile c = true) → t.img.swResult = 6) ∧
      (¬ (∃ c ∈ s.stn.accepted, isProfile c = true) → t.img.swResult = s.img.swResult)) ∧
      t.img = { i with swReq := byCmd, swResult := t.img.swResult } := by
  subst hf
  have hw : s.stn.accepted.any DistCmd.isProfile = true ↔ ∃ c ∈ s.stn.accepted, DistCmd.isProfile c = true := List.any_eq_true
  rw [hi]
  refine ⟨⟨hs, rfl, fun h => if_pos (hw.2 h), fun h => ?_⟩, rfl⟩
  rw [← hr]
  exact if_neg (mt hw.1 h)

end Sys2Proof.Machine

open Sys2Proof Sys2Proof.Machine

/-- Settles O39: each flash write's end by IMG's update (`commitWrite`, `Img.partnerDone`), the load by what each of its endings leaves
(`LoadedFrom`), and a request or preparation by the block that it leaves. -/
theorem imageWrites : Obligations.ImageWrites := by
  refine ⟨fun s ha => ⟨fun h2 ho => ⟨imageWriteDone_fails ha ho h2, imageWriteDone_done ha ho h2⟩, fun ok h0 ho hm => partnerWriteDone_does ha ho ok h0 hm,
    fun hr h7 hm hw => imageLoad_does ha hr h7 hm hw⟩, fun s => ⟨fun pins ha hne => ⟨fun hr ht => ?_, fun h => profSelChange_seen ha hne h⟩,
    fun sess p hw => ⟨fun ht => ?_, fun h => swCmdReq_seen hw h⟩, fun ha h1 h4 hn => switchPrepared_does ha h1 h4 hn⟩⟩
  · exact (profSelChange_asks ha hne ⟨hr, ht⟩).imp fun t h => profileAsked_iff (by funext c; cases c <;> rfl) h.1 h.2 rfl
  · exact (swCmdReq_asks hw ht).imp fun t h => profileAsked_iff (by funext c; cases c <;> rfl) h.1 h.2 rfl
end

section
/-! O43: the flushes, clears and counts of LOG and EVR, and the engineering requests for the Ledger, captured frames and keys. -/

namespace Sys2Proof.Machine
open Sys2Proof

/-! ### What LOG's intake leaves alone (R370, R372) -/

/-- LOG without what the intake of items changes: the Daybook, the waiting items, the buffer and its flush. -/
def LogBlk.still (g : LogBlk) : LogBlk :=
  { g with dbNext := 0, dbDrop := 0, dbLost := false, ring := [], intake := [], fresh := [], lgNext := 0, buf := [], flush := .idle
           flushLeft := 0, dropped := 0, lgLost := false, lost := 0 }

/-- From `g` to `h` LOG takes in items: nothing else of it changes, and a flush in progress goes on. -/
structure LogBlk.Takes (g h : LogBlk) : Prop where
  still : h.still = g.still
  flush : g.flush ≠ .idle → h.flush ≠ .idle

theorem LogBlk.Takes.refl (g : LogBlk) : g.Takes g := ⟨rfl, id⟩

theorem LogBlk.Takes.trans {g h k : LogBlk} (a : g.Takes h) (b : h.Takes k) : g.Takes k := ⟨b.still.trans a.still, b.flush ∘ a.flush⟩

theorem LogBlk.Takes.ite {g h k : LogBlk} {c : Prop} [Decidable c] (a : g.Takes h) (b : g.Takes k) : g.Takes (if c then h else k) := by
  split
  · exact a
  · exact b

theorem takes_startFlush (g : LogBlk) (k : FlushKind) (n : Nat) : g.Takes (startFlush g k n) := by
  unfold startFlush
  refine .ite (.refl g) ⟨rfl, fun h => ?_⟩
  show (if (g.flush == FlushKind.idle) = true then k else g.flush) ≠ _
  rw [if_neg (by simpa using h)]
  exact h

theorem takes_dbStore (g : LogBlk) (it : LogItem) : g.Takes (dbStore g it) := ⟨rfl, id⟩

theorem LogBlk.Takes.startFlush {g h : LogBlk} (a : g.Takes h) (k : FlushKind) (n : Nat) : g.Takes (Machine.startFlush h k n) :=
  a.trans (takes_startFlush h k n)

theorem takes_lgMake (g : LogBlk) (b : Bool) (it : LogItem) (d : Bool) (p : List Byte) : g.Takes (lgMake g b it d p).1 := by
  have hadd (l : List (LgRec × Bool)) (n : Word) : g.Takes { g with buf := l, lgNext := n, lgLost := false } := ⟨rfl, id⟩
  have hset (l : List (LgRec × Bool)) : g.Takes (lgDropped { g with buf := l }) := ⟨rfl, id⟩
  unfold lgMake
  dsimp only
  split
  · refine .ite (.startFlush ?_ _ _) ?_ <;> exact .ite ((hadd _ _).startFlush _ _) (hadd _ _)
  · split
    · exact ⟨rfl, id⟩
    · split
      · exact ⟨rfl, id⟩
      · dsimp only
        exact .startFlush (hset _) _ _

theorem takes_logPut (g : LogBlk) (b : Bool) (n : Nat) (it : LogItem) : g.Takes (logPut g b n it).1 := by
  unfold logPut
  have h0 : g.Takes (if it.ledger = true then lgMake g b it false it.payload else (g, false)).1 := by
    split
    · exact takes_lgMake ..
    · exact .refl g
  generalize (if it.ledger = true then lgMake g b it false it.payload else (g, false)) = r at h0 ⊢
  obtain ⟨g0, d0⟩ := r
  dsimp only at h0 ⊢
  split
  · split
    · exact h0.trans (takes_lgMake ..)
    · exact h0
  split
  · split
    · exact (h0.trans (takes_dbStore g0 it)).trans (takes_lgMake ..)
    · exact h0.trans (takes_dbStore g0 it)
  split
  · exact h0.trans ⟨rfl, id⟩
  have h1 : g.Takes { g0 with dbDrop := satInc g0.dbDrop, dbLost := true } := h0.trans ⟨rfl, id⟩
  split
  · exact h1.trans (takes_lgMake ..)
  · exact h1

theorem takes_foldl_logStep (b : Bool) (l : List LogItem) (a : LogBlk × Nat × Bool) : a.1.Takes (l.foldl (logStep b) a).1 := by
  induction l generalizing a with
  | nil => exact .refl _
  | cons it l ih => exact LogBlk.Takes.trans (takes_logPut a.1 b a.2.1 it) (ih (logStep b a it))

theorem Hands.takes {n : Nat} {s t : State} (h : Hands n s t) : s.log.Takes t.log := by
  obtain ⟨f, -, ht⟩ := h
  rw [ht]
  exact ⟨rfl, id⟩

theorem takes_raise (s : State) (n : Nat) : s.log.Takes (raise s n).log := ((Hands.refl s).raise n).takes

theorem takes_logPass (s : State) : s.log.Takes (logPass s).log := by
  have h := LogBlk.Takes.trans (g := s.log) (h := { s.log with fresh := [] }) ⟨rfl, id⟩
    (takes_foldl_logStep (lgStandby s) (s.log.fresh.mergeSort itemLe) ({ s.log with fresh := [] }, 4, false))
  rw [logPass_def]
  dsimp only
  generalize List.foldl (logStep (lgStandby s)) _ _ = r at h ⊢
  split
  · exact h.trans (takes_raise { s with log := r.1 } 488)
  · exact h

/-- What ends a command changes only what the intake of items changes. -/
theorem takes_settle (s : State) : s.log.Takes (settle s).log := by
  obtain ⟨v, x, he, -, -⟩ := deliverRaises_eq (logPass (logPass (logPass s)))
  have h : (settle s).log = (logPass (logPass (logPass s))).log := by
    unfold settle
    rw [he]
  rw [h]
  exact ((takes_logPass s).trans (takes_logPass _)).trans (takes_logPass _)

section
variable {g h : LogBlk} (k : g.Takes h)
include k

theorem LogBlk.Takes.circ : h.circ = g.circ := show h.still.circ = g.still.circ by rw [k.still]
theorem LogBlk.Takes.perm : h.perm = g.perm := show h.still.perm = g.still.perm by rw [k.still]
theorem LogBlk.Takes.hist : h.hist = g.hist := show h.still.hist = g.still.hist by rw [k.still]
theorem LogBlk.Takes.mramErr : h.mramErr = g.mramErr := show h.still.mramErr = g.still.mramErr by rw [k.still]
theorem LogBlk.Takes.failCnt : h.failCnt = g.failCnt := show h.still.failCnt = g.still.failCnt by rw [k.still]
theorem LogBlk.Takes.clearStep : h.clearStep = g.clearStep := show h.still.clearStep = g.still.clearStep by rw [k.still]
theorem LogBlk.Takes.clearSeq : h.clearSeq = g.clearSeq := show h.still.clearSeq = g.still.clearSeq by rw [k.still]
theorem LogBlk.Takes.lockout : h.lockout = g.lockout := show h.still.lockout = g.still.lockout by rw [k.still]
theorem LogBlk.Takes.hmacFails : h.hmacFails = g.hmacFails := show h.still.hmacFails = g.still.hmacFails by rw [k.still]
theorem LogBlk.Takes.timeWord : h.twPcyc = g.twPcyc ∧ h.twOpms = g.twOpms ∧ h.twClean = g.twClean :=
  ⟨show h.still.twPcyc = g.still.twPcyc by rw [k.still], show h.still.twOpms = g.still.twOpms by rw [k.still],
    show h.still.twClean = g.still.twClean by rw [k.still]⟩

end

/-! ### A record flushed (R373–R376) -/

/-- LOG with the front record gone from the buffer, MRAM as given. -/
def LogBlk.flushed (g : LogBlk) (circ perm : List (Nat × Slot)) (err : Bool) (step : Nat) (rest : List (LgRec × Bool)) : LogBlk :=
  { g with circ := circ, perm := perm, mramErr := err, clearStep := step, buf := rest, flushLeft := g.flushLeft - 1, cmdLeft := g.cmdLeft - 1 }

/-- LOG once the flush in progress has ended (R378). -/
def LogBlk.flushOver (g : LogBlk) : LogBlk := { writeTime g false with flush := .idle, flushLeft := 0, cmdLeft := 0, dropped := 0 }

/-- A change of LOG that goes by nothing that waits there, nor changes it. -/
def PastFresh (k : LogBlk → LogBlk) : Prop := ∀ (g : LogBlk) (f : List LogItem), k { g with fresh := g.fresh ++ f } = { k g with fresh := (k g).fresh ++ f }

theorem Hands.modLog {n : Nat} {s t : State} (h : Hands n s t) {k : LogBlk → LogBlk} (hk : PastFresh k) :
    Hands n (modLog s k) (modLog t k) := by
  obtain ⟨f, hf, ht⟩ := h
  refine ⟨f, hf, ?_⟩
  show k t.log = _
  rw [ht]
  exact hk s.log f

theorem Hands.base {n : Nat} {s u t : State} (h : Hands n s t) (hs : u.log = s.log) : Hands n u t := by
  obtain ⟨f, hf, ht⟩ := h
  exact ⟨f, hf, by rw [hs]; exact ht⟩

theorem Hands.mono {n m : Nat} {s t : State} (h : Hands n s t) (hnm : n ≤ m) : Hands m s t := by
  obtain ⟨f, hf, ht⟩ := h
  exact ⟨f, hf.trans hnm, ht⟩

theorem Hands.ite {n : Nat} {s t u : State} {c : Prop} [Decidable c] (h : Hands n s t) (k : Hands n s u) : Hands n s (if c then t else u) := by
  split
  · exact h
  · exact k

theorem hands_flushEnds {n : Nat} {s t : State} (h : Hands n s t) : Hands (n + 1) (modLog s LogBlk.flushOver) (flushEnds t) := by
  have h1 : Hands n (modLog s LogBlk.flushOver) (modLog t LogBlk.flushOver) := h.modLog fun _ _ => rfl
  unfold flushEnds
  dsimp only
  split
  · exact h1.mono (Nat.le_succ n)
  · exact h1.logItem _ _ _ _ _ _

/-- LOG when the record flushed was the last of its flush. -/
def LogBlk.flushedLast (g : LogBlk) : LogBlk := if g.flushLeft = 0 then g.flushOver else g

/-- Where the front record went: into its slot and, where that is free, into the permanent area; or its slot is bad (R373, R376). -/
def Landed (g : LogBlk) (r : LgRec) (ok : Bool) (circ perm : List (Nat × Slot)) : Prop :=
  (∃ x, circ = aset g.circ (r.seq.toNat % 65536) x ∧ (ok = true → x = .good r) ∧ (ok = false → ∃ n, x = .bad n)) ∧
  (ok = false → perm = g.perm) ∧
  (ok = true → (r.seq.toNat < 4096 ∧ perm = aset g.perm (r.seq.toNat % 65536) (.good r)) ∨
    (perm = g.perm ∧ (r.seq.toNat < 4096 → ∃ q, aget g.perm (r.seq.toNat % 65536) = some (.good q))))

/-- The front record leaves the buffer, and with the last of them the flush ends. -/
def recordGone (s : State) (rest : List (LgRec × Bool)) : State :=
  let t := modLog s (fun g => { g with buf := rest, flushLeft := g.flushLeft - 1, cmdLeft := g.cmdLeft - 1 })
  if t.log.flushLeft = 0 then flushEnds t else t

theorem works_recordGone {l : List Block} {s t : State} (h : Works l s t) (rest : List (LgRec × Bool)) : Works l s (recordGone t rest) := by
  unfold recordGone flushEnds
  dsimp only
  split
  · split
    · exact (h.modLog _).modLog _
    · exact ((h.modLog _).modLog _).logItem ..
  · exact h.modLog _

theorem hands_recordGone {n : Nat} {s t : State} {circ perm : List (Nat × Slot)} {err : Bool} {step : Nat}
    (h : Hands n (modLog s (fun g => { g with circ := circ, perm := perm, mramErr := err, clearStep := step })) t)
    (rest : List (LgRec × Bool)) :
    Hands (n + 1) (modLog s (fun g => (g.flushed circ perm err step rest).flushedLast)) (recordGone t rest) := by
  have h1 : Hands n (modLog s (fun g => g.flushed circ perm err step rest))
      (modLog t (fun g => { g with buf := rest, flushLeft := g.flushLeft - 1, cmdLeft := g.cmdLeft - 1 })) :=
    h.modLog (k := fun g => { g with buf := rest, flushLeft := g.flushLeft - 1, cmdLeft := g.cmdLeft - 1 }) fun _ _ => rfl
  have hl : t.log.flushLeft = s.log.flushLeft := by
    obtain ⟨f, -, ht⟩ := h
    rw [ht]
    rfl
  unfold recordGone
  dsimp only
  by_cases h0 : s.log.flushLeft - 1 = 0
  · rw [if_pos (show (modLog t _).log.flushLeft = 0 by rw [← h0, ← hl]; rfl)]
    exact (hands_flushEnds h1).base (if_pos (show (s.log.flushed circ perm err step rest).flushLeft = 0 from h0))
  · rw [if_neg (show ¬ (modLog t _).log.flushLeft = 0 by rw [← hl] at h0; exact h0)]
    refine Hands.base (s := modLog s (fun g => g.flushed circ perm err step rest)) ?_
      (if_neg (show (s.log.flushed circ perm err step rest).flushLeft ≠ 0 from h0))
    exact h1.mono (Nat.le_succ n)

/-- A record is written to its slot (R373). -/
def recordWritten (s : State) (r : LgRec) : State :=
  let slot := r.seq.toNat % 65536
  let permFree := r.seq.toNat < 4096 && (match aget s.log.perm slot with | some (.good _) => false | _ => true)
  let t := modLog s (fun g => { g with
    circ := aset g.circ slot (.good r)
    perm := if permFree then aset g.perm slot (.good r) else g.perm
    clearStep := if g.clearStep = 2 && g.clearSeq == r.seq then 3 else g.clearStep })
  if permFree && (goodRecs t.log.perm).length = 4096 then raise t (ledSrc 5) else t

/-- A record's slot fails its second read-back (R376). -/
def recordFailed (s : State) (r : LgRec) (own : Bool) : State :=
  let slot := r.seq.toNat % 65536
  let t := raise (modLog (drawWord s).2 (fun g => { g with
    circ := aset g.circ slot (.bad s.free)
    mramErr := true
    clearStep := if g.clearStep = 2 && g.clearSeq == r.seq then 3 else g.clearStep })) (ledSrc 6)
  if own then t else logItem t true true 0x5808 noSrc sevNotice (leN 4 slot ++ [0])

theorem flushRecord_eq {s : State} {r : LgRec} {own : Bool} {rest : List (LgRec × Bool)} (hb : s.log.buf = (r, own) :: rest) (ok : Bool) :
    flushRecord s ok = recordGone (if ok then recordWritten s r else recordFailed s r own) rest := by
  unfold flushRecord
  rw [hb]
  cases ok <;> rfl

theorem recordWritten_hands (s : State) (r : LgRec) : Works [] s (recordWritten s r) ∧ ∃ perm step,
    Landed s.log r true (aset s.log.circ (r.seq.toNat % 65536) (.good r)) perm ∧
      Hands 1 (modLog s (fun g => { g with
        circ := aset s.log.circ (r.seq.toNat % 65536) (.good r), perm := perm, mramErr := s.log.mramErr, clearStep := step })) (recordWritten s r) := by
  unfold recordWritten
  dsimp only
  generalize hp : (decide (r.seq.toNat < 4096) && match aget s.log.perm (r.seq.toNat % 65536) with
    | some (.good _) => false | _ => true) = free
  generalize hu : modLog s _ = u
  have hw : Works [] s u := hu ▸ (Works.refl [] s).modLog _
  have hh : Hands 0 (modLog s (fun g => { g with
      circ := aset s.log.circ (r.seq.toNat % 65536) (.good r)
      perm := if free = true then aset s.log.perm (r.seq.toNat % 65536) (.good r) else s.log.perm
      mramErr := s.log.mramErr
      clearStep := if (decide (s.log.clearStep = 2) && s.log.clearSeq == r.seq) = true then 3 else s.log.clearStep })) u :=
    .of_eq (by rw [← hu]; rfl)
  refine ⟨?_, if free = true then aset s.log.perm (r.seq.toNat % 65536) (.good r) else s.log.perm,
    if (decide (s.log.clearStep = 2) && s.log.clearSeq == r.seq) = true then 3 else s.log.clearStep, ⟨⟨_, rfl, fun _ => rfl, nofun⟩, nofun, fun _ => ?_⟩, ?_⟩
  · split
    · exact hw.raise _
    · exact hw
  · cases free with
    | true =>
      rw [Bool.and_eq_true, decide_eq_true_eq] at hp
      exact .inl ⟨hp.1, rfl⟩
    | false =>
      refine .inr ⟨rfl, fun hlt => ?_⟩
      rw [decide_eq_true hlt, Bool.true_and] at hp
      split at hp
      case h_1 q hq => exact ⟨q, hq⟩
      case h_2 => exact nomatch hp
  · exact .ite (hh.raise _) (hh.mono (by decide))

theorem recordFailed_hands (s : State) (r : LgRec) (own : Bool) :
    Works [] s (recordFailed s r own) ∧ (NowRaised s → Raised (recordFailed s r own) 494) ∧ ∃ step,
      Hands 2 (modLog s (fun g => { g with
        circ := aset s.log.circ (r.seq.toNat % 65536) (.bad s.free), perm := s.log.perm, mramErr := true, clearStep := step })) (recordFailed s r own) := by
  unfold recordFailed
  dsimp only
  generalize hu : modLog (drawWord s).2 _ = u
  have hw : Works [] s u := hu ▸ (Works.refl [] s).drawWord.modLog _
  have hh : Hands 1 (modLog s (fun g => { g with
      circ := aset s.log.circ (r.seq.toNat % 65536) (.bad s.free), perm := s.log.perm, mramErr := true
      clearStep := if (decide (s.log.clearStep = 2) && s.log.clearSeq == r.seq) = true then 3 else s.log.clearStep })) (raise u (ledSrc 6)) :=
    (Hands.of_eq (by rw [← hu]; rfl)).raise _
  have hr (hn : NowRaised s) : Raised (raise u (ledSrc 6)) 494 := hw.raised hn (by decide)
  split
  · exact ⟨hw.raise _, hr, _, hh.mono (by decide)⟩
  · exact ⟨(hw.raise _).logItem .., fun hn => ((Works.refl [] _).logItem ..).kept _ (hr hn), _, hh.logItem ..⟩

theorem flushRecord_hands {s : State} {r : LgRec} {own : Bool} {rest : List (LgRec × Bool)} (hb : s.log.buf = (r, own) :: rest) (ok : Bool) :
    Works [] s (flushRecord s ok) ∧ (ok = false → NowRaised s → Raised (flushRecord s ok) 494) ∧
      ∃ circ perm step, Landed s.log r ok circ perm ∧
        Hands 3 (modLog s (fun g => (g.flushed circ perm (s.log.mramErr || !ok) step rest).flushedLast)) (flushRecord s ok) := by
  rw [flushRecord_eq hb]
  cases ok with
  | true =>
    obtain ⟨hw, perm, step, hl, hh⟩ := recordWritten_hands s r
    refine ⟨works_recordGone hw rest, nofun, _, perm, step, hl, ?_⟩
    rw [Bool.not_true, Bool.or_false]
    exact (hands_recordGone hh rest).mono (by decide)
  | false =>
    obtain ⟨hw, hr, step, hh⟩ := recordFailed_hands s r own
    refine ⟨works_recordGone hw rest, fun _ hn => (works_recordGone (.refl [] _) rest).kept _ (hr hn), aset s.log.circ (r.seq.toNat % 65536) (.bad s.free),
      s.log.perm, step, ⟨⟨_, rfl, nofun, fun _ => ⟨_, rfl⟩⟩, fun _ => rfl, nofun⟩, ?_⟩
    rw [Bool.not_false, Bool.or_true]
    exact hands_recordGone hh rest

theorem exec_flushRecordDone (s : State) (ok : Bool) : exec (.flushRecordDone ok) s =
    guarded s ((alive s || s.pwr.power == .warm) && s.log.flush != .idle && decide (s.log.flushLeft > 0)) (fun s => flushRecord s ok) := rfl

/-- FLUSH_RECORD_DONE (R373, R374, R376). -/
theorem flushRecordDone_does {s : State} {r : LgRec} {own : Bool} {rest : List (LgRec × Bool)} (q : Quiet s) (ha : alive s = true)
    (hf : s.log.flush ≠ .idle) (hl : 0 < s.log.flushLeft) (hb : s.log.buf = (r, own) :: rest) (hr : rest.length < 200) (ok : Bool) :
    Does (.flushRecordDone ok) s [] (fun t => ∃ circ perm, Landed s.log r ok circ perm ∧ t.log.circ = circ ∧ t.log.perm = perm ∧
      (∃ new, t.log.buf = rest ++ new) ∧ t.log.mramErr = (s.log.mramErr || !ok) ∧
      (s.log.flushLeft = 1 → t.log.twPcyc = s.log.pcyc ∧ t.log.twOpms = s.log.opms ∧ t.log.twClean = false) ∧
      (ok = false → Raised t 494)) := by
  have hg : ((alive s || s.pwr.power == .warm) && s.log.flush != .idle && decide (s.log.flushLeft > 0)) = true := by simp [ha, hf, hl]
  obtain ⟨hw, hra, circ, perm, step, hland, hh⟩ := flushRecord_hands hb ok
  refine does_of_works (f := fun s => flushRecord s ok) (exec_flushRecordDone s ok) hg ?_ ⟨circ, perm, hland, ?_⟩
  · rw [freshCycle_of_intake q.2]
    exact hw
  rw [freshCycle_of_intake q.2]
  have hk := hh.takes.trans (takes_settle _)
  have hlast (g : LogBlk) : g.flushedLast.circ = g.circ ∧ g.flushedLast.perm = g.perm ∧ g.flushedLast.buf = g.buf ∧ g.flushedLast.fresh = g.fresh ∧
      g.flushedLast.mramErr = g.mramErr := by
    unfold LogBlk.flushedLast
    split <;> exact ⟨rfl, rfl, rfl, rfl, rfl⟩
  obtain ⟨h1, h2, h3, h4, h5⟩ := hlast (s.log.flushed circ perm (s.log.mramErr || !ok) step rest)
  obtain ⟨f, hlen, ht⟩ := hh
  have hbuf : (flushRecord s ok).log.buf = rest := by rw [ht]; exact h3
  have hfresh : (flushRecord s ok).log.fresh.length ≤ 3 := by
    rw [ht]
    have hnil : (s.log.flushed circ perm (s.log.mramErr || !ok) step rest).flushedLast.fresh = [] := h4.trans q.1.2
    show ((s.log.flushed circ perm (s.log.mramErr || !ok) step rest).flushedLast.fresh ++ f).length ≤ 3
    rw [hnil]
    exact hlen
  obtain ⟨new, -, hnew, -⟩ := settle_of_room (s := flushRecord s ok) (by rw [hbuf]; omega)
  refine ⟨hk.circ.trans h1, hk.perm.trans h2, ⟨new, hnew.trans (by rw [hbuf])⟩, hk.mramErr.trans h5, fun h1 => ?_, fun h0 =>
    (hra h0 (NowRaised.of_settled q.1)).ends _⟩
  obtain ⟨k1, k2, k3⟩ := hk.timeWord
  have hov : (modLog s (fun g => (g.flushed circ perm (s.log.mramErr || !ok) step rest).flushedLast)).log =
      (s.log.flushed circ perm (s.log.mramErr || !ok) step rest).flushOver := if_pos (show s.log.flushLeft - 1 = 0 by omega)
  rw [hov] at k1 k2 k3
  exact ⟨k1, k2, k3⟩

/-! ### Clears, counts and the supervisor's queue (R382, R383, R410) -/

/-- A command that touches neither LOG's intake nor EVR's raises, where nothing waits: its state is its work's. -/
theorem settled_eq {s u : State} (q : Quiet s) (hl : u.log.fresh = s.log.fresh) (hv : u.evr.now = s.evr.now) :
    ({ settle u with pending := s.pending } : State).log = u.log ∧ ({ settle u with pending := s.pending } : State).evr = u.evr := by
  have h : settle u = u := settle_of_settled ⟨hv.trans q.1.1, hl.trans q.1.2⟩
  rw [h]
  exact ⟨rfl, rfl⟩

theorem exec_clearDone (s : State) : exec .clearDone s = guarded s (alive s && s.log.clearStep == 3) clearEnds := rfl

theorem clearDone_does {s : State} (ha : alive s = true) (h3 : s.log.clearStep = 3) : Does .clearDone s [] (fun t =>
    (Settled s → Raised t 491) ∧ (Quiet s → t.log.clearStep = 0 ∧
      ∀ x, x ∈ t.log.circ ↔ x ∈ s.log.circ ∧ ∀ r, x.2 = .good r → seqAfter s.log.clearSeq r.seq = false)) := by
  have hw (u : State) : Works [] u (modLog u (fun g => { eraseBefore g g.clearSeq with clearStep := 0 })) := (Works.refl [] u).modLog _
  refine does_of_works (exec_clearDone s) (by rw [ha, h3]; rfl) ((hw _).raise _) ⟨fun hs => ((hw _).raised hs.nowRaised (by decide)).ends _, fun q => ?_⟩
  rw [freshCycle_of_intake q.2]
  have hk := (takes_raise (modLog s (fun g => { eraseBefore g g.clearSeq with clearStep := 0 })) (ledSrc 3)).trans (takes_settle _)
  refine ⟨hk.clearStep, fun x => ?_⟩
  have hc : ({ settle (clearEnds s) with pending := s.pending } : State).log.circ = (eraseBefore s.log s.log.clearSeq).circ := hk.circ
  rw [hc]
  unfold eraseBefore
  rw [List.mem_filter]
  obtain ⟨n, x⟩ := x
  cases x with
  | good r => simp
  | bad m => simp

theorem exec_clearLockoutEnd (s : State) : exec .clearLockoutEnd s =
    guarded s (alive s && s.log.lockout) (fun s => modLog s (fun g => { g with lockout := false, hmacFails := [] })) := rfl

theorem clearLockoutEnd_does {s : State} (ha : alive s = true) (hl : s.log.lockout = true) : Does .clearLockoutEnd s [] (fun t =>
    Quiet s → t.log = { s.log with lockout := false, hmacFails := [] }) := by
  refine does_of_works (exec_clearLockoutEnd s) (by rw [ha, hl]; rfl) ((Works.refl [] _).modLog _) fun q => ?_
  rw [freshCycle_of_intake q.2]
  exact (settled_eq (u := modLog s (fun g => { g with lockout := false, hmacFails := [] })) q rfl rfl).1

theorem exec_clearChallengeLapse (s : State) : exec .clearChallengeLapse s =
    guarded s (alive s && s.net.clearNonce.isSome) (fun s => modNet s (fun n => { n with clearNonce := none })) := rfl

theorem supLe_trans (a b c : Nat × Nat) (h : supLe a b = true) (k : supLe b c = true) : supLe a c = true := by
  simp [supLe] at *
  omega

theorem supLe_total (a b : Nat × Nat) : (supLe a b || supLe b a) = true := by
  simp [supLe]
  omega

/-- The firmware takes a raise that stands first (R410). -/
theorem supTake_first {v : Evr} (h : v.queue ≠ []) : ∃ q ∈ v.queue, (∀ x ∈ v.queue, x.2 < q.2 ∨ (x.2 = q.2 ∧ q.1 ≤ x.1)) ∧
    supTake v = { v with queue := v.queue.erase q } := by
  have hs := List.pairwise_mergeSort supLe_trans supLe_total v.queue
  unfold supTake
  cases hm : v.queue.mergeSort supLe with
  | nil =>
    refine absurd ?_ h
    rw [← List.length_eq_zero_iff, ← List.length_mergeSort (le := supLe), hm]
    rfl
  | cons q l =>
    rw [hm] at hs
    have hmem (x : Nat × Nat) : x ∈ v.queue ↔ x = q ∨ x ∈ l := by rw [← List.mem_mergeSort (le := supLe), hm, List.mem_cons]
    refine ⟨q, (hmem q).2 (.inl rfl), fun x hx => ?_, rfl⟩
    rcases (hmem x).1 hx with rfl | hx
    · exact .inr ⟨rfl, Nat.le_refl _⟩
    · have hq := (List.pairwise_cons.1 hs).1 x hx
      simp [supLe] at hq
      omega

theorem exec_supQueueTake (s : State) : exec .supQueueTake s =
    guarded s (alive s && !s.evr.queue.isEmpty) (fun s => { s with evr := supTake s.evr }) := rfl

theorem same_evr (s : State) (v : Evr) (b : Block) : b.Same s { s with evr := v } := by
  cases b <;> first | exact fun _ => Engine.SameBut.refl _ | rfl

theorem supQueueTake_does {s : State} (ha : alive s = true) (q : Quiet s) (hne : s.evr.queue ≠ []) : Does .supQueueTake s [] (fun t =>
    ∃ q ∈ s.evr.queue, (∀ x ∈ s.evr.queue, x.2 < q.2 ∨ (x.2 = q.2 ∧ q.1 ≤ x.1)) ∧ t.evr = { s.evr with queue := s.evr.queue.erase q } ∧
      t.log = s.log) := by
  have hb : (alive s && !s.evr.queue.isEmpty) = true := by simp [ha, hne]
  obtain ⟨x, hx, hfirst, he⟩ := supTake_first hne
  have hnow : (supTake s.evr).now = s.evr.now := by rw [he]
  refine does_of (f := fun s => { s with evr := supTake s.evr }) ((exec_supQueueTake s).trans (guarded_true hb _)) (fun b _ => same_evr _ _ b)
    ⟨x, hx, hfirst, ?_⟩
  rw [freshCycle_of_intake q.2]
  obtain ⟨h1, h2⟩ := settled_eq (u := { s with evr := supTake s.evr }) q rfl hnow
  exact ⟨h2.trans he, h1⟩

section
variable {s : State} {sess : Fin 4} (h : Opened s sess)
include h

/-- A write of LOG.CTRL or EVR.CTRL, where nothing waits. -/
theorem openLog_does {c : Instr} {f : State → State} {P : State → Prop} (hx : exec c s = openCmd s sess f)
    (hs : ∀ u (b : Block), b.Same u (f u)) (hp : Quiet s → P { settle (f s) with pending := s.pending }) : Does c s [] (fun t => Quiet s → P t) := by
  refine does_of (hx.trans (openCmd_of h f)) (fun b _ => hs _ b) fun q => ?_
  rw [freshCycle_of_intake q.2]
  exact hp q

theorem logFlush_does : Does (.logFlush sess) s [] (fun t => Quiet s → t.log = if s.log.buf = [] then { s.log with cmdLeft := 0 } else
    { s.log with flush := if s.log.flush = .idle then .command else s.log.flush
                 flushLeft := max s.log.flushLeft s.log.buf.length, cmdLeft := s.log.buf.length }) := by
  refine openLog_does h (f := fun s => logCtrlWrite s true false) rfl (fun u b => same_log u _ b) fun q => ?_
  have hfresh : (logCtrlWrite s true false).log.fresh = s.log.fresh := by
    show (startFlush s.log .command s.log.buf.length).fresh = _
    simp
  rw [(settled_eq (u := logCtrlWrite s true false) q hfresh rfl).1]
  show { startFlush s.log .command s.log.buf.length with cmdLeft := s.log.buf.length } = _
  unfold startFlush
  by_cases hb : s.log.buf = []
  · rw [if_pos (by rw [hb]; rfl), if_pos hb, hb]
    rfl
  · rw [if_neg (by rw [List.length_eq_zero_iff]; exact hb), if_neg hb]
    simp

theorem logClrCnt_does : Does (.logClrCnt sess) s [] (fun t => Quiet s → t.log = { s.log with dbDrop := 0, lost := 0, failCnt := 0 }) :=
  openLog_does h (f := fun s => logCtrlWrite s false true) rfl (fun u b => same_log u _ b) fun q =>
    (settled_eq (u := logCtrlWrite s false true) q rfl rfl).1

theorem evrClrCnt_does : Does (.evrClrCnt sess) s [] (fun t => Quiet s → t.evr = { s.evr with drop := 0, raiseCnt := Vector.replicate 512 0 }) :=
  openLog_does h (f := evrClr) rfl (fun u b => same_evr u _ b) fun q => (settled_eq (u := evrClr s) q rfl rfl).2

end

end Sys2Proof.Machine
end

section
/-! O43: the engineering requests for the Ledger, captured frames and keys (R334, R335, R343, R381–R383), and the obligation put together. -/

namespace Sys2Proof.Machine
open Sys2Proof

/-! ### LOG at a request -/

theorem seenBy_log {s : State} (q : Quiet s) (d : Dgram) (i : Fin 4) : (seenBy s d i).log = s.log := by
  show (freshCycle s).log = s.log
  rw [freshCycle_of_intake q.2]

/-- An item handed to LOG where nothing waits makes a record, and the buffer has room for what follows it. -/
theorem recorded_of_item {s w v : State} {own : Bool} {code source sev n : Nat} {payload : List Byte} {p : List Instr}
    (hc : code < 65536) (hsr : source < 65536) (hv : sev < 8) (hn : n ≤ 50) (hw : Quiet s → w.log.fresh = [] ∧ w.log.buf = s.log.buf)
    (h : Hands n (logItem w true own code source sev payload) v) :
    Recorded s { settle v with pending := p } code source sev payload := by
  intro q hlen
  obtain ⟨hf, hb⟩ := hw q
  obtain ⟨hmem, hfresh, g, hg⟩ := (Hands.refl w).mem_fresh h hf
  have hbuf : v.log.buf = s.log.buf := by rw [hg]; exact hb
  obtain ⟨r, -, hb, hr⟩ := settle_of_room (s := v) (by rw [hbuf]; omega)
  obtain ⟨x, hx, h1, h2, h3, h4, h5⟩ := hr _ hmem rfl
  refine ⟨x, ?_, ?_, ?_, ?_, h4, h5⟩
  · show x ∈ (settle v).log.buf
    rw [hb]
    exact List.mem_append_right _ hx
  · rw [h1]; simp [itemOf]; omega
  · rw [h2]; simp [itemOf]; omega
  · rw [h3]; simp [itemOf]; omega

section
variable {s : State} {d : Dgram} {i : Fin 4} {x : Sess}

/-- What LOG keeps of a request's work once it is answered. -/
theorem takes_answered {op : Byte} {st : Nat} {pl : List Byte} {v : State} (ha : alive v = true) :
    v.log.Takes (settle (answer v d i x op st pl)).log := (hands_answer ha op st pl).takes.trans (takes_settle _)

/-! ### LOG_READ (R334, R381) -/

theorem works_dbRead (n i : Nat) (u : State) : Works [] u (dbRead n i u).2 := by
  induction n generalizing i u with
  | zero => exact .refl [] u
  | succ n ih =>
    show Works [] u (dbRead n (i + 1) (match u.log.ring.find? (fun e : DbEntry => e.num.toNat % 16384 == i % 16384) with
      | some e => (e.bytes, u)
      | none => drawBytes 32 u).2).2
    cases u.log.ring.find? (fun e : DbEntry => e.num.toNat % 16384 == i % 16384) with
    | some e => exact ih (i + 1) u
    | none => exact ((Works.refl [] u).drawBytes 32).trans (ih (i + 1) _)

/-- What LOG_READ takes for malformed (R335). -/
def logReadBad (d : Dgram) : Bool :=
  d.payload.length ≠ 8 || rd d.payload 0 1 > 3 || (rd d.payload 0 1 = 1 && rd d.payload 4 4 ≥ 4096) ||
    (rd d.payload 0 1 = 2 && rd d.payload 4 4 ≥ 65536) || (rd d.payload 0 1 = 3 && rd d.payload 4 4 ≥ 64)

theorem exec_logRead (s : State) (d : Dgram) : exec (.logRead d) s = requestCmd s 0x40 d 0 (logReadBad d)
    (fun s _ _ => logRead s (rd d.payload 0 1) (rd d.payload 4 4) (rd d.payload 2 2)) := rfl

/-- A record's bytes as LOG_READ gives them. -/
def recordBytes (u : State) (log first j : Nat) : List Byte :=
  if log = 1 then slotBytes (aget u.log.perm (first + j))
  else if log = 2 then slotBytes (aget u.log.circ ((first + j) % 65536)) else slotBytes ((u.log.hist[first + j]?).map Slot.good)

theorem logRead_served (h : Requested s 0x40 d i x) :
    let g := rd d.payload 0 1
    let first := rd d.payload 4 4
    let n := logCount g first (rd d.payload 2 2)
    Served (.logRead d) s 0x40 d i x 0
      (d.payload.length ≠ 8 ∨ 3 < g ∨ (g = 1 ∧ 4096 ≤ first) ∨ (g = 2 ∧ 65536 ≤ first) ∨ (g = 3 ∧ 64 ≤ first))
      ((g = 0 → Replies (.logRead d) s 0x40 d i x [] s.net 0 (leN 2 n ++ [0, 0] ++ (dbRead n first (seenBy s d i)).1) (fun _ => True)) ∧
       (g ≠ 0 → Replies (.logRead d) s 0x40 d i x [] s.net 0
         (leN 2 n ++ [0, 0] ++ (List.range n).flatMap (recordBytes (seenBy s d i) g first)) (fun _ => True))) := by
  intro g first n
  have hx := exec_logRead s d
  refine served_of hx h (by simp [logReadBad, or_assoc, g, first]) fun hb hrole => ⟨fun h0 => ?_, fun h0 => replies_only hx h hb hrole (if_neg h0)⟩
  have hr := works_dbRead n first (seenBy s d i)
  refine replies_of hx h hb hrole (v := (dbRead n first (seenBy s d i)).2) (if_pos h0) (hr.mono (List.nil_subset _)) List.not_mem_nil ?_
    (fun _ _ _ => trivial)
  rw [hr.net_eq List.not_mem_nil]
  exact seenBy_net h

/-! ### LOG_CLEAR_CHAL (R382) -/

/-- LOG_CLEAR_CHAL's operation. -/
def clearChal (i : Fin 4) (s : State) : OpRes :=
  if s.log.lockout then (s, 4, [])
  else
    (modNet (drawBytes 16 s).2 (fun n => { n with clearNonce := some { sess := i.val, nl := (drawBytes 16 s).1, next := s.log.lgNext } }), 0,
      (drawBytes 16 s).1 ++ leN 8 Config.serial.toNat ++ wB s.log.lgNext)

theorem exec_logClearChal (s : State) (d : Dgram) :
    exec (.logClearChal d) s = requestCmd s 0x42 d 2 (d.payload ≠ []) (fun s i _ => clearChal i s) := rfl

theorem logClearChal_served (h : Requested s 0x42 d i x) :
    let u := seenBy s d i
    Served (.logClearChal d) s 0x42 d i x 2 (d.payload ≠ [])
      ((u.log.lockout = true → Replies (.logClearChal d) s 0x42 d i x [] s.net 4 [] (fun _ => True)) ∧
       (u.log.lockout = false → ∃ nl, nl.length = 16 ∧ Replies (.logClearChal d) s 0x42 d i x []
         { s.net with clearNonce := some { sess := i.val, nl := nl, next := u.log.lgNext } } 0
         (nl ++ leN 8 Config.serial.toNat ++ leN 4 u.log.lgNext.toNat) (fun _ => True))) := by
  intro u
  have hx := exec_logClearChal s d
  refine served_of hx h (by simp) fun hb hrole => ⟨fun hl => replies_only hx h hb hrole (if_pos hl), fun hl =>
    ⟨(drawBytes 16 u).1, length_drawBytes 16 u, ?_⟩⟩
  have hn := ((NetBecomes.refl (seenBy_net h)).then ((Works.refl [] _).drawBytes 16)).modNet
    (fun n => { n with clearNonce := some { sess := i.val, nl := (drawBytes 16 u).1, next := u.log.lgNext } })
  exact replies_of hx h hb hrole (if_neg (by rw [hl]; decide)) hn.works List.not_mem_nil hn.net (fun _ _ _ => trivial)

/-! ### LOG_CLEAR (R382, R383) -/

/-- The session's challenge is used up. -/
def nonceUsed (u : State) (i : Fin 4) : State := modNet u (fun n => { n with clearNonce := n.clearNonce.filter (fun c => c.sess ≠ i.val) })

theorem nonceUsed_becomes {op : Byte} (h : Requested s op d i x) : NetBecomes (seenBy s d i) (nonceUsed (seenBy s d i) i)
    (seenNet { s.net with clearNonce := s.net.clearNonce.filter (fun c => c.sess ≠ i.val) } d i x) [] :=
  (NetBecomes.refl (seenBy_net h)).modNet (fun n => { n with clearNonce := n.clearNonce.filter (fun c => c.sess ≠ i.val) })

theorem exec_logClear (s : State) (d : Dgram) : exec (.logClear d) s = requestCmd s 0x43 d 2 (d.payload.length ≠ 36)
    (fun s i x => logClear s i x d.ip (rd d.payload 0 2) (sub d.payload 4 32)) := rfl

/-- LOG once a clear is refused for reason `r`, before the record (R382). -/
def LogBlk.refused (g : LogBlk) (time : BitVec 64) (r : Nat) : LogBlk :=
  let old := g.hmacFails.filter (fun t => time.toNat < t.toNat + 600000000000)
  let g1 := { g with failCnt := satInc g.failCnt }
  if r ≠ 2 then g1
  else if old.length ≥ 2 && !g.lockout then { g1 with lockout := true, lockT0 := time, hmacFails := [] }
  else { g1 with hmacFails := time :: old }

theorem clearRefused_eq (s : State) (keyId : Byte) (ip : Word) (r : Nat) : clearRefused s keyId ip r =
    raise (logItem (modLog s (fun g => g.refused s.stn.time r)) true true 0x5806 noSrc sevNotice ([BitVec.ofNat 8 r, keyId, 0, 0] ++ leN 4 ip.toNat))
      492 := rfl

theorem LogBlk.refused_fields (g : LogBlk) (time : BitVec 64) (r : Nat) :
    (g.refused time r).failCnt = satInc g.failCnt ∧ (g.refused time r).clearStep = g.clearStep ∧ (g.refused time r).fresh = g.fresh ∧
      (g.refused time r).buf = g.buf ∧ (r ≠ 2 → (g.refused time r).lockout = g.lockout ∧ (g.refused time r).hmacFails = g.hmacFails) := by
  unfold LogBlk.refused
  dsimp only
  split
  · exact ⟨rfl, rfl, rfl, rfl, fun _ => ⟨rfl, rfl⟩⟩
  next h2 => split <;> exact ⟨rfl, rfl, rfl, rfl, fun h => absurd h h2⟩

/-- A LOG_CLEAR that is refused is counted and recorded. -/
theorem logClear_refused (h : Requested s 0x43 d i x) (hb : decide (d.payload.length ≠ 36) = false) (hrole : 2 ≤ x.role) {r : Nat}
    (hr : clearReason (seenBy s d i) i (rd d.payload 0 2) (sub d.payload 4 32) = r) (h0 : r ≠ 0) :
    Replies (.logClear d) s 0x43 d i x [] { s.net with clearNonce := s.net.clearNonce.filter (fun c => c.sess ≠ i.val) } 4 [] (fun t =>
      (Settled s → Raised t 492) ∧ Recorded s t 0x5806 0xFFFF 1 ([BitVec.ofNat 8 r, x.keyId, 0, 0] ++ leN 4 d.ip.toNat) ∧
        (Quiet s → t.log.failCnt = satInc s.log.failCnt ∧ t.log.clearStep = s.log.clearStep ∧
          (r ≠ 2 → t.log.lockout = s.log.lockout ∧ t.log.hmacFails = s.log.hmacFails))) := by
  have hu := nonceUsed_becomes (i := i) h
  have hw := ((Works.refl [] (nonceUsed (seenBy s d i) i)).modLog (fun g => g.refused (nonceUsed (seenBy s d i) i).stn.time r)).logItem true true 0x5806
    noSrc sevNotice ([BitVec.ofNat 8 r, x.keyId, 0, 0] ++ leN 4 d.ip.toNat)
  have hv := (hu.then hw).raise (i := 492) (by decide)
  rw [← clearRefused_eq] at hv
  have hres : logClear (seenBy s d i) i x d.ip (rd d.payload 0 2) (sub d.payload 4 32) =
      (clearRefused (nonceUsed (seenBy s d i) i) x.keyId d.ip r, 4, []) := by
    unfold logClear
    dsimp only
    rw [hr, if_pos h0]
    rfl
  refine replies_of (exec_logClear s d) h hb hrole hres hv.works List.not_mem_nil hv.net fun t ht ha => ⟨fun hs => ?_, ?_, fun q => ?_⟩ <;> subst ht
  · exact (hv.raised ((works_seenBy s d i).now hs.nowRaised) 492 List.mem_cons_self).answered ha
  · refine recorded_of_item (w := modLog (nonceUsed (seenBy s d i) i) (fun g => g.refused (nonceUsed (seenBy s d i) i).stn.time r)) (n := 2)
      (by decide) (by decide) (by decide) (by decide) (fun q => ?_) (((Hands.refl _).raise 492).trans (hands_answer ha ..))
    obtain ⟨-, -, k3, k4, -⟩ := (seenBy s d i).log.refused_fields (nonceUsed (seenBy s d i) i).stn.time r
    exact ⟨k3.trans ((congrArg LogBlk.fresh (seenBy_log q d i)).trans q.1.2), k4.trans (congrArg LogBlk.buf (seenBy_log q d i))⟩
  · have ht := (((Hands.refl (modLog (nonceUsed (seenBy s d i) i) (fun g => g.refused (nonceUsed (seenBy s d i) i).stn.time r))).logItem true true
      0x5806 noSrc sevNotice ([BitVec.ofNat 8 r, x.keyId, 0, 0] ++ leN 4 d.ip.toNat)).raise 492).takes
    rw [← clearRefused_eq] at ht
    have hk := ht.trans (takes_answered (d := d) (i := i) (x := x) (op := 0x43) (st := 4) (pl := []) ha)
    obtain ⟨k1, k2, -, -, k5⟩ := (seenBy s d i).log.refused_fields (nonceUsed (seenBy s d i) i).stn.time r
    rw [← seenBy_log q d i]
    exact ⟨hk.failCnt.trans k1, hk.clearStep.trans k2, fun h2 => ⟨hk.lockout.trans (k5 h2).1, hk.hmacFails.trans (k5 h2).2⟩⟩

/-- The item of a CLEAR record (R382). -/
def clearItem (s : State) (old : Word) (keyId : Byte) (ip : Word) (reason : Nat) : LogItem :=
  { code := 0x5805, source := BitVec.ofNat 16 noSrc, sev := BitVec.ofNat 3 sevNotice, ledger := true
    payload := wB old ++ wB (s.log.lgNext - 1) ++ leN 2 reason ++ [keyId, 0] ++ leN 4 ip.toNat
    stamp := s.stn.time, own := true }

/-- LOG once a clear is accepted (R383). -/
def LogBlk.clearing (g : LogBlk) (c : Word) : LogBlk :=
  startFlush { g with hist := g.hist ++ (g.buf.getLast?.map (fun x => [x.1])).getD [], clearStep := 2, clearSeq := c } .command g.buf.length

theorem clearStart_eq (s : State) (keyId : Byte) (ip : Word) (reason : Nat) : ∃ old k,
    clearStart s keyId ip reason = (s.log.lgNext, { s with
      log := (logPut s.log (lgStandby s) 4 (clearItem s old keyId ip reason)).1.clearing s.log.lgNext, free := k }) := by
  unfold clearStart
  split
  case h_1 q s1 he =>
    cases hc : clearOldest s.log with
    | some q' =>
      rw [hc] at he
      cases he
      exact ⟨q, s.free, rfl⟩
    | none =>
      rw [hc] at he
      cases he
      exact ⟨_, _, rfl⟩

theorem logPut_ledger_buf {g : LogBlk} {it : LogItem} (h : g.buf.length < 256) (hl : it.ledger = true) (b : Bool) (n : Nat) :
    (logPut g b n it).1.buf = g.buf ++ [(ledgerRec g b it false it.payload, it.own)] := by
  obtain ⟨-, hx⟩ := lgMake_of_room h b it false it.payload
  unfold logPut
  simp only [hl, Bool.not_true, Bool.false_and, if_true, Bool.false_eq_true, if_false]
  split
  · exact hx
  · split
    · exact hx
    · split <;> exact hx

/-- LOG flushes up to the CLEAR record, which stands in the clear history (R383). -/
theorem clearing_spec {g : LogBlk} {it : LogItem} (h : g.buf.length < 256) (hl : it.ledger = true) (b : Bool) (c : Word) :
    let k := (logPut g b 4 it).1.clearing c
    k.clearStep = 2 ∧ k.clearSeq = c ∧ k.flush ≠ .idle ∧ k.hist = g.hist ++ [ledgerRec g b it false it.payload] := by
  have hh := (takes_logPut g b 4 it).hist
  have hbuf := logPut_ledger_buf h hl b 4
  generalize (logPut g b 4 it).1 = k at hh hbuf ⊢
  intro m
  have hm : m = { k with
      hist := g.hist ++ [ledgerRec g b it false it.payload], clearStep := 2, clearSeq := c
      flush := if k.flush == .idle then .command else k.flush, flushLeft := max k.flushLeft k.buf.length } := by
    show k.clearing c = _
    unfold LogBlk.clearing startFlush
    rw [if_neg (by rw [hbuf]; simp), hbuf, hh]
    simp
  rw [hm]
  refine ⟨rfl, rfl, ?_, rfl⟩
  show (if (k.flush == FlushKind.idle) = true then FlushKind.command else k.flush) ≠ _
  split
  · decide
  next hne => simpa using hne

/-- A LOG_CLEAR that is accepted (R382, R383). -/
theorem logClear_accepted (h : Requested s 0x43 d i x) (hb : decide (d.payload.length ≠ 36) = false) (hrole : 2 ≤ x.role)
    (hr : clearReason (seenBy s d i) i (rd d.payload 0 2) (sub d.payload 4 32) = 0) (hlen : (seenBy s d i).log.buf.length < 256) :
    Replies (.logClear d) s 0x43 d i x [] { s.net with clearNonce := s.net.clearNonce.filter (fun c => c.sess ≠ i.val) } 0
      (leN 4 (seenBy s d i).log.lgNext.toNat) (fun t => Quiet s → t.log.clearStep = 2 ∧ t.log.clearSeq = s.log.lgNext ∧ t.log.flush ≠ .idle ∧
        ∃ c, t.log.hist = s.log.hist ++ [c] ∧ c.seq = s.log.lgNext ∧ c.code.toNat = 0x5805) := by
  have hu := nonceUsed_becomes (i := i) h
  obtain ⟨old, k, he⟩ := clearStart_eq (nonceUsed (seenBy s d i) i) x.keyId d.ip (rd d.payload 0 2)
  generalize hit : clearItem (nonceUsed (seenBy s d i) i) old x.keyId d.ip (rd d.payload 0 2) = it at he
  generalize hv : ({ nonceUsed (seenBy s d i) i with log := _, free := k } : State) = v at he
  have hres : logClear (seenBy s d i) i x d.ip (rd d.payload 0 2) (sub d.payload 4 32) = (v, 0, wB (seenBy s d i).log.lgNext) := by
    unfold logClear
    dsimp only
    rw [hr, if_neg (not_not.2 rfl), if_neg (Nat.not_le.2 hlen)]
    show ((clearStart (nonceUsed (seenBy s d i) i) x.keyId d.ip (rd d.payload 0 2)).2, 0, wB (clearStart (nonceUsed (seenBy s d i) i) x.keyId d.ip
      (rd d.payload 0 2)).1) = _
    rw [he]
    rfl
  have hw : Works [] (nonceUsed (seenBy s d i) i) v := by
    rw [← hv]
    exact .of_same (fun b _ => (same_log _ _ b).trans (same_free _ k b)) rfl
  refine replies_of (exec_logClear s d) h hb hrole hres (hu.then hw).works List.not_mem_nil (hu.then hw).net fun t ht ha q => ?_
  subst ht
  obtain ⟨k1, k2, k3, k4⟩ := clearing_spec hlen (it := it) (by rw [← hit]; rfl) (lgStandby (nonceUsed (seenBy s d i) i)) (seenBy s d i).log.lgNext
  have hlog : v.log = (logPut (seenBy s d i).log (lgStandby (nonceUsed (seenBy s d i) i)) 4 it).1.clearing (seenBy s d i).log.lgNext := by
    rw [← hv]
    rfl
  rw [← hlog] at k1 k2 k3 k4
  have hk : v.log.Takes (settle (answer v d i x 0x43 0 (wB (seenBy s d i).log.lgNext))).log := takes_answered ha
  rw [← seenBy_log q d i]
  refine ⟨hk.clearStep.trans k1, hk.clearSeq.trans k2, hk.flush k3, _, hk.hist.trans k4, rfl, ?_⟩
  rw [← hit]
  rfl

theorem logClear_served (h : Requested s 0x43 d i x) :
    let u := seenBy s d i
    let reason := rd d.payload 0 2
    let r := clearReason u i reason (sub d.payload 4 32)
    let used := { s.net with clearNonce := s.net.clearNonce.filter (fun c => c.sess ≠ i.val) }
    Served (.logClear d) s 0x43 d i x 2 (d.payload.length ≠ 36)
      ((r ≠ 0 → Replies (.logClear d) s 0x43 d i x [] used 4 [] (fun t => (Settled s → Raised t 492) ∧
         Recorded s t 0x5806 0xFFFF 1 ([BitVec.ofNat 8 r, x.keyId, 0, 0] ++ leN 4 d.ip.toNat) ∧
         (Quiet s → t.log.failCnt = satInc s.log.failCnt ∧ t.log.clearStep = s.log.clearStep ∧
           (r ≠ 2 → t.log.lockout = s.log.lockout ∧ t.log.hmacFails = s.log.hmacFails)))) ∧
       (r = 0 → 256 ≤ u.log.buf.length → Replies (.logClear d) s 0x43 d i x [] used 5 [] (fun _ => True)) ∧
       (r = 0 → u.log.buf.length < 256 → Replies (.logClear d) s 0x43 d i x [] used 0 (leN 4 u.log.lgNext.toNat) (fun t =>
         Quiet s → t.log.clearStep = 2 ∧ t.log.clearSeq = s.log.lgNext ∧ t.log.flush ≠ .idle ∧
           ∃ c, t.log.hist = s.log.hist ++ [c] ∧ c.seq = s.log.lgNext ∧ c.code.toNat = 0x5805))) := by
  intro u reason r used
  have hx := exec_logClear s d
  refine served_of hx h (by simp) fun hb hrole => ⟨fun h0 => logClear_refused h hb hrole rfl h0, fun h0 hfull => ?_,
    fun h0 hlen => logClear_accepted h hb hrole h0 hlen⟩
  have hn := nonceUsed_becomes (i := i) h
  refine replies_of hx h hb hrole (v := nonceUsed u i) ?_ hn.works List.not_mem_nil hn.net (fun _ _ _ => trivial)
  unfold logClear
  dsimp only
  rw [if_neg (not_not.2 h0), if_pos hfull]
  rfl

/-! ### CAN_CAPTURE (R334, R335) -/

/-- CAN_CAPTURE's operation on controller `k`. -/
def framesTaken (s : State) (k : Fin 8) (n : Nat) : OpRes :=
  let c := s.can.ctl[k]
  let l := c.cap.take n
  (modCan s k (fun c => { c with cap := c.cap.drop n }), 0,
    [BitVec.ofNat 8 l.length, 0, 0, 0] ++ leN 4 (c.wakeDm.toNat / 2 ^ 32) ++ l.flatMap capBytes)

theorem exec_canCapture (s : State) (d : Dgram) : exec (.canCapture d) s = requestCmd s 0x44 d 0
    (d.payload.length ≠ 4 || rd d.payload 0 1 > 7 || rd d.payload 1 1 = 0 || rd d.payload 1 1 > 16)
    (fun s _ _ => framesTaken s (Fin.ofNat 8 (rd d.payload 0 1)) (rd d.payload 1 1)) := rfl

theorem canCapture_served (h : Requested s 0x44 d i x) :
    let k := rd d.payload 0 1
    let n := rd d.payload 1 1
    Served (.canCapture d) s 0x44 d i x 0 (d.payload.length ≠ 4 ∨ 7 < k ∨ n = 0 ∨ 16 < n)
      (∀ q : Fin 8, q.val = k →
        let l := s.can.ctl[q].cap.take n
        Replies (.canCapture d) s 0x44 d i x [.can] s.net 0
          ([BitVec.ofNat 8 l.length, 0, 0, 0] ++ leN 4 (s.can.ctl[q].wakeDm.toNat / 2 ^ 32) ++ l.flatMap capBytes) (fun t =>
            ∀ j : Fin 8, t.can.ctl[j] = if j = q then { s.can.ctl[q] with cap := s.can.ctl[q].cap.drop n } else s.can.ctl[j])) := by
  intro k n
  have hx := exec_canCapture s d
  refine served_of hx h (by simp [or_assoc, k, n]) fun hb hrole q hq => ?_
  have hk : Fin.ofNat 8 (rd d.payload 0 1) = q := Fin.ext (by
    show rd d.payload 0 1 % 8 = q.val
    have := q.isLt
    omega)
  have hcan : (seenBy s d i).can = s.can := freshCycle_can s
  have hc := (CanBecomes.refl (s := seenBy s d i) (k := q) rfl).modCan (fun c => { c with cap := c.cap.drop n })
  refine replies_of hx h hb hrole (v := modCan (seenBy s d i) q (fun c => { c with cap := c.cap.drop n })) ?_
    (hc.works.mono (List.subset_cons_self _ _)) (by decide) ((hc.works.net_eq (by decide)).trans (seenBy_net h)) fun t ht ha j => ?_
  · rw [hk]
    unfold framesTaken
    rw [hcan]
  · have he : t.can = (modCan (seenBy s d i) q (fun c => { c with cap := c.cap.drop n })).can := by
      rw [ht]
      exact answered_same ha (b := .can) (by decide)
    have hj := hc.ctl j
    rw [hcan] at hj
    rw [he]
    exact hj

/-! ### KEY_SET (R330, R335, R343) -/

/-- KEY_SET's operation. -/
def keySetOp (d : Dgram) (s : State) (i : Fin 4) : OpRes :=
  if rd d.payload 0 1 = 0 && rd d.payload 1 1 = 0 then (s, 4, [])
  else (logLedger (keySet s (rd d.payload 0 1) (rd d.payload 1 1) (d.payload.getD 2 0) (rd d.payload 3 1) (sub d.payload 4 32)) 0x6000 i.val sevMajor
    [BitVec.ofNat 8 (rd d.payload 0 1), BitVec.ofNat 8 (rd d.payload 1 1)], 0, [])

theorem exec_keySet (s : State) (d : Dgram) : exec (.keySet d) s = requestCmd s 0x50 d 3
    (d.payload.length ≠ 36 || rd d.payload 0 1 > 2 || rd d.payload 1 1 ≥ keyRoom (rd d.payload 0 1) || (rd d.payload 0 1 = 0 && rd d.payload 3 1 > 3))
    (fun s i _ => keySetOp d s i) := rfl

/-- A key is written and recorded, by what the writing changes. -/
theorem keySet_replies (h : Requested s 0x50 d i x)
    (hb : (d.payload.length ≠ 36 || rd d.payload 0 1 > 2 || rd d.payload 1 1 ≥ keyRoom (rd d.payload 0 1) ||
      (rd d.payload 0 1 = 0 && rd d.payload 3 1 > 3)) = false) (hrole : 3 ≤ x.role) (h0 : ¬ (rd d.payload 0 1 = 0 ∧ rd d.payload 1 1 = 0))
    {v : State} {l : List Block} {n : NetBlk} {P : State → Prop}
    (hv : keySet (seenBy s d i) (rd d.payload 0 1) (rd d.payload 1 1) (d.payload.getD 2 0) (rd d.payload 3 1) (sub d.payload 4 32) = v)
    (hw : Works (.net :: l) (seenBy s d i) v) (hlog : v.log = (seenBy s d i).log) (hl : Block.pwr ∉ l) (hn : v.net = seenNet n d i x)
    (hp : ∀ t, t.img = v.img → P t) :
    Replies (.keySet d) s 0x50 d i x l n 0 [] (fun t => Recorded s t 0x6000 i.val 3
      [BitVec.ofNat 8 (rd d.payload 0 1), BitVec.ofNat 8 (rd d.payload 1 1)] ∧ P t) := by
  have hw2 := hw.logLedger 0x6000 i.val sevMajor [BitVec.ofNat 8 (rd d.payload 0 1), BitVec.ofNat 8 (rd d.payload 1 1)]
  refine replies_of (exec_keySet s d) h hb hrole (v := logLedger v 0x6000 i.val sevMajor
    [BitVec.ofNat 8 (rd d.payload 0 1), BitVec.ofNat 8 (rd d.payload 1 1)]) ?_ hw2 hl hn fun t ht ha => ?_
  · unfold keySetOp
    rw [if_neg (by simpa using h0), hv]
  · subst ht
    have hi := i.isLt
    exact ⟨recorded_of_item (n := 1) (by decide) (by omega) (by decide) (by decide)
      (fun q => by rw [hlog, seenBy_log q]; exact ⟨q.1.2, rfl⟩) (hands_answer ha ..), hp _ (answered_same ha (b := .img) (by decide))⟩

theorem keySet_served (h : Requested s 0x50 d i x) :
    let kind := rd d.payload 0 1
    let ent := rd d.payload 1 1
    let role := rd d.payload 3 1
    let key := sub d.payload 4 32
    let recorded := fun (t : State) => Recorded s t 0x6000 i.val 3 [BitVec.ofNat 8 kind, BitVec.ofNat 8 ent]
    Served (.keySet d) s 0x50 d i x 3
      (d.payload.length ≠ 36 ∨ 2 < kind ∨ keyRoom kind ≤ ent ∨ (kind = 0 ∧ 3 < role))
      ((kind = 0 → ent = 0 → Replies (.keySet d) s 0x50 d i x [] s.net 4 [] (fun _ => True)) ∧
       (kind = 0 → ent ≠ 0 → Replies (.keySet d) s 0x50 d i x []
         { s.net with keys := vmodN s.net.keys ent (fun _ => some { keyId := d.payload.getD 2 0, role := role, secret := key }) } 0 [] recorded) ∧
       (kind = 1 → Replies (.keySet d) s 0x50 d i x [.img] s.net 0 [] (fun t => recorded t ∧
         t.img = { s.img with imgKeys := vmodN s.img.imgKeys ent (fun _ => key) })) ∧
       (kind = 2 → Replies (.keySet d) s 0x50 d i x [.img] s.net 0 [] (fun t => recorded t ∧
         t.img = { s.img with safKeys := vmodN s.img.safKeys ent (fun _ => key) }))) := by
  intro kind ent role key recorded
  have hx := exec_keySet s d
  have himg : (seenBy s d i).img = s.img := freshCycle_img s
  have hset (f : Img → Img) : Works [.net, .img] (seenBy s d i) (modImg (seenBy s d i) f) ∧ (modImg (seenBy s d i) f).net = seenNet s.net d i x :=
    ⟨(works_modImg _ f).mono (List.subset_cons_self _ _), seenBy_net h⟩
  refine served_of hx h (by simp [or_assoc, kind, ent, role]) fun hb hrole => ⟨fun h0 h1 => replies_only hx h hb hrole (if_pos (by
    rw [decide_eq_true h0, decide_eq_true h1]
    rfl)), fun h0 h1 => ?_, fun h0 => ?_, fun h0 => ?_⟩
  · have hn := (NetBecomes.refl (seenBy_net h)).modNet (fun n => { n with
      keys := vmodN n.keys ent (fun _ => some { keyId := d.payload.getD 2 0, role := role, secret := key }) })
    refine (keySet_replies h hb hrole (fun hz => h1 hz.2) (v := modNet (seenBy s d i) (fun n => { n with
      keys := vmodN n.keys ent (fun _ => some { keyId := d.payload.getD 2 0, role := role, secret := key }) })) ?_ hn.works rfl
      List.not_mem_nil hn.net (P := fun _ => True) (fun _ _ => trivial)).imp fun t ht => ⟨ht.1, ht.2.1⟩
    rw [show rd d.payload 0 1 = 0 from h0]
    rfl
  · refine keySet_replies h hb hrole (fun hz => absurd (h0.symm.trans hz.1) (by decide)) (v := modImg (seenBy s d i) (fun j => { j with
      imgKeys := vmodN j.imgKeys ent (fun _ => key) })) ?_ (hset _).1 rfl (by decide) (hset _).2 fun t ht => ?_
    · rw [show rd d.payload 0 1 = 1 from h0]
      rfl
    · rw [ht, ← himg]
      rfl
  · refine keySet_replies h hb hrole (fun hz => absurd (h0.symm.trans hz.1) (by decide)) (v := modImg (seenBy s d i) (fun j => { j with
      safKeys := vmodN j.safKeys ent (fun _ => key) })) ?_ (hset _).1 rfl (by decide) (hset _).2 fun t ht => ?_
    · rw [show rd d.payload 0 1 = 2 from h0]
      rfl
    · rw [ht, ← himg]
      rfl

end
end Sys2Proof.Machine

open Sys2Proof Sys2Proof.Machine

/-- Settles O43: what LOG's intake leaves alone at the end of every command (`LogBlk.Takes`) carries each change of LOG to the state after it;
the datagrams are served like every other request. -/
theorem ledgerCommands : Obligations.LedgerCommands := by
  refine ⟨fun s => ⟨fun r own rest q ha hf hl hb hr => ⟨?_, ?_⟩, fun ha => ⟨clearDone_does ha, clearLockoutEnd_does ha, fun hc => ?_,
    fun q hne => supQueueTake_does ha q hne⟩, fun sess h => ⟨logFlush_does h, logClrCnt_does h, evrClrCnt_does h⟩⟩,
    fun s d i x => ⟨logRead_served, logClearChal_served, logClear_served, canCapture_served, keySet_served⟩⟩
  · refine (flushRecordDone_does q ha hf hl hb hr true).imp fun t ht => ?_
    obtain ⟨circ, perm, ⟨⟨y, hy, hgood, -⟩, -, hperm⟩, hc, hp, hbuf, herr, htw, -⟩ := ht
    rw [hgood rfl] at hy
    rw [hc, hp, hy]
    refine ⟨aget_aset_self _ _ _, fun n hn => aget_aset_ne _ _ (Ne.symm hn), fun hlt => ?_, hbuf, by rw [herr, Bool.not_true, Bool.or_false], htw⟩
    have hmod : r.seq.toNat % 65536 = r.seq.toNat := Nat.mod_eq_of_lt (by omega)
    rw [hmod] at hperm
    obtain ⟨-, hset⟩ | ⟨hsame, hq⟩ := hperm rfl
    · exact .inl (by rw [hset]; exact aget_aset_self _ _ _)
    · exact .inr ((hq hlt).imp fun _ h => ⟨h, hsame⟩)
  · refine (flushRecordDone_does q ha hf hl hb hr false).imp fun t ht => ?_
    obtain ⟨circ, perm, ⟨⟨y, hy, -, hbad⟩, hperm, -⟩, hc, hp, hbuf, herr, -, hra⟩ := ht
    obtain ⟨n, rfl⟩ := hbad rfl
    rw [hc, hp, hy]
    exact ⟨⟨n, aget_aset_self _ _ _⟩, fun m hm => aget_aset_ne _ _ (Ne.symm hm), hperm rfl, hbuf, by rw [herr, Bool.not_false, Bool.or_true], hra rfl⟩
  · have hb : (alive s && s.net.clearNonce.isSome) = true := by rw [ha, Option.isSome_iff_ne_none.2 hc]; rfl
    exact netSilently_of (exec_clearChallengeLapse s) hb
end

section
/-! What a warm reset keeps and what it leaves (R389, R390), which O56 and O57 share. -/

namespace Sys2Proof.Machine
open Sys2Proof

/-! ### What outlives a warm reset -/

/-- From `s` to `t` nothing changes that a warm reset keeps (R390). -/
structure Survives (s t : State) : Prop where
  fld : t.fld = s.fld
  saf : t.saf = s.saf
  qp : t.qp = s.qp
  can : t.can = s.can
  stk : t.stk = s.stk
  pair : t.pair = s.pair
  keys : t.net.keys = s.net.keys
  img : t.img.afterReset = s.img.afterReset
  stn : t.stn.afterWarm = { s.stn.afterWarm with olcResult := t.stn.olcResult }
  pf : t.pwr.pf = s.pwr.pf
  warmCnt : t.pwr.warmCnt = s.pwr.warmCnt
  pcyc : t.log.pcyc = s.log.pcyc
  opms : t.log.opms = s.log.opms

theorem Survives.refl (s : State) : Survives s s := ⟨rfl, rfl, rfl, rfl, rfl, rfl, rfl, rfl, rfl, rfl, rfl, rfl, rfl⟩

theorem Survives.trans {s t u : State} (h : Survives s t) (k : Survives t u) : Survives s u where
  fld := k.fld.trans h.fld
  saf := k.saf.trans h.saf
  qp := k.qp.trans h.qp
  can := k.can.trans h.can
  stk := k.stk.trans h.stk
  pair := k.pair.trans h.pair
  keys := k.keys.trans h.keys
  img := k.img.trans h.img
  stn := by rw [k.stn, h.stn]
  pf := k.pf.trans h.pf
  warmCnt := k.warmCnt.trans h.warmCnt
  pcyc := k.pcyc.trans h.pcyc
  opms := k.opms.trans h.opms

/-- Work on no block, LOG's clock standing. -/
theorem Survives.of_works {s t : State} (h : Works [] s t) (hp : t.log.pcyc = s.log.pcyc) (ho : t.log.opms = s.log.opms) : Survives s t where
  fld := h.same .fld List.not_mem_nil
  saf := h.same .saf List.not_mem_nil
  qp := h.same .qp List.not_mem_nil
  can := h.same .can List.not_mem_nil
  stk := h.same .stk List.not_mem_nil
  pair := h.pair_eq List.not_mem_nil
  keys := by rw [h.net_eq List.not_mem_nil]
  img := by rw [h.img_eq List.not_mem_nil]
  stn := by rw [h.stn_eq List.not_mem_nil]; rfl
  pf := by rw [h.pwr_eq List.not_mem_nil]
  warmCnt := by rw [h.pwr_eq List.not_mem_nil]
  pcyc := hp
  opms := ho

theorem LogBlk.Takes.clock {g h : LogBlk} (k : g.Takes h) : h.pcyc = g.pcyc ∧ h.opms = g.opms :=
  ⟨show h.still.pcyc = g.still.pcyc by rw [k.still], show h.still.opms = g.still.opms by rw [k.still]⟩

theorem Survives.of_takes {s t : State} (h : Works [] s t) (k : s.log.Takes t.log) : Survives s t := .of_works h k.clock.1 k.clock.2

theorem Survives.of_hands {n : Nat} {s t : State} (h : Works [] s t) (k : Hands n s t) : Survives s t := .of_takes h k.takes

theorem survives_raise (s : State) (n : Nat) : Survives s (raise s n) := .of_hands ((Works.refl [] s).raise n) ((Hands.refl s).raise n)

theorem survives_logItem (s : State) (ledger own : Bool) (code source sev : Nat) (payload : List Byte) :
    Survives s (logItem s ledger own code source sev payload) :=
  .of_hands ((Works.refl [] s).logItem ..) ((Hands.refl s).logItem ..)

theorem Survives.ite {s t u : State} {c : Prop} [Decidable c] (h : Survives s t) (k : Survives s u) : Survives s (if c then t else u) := by
  split
  · exact h
  · exact k

theorem works_logPass (s : State) : Works [] s (logPass s) := by
  rw [logPass_def]
  dsimp only
  split
  · exact ((Works.refl [] s).modLog (fun _ => _)).raise 488
  · exact (Works.refl [] s).modLog (fun _ => _)

theorem survives_logPass (s : State) : Survives s (logPass s) := .of_takes (works_logPass s) (takes_logPass s)

theorem takes_logDrain (n : Nat) (b : Bool) (g : LogBlk) : g.Takes (logDrain n b g).1 := by
  induction n generalizing g with
  | zero => exact .refl g
  | succ n ih =>
    unfold logDrain
    cases hi : g.intake with
    | nil => exact .refl g
    | cons it r =>
      dsimp only
      have h1 : g.Takes (dbStore { g with intake := r } it) := ⟨rfl, id⟩
      cases !it.ledger && decide (it.sev.toNat ≥ 3) with
      | true => exact (h1.trans (takes_lgMake _ b it true _)).trans (ih _)
      | false => exact h1.trans (ih _)

theorem takes_freshCycle (s : State) : s.log.Takes (freshCycle s).log := by
  have h := takes_logDrain 4 (lgStandby s) s.log
  unfold freshCycle
  dsimp only
  split
  · exact h.trans (takes_raise { s with log := (logDrain 4 (lgStandby s) s.log).1 } 488)
  · exact h

theorem works_freshCycle (s : State) : Works [] s (freshCycle s) := by
  unfold freshCycle
  dsimp only
  split
  · exact ((Works.refl [] s).modLog (fun _ => _)).raise 488
  · exact (Works.refl [] s).modLog (fun _ => _)

theorem survives_freshCycle (s : State) : Survives s (freshCycle s) := .of_takes (works_freshCycle s) (takes_freshCycle s)

/-! ### The entries of a reset (R119, R126, R329, R358, R397) -/

theorem survives_closeSession (s : State) (i : Fin 4) : Survives s (closeSession s i) := by
  unfold closeSession
  refine .ite (.refl s) (Survives.trans ?_ (survives_raise _ _))
  exact ⟨rfl, rfl, rfl, rfl, rfl, rfl, rfl, rfl, rfl, rfl, rfl, rfl, rfl⟩

theorem survives_foldl {α : Type} {f : State → α → State} (h : ∀ u x, Survives u (f u x)) (l : List α) (s : State) : Survives s (l.foldl f s) :=
  List.foldlRecOn (motive := Survives s) l f (.refl s) fun u hu x _ => hu.trans (h u x)

theorem survives_closeSessions (s : State) : Survives s (closeSessions s) := survives_foldl survives_closeSession _ s

theorem survives_clearForces (s : State) : Survives s (clearForces s) := by
  unfold clearForces
  refine Survives.trans ?_ (survives_foldl (fun u f => ?_) _ _)
  · exact ⟨rfl, rfl, rfl, rfl, rfl, rfl, rfl, rfl, rfl, rfl, rfl, rfl, rfl⟩
  · exact (survives_logItem u true false 0x500D noSrc sevNotice _).trans (survives_raise _ 506)

theorem survives_discardPending (s : State) : Survives s (discardPending s) := by
  have h (n : Stn) (hn : n.afterWarm = { s.stn.afterWarm with olcResult := n.olcResult }) : Survives s { s with stn := n } :=
    ⟨rfl, rfl, rfl, rfl, rfl, rfl, rfl, rfl, hn, rfl, rfl, rfl, rfl⟩
  unfold discardPending
  dsimp only
  split
  · exact (h _ rfl).trans (survives_logItem ..)
  · exact h _ rfl

theorem survives_discardSwitch (s : State) : Survives s (discardSwitch s) := by
  unfold discardSwitch
  refine .ite (Survives.trans ?_ (survives_logItem ..)) (.refl s)
  exact ⟨rfl, rfl, rfl, rfl, rfl, rfl, rfl, rfl, rfl, rfl, rfl, rfl, rfl⟩

theorem survives_abandonSleep (s : State) : Survives s (abandonSleep s) := by
  unfold abandonSleep
  refine .ite (.refl s) (Survives.trans (Survives.trans ?_ (survives_logItem ..)) (survives_raise _ _))
  exact ⟨rfl, rfl, rfl, rfl, rfl, rfl, rfl, rfl, rfl, rfl, rfl, rfl, rfl⟩

theorem survives_resetEntries (s : State) : Survives s (resetEntries s) := by
  have h : Survives s (modStn s (fun n => { n with olcResult := 0 })) := ⟨rfl, rfl, rfl, rfl, rfl, rfl, rfl, rfl, rfl, rfl, rfl, rfl, rfl⟩
  exact ((((h.trans (survives_abandonSleep _)).trans (survives_clearForces _)).trans (survives_discardPending _)).trans
    (survives_discardSwitch _)).trans (survives_closeSessions _)

/-! ### The flush in progress (R374) -/

theorem survives_flushRecord (s : State) (ok : Bool) : Survives s (flushRecord s ok) := by
  cases hb : s.log.buf with
  | nil =>
    have h : flushRecord s ok = s := by
      unfold flushRecord
      rw [hb]
    rw [h]
    exact .refl s
  | cons x rest =>
    obtain ⟨r, own⟩ := x
    obtain ⟨hw, -, circ, perm, step, -, hh⟩ := flushRecord_hands hb ok
    have hk := hh.takes.clock
    have hlast (g : LogBlk) : g.flushedLast.pcyc = g.pcyc ∧ g.flushedLast.opms = g.opms := by
      unfold LogBlk.flushedLast
      split <;> exact ⟨rfl, rfl⟩
    exact .of_works hw (hk.1.trans (hlast _).1) (hk.2.trans (hlast _).2)

theorem survives_flushAll (n : Nat) (s : State) : Survives s (flushAll n s) := by
  induction n generalizing s with
  | zero => exact .refl s
  | succ n ih => exact .ite (.refl s) ((survives_flushRecord s true).trans (ih _))

theorem survives_flushFinish (s : State) : Survives s (flushFinish s) := .ite (.refl s) (survives_flushAll _ s)

theorem survives_flushNow (s : State) (k : FlushKind) : Survives s (flushNow s k) :=
  (Survives.of_takes (t := modLog s (fun g => startFlush g k g.buf.length)) ((Works.refl [] s).modLog _)
    (takes_startFlush s.log k s.log.buf.length)).trans (survives_flushAll 512 _)

/-! ### The state in the reset -/

/-- A raise that no route takes triggers nothing. -/
theorem raise_le_of_unrouted {s : State} (h : s.evr.routes = Vector.replicate 512 0) (n : Nat) : (raise s n).le = s.le := by
  have hw : (if s.pwr.quiet.getLsbD 10 = true then 0 else vget s.evr.routes n 0) = 0 := by
    rw [h]
    unfold vget
    split
    · rfl
    · split <;> simp
  unfold raise
  split
  · rfl
  · dsimp only
    rw [hw]
    rfl

theorem logPass_le_of_unrouted {s : State} (h : s.evr.routes = Vector.replicate 512 0) : (logPass s).le = s.le := by
  rw [logPass_def]
  dsimp only
  generalize List.foldl (logStep (lgStandby s)) _ _ = r
  split
  · exact raise_le_of_unrouted (s := { s with log := r.1 }) h 488
  · rfl

theorem settle_le_of_unrouted {s : State} (h : s.evr.routes = Vector.replicate 512 0) : (settle s).le = s.le := by
  have hroutes (u : State) (hu : u.evr.routes = Vector.replicate 512 0) : (logPass u).evr.routes = Vector.replicate 512 0 := by
    obtain ⟨v, g, l, he, hv, -⟩ := logPass_eq u
    rw [he]
    exact hv.trans hu
  unfold settle
  obtain ⟨v, x, he, -, -⟩ := deliverRaises_eq (logPass (logPass (logPass s)))
  rw [he]
  show (logPass (logPass (logPass s))).le = s.le
  rw [logPass_le_of_unrouted (hroutes _ (hroutes s h)), logPass_le_of_unrouted (hroutes s h), logPass_le_of_unrouted h]

/-- Where no route stands, a command's end changes EVR, LOG and what is put out alone. -/
theorem settle_of_unrouted {s : State} (h : s.evr.routes = Vector.replicate 512 0) : ∃ v g x, settle s = { s with evr := v, log := g, sent := x } := by
  obtain ⟨v, g, l, x, he, -⟩ := settle_eq s
  have hl := settle_le_of_unrouted h
  rw [he] at hl ⊢
  exact ⟨v, g, x, by rw [← hl]⟩

/-- A station outside a pair and outside a stack comes to go by its own time; its clock stands. -/
theorem slewToOwn_fields (s : State) : ∃ al sl le re, slewToOwn s =
    { s with stn := { s.stn with aligned := al, slewing := sl, slewLeft := le, slewRem := re } } := by
  unfold slewToOwn slewBy
  split
  · exact ⟨_, _, _, _, rfl⟩
  · split <;> exact ⟨_, _, _, _, rfl⟩

/-- The reset state that a station enters from `u`, before it goes by its own time (R390). -/
def resetState (u : State) (cause : BitVec 4) : State :=
  { State.reset with
    stn := u.stn.afterWarm, log := u.log, img := u.img.afterReset
    ang := { AngBlk.reset with bNs := u.ang.bNs, winB := u.ang.winB, ran := u.ang.ran }
    fld := { u.fld with dist := [], distRb := [], distDiag := [] }, saf := { SafBlk.reset with lp := u.saf.lp, lpGone := u.saf.lpGone }
    pair := { PairBlk.reset with
      rejoins := u.pair.rejoins, laneUp := u.pair.laneUp, lanes := u.pair.lanes, seq := u.pair.seq, hbT := u.pair.hbT
      state := if u.pair.faulty && cause ≠ 1#4 then 6 else 0, member := u.pair.faulty && cause ≠ 1#4
      faulty := u.pair.faulty && cause ≠ 1#4 }
    stk := { StkBlk.reset with up := u.stk.up, heard := u.stk.heard, ofs := u.stk.ofs, carried := u.stk.carried, ports := u.stk.ports }
    qp := { QpBlk.reset with issued := u.qp.issued }
    can := (canReset u).can
    net := { u.net.afterReset with fails := u.net.fails, lockouts := u.net.lockouts }
    pwr := { u.pwr with power := .warm, cause := cause, warmReq := false, sleepReq := false, entry := .none, quiet := 0, bs := 0 }
    sent := u.sent, free := u.free, pending := u.pending }

theorem resetNow_def (u : State) (cause : BitVec 4) : resetNow u cause = slewToOwn (resetState u cause) := rfl

/-- A station that enters its reset from `u`, with the mark of a power fail as given. -/
def resetWith (u : State) (cause : BitVec 4) (done : Bool) : State := modPwr (resetNow u cause) (fun p => { p with pfDone := done })

theorem resetNow_eq (u : State) (cause : BitVec 4) : resetNow u cause = resetWith u cause (resetNow u cause).pwr.pfDone := rfl

/-- What the reset leaves of pair, supplies, clock and MRAM, beside what `InWarmReset` says. -/
structure ResetFrom (s t : State) (cause : BitVec 4) : Prop where
  refOk : t.stn.refOk = s.stn.refOk
  pllLock : t.stn.pllLock = s.stn.pllLock
  refLoss : t.stn.refLoss = s.stn.refLoss
  halves : t.stn.halves = s.stn.halves
  pf : t.pwr.pf = s.pwr.pf
  banks : t.fld.banks = s.fld.banks
  pair : t.pair.state = (if s.pair.faulty && cause ≠ 1#4 then 6 else 0) ∧ t.pair.faulty = (s.pair.faulty && cause ≠ 1#4)

/-- A station that enters its reset, once the command has ended. -/
theorem resetWith_settled (u : State) (cause : BitVec 4) (done : Bool) (p : List Instr) : ∃ al sl le re v g x,
    ({ settle (resetWith u cause done) with pending := p } : State) = { resetState u cause with
      stn := { u.stn.afterWarm with aligned := al, slewing := sl, slewLeft := le, slewRem := re }
      pwr := { (resetState u cause).pwr with pfDone := done }, evr := v, log := g, sent := x, pending := p } := by
  obtain ⟨al, sl, le, re, he⟩ := slewToOwn_fields (resetState u cause)
  have hr : resetWith u cause done = { resetState u cause with
      stn := { u.stn.afterWarm with aligned := al, slewing := sl, slewLeft := le, slewRem := re }
      pwr := { (resetState u cause).pwr with pfDone := done } } := by
    unfold resetWith
    rw [resetNow_def, he]
    rfl
  obtain ⟨v, g, x, hs⟩ := settle_of_unrouted (s := resetWith u cause done) (by rw [hr]; rfl)
  rw [hs, hr]
  exact ⟨al, sl, le, re, v, g, x, rfl⟩

theorem cleared_eq (c : CanCtl) : c.cleared =
    if c.state = 5 ∨ c.state = 6 then { CanCtl.reset with state := 5, lec := c.lec, dlec := c.dlec } else CanCtl.reset := by
  unfold CanCtl.cleared
  refine if_congr ?_ rfl rfl
  simp

theorem Survives.inWarmReset {s u : State} (h : Survives s u) (cause : BitVec 4) (done : Bool) {c : Nat} (hc : cause.toNat = c) :
    let t : State := { settle (resetWith u cause done) with pending := s.pending }
    InWarmReset s t c ∧ ResetFrom s t cause ∧ t.pwr.pfDone = done := by
  obtain ⟨al, sl, le, re, v, g, x, ht⟩ := resetWith_settled u cause done s.pending
  rw [ht]
  rw [h.stn]
  have hf : (resetState u cause).fld.pts = s.fld.pts := by rw [← h.fld]; rfl
  have hq : (resetState u cause).qp = { QpBlk.reset with issued := s.qp.issued } := by rw [← h.qp]; rfl
  have hs : (resetState u cause).saf = { SafBlk.reset with lp := s.saf.lp, lpGone := s.saf.lpGone } := by rw [← h.saf]; rfl
  obtain ⟨hrun, hbanks, hcommits, hik, hsk⟩ : (resetState u cause).img.running = none ∧ (resetState u cause).img.banks = s.img.banks ∧ (resetState u cause).img.commits = s.img.commits ∧
      (resetState u cause).img.imgKeys = s.img.imgKeys ∧ (resetState u cause).img.safKeys = s.img.safKeys := by
    rw [show (resetState u cause).img = s.img.afterReset from h.img]
    exact ⟨rfl, rfl, rfl, rfl, rfl⟩
  have hk : (resetState u cause).net.keys = s.net.keys := h.keys
  have hup : (resetState u cause).stk.up = s.stk.up := by rw [← h.stk]; rfl
  have hp : (resetState u cause).pair.state = (if s.pair.faulty && cause ≠ 1#4 then 6 else 0) ∧
      (resetState u cause).pair.faulty = (s.pair.faulty && cause ≠ 1#4) := by rw [← h.pair]; exact ⟨rfl, rfl⟩
  have hb : (resetState u cause).fld.banks = s.fld.banks := by rw [← h.fld]; rfl
  refine ⟨⟨rfl, rfl, rfl, rfl, hq, rfl, rfl, rfl, rfl, hs, hf, rfl, hc, rfl, rfl, rfl, rfl, h.warmCnt, rfl, rfl, rfl, rfl, rfl, ⟨rfl, rfl, rfl⟩,
    rfl, hrun, hbanks, hcommits, hik, hsk, rfl, hk, rfl, hup, fun k => ?_⟩, ⟨rfl, rfl, rfl, rfl, h.pf, hb, hp⟩, rfl⟩
  · show (u.can.ctl.map CanCtl.cleared)[k] = _
    rw [h.can, ← cleared_eq]
    simp

end Sys2Proof.Machine
end

section
/-! O57: each cause of a warm reset, its end, the clock fault, and the requests of PWR.CTRL (R7, R19, R218, R265, R389, R390, R392). -/

namespace Sys2Proof.Machine
open Sys2Proof

/-! ### A reset entered -/

/-- The state from which a warm reset takes what it keeps: its entries made, the flush in progress complete (R374, R389). -/
def warmEntry (s : State) : State := flushFinish (logPass (logPass (resetEntries s)))

theorem survives_warmEntry (s : State) : Survives s (warmEntry s) :=
  (((survives_resetEntries s).trans (survives_logPass _)).trans (survives_logPass _)).trans (survives_flushFinish _)

/-- A command that ends in a warm reset. -/
theorem warmReset_of {cmd : Instr} {s w : State} {b : Bool} {f : State → State} {cause : BitVec 4} {c : Nat} (hx : exec cmd s = guarded s b f)
    (hb : b = true) (hf : f (freshCycle s) = warmEnter w cause) (hc : cause.toNat = c) {s0 : State} (hp : s0.pending = s.pending)
    (hw : Survives s0 w) : ∃ t, exec cmd s = .next t ∧ InWarmReset s0 t c ∧ ResetFrom s0 t cause := by
  have h := (hw.trans (survives_warmEntry w)).inWarmReset cause (resetNow (warmEntry w) cause).pwr.pfDone hc
  rw [← resetNow_eq, hp] at h
  refine ⟨_, hx.trans (guarded_true hb f), ?_⟩
  rw [hf]
  exact ⟨h.1, h.2.1⟩

/-- What O57 says a reset keeps. -/
def ClockKept (s t : State) : Prop :=
  t.stn.refOk = s.stn.refOk ∧ t.stn.pllLock = s.stn.pllLock ∧ t.stn.refLoss = s.stn.refLoss ∧ t.stn.halves = s.stn.halves ∧
    t.pwr.pf = s.pwr.pf ∧ ∀ b : Fin 8, t.fld.banks[b] = s.fld.banks[b]

theorem ResetFrom.kept {s t : State} {cause : BitVec 4} (h : ResetFrom s t cause) : ClockKept s t :=
  ⟨h.refOk, h.pllLock, h.refLoss, h.halves, h.pf, fun b => by rw [h.banks]⟩

/-- A cause other than nRESET leaves a FAULTY station FAULTY. -/
theorem ResetFrom.faulty {s t : State} {cause : BitVec 4} (h : ResetFrom s t cause) (hc : cause ≠ 1) :
    t.pair.state = (if s.pair.faulty then 6 else 0) ∧ t.pair.faulty = s.pair.faulty := by
  have hd : decide (cause ≠ 1#4) = true := decide_eq_true hc
  obtain ⟨h1, h2⟩ := h.pair
  rw [hd, Bool.and_true] at h1 h2
  exact ⟨h1, h2⟩

section
variable {s : State}

theorem exec_nreset (s : State) : exec .nreset s = guarded s ((alive s || s.pwr.power == .warm) && !s.pwr.pf) (fun s => warmEnter s 1) := rfl

theorem nreset_resets (ha : alive s = true ∨ s.pwr.power = .warm) (hpf : s.pwr.pf = false) :
    ∃ t, exec .nreset s = .next t ∧ InWarmReset s t 1 ∧ ClockKept s t ∧ t.pair.state = 0 ∧ t.pair.faulty = false := by
  have hb : ((alive s || s.pwr.power == .warm) && !s.pwr.pf) = true := by
    rw [hpf]
    obtain h | h := ha <;> rw [h] <;> simp
  obtain ⟨t, ht, h1, h2⟩ := warmReset_of (f := fun s => warmEnter s 1) (c := 1) (exec_nreset s) hb rfl rfl rfl (survives_freshCycle s)
  obtain ⟨hs, hf⟩ := h2.pair
  rw [decide_eq_false (by decide), Bool.and_false] at hs hf
  exact ⟨t, ht, h1, h2.kept, hs, hf⟩

/-- A reset with its CRITICAL record (R389 causes 3 and 4). -/
theorem criticalReset_resets {cmd : Instr} {cause : Nat} (hx : exec cmd s = guarded s (alive s && !s.pwr.pf) (fun s => criticalReset s cause))
    (hlt : cause < 16) (h1 : cause ≠ 1) (ha : alive s = true) (hpf : s.pwr.pf = false) : ∃ t, exec cmd s = .next t ∧ InWarmReset s t cause ∧ ClockKept s t ∧
      t.pair.state = (if s.pair.faulty then 6 else 0) ∧ t.pair.faulty = s.pair.faulty := by
  have hc : (BitVec.ofNat 4 cause).toNat = cause := by
    rw [BitVec.toNat_ofNat]
    exact Nat.mod_eq_of_lt hlt
  obtain ⟨t, ht, hw, hr⟩ := warmReset_of (f := fun s => criticalReset s cause) (w := logLedger (freshCycle s) 0x8001 noSrc sevCritical [BitVec.ofNat 8 cause])
    hx (by rw [ha, hpf]; rfl) rfl hc rfl ((survives_freshCycle s).trans (survives_logItem ..))
  exact ⟨t, ht, hw, hr.kept, hr.faulty fun h => h1 (by rw [← hc, h]; rfl)⟩

/-! ### A fault of the station's own (R265) -/

/-- A bank once DRIVE is set. -/
def Bank.driven (k : Bank) (v wait : Bool) : Bank :=
  if !k.fsOk then k else { k with drive := v, aoWait := if v then (if k.drive then k.aoWait else wait) else false }

theorem setDrives_eq (s : State) (v wait : Bool) : setDrives s v wait =
    { s with fld := { s.fld with banks := (allFin 8).foldl (fun u b => vmod u b (fun k => k.driven v wait)) s.fld.banks } } := by
  unfold setDrives
  generalize allFin 8 = l
  induction l generalizing s with
  | nil => rfl
  | cons b l ih =>
    rw [List.foldl_cons, List.foldl_cons, ih]
    rfl

theorem drives_setDrives (s : State) (v wait : Bool) : Drives (setDrives s v wait) v := by
  intro b hb
  have hg : (setDrives s v wait).fld.banks[b] = s.fld.banks[b].driven v wait := by
    rw [setDrives_eq]
    exact (foldl_vmod_get (fun k : Bank => k.driven v wait) (allFin 8) (List.nodup_finRange 8) s.fld.banks b).trans (if_pos (mem_allFin b))
  rw [hg] at hb ⊢
  unfold Bank.driven at hb ⊢
  split
  next h =>
    rw [if_pos h] at hb
    rw [Bool.not_eq_true'] at h
    exact nomatch hb.symm.trans h
  · rfl

theorem sendHeartbeat_eq (s : State) (fault : Bool) : ∃ q x, sendHeartbeat s fault = { s with pair := { s.pair with seq := q }, sent := x } :=
  ⟨_, _, rfl⟩

/-- A station reports a fault of its own: its banks released, a heartbeat sent (R265). -/
theorem reportFault_eq (s : State) : ∃ q x, reportFault s =
    { s with fld := { s.fld with banks := (setDrives s false false).fld.banks }, pair := { s.pair with seq := q }, sent := x } := by
  obtain ⟨q, x, h⟩ := sendHeartbeat_eq (setDrives s false false) true
  refine ⟨q, x, h.trans ?_⟩
  rw [setDrives_eq]

/-! ### The clock fault (R19) -/

/-- STN with the reference or the lock gone. -/
def Stn.clockLost (n : Stn) (a lock : Bool) : Stn := { n with refLoss := true, refOk := a, pllLock := lock }

/-- The clock fault and its record. -/
def clockLost (s : State) : State :=
  let a := (drawBool s).1
  let lock := (drawBool (drawBool s).2).1 && !a
  raise (logLedger (modStn (drawBool (drawBool s).2).2 (fun n => n.clockLost a lock)) 0x5001 noSrc sevMajor [BitVec.ofNat 8 (b2n a), BitVec.ofNat 8 (b2n lock)]) 502

/-- What the pair makes of it (R265). -/
def clockReported (s : State) (state : BitVec 3) : State :=
  let s1 := if s.pair.member then reportFault s else s
  if state = 2#3 || state = 3#3 then raise (modPair s1 (fun p => { p with state := 6, faulty := true })) (psSrc 4) else s1

theorem clockFault_eq (s : State) : clockFault s = if s.pwr.power == .warm || s.pwr.pf then clockLost s
    else warmEnter (clockReported (clockLost s) s.pair.state) 6 := by
  have hp : (clockLost s).pair = s.pair := (raise_pair _ _).trans rfl
  unfold clockReported
  rw [hp]
  rfl

/-- A command that has changed STN makes a record and raises an event. -/
theorem recordRaised_spec {s m : State} (hw : Works [.stn] s m) (hl : m.log = s.log) (code source sev n : Nat) (hn : n < 512) (payload : List Byte) :
    let v := raise (logLedger m code source sev payload) n
    Works [.stn] s v ∧ v.stn = m.stn ∧ (NowRaised s → Raised v n) ∧ Hands 2 s v ∧ Hands 1 (logItem m true false code source sev payload) v :=
  ⟨(hw.logLedger ..).raise _, raise_stn _ _, fun h => (hw.logLedger ..).raised h hn, ((Hands.of_eq hl).logItem ..).raise _, (Hands.refl _).raise _⟩

/-- The clock fault changes STN's flags alone, raises its event and makes its record. -/
theorem clockLost_spec (s : State) : ∃ a lock, (a && lock) = false ∧ Works [.stn] s (clockLost s) ∧ (clockLost s).stn = s.stn.clockLost a lock ∧
    (NowRaised s → Raised (clockLost s) 502) ∧ Hands 2 s (clockLost s) ∧
    ∃ w, w.log = s.log ∧ Hands 1 (logItem w true false 0x5001 noSrc sevMajor [BitVec.ofNat 8 (b2n a), BitVec.ofNat 8 (b2n lock)]) (clockLost s) := by
  refine ⟨(drawBool s).1, (drawBool (drawBool s).2).1 && !(drawBool s).1, by cases (drawBool s).1 <;> simp, ?_⟩
  unfold clockLost
  dsimp only
  generalize ((drawBool (drawBool s).2).1 && !(drawBool s).1) = lock
  generalize (drawBool s).1 = a
  have hw : Works [.stn] s (modStn (drawBool (drawBool s).2).2 (fun n => n.clockLost a lock)) :=
    (((Works.refl [] s).drawBool.drawBool).mono (List.nil_subset _)).trans (works_modStn _ _)
  obtain ⟨h1, h2, h3, h4, h5⟩ := recordRaised_spec hw rfl 0x5001 noSrc sevMajor 502 (by decide) [BitVec.ofNat 8 (b2n a), BitVec.ofNat 8 (b2n lock)]
  exact ⟨h1, h2, h3, h4, _, rfl, h5⟩

theorem exec_clockFault (s : State) : exec .clockFault s = guarded s (alive s || s.pwr.power == .warm) clockFault := rfl

theorem clockFault_held {s : State} (h : s.pwr.power = .warm ∨ (alive s = true ∧ s.pwr.pf = true)) : Does .clockFault s [.stn] (fun t =>
    t.stn = { s.stn with refLoss := true, refOk := t.stn.refOk, pllLock := t.stn.pllLock } ∧
      (t.stn.refOk && t.stn.pllLock) = false ∧ (Settled s → Raised t 502) ∧ ∃ p, Recorded s t 0x5001 0xFFFF 3 p) := by
  have hb : (alive s || s.pwr.power == .warm) = true := by
    obtain h | ⟨h, -⟩ := h <;> rw [h] <;> simp
  have he : clockFault (freshCycle s) = clockLost (freshCycle s) := by
    rw [clockFault_eq, freshCycle_pwr]
    refine if_pos ?_
    obtain h | ⟨-, h⟩ := h <;> rw [h] <;> simp
  obtain ⟨a, lock, hab, hw, hn, hr, -, w, hwl, hh⟩ := clockLost_spec (freshCycle s)
  refine does_of_works (exec_clockFault s) hb (by rw [he]; exact hw) ?_
  rw [he]
  have hs : ({ settle (clockLost (freshCycle s)) with pending := s.pending } : State).stn = s.stn.clockLost a lock := by
    rw [← freshCycle_stn s, ← hn]
    exact settle_stn _
  rw [hs]
  refine ⟨rfl, hab, fun q => (hr q.nowRaised).ends _, _, recorded_of_item (n := 1) (by decide) (by decide) (by decide) (by decide) (fun q => ?_) hh⟩
  rw [hwl, freshCycle_of_intake q.2]
  exact ⟨q.1.2, rfl⟩

theorem works_reported (s : State) (k : Vector Bank 8) (p : PairBlk) (x : List Sent) :
    Works [.fld, .pair] s { s with fld := { s.fld with banks := k }, pair := p, sent := x } :=
  .of_same (fun b hb => by
    have h : b ≠ .fld ∧ b ≠ .pair := ⟨fun he => hb (by rw [he]; decide), fun he => hb (by rw [he]; decide)⟩
    cases b <;> first | exact absurd rfl h.1 | exact absurd rfl h.2 | exact fun _ => Engine.SameBut.refl _ | rfl) rfl

theorem reportFault_spec (u : State) : Works [.fld, .pair] u (reportFault u) ∧ (reportFault u).fld = { u.fld with banks := (reportFault u).fld.banks } ∧
    (reportFault u).log = u.log ∧ (reportFault u).pair = { u.pair with seq := (reportFault u).pair.seq } ∧ Drives (reportFault u) false := by
  obtain ⟨q, x, h⟩ := reportFault_eq u
  have hd := drives_setDrives u false false
  unfold Drives at hd ⊢
  generalize (setDrives u false false).fld.banks = k at h hd
  rw [h]
  exact ⟨works_reported u k _ x, rfl, rfl, rfl, hd⟩

theorem clockReported_spec (u : State) (state : BitVec 3) : let v := clockReported u state
    Works [.fld, .pair] u v ∧ v.fld = { u.fld with banks := v.fld.banks } ∧ Hands 1 u v ∧
      (u.pair.member = true → Drives v false) ∧ (state = 2 ∨ state = 3 → v.pair.state = 6 ∧ v.pair.faulty = true) ∧
      (state ≠ 2 → state ≠ 3 → v.pair.faulty = u.pair.faulty) := by
  obtain ⟨w, hw, hwk, hf, hl, hp, hd⟩ : ∃ w, (if u.pair.member = true then reportFault u else u) = w ∧ Works [.fld, .pair] u w ∧
      w.fld = { u.fld with banks := w.fld.banks } ∧ w.log = u.log ∧ w.pair.faulty = u.pair.faulty ∧ (u.pair.member = true → Drives w false) := by
    cases hm : u.pair.member with
    | true =>
      obtain ⟨h1, h2, h3, h4, h5⟩ := reportFault_spec u
      exact ⟨reportFault u, rfl, h1, h2, h3, by rw [h4], fun _ => h5⟩
    | false => exact ⟨u, rfl, .refl _ u, rfl, rfl, rfl, fun h => nomatch h⟩
  have hc : (decide (state = 2#3) || decide (state = 3#3)) = true ↔ state = 2 ∨ state = 3 := by simp
  unfold clockReported
  rw [hw]
  dsimp only
  by_cases h : state = 2 ∨ state = 3
  · rw [if_pos (hc.2 h)]
    have hvf := raise_fld (modPair w (fun p => { p with state := 6, faulty := true })) (psSrc 4)
    have hvp := raise_pair (modPair w (fun p => { p with state := 6, faulty := true })) (psSrc 4)
    refine ⟨(hwk.trans (works_reported w w.fld.banks { w.pair with state := 6, faulty := true } w.sent)).raise _, ?_,
      (Hands.of_eq (t := modPair w (fun p => { p with state := 6, faulty := true })) hl).raise _, fun hm b => ?_, fun _ => ?_, fun h2 h3 => absurd h (not_or.2 ⟨h2, h3⟩)⟩
    · rw [hvf]
      exact hf
    · rw [hvf]
      exact hd hm b
    · rw [hvp]
      exact ⟨rfl, rfl⟩
  · rw [if_neg (mt hc.1 h)]
    exact ⟨hwk, hf, (Hands.of_eq hl).mono (Nat.zero_le 1), hd, fun h' => absurd h' h, fun _ _ => hp⟩

theorem clockFault_resets (ha : alive s = true) (hpf : s.pwr.pf = false) :
    ∃ t, exec .clockFault s = .next t ∧ InWarmReset s t 6 ∧ t.stn.refLoss = true ∧ (t.stn.refOk && t.stn.pllLock) = false ∧
      t.stn.halves = s.stn.halves ∧ (s.pair.member = true → Drives t false) ∧
      (s.pair.state = 2 ∨ s.pair.state = 3 → t.pair.state = 6 ∧ t.pair.faulty = true) ∧
      (s.pair.state ≠ 2 → s.pair.state ≠ 3 → t.pair.state = (if s.pair.faulty then 6 else 0) ∧ t.pair.faulty = s.pair.faulty) := by
  obtain ⟨a, lock, hab, hw, hn, -, hh, -⟩ := clockLost_spec (freshCycle s)
  have hrep := clockReported_spec (clockLost (freshCycle s)) s.pair.state
  have he : clockFault (freshCycle s) = warmEnter (clockReported (clockLost (freshCycle s)) s.pair.state) 6 := by
    rw [clockFault_eq, freshCycle_pwr, freshCycle_pair, hpf]
    refine if_neg ?_
    have hrun : s.pwr.power = .run := by simpa [alive] using ha
    rw [hrun]
    decide
  generalize clockReported (clockLost (freshCycle s)) s.pair.state = v at hrep he
  obtain ⟨hwv, hfld, hhv, hdr, h23, hoth⟩ := hrep
  have hp : (clockLost (freshCycle s)).pair = s.pair := (hw.pair_eq (by decide)).trans (freshCycle_pair s)
  rw [hp] at hdr hoth
  have hall := (((works_freshCycle s).mono (List.nil_subset _)).trans (hw.mono (by decide))).trans (hwv.mono (by decide) : Works [.stn, .fld, .pair] _ v)
  have hk := ((takes_freshCycle s).trans hh.takes).trans hhv.takes
  have hsurv : Survives { s with stn := s.stn.clockLost a lock, fld := { s.fld with banks := v.fld.banks }, pair := v.pair } v := {
    fld := by
      have hlf : (clockLost (freshCycle s)).fld = (freshCycle s).fld := hw.same .fld (by decide)
      rw [hlf, freshCycle_fld] at hfld
      exact hfld
    saf := hall.same .saf (by decide)
    qp := hall.same .qp (by decide)
    can := hall.same .can (by decide)
    stk := hall.same .stk (by decide)
    pair := rfl
    keys := by rw [hall.net_eq (by decide)]
    img := by rw [hall.img_eq (by decide)]
    stn := by
      rw [show v.stn = s.stn.clockLost a lock from (hwv.stn_eq (by decide)).trans (hn.trans (by rw [freshCycle_stn]))]
      rfl
    pf := by rw [hall.pwr_eq (by decide)]
    warmCnt := by rw [hall.pwr_eq (by decide)]
    pcyc := hk.clock.1
    opms := hk.clock.2 }
  obtain ⟨t, ht, hres, hr⟩ := warmReset_of (c := 6)
    (s0 := { s with stn := s.stn.clockLost a lock, fld := { s.fld with banks := v.fld.banks }, pair := v.pair })
    (exec_clockFault s) (by rw [ha]; rfl) he rfl rfl hsurv
  obtain ⟨hst, hfa⟩ := hr.faulty (by decide)
  refine ⟨t, ht, hres, hr.refLoss, ?_, hr.halves, fun hm b => ?_, fun h => ?_, fun h2 h3 => ?_⟩
  · rw [hr.refOk, hr.pllLock]
    exact hab
  · rw [hr.banks]
    exact hdr hm b
  · obtain ⟨-, hf⟩ := h23 h
    rw [hst, hfa]
    exact ⟨if_pos hf, hf⟩
  · rw [hst, hfa]
    have hf := hoth h2 h3
    exact ⟨by rw [← hf], hf⟩

/-! ### The end of a warm reset (R218, R389) -/

theorem throughWarm_eq (p : Pt) (now : BitVec 64) (gap : Nat) : p.throughWarm now gap =
    if p.mode = 5 then { p with cand := p.cand.map (· + gap) }
    else if p.isIn then { p with run := 0, started := false, since := now, cand := none, conv := [], edges := [] } else p := by
  unfold Pt.throughWarm Pt.restartInput
  split
  · rfl
  · split <;> rfl

theorem same_fld (s : State) (k : FldBlk) {b : Block} (h : b ∉ [Block.fld]) : b.Same s { s with fld := k } := by
  cases b <;> first | exact absurd (List.mem_singleton.2 rfl) h | exact fun _ => Engine.SameBut.refl _ | rfl

theorem same_pwr (s : State) (k : PwrBlk) {b : Block} (h : b ∉ [Block.pwr]) : b.Same s { s with pwr := k } := by
  cases b <;> first | exact absurd (List.mem_singleton.2 rfl) h | exact fun _ => Engine.SameBut.refl _ | rfl

theorem works_modPwr (s : State) (f : PwrBlk → PwrBlk) : Works [.pwr] s (modPwr s f) := .of_same (fun _ hb => same_pwr s _ hb) rfl

/-- A command that ends a warm reset. -/
theorem warmEnd_does {cmd : Instr} {b : Bool} (hx : exec cmd s = guarded s b warmEnd) (hb : b = true) :
    Does cmd s [.pwr, .fld] (fun t => (Settled s → Raised t 487) ∧ InputsAfresh s t ∧
      t.pwr = { s.pwr with power := .run, warmCnt := satInc s.pwr.warmCnt, pf := false, pfDone := false }) := by
  have hi (u : State) : Works [.pwr, .fld] u (inputsRestart u) := .mono (.of_same (fun _ hb => same_fld u _ hb) rfl) (by decide)
  have hw := (hi (freshCycle s)).trans ((works_modPwr _ (fun p => { p with power := .run, warmCnt := satInc p.warmCnt, pf := false, pfDone := false })).mono
    (by decide))
  have hfld : (warmEnd (freshCycle s)).fld = (inputsRestart (freshCycle s)).fld := raise_fld _ _
  refine does_of_works hx hb (hw.raise _) ⟨fun hs => (hw.raised hs.nowRaised (by decide)).ends _, ?_, ?_⟩
  · have ht : ({ settle (warmEnd (freshCycle s)) with pending := s.pending } : State).fld =
        { s.fld with pts := s.fld.pts.map (fun p => p.throughWarm s.stn.time (s.stn.tierRef.toNat / 20000 * 20000 - s.stn.lastB)) } := by
      refine (settle_fld _).trans (hfld.trans ?_)
      unfold inputsRestart refNow
      rw [freshCycle_fld, freshCycle_stn]
    unfold InputsAfresh
    rw [ht]
    refine ⟨rfl, fun p => ?_⟩
    rw [← throughWarm_eq]
    show (s.fld.pts.map _)[p] = _
    simp
  · refine (settle_pwr _).trans ((raise_pwr _ _).trans ?_)
    show ({ (freshCycle s).pwr with power := _, warmCnt := satInc (freshCycle s).pwr.warmCnt, pf := false, pfDone := false } : PwrBlk) = _
    rw [freshCycle_pwr]

theorem exec_warmResetEnd (s : State) : exec .warmResetEnd s =
    guarded s (s.pwr.power == .warm && !s.pwr.pf && s.stn.refOk && s.stn.pllLock) warmEnd := rfl

/-! ### The clock comes back (R19, R21) -/

/-- CLOCK_RECOVERED's work. -/
def clockRecovered (s : State) : State :=
  let b := max s.stn.lastB (refNow s / 20000 * 20000)
  modStn (countsOn s (b - s.stn.lastB)) (fun n => { n with refOk := true, pllLock := true, lastB := b })

theorem exec_clockRecovered (s : State) : exec .clockRecovered s =
    guarded s (s.pwr.power == .warm && !(s.stn.refOk && s.stn.pllLock)) clockRecovered := rfl

theorem clockRecovered_does (hw : s.pwr.power = .warm) (hc : s.stn.refOk = false ∨ s.stn.pllLock = false) :
    DoesSilently .clockRecovered s [.stn, .fld] (fun t =>
      t.fld = { s.fld with pts := s.fld.pts.map (fun p =>
        if p.mode = 5 then { p with cand := p.cand.map (· + (t.stn.lastB - s.stn.lastB)) } else p) } ∧
      t.stn = { s.stn with refOk := true, pllLock := true, lastB := max s.stn.lastB (s.stn.tierRef.toNat / 20000 * 20000) }) := by
  have hb : (s.pwr.power == .warm && !(s.stn.refOk && s.stn.pllLock)) = true := by
    rw [hw]
    obtain h | h := hc <;> rw [h] <;> simp
  have hworks (u : State) : Works [.stn, .fld] u (clockRecovered u) :=
    (Works.mono (.of_same (t := countsOn u (max u.stn.lastB (refNow u / 20000 * 20000) - u.stn.lastB)) (fun _ hb => same_fld u _ hb) rfl)
      (by decide)).trans ((works_modStn _ (fun n => { n with
        refOk := true, pllLock := true, lastB := max u.stn.lastB (refNow u / 20000 * 20000) })).mono (by decide : [Block.stn] ⊆ [.stn, .fld]))
  have hstn : ({ settle (clockRecovered (freshCycle s)) with pending := s.pending } : State).stn =
      { s.stn with refOk := true, pllLock := true, lastB := max s.stn.lastB (s.stn.tierRef.toNat / 20000 * 20000) } := by
    refine (settle_stn _).trans ?_
    show ({ (freshCycle s).stn with refOk := true, pllLock := true, lastB := max (freshCycle s).stn.lastB (refNow (freshCycle s) / 20000 * 20000) } : Stn) = _
    unfold refNow
    rw [freshCycle_stn]
  refine doesSilently_of_works (exec_clockRecovered s) hb (hworks _) (fun _ => ⟨rfl, rfl, rfl, fun _ => rfl⟩) ⟨?_, hstn⟩
  rw [hstn]
  refine (settle_fld _).trans ?_
  unfold clockRecovered countsOn refNow
  show ({ (freshCycle s).fld with pts := (freshCycle s).fld.pts.map _ } : FldBlk) = _
  rw [freshCycle_fld, freshCycle_stn]

/-! ### PWR.CTRL (R7, R389, R392) -/

section
variable {sess : Fin 4} (h : Windowed s sess 0x50010)
include h

/-- A write of PWR.CTRL that makes one request. -/
theorem pwrCtrl_does {cmd : Instr} {i : Nat} {g : PwrBlk → PwrBlk} (hx : exec cmd s = keyedCmd s sess 0x5000C (fun s => pwrCtrlWrite s (pwrKeep s i)))
    (hg : ∀ u, pwrCtrlWrite u (pwrKeep u i) = modPwr u g) : DoesSilently cmd s [.pwr] (fun t => t.pwr = g s.pwr) := by
  refine doesSilently_of (f := fun s => pwrCtrlWrite s (pwrKeep s i)) (hx.trans (keyedCmd_of h (by decide))) ?_ (fun _ => ?_) ?_
  · rw [hg]
    exact (works_modPwr _ g).same
  · rw [hg]
    exact ⟨rfl, rfl, rfl, fun _ => rfl⟩
  · rw [hg]
    exact (settle_pwr _).trans (congrArg g (freshCycle_pwr s))

end

theorem pwrKeep_bits (u : State) : 
    (bit (pwrKeep u 0) 0 = true ∧ bit (pwrKeep u 0) 1 = false ∧ bit (pwrKeep u 0) 2 = u.pwr.drowse ∧ bit (pwrKeep u 0) 3 = false) ∧
    (bit (pwrKeep u 1) 0 = false ∧ bit (pwrKeep u 1) 1 = true ∧ bit (pwrKeep u 1) 2 = u.pwr.drowse ∧ bit (pwrKeep u 1) 3 = false) ∧
    (bit (pwrKeep u 3) 0 = false ∧ bit (pwrKeep u 3) 1 = false ∧ bit (pwrKeep u 3) 2 = u.pwr.drowse ∧ bit (pwrKeep u 3) 3 = true) := by
  unfold pwrKeep
  cases u.pwr.drowse <;> decide

theorem warmReset_write (u : State) : pwrCtrlWrite u (pwrKeep u 0) = modPwr u (fun p => { p with warmReq := true }) := by
  obtain ⟨⟨h0, h1, h2, h3⟩, -⟩ := pwrKeep_bits u
  unfold pwrCtrlWrite
  rw [h0, h1, h2, h3]
  rfl

theorem sleepReq_write (u : State) : pwrCtrlWrite u (pwrKeep u 1) =
    modPwr u (fun p => if p.entry = .none then { p with sleepReq := true, entry := .asked } else p) := by
  obtain ⟨-, ⟨h0, h1, h2, h3⟩, -⟩ := pwrKeep_bits u
  unfold pwrCtrlWrite
  rw [h0, h1, h2, h3]
  show (if u.pwr.entry = .none then modPwr u (fun p => { p with sleepReq := true, entry := .asked }) else u) =
    ({ u with pwr := if u.pwr.entry = .none then { u.pwr with sleepReq := true, entry := .asked } else u.pwr } : State)
  by_cases he : u.pwr.entry = .none
  · rw [if_pos he, if_pos he]
    rfl
  · rw [if_neg he, if_neg he]

theorem pwrClrCnt_write (u : State) : pwrCtrlWrite u (pwrKeep u 3) = modPwr u (fun p => { p with
    dropA := 0, dropB := 0, ride := 0, pfCnt := 0, warmCnt := 0, refuseCnt := 0 }) := by
  obtain ⟨-, -, h0, h1, h2, h3⟩ := pwrKeep_bits u
  unfold pwrCtrlWrite
  rw [h0, h1, h2, h3]
  rfl

end

end Sys2Proof.Machine

open Sys2Proof Sys2Proof.Machine

/-- Settles O57: what a reset's entries and its flush leave alone (`Survives`) is what the reset takes over, and the rest of the state is the reset
state's. -/
theorem resets : Obligations.Resets := by
  intro s
  refine ⟨nreset_resets, fun ha hpf => ⟨criticalReset_resets (cause := 3) rfl (by decide) (by decide) ha hpf,
    criticalReset_resets (cause := 4) rfl (by decide) (by decide) ha hpf, clockFault_resets ha hpf⟩, clockFault_held, fun hw hpf hr hl => ?_,
    clockRecovered_does, fun sess h => ⟨pwrCtrl_does h rfl warmReset_write, ?_, pwrCtrl_does h rfl pwrClrCnt_write⟩⟩
  · exact warmEnd_does (exec_warmResetEnd s) (by rw [hw, hpf, hr, hl]; rfl)
  · exact pwrCtrl_does (g := fun p => if p.entry = .none then { p with sleepReq := true, entry := .asked } else p) h rfl sleepReq_write
end

section
/-! O56: power-on, the feeds, the power-fail sequence and the end of hold-up (R377–R379, R384, R386, R387). -/

namespace Sys2Proof.Machine
open Sys2Proof

/-! ### Without power (R391, R402) -/

theorem unpowered_emptied {s u : State} (hn : u.net = s.net) (hi : u.img = s.img) (p : Power) :
    let t : State := { settle (unpowered u p) with pending := s.pending }
    Emptied s t ∧ t.pwr = { PwrBlk.reset with power := p } := by
  obtain ⟨v, g, x, h⟩ := settle_of_unrouted (s := unpowered u p) rfl
  rw [h]
  have hnet : (unpowered u p).net = NetBlk.reset s.net.keys := by rw [← hn]; rfl
  have himg : (unpowered u p).img = { s.img.afterReset with pinProf := 0, writeLost := 0 } := by rw [← hi]; rfl
  obtain ⟨h1, h2, h3, h4, h5⟩ : (unpowered u p).img.running = none ∧ (unpowered u p).img.banks = s.img.banks ∧
      (unpowered u p).img.commits = s.img.commits ∧ (unpowered u p).img.imgKeys = s.img.imgKeys ∧ (unpowered u p).img.safKeys = s.img.safKeys := by
    rw [himg]
    exact ⟨rfl, rfl, rfl, rfl, rfl⟩
  exact ⟨⟨rfl, rfl, rfl, rfl, rfl, rfl, rfl, rfl, rfl, rfl, rfl, rfl, rfl, hnet, h1, h2, h3, h4, h5, rfl, rfl, rfl, rfl⟩, rfl⟩

theorem holdupEnd_empties {s : State} (hp : s.pwr.power = .run ∨ s.pwr.power = .warm) (ha : s.pwr.feedA = 0) (hb : s.pwr.feedB = 0) :
    ∃ t, exec .holdupEnd s = .next t ∧ Emptied s t ∧ t.pwr = { PwrBlk.reset with power := .off } := by
  refine ⟨_, ?_, unpowered_emptied rfl rfl .off⟩
  show (if ((s.pwr.power == .run || s.pwr.power == .warm) && feedsAbsent s) = true then finish s (unpowered s .off) else .next s) = _
  refine if_pos ?_
  unfold feedsAbsent
  rw [ha, hb]
  obtain h | h := hp <;> rw [h] <;> decide

/-! ### The feeds (R384, R386) -/

/-- PWR with feed `b` of class `c` and voltage `v`. -/
def PwrBlk.fed (p : PwrBlk) (b : Bool) (c : BitVec 2) (v : BitVec 16) : PwrBlk :=
  if b then { p with feedB := c, bV := v } else { p with feedA := c, aV := v }

/-- The class that feed `b` takes at `mv` mV. -/
def feedClass (p : PwrBlk) (b : Bool) (mv : Nat) : BitVec 2 := supplyClass 16000 18000 mv (if b then p.feedB else p.feedA)

theorem exec_feedChange_sleep {s : State} (hp : s.pwr.power = .sleep) (b : Bool) (mv : Nat) : exec (.feedChange b mv) s =
    let s1 := modPwr s (fun p => p.fed b (feedClass s.pwr b mv) (satNat 16 (mv / 10)))
    finish s (if feedsAbsent s1 then unpowered s1 .off else s1) := by
  show execFeedChange b mv s = _
  unfold execFeedChange
  rw [hp]
  rfl

theorem feedsAbsent_fed (s : State) (b : Bool) (c : BitVec 2) (v : BitVec 16) : feedsAbsent (modPwr s (fun p => p.fed b c v)) = true ↔
    c = 0 ∧ (if b then s.pwr.feedA else s.pwr.feedB) = 0 := by
  cases b
  · show (c == 0 && s.pwr.feedB == 0) = true ↔ _
    simp
  · show (s.pwr.feedA == 0 && c == 0) = true ↔ _
    simp [and_comm]

theorem feedChange_sleep {s : State} (hp : s.pwr.power = .sleep) (b : Bool) (mv : Nat) :
    let c := feedClass s.pwr b mv
    let other := if b then s.pwr.feedA else s.pwr.feedB
    (c = 0 ∧ other = 0 → ∃ t, exec (.feedChange b mv) s = .next t ∧ Emptied s t ∧ t.pwr = { PwrBlk.reset with power := .off }) ∧
    (¬ (c = 0 ∧ other = 0) → Does (.feedChange b mv) s [.pwr] (fun t => t.pwr.power = .sleep ∧
      t.pwr.feedA = (if b then s.pwr.feedA else c) ∧ t.pwr.feedB = if b then c else s.pwr.feedB)) := by
  intro c other
  have hx := exec_feedChange_sleep hp b mv
  have hw := works_modPwr s (fun p => p.fed b c (satNat 16 (mv / 10)))
  refine ⟨fun h => ⟨_, hx.trans (congrArg (finish s) (if_pos ((feedsAbsent_fed ..).2 h))), unpowered_emptied rfl rfl .off⟩, fun h =>
    ⟨_, hx.trans (congrArg (finish s) (if_neg (mt (feedsAbsent_fed ..).1 h))), ⟨rfl, fun k hk => (hw.same k hk).trans (same_settle _ k)⟩, ?_⟩⟩
  have ht : ({ settle (modPwr s (fun p => p.fed b c (satNat 16 (mv / 10)))) with pending := s.pending } : State).pwr =
    s.pwr.fed b c (satNat 16 (mv / 10)) := settle_pwr _
  show (State.pwr _).power = _ ∧ (State.pwr _).feedA = _ ∧ (State.pwr _).feedB = _
  rw [ht]
  unfold PwrBlk.fed
  cases b <;> exact ⟨hp, rfl, rfl⟩

section
variable (s : State) (b : Bool) (mv : Nat)

/-- The feed is lost. -/
def feedLost : Prop := feedClass s.pwr b mv = 0 ∧ (if b then s.pwr.feedB else s.pwr.feedA) ≠ 0
/-- The feed comes back. -/
def feedBack : Prop := feedClass s.pwr b mv ≠ 0 ∧ (if b then s.pwr.feedB else s.pwr.feedA) = 0
/-- The station has ridden through the absence of both feeds. -/
def feedRidden : Prop := feedBack s b mv ∧ s.pwr.feedA = 0 ∧ s.pwr.feedB = 0 ∧ s.pwr.pf = false

/-- PWR with the loss of feed `b` counted. -/
def PwrBlk.dropped (p : PwrBlk) (b : Bool) : PwrBlk := if b then { p with dropB := satInc p.dropB } else { p with dropA := satInc p.dropA }

/-- The feed's new measurement. -/
def feedTaken : State := modPwr s (fun p => p.fed b (feedClass s.pwr b mv) (satNat 16 (mv / 10)))

variable {s b mv}

theorem feedChange_lost (h : feedLost s b mv) : feedChange s b mv = raise (modPwr (feedTaken s b mv) (fun p => p.dropped b)) (480 + b2n b) :=
  if_pos (by
    rw [Bool.and_eq_true, decide_eq_true_eq, decide_eq_true_eq]
    exact h)

theorem feedChange_back (h : feedBack s b mv) : feedChange s b mv =
    if feedsAbsent s && !s.pwr.pf then raise (modPwr (raise (feedTaken s b mv) 482) (fun p => { p with ride := satInc p.ride })) 484
    else raise (feedTaken s b mv) 482 := by
  unfold feedChange
  dsimp only
  rw [if_neg (fun hl => ?_), if_pos ?_]
  · rfl
  · rw [Bool.and_eq_true, decide_eq_true_eq, decide_eq_true_eq]
    exact h
  · rw [Bool.and_eq_true, decide_eq_true_eq, decide_eq_true_eq] at hl
    exact h.1 hl.1

theorem feedChange_same (h1 : ¬ feedLost s b mv) (h2 : ¬ feedBack s b mv) : feedChange s b mv = feedTaken s b mv := by
  unfold feedChange
  dsimp only
  rw [if_neg (fun hl => h1 ?_), if_neg (fun hl => h2 ?_)]
  · rfl
  · rw [Bool.and_eq_true, decide_eq_true_eq, decide_eq_true_eq] at hl
    exact hl
  · rw [Bool.and_eq_true, decide_eq_true_eq, decide_eq_true_eq] at hl
    exact hl

/-- PWR after a feed's change, count by count. -/
theorem fed_counts (p : PwrBlk) (b : Bool) (c : BitVec 2) (v : BitVec 16) (lost ridden : Prop) [Decidable lost] [Decidable ridden] :
    ({ p with
      feedA := if b then p.feedA else c, feedB := if b then c else p.feedB, aV := if b then p.aV else v, bV := if b then v else p.bV
      dropA := if b = false ∧ lost then satInc p.dropA else p.dropA, dropB := if b = true ∧ lost then satInc p.dropB else p.dropB
      ride := if ridden then satInc p.ride else p.ride } : PwrBlk) =
    { (if lost then (p.fed b c v).dropped b else p.fed b c v) with ride := if ridden then satInc p.ride else p.ride } := by
  unfold PwrBlk.fed PwrBlk.dropped
  cases b <;> by_cases hl : lost <;> simp [hl]

theorem feedsAbsent_iff (s : State) : (feedsAbsent s && !s.pwr.pf) = true ↔ s.pwr.feedA = 0 ∧ s.pwr.feedB = 0 ∧ s.pwr.pf = false := by
  unfold feedsAbsent
  simp [and_assoc]

theorem works_feedTaken (s : State) (b : Bool) (mv : Nat) : Works [.pwr] s (feedTaken s b mv) := works_modPwr s _

/-- A feed's change, by whether the feed is lost, comes back, or neither. -/
theorem feedChange_spec (s : State) (b : Bool) (mv : Nat) [Decidable (feedLost s b mv)] [Decidable (feedRidden s b mv)] :
    Works [.pwr] s (feedChange s b mv) ∧
    (feedChange s b mv).pwr = { (if feedLost s b mv then (s.pwr.fed b (feedClass s.pwr b mv) (satNat 16 (mv / 10))).dropped b
      else s.pwr.fed b (feedClass s.pwr b mv) (satNat 16 (mv / 10))) with ride := if feedRidden s b mv then satInc s.pwr.ride else s.pwr.ride } ∧
    (NowRaised s → (feedLost s b mv → Raised (feedChange s b mv) (480 + b2n b)) ∧ (feedBack s b mv → Raised (feedChange s b mv) 482) ∧
      (feedRidden s b mv → Raised (feedChange s b mv) 484)) := by
  have hw := works_feedTaken s b mv
  have hride : (s.pwr.fed b (feedClass s.pwr b mv) (satNat 16 (mv / 10))).ride = s.pwr.ride := by unfold PwrBlk.fed; cases b <;> rfl
  have hdrop (p : PwrBlk) : (p.dropped b).ride = p.ride := by unfold PwrBlk.dropped; cases b <;> rfl
  have h480 : 480 + b2n b < 512 := by cases b <;> decide
  by_cases hl : feedLost s b mv
  · have hb : ¬ feedBack s b mv := fun h => h.1 hl.1
    rw [feedChange_lost hl, if_pos hl, if_neg (fun h => hb h.1)]
    have hwd := hw.trans (works_modPwr _ (fun p => p.dropped b))
    refine ⟨hwd.raise _, ?_, fun hn => ⟨fun _ => hwd.raised hn h480, fun h => absurd h hb, fun h => absurd h.1 hb⟩⟩
    rw [raise_pwr, ← hride, ← hdrop]
    rfl
  · rw [if_neg hl]
    by_cases hb : feedBack s b mv
    · rw [feedChange_back hb]
      by_cases hr : s.pwr.feedA = 0 ∧ s.pwr.feedB = 0 ∧ s.pwr.pf = false
      · rw [if_pos ((feedsAbsent_iff s).2 hr), if_pos ⟨hb, hr⟩]
        have hwr := (hw.raise 482).trans (works_modPwr _ (fun p => { p with ride := satInc p.ride }))
        refine ⟨hwr.raise _, ?_, fun hn => ⟨fun h => absurd h hl, fun _ => ?_, fun _ => hwr.raised hn (by decide)⟩⟩
        · rw [raise_pwr, ← hride]
          show ({ (raise (feedTaken s b mv) 482).pwr with ride := satInc (raise (feedTaken s b mv) 482).pwr.ride } : PwrBlk) = _
          rw [raise_pwr]
          rfl
        · exact ((works_modPwr _ _).raise 484).kept _ (hw.raised hn (by decide))
      · rw [if_neg (mt (feedsAbsent_iff s).1 hr), if_neg (fun h => hr h.2)]
        refine ⟨hw.raise _, ?_, fun hn => ⟨fun h => absurd h hl, fun _ => hw.raised hn (by decide), fun h => absurd h.2 hr⟩⟩
        rw [raise_pwr, ← hride]
        rfl
    · rw [feedChange_same hl hb, if_neg (fun h => hb h.1)]
      refine ⟨hw, ?_, fun _ => ⟨fun h => absurd h hl, fun h => absurd h hb, fun h => absurd h.1 hb⟩⟩
      rw [← hride]
      rfl

end

end Sys2Proof.Machine
end

section
/-! O56: the feeds' counts, the power-fail sequence and its end (R386–R388). -/

namespace Sys2Proof.Machine
open Sys2Proof

/-! ### A feed changes (R386) -/

theorem exec_feedChange_powered {s : State} (hp : s.pwr.power = .run ∨ s.pwr.power = .warm) (b : Bool) (mv : Nat) :
    exec (.feedChange b mv) s = guarded s true (fun s => feedChange s b mv) := by
  show execFeedChange b mv s = _
  unfold execFeedChange
  obtain h | h := hp <;> rw [h]

theorem feedChange_counts {s : State} (hp : s.pwr.power = .run ∨ s.pwr.power = .warm) (b : Bool) (mv : Nat) {lost ridden : Prop}
    [Decidable lost] [Decidable ridden] (hl : lost ↔ feedLost s b mv) (hr : ridden ↔ feedRidden s b mv) :
    Does (.feedChange b mv) s [.pwr] (fun t =>
      t.pwr = { (if lost then (s.pwr.fed b (feedClass s.pwr b mv) (satNat 16 (mv / 10))).dropped b
        else s.pwr.fed b (feedClass s.pwr b mv) (satNat 16 (mv / 10))) with ride := if ridden then satInc s.pwr.ride else s.pwr.ride } ∧
      (Settled s → (lost → Raised t (480 + if b then 1 else 0)) ∧ (feedBack s b mv → Raised t 482) ∧ (ridden → Raised t 484))) := by
  have hpw := freshCycle_pwr s
  have hk : feedBack (freshCycle s) b mv ↔ feedBack s b mv := by unfold feedBack; rw [hpw]
  have hlf : lost ↔ feedLost (freshCycle s) b mv := by rw [hl]; unfold feedLost; rw [hpw]
  have hrf : ridden ↔ feedRidden (freshCycle s) b mv := by rw [hr]; unfold feedRidden; rw [hk, hpw]
  have : Decidable (feedLost (freshCycle s) b mv) := decidable_of_iff _ hlf
  have : Decidable (feedRidden (freshCycle s) b mv) := decidable_of_iff _ hrf
  obtain ⟨hw, ht, hn⟩ := feedChange_spec (freshCycle s) b mv
  rw [hpw] at ht
  refine does_of_works (exec_feedChange_powered hp b mv) rfl hw ⟨(settle_pwr _).trans (ht.trans ?_), fun q => ?_⟩
  · simp only [← hlf, ← hrf]
  · obtain ⟨h1, h2, h3⟩ := hn q.nowRaised
    exact ⟨fun h => (h1 (hlf.1 h)).ends _, fun h => (h2 (hk.2 h)).ends _, fun h => (h3 (hrf.1 h)).ends _⟩

/-! ### Power fail (R387) -/

/-- SLEEP entry given up: its entry made, its event raised, PWR as before it. -/
theorem abandonSleep_spec (u : State) : Works [.pwr] u (abandonSleep u) ∧ Hands 2 u (abandonSleep u) ∧
    (abandonSleep u).pwr.pf = u.pwr.pf ∧ (abandonSleep u).pwr.pfDone = u.pwr.pfDone ∧ (abandonSleep u).pwr.pfCnt = u.pwr.pfCnt ∧
    (abandonSleep u).pwr.entry = .none ∧ (abandonSleep u).pwr.quiet = if u.pwr.entry = .none then u.pwr.quiet else 0 := by
  by_cases h : u.pwr.entry = .none
  · have ha : abandonSleep u = u := if_pos h
    rw [ha, if_pos h]
    exact ⟨.refl _ u, (Hands.refl u).mono (by decide), rfl, rfl, rfl, h, rfl⟩
  · have ha : abandonSleep u = raise (logEntry (modPwr u (fun p => { p with
        entry := .none, quiet := 0, sleepReq := false, slResult := 4, slBlock := 0, slReason := 0, refuseCnt := satInc p.refuseCnt }))
        0x8002 noSrc sevNotice [4, 0, 0]) 485 := if_neg h
    have hp := raise_pwr (logEntry (modPwr u (fun p => { p with
        entry := .none, quiet := 0, sleepReq := false, slResult := 4, slBlock := 0, slReason := 0, refuseCnt := satInc p.refuseCnt }))
        0x8002 noSrc sevNotice [4, 0, 0]) 485
    rw [ha, if_neg h, hp]
    exact ⟨((works_modPwr u _).logEntry ..).raise _, ((Hands.of_eq (t := modPwr u _) rfl).logItem ..).raise _, rfl, rfl, rfl, rfl, rfl⟩

/-- A switch that waits is discarded: its record made, IMG otherwise as before it. -/
theorem discardSwitch_spec (u : State) : Works [.img] u (discardSwitch u) ∧ Hands 1 u (discardSwitch u) ∧ (discardSwitch u).img.swPending = false ∧
    (discardSwitch u).img.running = u.img.running ∧ (discardSwitch u).img.banks = u.img.banks ∧ (discardSwitch u).img.commits = u.img.commits := by
  unfold discardSwitch
  by_cases h : (u.img.swPending || u.img.swReq) = true
  · rw [if_pos h]
    exact ⟨(works_modImg u _).logLedger .., (Hands.of_eq (t := modImg u _) rfl).logItem .., rfl, rfl, rfl, rfl⟩
  · rw [if_neg h]
    rw [Bool.not_eq_true, Bool.or_eq_false_iff] at h
    exact ⟨.refl _ u, (Hands.refl u).mono (by decide), h.1, rfl, rfl, rfl⟩

/-- A retain save writes STN alone, and counts where an image runs (R81). -/
theorem retainSave_spec (u : State) : Works [.stn] u (retainSave u) ∧ (retainSave u).log = u.log ∧ (retainSave u).img = u.img ∧
    (u.img.running ≠ none → (retainSave u).stn.retainSeq = u.stn.retainSeq + 1) ∧ SameClock u (retainSave u) ∧ (retainSave u).stn.mode = u.stn.mode := by
  unfold retainSave
  by_cases h : u.img.running.isNone = true
  · rw [if_pos h]
    exact ⟨.refl _ u, rfl, rfl, fun hr => absurd (Option.isNone_iff_eq_none.1 h) hr, ⟨rfl, rfl, rfl⟩, rfl⟩
  · rw [if_neg h]
    exact ⟨works_modStn u (fun _ => _), rfl, rfl, fun _ => rfl, ⟨rfl, rfl, rfl⟩, rfl⟩

/-- IMG with the write in progress given up. -/
def Img.writeAbandoned (i : Img) : Img :=
  { i with wState := 0, wBytes := [], wWait := i.wWait.filter (fun x => x.2.1), wProgress := 0, wOwnDone := false, wOlc := false }

/-- What the active station of a pair makes of a power fail (R265, R387). -/
def failReported (u : State) (state : BitVec 3) : State :=
  if state = 2 then raise (modPair (reportFault u) (fun p => { p with state := 6, faulty := true })) 452 else u

theorem works_modPair (s : State) (f : PairBlk → PairBlk) : Works [.pair] s (modPair s f) :=
  .of_same (fun b hb => by
    have h : b ≠ .pair := fun he => hb (List.mem_singleton.2 he)
    cases b <;> first | exact absurd rfl h | exact fun _ => Engine.SameBut.refl _ | rfl) rfl

theorem failReported_spec (u : State) (state : BitVec 3) : Works [.fld, .pair] u (failReported u state) ∧ Hands 1 u (failReported u state) ∧
    (state = 2 → (failReported u state).pair.state = 6 ∧ (failReported u state).pair.faulty = true ∧ Drives (failReported u state) false ∧
      (NowRaised u → Raised (failReported u state) 452)) ∧
    (state ≠ 2 → failReported u state = u) := by
  by_cases h : state = 2
  · have he : failReported u state = raise (modPair (reportFault u) (fun p => { p with state := 6, faulty := true })) 452 := if_pos h
    obtain ⟨hw, -, hl, -, hd⟩ := reportFault_spec u
    rw [he]
    generalize reportFault u = r at hw hl hd
    have hwm := hw.trans ((works_modPair r (fun p => { p with state := 6, faulty := true })).mono (by decide))
    have hh : Hands 0 u (modPair r (fun p => { p with state := 6, faulty := true })) := .of_eq hl
    have hp : (modPair r (fun p => { p with state := 6, faulty := true })).pair.state = 6 ∧
      (modPair r (fun p => { p with state := 6, faulty := true })).pair.faulty = true ∧
      (modPair r (fun p => { p with state := 6, faulty := true })).fld = r.fld := ⟨rfl, rfl, rfl⟩
    unfold Drives at hd ⊢
    generalize modPair r (fun p => { p with state := 6, faulty := true }) = m at *
    rw [raise_pair, raise_fld, hp.2.2]
    exact ⟨hwm.raise _, hh.raise _, fun _ => ⟨hp.1, hp.2.1, hd, fun hn => hwm.raised hn (by decide)⟩, fun hn => absurd h hn⟩
  · have he : failReported u state = u := if_neg h
    rw [he]
    exact ⟨.refl _ u, (Hands.refl u).mono (by decide), fun h' => absurd h' h, fun _ => rfl⟩

/-- PWR with the power fail marked. -/
def PwrBlk.failing (p : PwrBlk) : PwrBlk := { p with pf := true, pfDone := false, pfCnt := satInc p.pfCnt }

/-- The power fail's record, made once SLEEP entry has been given up. -/
def failRecorded (u : State) (p : PwrBlk) : State :=
  raise (logLedger (abandonSleep (modPwr u PwrBlk.failing)) 0x8000 noSrc sevCritical (leN 2 p.aV.toNat ++ leN 2 p.bV.toNat)) 483

theorem powerFail_eq (s : State) : powerFail s =
    failReported (modImg (retainSave (discardSwitch (failRecorded s s.pwr))) Img.writeAbandoned) s.pair.state := rfl

theorem failRecorded_spec (u : State) (p : PwrBlk) : let v := failRecorded u p
    Works [.pwr] u v ∧ v.pwr.pf = true ∧ v.pwr.pfDone = false ∧ v.pwr.pfCnt = satInc u.pwr.pfCnt ∧ v.pwr.entry = .none ∧
    v.pwr.quiet = (if u.pwr.entry = .none then u.pwr.quiet else 0) ∧ (NowRaised u → Raised v 483) ∧
    ∃ w, Hands 2 u w ∧ Hands 1 (logItem w true false 0x8000 noSrc sevCritical (leN 2 p.aV.toNat ++ leN 2 p.bV.toNat)) v := by
  intro v
  obtain ⟨hw, hh, h1, h2, h3, h4, h5⟩ := abandonSleep_spec (modPwr u PwrBlk.failing)
  have hp : v.pwr = (abandonSleep (modPwr u PwrBlk.failing)).pwr := raise_pwr _ _
  have hwl := ((works_modPwr u PwrBlk.failing).trans hw).logLedger 0x8000 noSrc sevCritical (leN 2 p.aV.toNat ++ leN 2 p.bV.toNat)
  rw [hp]
  exact ⟨hwl.raise _, h1, h2, h3, h4, h5, fun hn => hwl.raised hn (by decide), _, hh.base rfl, (Hands.refl _).raise _⟩

theorem exec_powerFail (s : State) : exec .powerFail s = guarded s (alive s && feedsAbsent s && !s.pwr.pf) powerFail := rfl

/-- What a power fail's work does, block by block (R387). -/
theorem powerFail_spec (s : State) : let t := powerFail s
    Works [.pwr, .stn, .img, .pair, .fld] s t ∧
    (t.pwr.pf = true ∧ t.pwr.pfDone = false ∧ t.pwr.pfCnt = satInc s.pwr.pfCnt ∧ t.pwr.entry = .none ∧
      t.pwr.quiet = (if s.pwr.entry = .none then s.pwr.quiet else 0)) ∧
    (NowRaised s → Raised t 483) ∧
    (∃ w, Hands 2 s w ∧ Hands 3 (logItem w true false 0x8000 noSrc sevCritical (leN 2 s.pwr.aV.toNat ++ leN 2 s.pwr.bV.toNat)) t) ∧
    (t.img.wState = 0 ∧ t.img.swPending = false ∧ t.img.banks = s.img.banks ∧ t.img.commits = s.img.commits) ∧
    ((s.img.running ≠ none → t.stn.retainSeq = s.stn.retainSeq + 1) ∧ SameClock s t ∧ t.stn.mode = s.stn.mode) ∧
    (s.pair.state = 2 → t.pair.state = 6 ∧ t.pair.faulty = true ∧ Drives t false ∧ (NowRaised s → Raised t 452)) ∧
    (s.pair.state ≠ 2 → t.pair = s.pair ∧ t.fld = s.fld) := by
  intro t
  obtain ⟨hw1, hpf, hdone, hcnt, hentry, hquiet, hr1, w, hh0, hh1⟩ := failRecorded_spec s s.pwr
  obtain ⟨hw2, hh2, hsw, hrun, hbanks, hcommits⟩ := discardSwitch_spec (failRecorded s s.pwr)
  obtain ⟨hw3, hlog, himg, hseq, hclock, hmode⟩ := retainSave_spec (discardSwitch (failRecorded s s.pwr))
  obtain ⟨hw5, hh5, hact, hoth⟩ := failReported_spec (modImg (retainSave (discardSwitch (failRecorded s s.pwr))) Img.writeAbandoned) s.pair.state
  have ht : t = failReported (modImg (retainSave (discardSwitch (failRecorded s s.pwr))) Img.writeAbandoned) s.pair.state := powerFail_eq s
  generalize failReported (modImg (retainSave (discardSwitch (failRecorded s s.pwr))) Img.writeAbandoned) s.pair.state = v at *
  subst ht
  generalize retainSave (discardSwitch (failRecorded s s.pwr)) = c at *
  generalize discardSwitch (failRecorded s s.pwr) = d at *
  generalize failRecorded s s.pwr = e at *
  have hw4 : Works [.img] c (modImg c Img.writeAbandoned) := works_modImg c _
  have hde : Works [.stn, .img] e c := (hw2.mono (by decide)).trans (hw3.mono (by decide))
  have hec : Works [.stn, .img] e (modImg c Img.writeAbandoned) := hde.trans (hw4.mono (by decide))
  have hev : Works [.stn, .img, .pair, .fld] e t := (hec.mono (by decide)).trans (hw5.mono (by decide))
  have hsc : Works [.pwr, .stn, .img] s (modImg c Img.writeAbandoned) := (hw1.mono (by decide)).trans (hec.mono (by decide))
  have hi : t.img = c.img.writeAbandoned := hw5.img_eq (by decide)
  have hn : t.stn = c.stn := hw5.stn_eq (by decide)
  have hd : d.stn = s.stn := (hw2.stn_eq (by decide)).trans (hw1.stn_eq (by decide))
  have he : e.img = s.img := hw1.img_eq (by decide)
  refine ⟨(hsc.mono (by decide)).trans (hw5.mono (by decide)), ?_, fun q => hev.kept _ (hr1 q), ⟨w, hh0, ?_⟩, ?_, ?_, ?_, ?_⟩
  · rw [hev.pwr_eq (by decide)]
    exact ⟨hpf, hdone, hcnt, hentry, hquiet⟩
  · have hc1 : Hands 1 e (modImg c Img.writeAbandoned) := hh2.congr hlog
    exact (hh1.trans hc1).trans hh5
  · rw [hi]
    refine ⟨rfl, ?_⟩
    show c.img.swPending = false ∧ c.img.banks = _ ∧ c.img.commits = _
    rw [himg, hsw, hbanks, hcommits, he]
    exact ⟨rfl, rfl, rfl⟩
  · unfold SameClock at hclock ⊢
    rw [hn, ← hd]
    rw [hrun, he] at hseq
    exact ⟨hseq, hclock, hmode⟩
  · intro h2
    obtain ⟨h3, h4, h5, h6⟩ := hact h2
    exact ⟨h3, h4, h5, fun q => h6 (hsc.now q)⟩
  · intro h2
    rw [hoth h2]
    exact ⟨hsc.pair_eq (by decide), hsc.same .fld (by decide)⟩

theorem powerFail_does {s : State} (hp : s.pwr.power = .run) (ha : s.pwr.feedA = 0) (hb : s.pwr.feedB = 0) (hpf : s.pwr.pf = false) :
    Does .powerFail s [.pwr, .stn, .img, .pair, .fld] (fun t =>
      t.pwr.pf = true ∧ t.pwr.pfDone = false ∧ t.pwr.pfCnt = satInc s.pwr.pfCnt ∧ t.pwr.entry = .none ∧ t.pwr.quiet = (if s.pwr.entry = .none then s.pwr.quiet else 0) ∧
      (Settled s → Raised t 483) ∧ Recorded s t 0x8000 0xFFFF 4 (leN 2 s.pwr.aV.toNat ++ leN 2 s.pwr.bV.toNat) ∧
      t.img.wState = 0 ∧ t.img.swPending = false ∧ t.img.banks = s.img.banks ∧ t.img.commits = s.img.commits ∧
      (s.img.running ≠ none → t.stn.retainSeq = s.stn.retainSeq + 1) ∧ SameClock s t ∧ t.stn.mode = s.stn.mode ∧
      (s.pair.state = 2 → t.pair.state = 6 ∧ t.pair.faulty = true ∧ Drives t false ∧ (Settled s → Raised t 452)) ∧
      (s.pair.state ≠ 2 → t.pair = s.pair ∧ t.fld = s.fld)) := by
  have hg : (alive s && feedsAbsent s && !s.pwr.pf) = true := by
    unfold alive feedsAbsent
    rw [hp, ha, hb, hpf]
    decide
  have hrec : Recorded s { settle (powerFail (freshCycle s)) with pending := s.pending } 0x8000 0xFFFF 4 (leN 2 s.pwr.aV.toNat ++ leN 2 s.pwr.bV.toNat) := by
    obtain ⟨w, h1, h2⟩ := (powerFail_spec s).2.2.2.1
    exact recorded_of_hands (f := powerFail) (by decide) (by decide) (by decide) (by decide) fun _ => ⟨w, h1, h2⟩
  obtain ⟨hw, ⟨h1, h2, h3, h4, h5⟩, hr, -, himg, hstn, hact, hoth⟩ := powerFail_spec (freshCycle s)
  unfold SameClock at hstn
  rw [freshCycle_pwr] at h3 h5
  rw [freshCycle_img] at himg hstn
  rw [freshCycle_stn] at hstn
  rw [freshCycle_pair] at hact hoth
  rw [freshCycle_fld] at hoth
  refine does_of_works (exec_powerFail s) hg hw ?_
  obtain ⟨hi1, hi2, hi3, hi4⟩ := himg
  obtain ⟨hn1, hn2, hn3⟩ := hstn
  generalize powerFail (freshCycle s) = v at *
  obtain ⟨ht1, ht2, ht3, ht4, ht5⟩ : ({ settle v with pending := s.pending } : State).pwr = v.pwr ∧ ({ settle v with pending := s.pending } : State).img = v.img ∧
    ({ settle v with pending := s.pending } : State).stn = v.stn ∧ ({ settle v with pending := s.pending } : State).pair = v.pair ∧
    ({ settle v with pending := s.pending } : State).fld = v.fld := ⟨settle_pwr v, settle_img v, settle_stn v, settle_pair v, settle_fld v⟩
  unfold SameClock Drives
  rw [ht1, ht2, ht3, ht4, ht5]
  refine ⟨h1, h2, h3, h4, h5, fun q => (hr q.nowRaised).ends _, hrec, hi1, hi2, hi3, hi4, hn1, hn2, hn3, fun h => ?_, hoth⟩
  obtain ⟨a1, a2, a3, a4⟩ := hact h
  exact ⟨a1, a2, a3, fun q => (a4 q.nowRaised).ends _⟩

/-! ### The flush done, and the recovery (R387, R388) -/

theorem exec_powerFailFlushDone (s : State) : exec .powerFailFlushDone s = guarded s (alive s && s.pwr.pf && !s.pwr.pfDone) powerFailFlushed := rfl

/-- LOG as the reset of a power fail leaves it: every record flushed, the time word marked. -/
def failFlushed (u : State) : State := modLog (flushNow (logPass (logPass (resetEntries u))) .powerFail) (fun g => writeTime g true)

theorem powerFailFlushed_eq (u : State) : powerFailFlushed u = resetWith (failFlushed u) 7 true := rfl

theorem survives_failFlushed (u : State) : Survives u (failFlushed u) :=
  ((((survives_resetEntries u).trans (survives_logPass _)).trans (survives_logPass _)).trans (survives_flushNow _ _)).trans
    (.of_works ((Works.refl [] _).modLog _) rfl rfl)

theorem resetWith_log (u : State) (cause : BitVec 4) (done : Bool) : (resetWith u cause done).log = u.log := by
  obtain ⟨al, sl, le, re, he⟩ := slewToOwn_fields (resetState u cause)
  unfold resetWith
  rw [resetNow_def, he]
  rfl

theorem powerFailFlushDone_resets {s : State} (hp : s.pwr.power = .run) (hpf : s.pwr.pf = true) (hd : s.pwr.pfDone = false) :
    ∃ t, exec .powerFailFlushDone s = .next t ∧ InWarmReset s t 7 ∧ t.pwr.pf = true ∧ t.pwr.pfDone = true ∧ t.log.twClean = true ∧
      t.log.twPcyc = s.log.pcyc ∧ t.log.twOpms = s.log.opms := by
  have hg : (alive s && s.pwr.pf && !s.pwr.pfDone) = true := by
    unfold alive
    rw [hp, hpf, hd]
    decide
  have hs := (survives_freshCycle s).trans (survives_failFlushed _)
  have hw : (failFlushed (freshCycle s)).log.twPcyc = (failFlushed (freshCycle s)).log.pcyc ∧
      (failFlushed (freshCycle s)).log.twOpms = (failFlushed (freshCycle s)).log.opms ∧ (failFlushed (freshCycle s)).log.twClean = true := ⟨rfl, rfl, rfl⟩
  have hx := (exec_powerFailFlushDone s).trans (guarded_true hg powerFailFlushed)
  rw [powerFailFlushed_eq] at hx
  generalize failFlushed (freshCycle s) = u at hs hw hx
  obtain ⟨hin, hfrom, hdone⟩ := hs.inWarmReset 7 true (c := 7) rfl
  obtain ⟨h1, h2, h3⟩ := (takes_settle (resetWith u 7 true)).timeWord
  rw [resetWith_log, hw.1, hw.2.1, hw.2.2] at *
  exact ⟨_, hx, hin, hfrom.pf.trans hpf, hdone, h3, h1.trans hs.pcyc, h2.trans hs.opms⟩

theorem exec_powerFailRecovery (s : State) : exec .powerFailRecovery s =
    guarded s (s.pwr.power == .warm && s.pwr.pf && s.pwr.pfDone && s.stn.refOk && s.stn.pllLock &&
      (s.pwr.aV.toNat ≥ 1700 || s.pwr.bV.toNat ≥ 1700)) warmEnd := rfl

end Sys2Proof.Machine
end

section
/-! O56: the power-on reset ends: the main domain starts, LOG scans MRAM and makes the record of the power cycle (R379, R384). -/

namespace Sys2Proof.Machine
open Sys2Proof

/-! ### Raises that nothing routes -/

/-- A raise that no route takes changes EVR alone. -/
theorem raise_of_unrouted {s : State} (h : s.evr.routes = Vector.replicate 512 0) (n : Nat) : raise s n = { s with evr := (raise s n).evr } := by
  have hw : (if s.pwr.quiet.getLsbD 10 = true then 0 else vget s.evr.routes n 0) = 0 := by
    rw [h]
    unfold vget
    split
    · rfl
    · split <;> simp
  unfold raise
  split
  · rfl
  · dsimp only
    rw [hw]
    rfl

/-! ### What a start-up of LOG leaves alone (R379) -/

/-- From `s` to `t` LOG scans what MRAM holds: LOG's clock and time word stand, and EVR and LOG alone change. -/
structure Scans (s t : State) : Prop where
  rest : t = { s with evr := t.evr, log := t.log }
  routes : t.evr.routes = s.evr.routes
  pcyc : t.log.pcyc = s.log.pcyc
  opms : t.log.opms = s.log.opms
  unclean : t.log.unclean = s.log.unclean
  twClean : t.log.twClean = s.log.twClean

theorem Scans.refl (s : State) : Scans s s := ⟨rfl, rfl, rfl, rfl, rfl, rfl⟩

theorem Scans.trans {s t u : State} (h : Scans s t) (k : Scans t u) : Scans s u where
  rest := k.rest.trans (by rw [h.rest])
  routes := k.routes.trans h.routes
  pcyc := k.pcyc.trans h.pcyc
  opms := k.opms.trans h.opms
  unclean := k.unclean.trans h.unclean
  twClean := k.twClean.trans h.twClean

theorem Scans.ite {s t u : State} {c : Prop} [Decidable c] (h : Scans s t) (k : Scans s u) : Scans s (if c then t else u) := by
  split
  · exact h
  · exact k

theorem scans_logItem (s : State) (ledger own : Bool) (code source sev : Nat) (payload : List Byte) :
    Scans s (logItem s ledger own code source sev payload) := ⟨rfl, rfl, rfl, rfl, rfl, rfl⟩

theorem scans_raise {s : State} (h : s.evr.routes = Vector.replicate 512 0) (n : Nat) : Scans s (raise s n) := by
  have hl : (raise s n).log = s.log := by rw [raise_of_unrouted h]
  have he : raise s n = { s with evr := (raise s n).evr, log := (raise s n).log } := by
    rw [hl]
    exact raise_of_unrouted h n
  exact ⟨he, raise_routes s n, by rw [hl], by rw [hl], by rw [hl], by rw [hl]⟩

section
variable {s : State} (h : s.evr.routes = Vector.replicate 512 0)
include h

theorem scans_tornRec (slot area : Nat) (restored : Bool) : Scans s (tornRec s slot area restored) :=
  have hi : Scans s (logItem (modLog s (fun g => { g with torn := satInc g.torn })) true true 0x5803 noSrc sevNotice
    (leN 4 slot ++ [BitVec.ofNat 8 area, BitVec.ofNat 8 (b2n restored)])) := ⟨rfl, rfl, rfl, rfl, rfl, rfl⟩
  hi.trans (scans_raise (hi.routes.trans h) 489)

/-- A slot is mended or given up, and reported. -/
theorem scans_slot {f : LogBlk → LogBlk} (hf : Scans s (modLog s f)) (slot area : Nat) (restored : Bool) :
    Scans s (tornRec (modLog s f) slot area restored) := hf.trans (scans_tornRec (hf.routes.trans h) slot area restored)

theorem scans_scanTorn : Scans s (scanTorn s) := by
  unfold scanTorn
  split
  · exact .refl s
  · dsimp only
    split
    · exact scans_slot h (f := fun g => { g with circ := adel g.circ _ }) ⟨rfl, rfl, rfl, rfl, rfl, rfl⟩ _ 0 false
    · exact .refl s

theorem scans_foldl {α : Type} {f : State → α → State} (hf : ∀ u x, u.evr.routes = Vector.replicate 512 0 → Scans u (f u x)) (l : List α) :
    Scans s (l.foldl f s) :=
  List.foldlRecOn (motive := Scans s) l f (.refl s) fun u hu x _ => hu.trans (hf u x (hu.routes.trans h))

theorem scans_scanPerm : Scans s (scanPerm s) := by
  unfold scanPerm
  refine scans_foldl h (fun u x hu => ?_) _
  split
  · exact .refl u
  · split
    · refine .ite ?_ ?_
      · exact scans_slot hu (f := fun g => { g with perm := aset g.perm x.1 (.good _) }) ⟨rfl, rfl, rfl, rfl, rfl, rfl⟩ _ 1 true
      · exact scans_slot hu (f := fun g => { g with perm := adel g.perm x.1 }) ⟨rfl, rfl, rfl, rfl, rfl, rfl⟩ _ 1 false
    · exact scans_slot hu (f := fun g => { g with perm := adel g.perm x.1 }) ⟨rfl, rfl, rfl, rfl, rfl, rfl⟩ _ 1 false

theorem scans_scanCorrupt : Scans s (scanCorrupt s) := by
  unfold scanCorrupt
  dsimp only
  generalize List.map _ (List.filter _ s.log.circ) = bad
  have h1 : Scans s (modLog s (fun g => { g with corrupt := satAdd g.corrupt bad.length })) := ⟨rfl, rfl, rfl, rfl, rfl, rfl⟩
  have h2 := h1.trans (scans_foldl (h1.routes.trans h) (fun u i _ => scans_logItem u true true 0x5804 noSrc sevNotice (leN 4 i ++ [0])) (bad.take 16))
  exact .ite h2 (h2.trans (scans_raise (h2.routes.trans h) (ledSrc 2)))

end

/-- An interrupted clear's completion writes the circulating area alone. -/
theorem finishClear_eq (s : State) : ∃ c, finishClear s = modLog s (fun g => { g with circ := c }) := by
  unfold finishClear
  split
  · exact ⟨s.log.circ, rfl⟩
  next r _ =>
    have hc (c : Prop) [Decidable c] (l : List (Nat × Slot)) : ∃ k, eraseBefore (if c then s.log else { s.log with circ := l }) r.seq =
        { s.log with circ := k } := by
      split <;> exact ⟨_, rfl⟩
    obtain ⟨k, hk⟩ := hc (((goodRecs s.log.circ).any fun x => x.seq == r.seq) = true) (aset s.log.circ (r.seq.toNat % 65536) (.good r))
    exact ⟨k, congrArg (fun g => ({ s with log := g } : State)) hk⟩

theorem scans_finishClear (s : State) : Scans s (finishClear s) := by
  obtain ⟨c, h⟩ := finishClear_eq s
  rw [h]
  exact ⟨rfl, rfl, rfl, rfl, rfl, rfl⟩

/-- Everything that a start-up of LOG scans. -/
def scanned (s : State) : State := finishClear (scanCorrupt (scanPerm (scanTorn s)))

theorem scans_scanned {s : State} (h : s.evr.routes = Vector.replicate 512 0) : Scans s (scanned s) := by
  have h1 := scans_scanTorn h
  have h2 := h1.trans (scans_scanPerm (h1.routes.trans h))
  exact (h2.trans (scans_scanCorrupt (h2.routes.trans h))).trans (scans_finishClear _)

/-! ### A scan that finds nothing wrong -/

theorem aget_good {l : List (Nat × Slot)} (h : ∀ x ∈ l, ∃ r, x.2 = .good r) (i : Nat) (w : Nat) : aget l i ≠ some (.bad w) := by
  induction l with
  | nil => exact nofun
  | cons x l ih =>
    obtain ⟨k, v⟩ := x
    unfold aget
    split
    · obtain ⟨r, hr⟩ := h (k, v) List.mem_cons_self
      have hv : v = .good r := hr
      rw [hv]
      exact nofun
    · exact ih fun y hy => h y (List.mem_cons_of_mem _ hy)

section
variable {s : State} (h : SlotsGood s)
include h

theorem scanTorn_good : scanTorn s = s := by
  unfold scanTorn
  split
  · rfl
  · dsimp only
    split
    next w hw => exact absurd hw (aget_good (fun x hx => h x (List.mem_append_left _ hx)) _ w)
    · rfl

theorem scanPerm_good : scanPerm s = s := by
  unfold scanPerm
  refine List.foldlRecOn (motive := fun u => u = s) s.log.perm _ rfl fun u hu x hx => ?_
  obtain ⟨r, hr⟩ := h x (List.mem_append_right _ hx)
  rw [hr]
  exact hu

theorem scanCorrupt_good : scanCorrupt s = modLog s (fun g => { g with corrupt := satAdd g.corrupt 0 }) := by
  have hb (p : Nat × Slot → Bool) (hp : ∀ k r, p (k, .good r) = false) : s.log.circ.filter p = [] := by
    refine List.filter_eq_nil_iff.2 fun x hx => ?_
    obtain ⟨r, hr⟩ := h x (List.mem_append_left _ hx)
    obtain ⟨k, v⟩ := x
    have hv : v = .good r := hr
    rw [hv, hp]
    exact nofun
  unfold scanCorrupt
  rw [hb]
  · rfl
  · exact fun _ _ => rfl

/-- Good slots leave LOG's start-up nothing to report. -/
theorem scanned_good : (scanned s).log.fresh = s.log.fresh ∧ (scanned s).log.buf = s.log.buf ∧ (scanned s).log.intake = s.log.intake := by
  obtain ⟨c, hc⟩ := finishClear_eq (scanCorrupt s)
  unfold scanned
  rw [scanTorn_good h, scanPerm_good h, hc, scanCorrupt_good h]
  exact ⟨rfl, rfl, rfl⟩

end

/-! ### The power cycle's record (R379, R380) -/

/-- LOG once its start-up has counted the power cycle. -/
def LogBlk.started (g : LogBlk) : LogBlk :=
  writeTime { g with
    pcyc := g.twPcyc + 1, opms := g.twOpms, unclean := !g.twClean
    lgNext := match newestSeq (goodRecs g.circ ++ goodRecs g.perm ++ g.hist) with | some q => q + 1 | none => 0 } false

/-- The unclean end of the last power cycle is raised. -/
def uncleanRaised (s : State) (unclean : Bool) : State := if unclean then raise s 495 else s

theorem logStart_eq (s : State) (cause prof : Nat) : ∃ payload, logStart s false cause prof 0 =
    logItem (uncleanRaised (scanned (modLog s LogBlk.started)) (!s.log.twClean)) true true 0x5800 noSrc sevNotice payload := ⟨_, rfl⟩

theorem scans_uncleanRaised {s : State} (h : s.evr.routes = Vector.replicate 512 0) (b : Bool) : Scans s (uncleanRaised s b) :=
  .ite (scans_raise h 495) (.refl s)

theorem uncleanRaised_log {s : State} (h : s.evr.routes = Vector.replicate 512 0) (b : Bool) : (uncleanRaised s b).log = s.log := by
  cases b with
  | true =>
    show (raise s 495).log = _
    rw [raise_of_unrouted h]
  | false => rfl

/-- LOG starts up: it counts the power cycle, and where no slot is bad the cycle's record is all it has to make. -/
theorem logStart_spec {s : State} (h : s.evr.routes = Vector.replicate 512 0) (hf : s.log.fresh = []) (hb : s.log.buf = []) (cause prof : Nat) :
    let t := logStart s false cause prof 0
    t = { s with evr := t.evr, log := t.log } ∧ t.evr.routes = Vector.replicate 512 0 ∧ t.log.pcyc = s.log.twPcyc + 1 ∧ t.log.opms = s.log.twOpms ∧
      t.log.unclean = !s.log.twClean ∧ t.log.twClean = false ∧
      (SlotsGood s → t.log.buf = [] ∧ ∃ it, t.log.fresh = [it] ∧ it.ledger = true ∧ it.code = 0x5800) := by
  intro t
  obtain ⟨payload, ht⟩ : ∃ payload, t = _ := logStart_eq s cause prof
  have h0 : (modLog s LogBlk.started).evr.routes = Vector.replicate 512 0 := h
  have h1 := scans_scanned h0
  have h2 := scans_uncleanRaised (h1.routes.trans h0) (!s.log.twClean)
  have hl := uncleanRaised_log (h1.routes.trans h0) (!s.log.twClean)
  have hgood (hs : SlotsGood s) := scanned_good (s := modLog s LogBlk.started) hs
  generalize uncleanRaised (scanned (modLog s LogBlk.started)) (!s.log.twClean) = v at *
  have h3 := (h1.trans h2).trans (scans_logItem v true true 0x5800 noSrc sevNotice payload)
  rw [← ht] at h3
  refine ⟨h3.rest, h3.routes.trans h0, h3.pcyc, h3.opms, h3.unclean, h3.twClean, fun hs => ?_⟩
  obtain ⟨hgf, hgb, -⟩ := hgood hs
  rw [← hl] at hgf hgb
  rw [ht]
  refine ⟨hgb.trans hb, itemOf v true true 0x5800 noSrc sevNotice payload, ?_, rfl, rfl⟩
  show v.log.fresh ++ [itemOf v true true 0x5800 noSrc sevNotice payload] = _
  rw [show v.log.fresh = [] from hgf.trans hf]
  rfl

theorem settle_of_item {s : State} {it : LogItem} (hf : s.log.fresh = [it]) (hb : s.log.buf = []) (hl : it.ledger = true) :
    (settle s).log.buf = [(ledgerRec { s.log with fresh := [] } (lgStandby s) it false it.payload, it.own)] := by
  have hroom : ({ s.log with fresh := [] } : LogBlk).buf.length < 256 := by
    show s.log.buf.length < 256
    rw [hb]
    decide
  obtain ⟨hd, -⟩ := logPut_of_room hroom (lgStandby s) 4 it
  have hx := logPut_ledger_buf hroom hl (lgStandby s) 4
  have hpass : logPass s = { s with log := (logStep (lgStandby s) ({ s.log with fresh := [] }, 4, false) it).1 } := by
    rw [logPass_def]
    dsimp only
    rw [hf, List.mergeSort_singleton, List.foldl_cons, List.foldl_nil]
    refine if_neg ?_
    show ¬ (false || (logPut { s.log with fresh := [] } (lgStandby s) 4 it).2.2) = true
    rw [hd]
    decide
  have hfresh : (logPass s).log.fresh = [] := by
    rw [hpass]
    exact foldl_logStep_fresh (lgStandby s) [it] ({ s.log with fresh := [] }, 4, false)
  unfold settle
  rw [logPass_of_fresh hfresh, logPass_of_fresh hfresh]
  obtain ⟨v, x, he, -, -⟩ := deliverRaises_eq (logPass s)
  rw [he, hpass]
  show (logPut { s.log with fresh := [] } (lgStandby s) 4 it).1.buf = _
  rw [hx]
  show s.log.buf ++ _ = _
  rw [hb]
  rfl

/-! ### The main domain starts (R226, R384, R400) -/

/-- A field side as a start leaves it. -/
def Bank.Starts (k : Bank) : Prop := k.fsOk = true ∧ k.open_ = false ∧ k.drive = false

theorem modPtsOf_eq (s : State) (b : Fin 8) (f : Pt → Pt) : ∃ p, modPtsOf s b f = { s with fld := { s.fld with pts := p } } := by
  unfold modPtsOf
  generalize pointsOf b = l
  induction l generalizing s with
  | nil => exact ⟨s.fld.pts, rfl⟩
  | cons n l ih => 
    obtain ⟨p, hp⟩ := ih (modPt s n f)
    exact ⟨p, hp⟩

/-- The field side of bank `b` starts with its supply as measured. -/
def sideStarts (x : PowerIn) (s : State) (b : Fin 8) : State :=
  modBank (fieldSideStart s b true) b (fun k => { k with lp := firstClass 12000 16000 x.lp[b], volt := satNat 16 (x.lp[b] / 10) })

theorem sideStarts_eq (x : PowerIn) (s : State) (b : Fin 8) : ∃ k, sideStarts x s b = { s with fld := k } ∧ k.banks[b].Starts ∧
    ∀ j : Fin 8, s.fld.banks[j].Starts → k.banks[j].Starts := by
  obtain ⟨p, hp⟩ := modPtsOf_eq s b (fun p => { (p.deEnergised).restartInput s.stn.time true with late := 0 })
  unfold sideStarts fieldSideStart
  dsimp only
  rw [hp]
  refine ⟨_, rfl, ?_⟩
  dsimp only [Machine.modBank]
  rw [vmod_vmod]
  refine ⟨?_, fun j hj => ?_⟩
  · rw [vmod_get_self]
    exact ⟨rfl, rfl, rfl⟩
  · by_cases h : b = j
    · subst h
      rw [vmod_get_self]
      exact ⟨rfl, rfl, rfl⟩
    · rw [vmod_get_ne _ h]
      exact hj

theorem foldl_sideStarts (x : PowerIn) (l : List (Fin 8)) (s : State) : ∃ k, l.foldl (sideStarts x) s = { s with fld := k } ∧
    ∀ j : Fin 8, (j ∈ l ∨ s.fld.banks[j].Starts) → k.banks[j].Starts := by
  induction l generalizing s with
  | nil => exact ⟨s.fld, rfl, fun j h => h.resolve_left List.not_mem_nil⟩
  | cons b l ih =>
    obtain ⟨k1, h1, hb, hk⟩ := sideStarts_eq x s b
    obtain ⟨k2, h2, hj⟩ := ih (sideStarts x s b)
    rw [h1] at h2 hj
    refine ⟨k2, by rw [List.foldl_cons, h1]; exact h2, fun j h => ?_⟩
    obtain h | h := h
    · obtain rfl | h := List.mem_cons.1 h
      · exact hj _ (.inr hb)
      · exact hj j (.inl h)
    · exact hj j (.inr (hk j h))

/-- STN with what its connectors show. -/
def Stn.shown (n : Stn) (x : PowerIn) : Stn :=
  { n with refOk := true, pllLock := true, holdPermit := x.permit, wakePins := x.wake, stackRoot := x.stackRoot, pairIdPin := x.pairId }

/-- PWR with the feeds as measured. -/
def PwrBlk.shown (p : PwrBlk) (x : PowerIn) : PwrBlk :=
  { p with
    power := .run, feedA := firstClass 16000 18000 x.feedA, feedB := firstClass 16000 18000 x.feedB
    aV := satNat 16 (x.feedA / 10), bV := satNat 16 (x.feedB / 10) }

theorem mainStart_eq (s : State) (x : PowerIn) : ∃ k, mainStart s x = { s with
      stn := s.stn.shown x, pwr := s.pwr.shown x, img := { s.img with pinProf := x.prof }, fld := k
      saf := { s.saf with lp := firstClass 12000 16000 x.sl } } ∧ ∀ b : Fin 8, k.banks[b].Starts := by
  obtain ⟨k, hk, hb⟩ := foldl_sideStarts x (allFin 8)
    { s with stn := s.stn.shown x, pwr := s.pwr.shown x, img := { s.img with pinProf := x.prof } }
  refine ⟨k, ?_, fun b => hb b (.inl (mem_allFin b))⟩
  exact congrArg (fun u : State => { u with saf := { u.saf with lp := firstClass 12000 16000 x.sl } }) hk

/-! ### Power on -/

theorem exec_powerOn (s : State) (x : PowerIn) : exec (.powerOn x) s =
    guarded s ((s.pwr.power == .held || s.pwr.power == .off) && (x.feedA ≥ 17000 || x.feedB ≥ 17000)) (fun s => powerOn s x) := rfl

theorem powerOn_def (s : State) (x : PowerIn) : ∃ prof, powerOn s x = logStart (mainStart (unpowered s .run) x) false 0 prof 0 := ⟨_, rfl⟩

/-- The station with everything volatile at reset, its main domain started. -/
def poweredOn (s : State) (x : PowerIn) (k : FldBlk) (v : Evr) (g : LogBlk) : State :=
  { unpowered s .run with
    stn := (unpowered s .run).stn.shown x, pwr := (unpowered s .run).pwr.shown x, img := { (unpowered s .run).img with pinProf := x.prof }, fld := k
    saf := { (unpowered s .run).saf with lp := firstClass 12000 16000 x.sl }, evr := v, log := g }

theorem powerOn_eq (s : State) (x : PowerIn) : ∃ k v g, powerOn s x = poweredOn s x k v g ∧
    (∀ b : Fin 8, k.banks[b].Starts) ∧ v.routes = Vector.replicate 512 0 ∧ g.pcyc = s.log.twPcyc + 1 ∧ g.opms = s.log.twOpms ∧
    g.unclean = (!s.log.twClean) ∧ g.twClean = false ∧
    (SlotsGood s → g.buf = [] ∧ ∃ it, g.fresh = [it] ∧ it.ledger = true ∧ it.code = 0x5800) := by
  obtain ⟨prof, hp⟩ := powerOn_def s x
  obtain ⟨k, hk, hb⟩ := mainStart_eq (unpowered s .run) x
  have hv : (mainStart (unpowered s .run) x).evr.routes = Vector.replicate 512 0 := by rw [hk]; rfl
  have hl : (mainStart (unpowered s .run) x).log = s.log.powerOff := by rw [hk]; rfl
  generalize mainStart (unpowered s .run) x = m at *
  obtain ⟨h0, h1, h2, h3, h4, h5, h6⟩ := logStart_spec (s := m) hv (by rw [hl]; rfl) (by rw [hl]; rfl) 0 prof
  rw [← hp] at h0 h1 h2 h3 h4 h5 h6
  unfold SlotsGood at h6
  rw [hl] at h2 h3 h4 h6
  generalize powerOn s x = t at *
  refine ⟨k, t.evr, t.log, ?_, hb, h1, h2, h3, h4, h5, h6⟩
  rw [hk] at h0
  exact h0

theorem poweredOn_emptied {s u : State} (hn : u.net = s.net) (hi : u.img = s.img) (hst : u.stn = s.stn) (x : PowerIn) (k : FldBlk) (v : Evr) (g : LogBlk)
    (l : List Sent) : let t : State := { poweredOn u x k v g with sent := l, pending := s.pending }
    Emptied s t ∧ t.can = .reset ∧ t.stn.time = 0 ∧ t.stn.cnt = Vector.replicate 5 0 ∧ t.stn.stopCause = 1 ∧ t.stn.faultStop = false ∧
      t.stn.refOk = true ∧ t.stn.pllLock = true ∧ t.stn.holdPermit = x.permit ∧ t.stn.wakePins = x.wake ∧
      t.stn.stackRoot = x.stackRoot ∧ t.stn.pairIdPin = x.pairId ∧ t.stn.halves = s.stn.halves ∧ t.stn.dirs = s.stn.dirs ∧
      t.img.pinProf = x.prof := by
  intro t
  have hnet : t.net = NetBlk.reset s.net.keys := by rw [← hn]; rfl
  have himg : t.img = { s.img.afterReset with pinProf := x.prof, writeLost := 0 } := by rw [← hi]; rfl
  have hh : t.stn.halves = s.stn.halves ∧ t.stn.dirs = s.stn.dirs := by rw [← hst]; exact ⟨rfl, rfl⟩
  obtain ⟨h1, h2, h3, h4, h5, h6⟩ : t.img.running = none ∧ t.img.banks = s.img.banks ∧
      t.img.commits = s.img.commits ∧ t.img.imgKeys = s.img.imgKeys ∧ t.img.safKeys = s.img.safKeys ∧ t.img.pinProf = x.prof := by
    rw [himg]
    exact ⟨rfl, rfl, rfl, rfl, rfl, rfl⟩
  exact ⟨⟨rfl, rfl, rfl, rfl, rfl, rfl, rfl, rfl, rfl, rfl, rfl, rfl, rfl, hnet, h1, h2, h3, h4, h5, rfl, rfl, rfl, rfl⟩, rfl, rfl, rfl, rfl, rfl, rfl, rfl,
    rfl, rfl, rfl, rfl, hh.1, hh.2, h6⟩

theorem slotsGood_freshCycle {s : State} (h : SlotsGood s) : SlotsGood (freshCycle s) := by
  have hk := takes_freshCycle s
  unfold SlotsGood
  rw [hk.circ, hk.perm]
  exact h

theorem powerOn_runs {s : State} {x : PowerIn} (hp : s.pwr.power = .held ∨ s.pwr.power = .off) (hx : 17000 ≤ x.feedA ∨ 17000 ≤ x.feedB) :
    ∃ t, exec (.powerOn x) s = .next t ∧ Emptied s t ∧
      t.pwr = { PwrBlk.reset with
        power := .run, feedA := firstClass 16000 18000 x.feedA, feedB := firstClass 16000 18000 x.feedB
        aV := satNat 16 (x.feedA / 10), bV := satNat 16 (x.feedB / 10) } ∧
      t.can = .reset ∧ t.stn.time = 0 ∧ t.stn.cnt = Vector.replicate 5 0 ∧ t.stn.stopCause = 1 ∧ t.stn.faultStop = false ∧
      t.stn.refOk = true ∧ t.stn.pllLock = true ∧ t.stn.holdPermit = x.permit ∧ t.stn.wakePins = x.wake ∧
      t.stn.stackRoot = x.stackRoot ∧ t.stn.pairIdPin = x.pairId ∧ t.stn.halves = s.stn.halves ∧ t.stn.dirs = s.stn.dirs ∧
      t.img.pinProf = x.prof ∧ Drives t false ∧ (∀ b : Fin 8, t.fld.banks[b].fsOk = true ∧ t.fld.banks[b].open_ = false) ∧
      t.log.pcyc = s.log.twPcyc + 1 ∧ t.log.opms = s.log.twOpms ∧ t.log.unclean = (!s.log.twClean) ∧ t.log.twClean = false ∧
      (SlotsGood s → ∃ r ∈ t.log.buf, r.1.code.toNat = 0x5800 ∧ r.1.unclean = !s.log.twClean) := by
  have hg : ((s.pwr.power == .held || s.pwr.power == .off) && (decide (x.feedA ≥ 17000) || decide (x.feedB ≥ 17000))) = true := by
    rw [Bool.and_eq_true, Bool.or_eq_true, Bool.or_eq_true, beq_iff_eq, beq_iff_eq, decide_eq_true_eq, decide_eq_true_eq]
    exact ⟨hp, hx⟩
  obtain ⟨k, v, g, he, hb, hr, h1, h2, h3, h4, h5⟩ := powerOn_eq (freshCycle s) x
  have hslots := slotsGood_freshCycle (s := s)
  have hfc := takes_freshCycle s
  obtain ⟨htp, hto, htc⟩ := hfc.timeWord
  rw [htp] at h1
  rw [hto] at h2
  rw [htc] at h3
  have hx2 := (exec_powerOn s x).trans (guarded_true hg _)
  obtain ⟨v2, g2, x2, hs⟩ := settle_of_unrouted (s := powerOn (freshCycle s) x) (by rw [he]; exact hr)
  have hemp := poweredOn_emptied (freshCycle_net s) (freshCycle_img s) (freshCycle_stn s) x k v2 g2 x2
  have hk := takes_settle (powerOn (freshCycle s) x)
  have hrec (it : LogItem) := settle_of_item (s := powerOn (freshCycle s) x) (it := it)
  rw [hs] at hk hrec hx2
  rw [he] at hk hrec hx2
  generalize freshCycle s = u at *
  obtain ⟨hkp, hko⟩ := hk.clock
  obtain ⟨-, -, hkc⟩ := hk.timeWord
  have hku : g2.unclean = g.unclean := show g2.still.unclean = g.still.unclean from congrArg LogBlk.unclean hk.still
  have hdrive : Drives { poweredOn u x k v2 g2 with sent := x2, pending := s.pending } false := fun b _ => (hb b).2.2
  obtain ⟨hE, hcan, htime, hcnt, hcause, hfault, href, hlock, hhold, hpins, hroot, hid, hhalves, hdirs, hprof⟩ := hemp
  refine ⟨_, hx2, hE, rfl, hcan, htime, hcnt, hcause, hfault, href, hlock, hhold, hpins, hroot, hid, hhalves, hdirs, hprof, hdrive,
    fun b => ⟨(hb b).1, (hb b).2.1⟩, hkp.trans h1, hko.trans h2, hku.trans h3, hkc.trans h4, fun hg => ?_⟩
  obtain ⟨hbuf, it, hfr, hled, hcode⟩ := h5 (hslots hg)
  have hbuf2 := hrec it hfr hbuf hled
  refine ⟨_, (by rw [show g2.buf = _ from hbuf2]; exact List.mem_singleton_self _), ?_, h3⟩
  show it.code.toNat = _
  rw [hcode]
  rfl

end Sys2Proof.Machine

open Sys2Proof Sys2Proof.Machine

/-- Settles O56: without power the state is the reset state with MRAM and flash; the power-fail sequence is taken stage by stage, and what outlives its
reset is what `Survives` says. -/
theorem powerStates : Obligations.PowerStates := by
  intro s
  refine ⟨fun x => powerOn_runs, fun b mv hp => ?_, fun b mv hp => feedChange_sleep hp b mv, powerFail_does, powerFailFlushDone_resets,
    fun hw hpf hd hr hl hv => ?_, holdupEnd_empties⟩
  · intro old c v lost back ridden
    have h := feedChange_counts hp b mv (s := s) (lost := lost) (ridden := ridden) Iff.rfl Iff.rfl
    rw [← fed_counts] at h
    exact h
  · refine warmEnd_does (exec_powerFailRecovery s) ?_
    rw [hw, hpf, hd, hr, hl]
    simpa using hv
end
